-- ==== Sys2Proof/Word.lean ====
section
/-! DEFINITION. The word types of the AMN-4100 model and the signed-difference comparisons
of the scope chapter's pseudocode helpers (spec/00_scope.md; R31, R307). -/

namespace Sys2Proof

/-- One octet. -/
abbrev Byte := BitVec 8

/-- A TB0 stamp: a count of stamp ticks (R306). -/
abbrev Stamp := BitVec 64

/-- A cue number (R29). -/
abbrev CueNo := BitVec 32

/-- A 32-bit register word. -/
abbrev Word32 := BitVec 32

/-- A 64-bit word (R3). -/
abbrev Word64 := BitVec 64

/-- A sparse map: pairs of key and value. Canonical form: keys strictly rising and no value
equal to the map's default (`Machine.SMap.wf`). -/
abbrev SMap (α : Type) := List (Nat × α)

/-- Signed difference of two cue numbers (R31). -/
def sdiff32 (a b : CueNo) : Int := (a - b).toInt

/-- Signed difference of two stamps (R307). -/
def sdiff64 (a b : Stamp) : Int := (a - b).toInt

/-- `a` is later than `b` by signed difference (R31). -/
def later32 (a b : CueNo) : Bool := decide (0 < sdiff32 a b)

/-- `a` is later than `b` by signed difference (R307). -/
def later64 (a b : Stamp) : Bool := decide (0 < sdiff64 a b)

end Sys2Proof
end

