-- ==== Sys2Proof/Machine/Types.lean ====
section
/-! DEFINITION. The operand types of the commands: what arrives from outside with a command of
the table (a latched submission entry, a reception, a measurement, a frame, the outcome of a
test), each a plain record in the manual's own field order. -/

namespace Sys2Proof.Machine

/-- The access path of a register read or write (R398, R614). -/
inductive Path where
  | pcie
  | door
  deriving DecidableEq, Repr

/-- The two transmit chains (R166). -/
inductive Chain where
  | a
  | b
  deriving DecidableEq, Repr

/-- The three kinds of ring (R356). -/
inductive RingKind where
  | submission
  | completion
  | event
  deriving DecidableEq, Repr

/-- A latched submission entry (R359) with the data of R44: the operand of every host command. -/
structure Sub where
  ring    : Nat            -- submission ring q, 0 to 63
  flags   : BitVec 16      -- [0] RESUBMIT, [14:8] EPOCH, [15] FETCH_FAILED (R359)
  length  : Nat            -- bytes the device reads
  tag     : BitVec 64      -- host tag
  bufAddr : BitVec 64      -- host buffer address
  bufLen  : Nat            -- buffer length
  target  : CueNo          -- target cue (R55)
  params  : List Byte      -- the 32 parameter bytes, offsets 32 to 63
  data    : List Byte      -- buffer data placed in the book (R44)
  accept  : CueNo          -- cue of acceptance (R361)
  aside   : Bool           -- served aside (R381)
  seq     : Word32 := 0    -- per-source sequence of its entry (R40)
  partner : Bool := false  -- latched from a partner's record (R495)
  deriving DecidableEq, Repr

/-- One clipped-power measurement of a port over the previous cue (R78). -/
structure PortMeas where
  port  : Nat
  qual  : Bool             -- at least 10 % of the samples qualify (R78)
  p     : Int              -- P, 0.01 dBFS
  c     : Nat              -- C, clipped samples
  deriving DecidableEq, Repr

/-- Who reads a word of the Wings (R414). -/
inductive Reader where
  | engine (e : Nat)
  | queue (h : Nat)        -- the consumer of a hardware queue
  | chain (c : Chain)      -- a transmit chain, reading a frame before its launch
  | hostDma                -- writing into host memory
  | bar4
  | pairLink               -- the pair-link sender of the Prompt Book
  | scrubber               -- or migration
  deriving DecidableEq, Repr

/-- An error of a Wings word found on an access, with the result of the march test of its row
(R412, R413, R424). -/
structure EccFault where
  bank     : Nat
  row      : Nat
  word     : Nat
  bit      : Nat
  uncorr   : Bool
  portB    : Bool
  reader   : Reader        -- who read the word (R414)
  cells    : Nat           -- failing columns of the march test; 0 passes
  deriving DecidableEq, Repr

/-- Who has a write of port B discarded (R408). Data of a fetched submission entry are the FETCH_COMPLETE rows'. -/
inductive PortB where
  | queue (h : Nat) (tries : Nat)  -- the queue engine, with the retries that collided again
  | image                          -- host DMA with image data of IMAGE_STAGE: its update-end entry brings outcome 9
  | scrubber                       -- or migration: retried until it is performed
  deriving DecidableEq, Repr

/-- The part of a word on which an atomic operation works (R409). -/
inductive Part where
  | word
  | half (high : Bool)
  deriving DecidableEq, Repr

/-- What happens at the ports of the banks and in the hardware queues within a phase of a cue (R386 to R391, R406 to
R414), in order of time. -/
inductive BankOp where
  | error (f : EccFault)                                       -- a read finds an error (R411 to R414)
  | collision (bank : Nat) (who : PortB)                       -- port A has the word (R407, R408)
  | write (addr : Nat) (v : Word64)                            -- a full write of a word
  | atomicAdd (who : Reader) (addr : Nat) (p : Part) (v : Word64)
  | atomicSwap (who : Reader) (addr : Nat) (p : Part) (v : Word64)
  | bar4Read (off : Nat)                                       -- the host reads through BAR4 (R354)
  | queueWord (h : Nat) (v : Word64)                           -- the producer writes a body word at PP
  | queueCommit (h : Nat) (kind : BitVec 8)                    -- the producer ends its packet
  | queueRewind (h : Nat)                                      -- its packet failed
  | queueRead (h : Nat) (n : Nat)                              -- the consumer reads up to n words
  deriving DecidableEq, Repr

/-- The receive metadata of R155 with the extension of R158 and the PSDU, FCS or CRC included. -/
structure Reception where
  outcome   : Nat
  status    : Nat
  flags     : BitVec 16
  line      : Nat
  port      : Nat
  pers      : BitVec 8
  gain      : Nat
  arrival   : Stamp
  endStamp  : Stamp
  windowId  : Word32
  offset    : Int          -- s32, 1/16 Hz
  rssi      : Int          -- s16, 0.01 dBm
  snr       : Int          -- s16, 0.01 dB
  floor     : Int          -- s16, 0.01 dBm
  phyInfo   : BitVec 16
  displaced : Nat
  dispRssi  : Int
  ext       : List Nat     -- 104 SNR bytes when EXT is set (R158)
  psdu      : List Byte
  deriving DecidableEq, Repr

/-- What the demodulator measures as it declares a preamble (R145, R148, R149). -/
structure DetIn where
  pow       : Int          -- in-band power, 0.01 dB relative to the port's full scale
  noise     : Int          -- F over the last 1 ms before, in the same unit
  metric    : Int          -- preamble metric above the calibrated base, 0.01 dB
  count     : Nat          -- preamble heard, in the units of R145
  deriving DecidableEq, Repr

/-- A watch candidate (R150): what was measured, and the stamp. -/
structure WatchIn where
  found : DetIn
  stamp : Stamp
  deriving DecidableEq, Repr

/-- A sample block that failed its CRC (R14, R627): its port and the stamp of its first sample. -/
structure BlockFail where
  port  : Fin 4
  first : Stamp
  deriving DecidableEq, Repr

/-- The end of a vector's hold time (R395): the vector and the stamp. -/
structure HoldEnd where
  vector : Nat
  stamp  : Stamp
  deriving DecidableEq, Repr

/-- What the demodulator measures at sync (R118, R124, R149, R152, R153). -/
structure SyncIn where
  sig       : Int          -- S, 0.01 dB relative to the port's full scale
  rssi      : Int          -- in-band power over the sync field, in the same unit
  offset    : Int          -- carrier offset over the sync field, 1/16 Hz
  fec       : Bool         -- SUN FSK: the SFD is a coded one
  rsc       : Bool         -- SUN FSK: the code is RSC
  tag       : List Nat     -- FRC: the shifts of the two tag symbols
  deriving DecidableEq, Repr

/-- A header as it arrives (R118 to R120, R128, R136, R158). -/
structure HeaderIn where
  ok      : Bool           -- standard PHYs: the PHR is decoded
  phr     : List Bool      -- standard PHYs: its bits, first sent first
  shifts  : List Nat       -- FRC: the shifts of the ten header symbols
  hard    : List Bool      -- L-OFDM: hard decisions on the 104 data subcarriers of the header symbol
  sig     : List Int       -- L-OFDM: signal power by data subcarrier of the long training, 0.01 dB of full scale
  diff    : List Int       -- L-OFDM: the same of the difference of its two repetitions
  deriving DecidableEq, Repr

/-- The end of a reception's payload (R145). -/
structure CommitIn where
  offset  : Int                      -- carrier offset over sync field and payload
  octets  : List Byte                -- standard PHYs: PSDU octets, SUN FSK ones still whitened
  shifts  : List Nat                 -- FRC: the shifts of the payload symbols
  points  : List (List (Int × Int))  -- L-OFDM: by symbol and data subcarrier, I and Q in units of R139
  deriving DecidableEq, Repr

/-- A listening-window entry (R102). -/
structure Window where
  start    : Stamp
  endStamp : Stamp
  nco      : Word32
  port     : Nat
  bw       : Nat
  pers     : BitVec 8
  id       : Word32
  deriving DecidableEq, Repr

/-- A transmit request of R167, with its frame bits (the bytes at the frame address). -/
structure TxReq where
  chain   : Chain
  start   : Stamp          -- S
  carrier : BitVec 64      -- W
  offset  : Int            -- ρ, s32, units of 2^-40
  power   : Int            -- s16, 0.25 dBm
  pers    : BitVec 8
  tag     : Nat            -- channel tag
  phy     : Word32
  length  : Nat            -- PSDU bytes without FCS
  ramps   : BitVec 8
  flags   : BitVec 8       -- [0] COEX_PRI, [1] OVERTURE
  frameAddr : Word32
  seq     : Word32         -- transmit sequence
  origin  : Word32
  frame   : List Byte
  item    : Nat := 0       -- MODEL'S OWN: key of the engine's table of what the request is for
  deriving DecidableEq, Repr

/-- A subcarrier's value: I and Q, in units of 1 for kind 1, else of 1/√(2(4^k - 1)/3) with k half of the
kind (R139). A kind is the subcarrier's b. -/
structure Point where
  b : Nat
  i : Int
  q : Int
  deriving DecidableEq, Repr

/-- What a chain puts on the air (R182, R203): nothing; the bits of a standard PHY before the standard's
coding and mapping; chirps, true a down-chirp; an L-OFDM frame: its training values, then the header symbol
and the payload symbols with their pilots; the half-bits of an Overture, true for carrier on. -/
inductive Air where
  | none
  | bits (l : List Bool)
  | chirps (sf b : Nat) (l : List (Bool × Nat))
  | lofdm (short long : List Int) (syms : List (List Point × List Int))
  | keyed (l : List Bool)
  deriving DecidableEq, Repr

/-- The body of a transmit-end entry (R169). -/
structure TxEnd where
  chain    : Chain
  seq      : Word32
  result   : Nat           -- R170
  flags    : BitVec 8
  measured : Int           -- s16, 0.25 dBm; -32768 when none
  curtain  : Stamp
  endStamp : Stamp
  origin   : Word32
  deriving DecidableEq, Repr

/-- The body of a pin-capture entry (R39 class 4, R318). -/
structure PinCap where
  pin    : Nat
  stamp  : Stamp
  rising : Bool
  pins   : BitVec 8
  lost   : Nat
  deriving DecidableEq, Repr

/-- The 16-byte body of an update-end entry (R537). -/
structure UpdEnd where
  ring    : Nat
  opcode  : Nat
  outcome : Nat
  step    : Nat
  bytes   : Nat
  tag     : BitVec 64
  deriving DecidableEq, Repr

/-- Kinds of PTP message the device receives (R331). -/
inductive PtpKind where
  | sync
  | followUp
  | delayResp
  | pdelayReq
  | pdelayResp
  | pdelayRespFollowUp
  | announce
  deriving DecidableEq, Repr

/-- A received PTP message (R331, R333): its receive stamp on TB0 (ingress latency not yet
removed), and the fields the Stage Manager uses. -/
structure Ptp where
  domain   : Nat
  seqId    : Nat
  source   : BitVec 64     -- clockIdentity of the sender
  stamp    : Stamp         -- class 8 receive stamp
  seconds  : Nat           -- timestamp field: seconds
  nanos    : Nat           -- timestamp field: nanoseconds
  corr     : Int           -- correctionField, 2^-16 ns
  twoStep  : Bool
  logIntv  : Int           -- logMessageInterval
  -- Announce data (default BMCA)
  prio1    : Nat
  clkClass : Nat
  accuracy : Nat
  variance : Nat
  prio2    : Nat
  grand    : BitVec 64     -- grandmasterIdentity
  steps    : Nat           -- stepsRemoved
  utc      : Int           -- currentUtcOffset
  utcValid : Bool
  leap61   : Bool
  leap59   : Bool
  -- Delay_Resp and Pdelay_Resp: t4 or the second stamp of the exchange comes with `seconds`/`nanos`
  req      : BitVec 64 := 0  -- clockIdentity of the requester that they answer
  deriving DecidableEq, Repr

/-- A pair HELLO (R476). -/
structure Hello where
  session  : BitVec 64
  root     : Word32
  fwId     : Word32
  router   : Nat
  role     : Nat           -- UND_STATUS.ROLE of the sender
  counter  : Word32        -- frame counter of the pair header
  mic      : List Byte     -- the MIC as received (R475)
  deriving DecidableEq, Repr

/-- The header of any other pair frame (R474, R475): session and counter; and the frame's MIC as received. -/
structure PairHdr where
  session : BitVec 64
  counter : Word32
  mic     : List Byte
  deriving DecidableEq, Repr

/-- The 32-byte digest record (R58). -/
structure Digest where
  cue   : CueNo
  flags : Word32
  state : Word64
  out   : Word64
  book  : Word64
  deriving DecidableEq, Repr

/-- A Call Board record (R509). -/
structure Rec where
  code  : Nat
  src   : Nat
  flags : Nat              -- [0] LOCAL [1] STEP [2] SNAP [3] CONT (R510)
  cue   : CueNo
  stamp : Stamp
  p1    : Word32
  p2    : Word32
  p3    : Word32
  p4    : Word32
  deriving DecidableEq, Repr

/-- A written word of pair state (R476 FORWARD, SWEEP). -/
structure PairWord where
  region : Nat
  offset : Nat
  word   : Word64
  deriving DecidableEq, Repr

/-- The outcome of a fetch of a submission entry (R374, R375). -/
inductive FetchResult where
  | ok
  | entryReadFailed
  | dataReadFailed
  | collision            -- a port B write of the entry's data was discarded (R407, R408)
  deriving DecidableEq, Repr

/-- What the verification of an image reads (R459, R460). The image itself lies in flash or in the recovery window;
of the checks over its octets the findings stand here. -/
structure ImageIn where
  magicOk  : Bool              -- magic and length
  keyOk    : Bool              -- SHA-256 of the public key equals VKEY_HASH of the key slot
  keySlot  : Nat
  revoke   : BitVec 4          -- the slots that the signature block names for revocation
  sigOk    : Bool
  secVersion : Nat
  hashesOk : Bool              -- a manifest's component hashes
  steppings : List Nat         -- the steppings that a manifest's compatibility records name (R28, R534)
  deriving DecidableEq, Repr

/-- What the verification of the boot block and of each slot's manifest reads (R460, R532). -/
structure VerifyIn where
  octal     : Bool         -- the flash's table gives an octal DDR read (R604)
  bootBlock : ImageIn      -- of the boot block, which verifies the manifests (R460)
  imageA  : ImageIn
  imageB  : ImageIn
  bundleA : Nat            -- bundle version and replay class of each slot's manifest
  classA  : Nat
  bundleB : Nat
  classB  : Nat
  deriving DecidableEq, Repr

/-- What a Box Office verification of the staged bundle reads (R539) besides the outcome that its update-end
entry brings: the versions and requirements of the six components (R534, R536). -/
structure BundleInfo where
  version  : Nat
  rclass   : Nat
  versions : List Nat          -- six component versions, kinds 1 to 6
  requires : List (List Nat)   -- six rows of six
  kinds    : List Nat          -- the kinds of its entries
  image    : ImageIn           -- its manifest's signature block and components
  deriving DecidableEq, Repr

/-- A FEID module event body (R579). -/
structure ModuleEv where
  kind  : Nat              -- 0 arrived, 1 departed, 2 changed
  addr  : Nat
  desc  : List Byte
  deriving DecidableEq, Repr

/-- A join as Prompter 0 passes it to the Box Office (R442, R446). -/
structure JoinReq where
  eui     : BitVec 64
  grand   : Bool
  pan     : Nat
  caps    : BitVec 16
  ppm     : Nat
  wanted  : BitVec 8
  slot    : Nat
  nonceN  : List Byte
  pubKey  : List Byte
  credSig : List Byte
  offer   : List Byte      -- the offer body, for the credential hash (R445)
  deriving DecidableEq, Repr

/-- What the Box Office hands back (R444, R446). -/
structure JoinRes where
  req      : JoinReq
  accepted : Bool          -- false: status CREDENTIAL
  kLink    : List Byte
  keyCheck : List Byte
  wrapped  : List Byte     -- wrapped group key
  nonceR   : List Byte
  keySeq   : Nat
  deriving DecidableEq, Repr

/-- A packet an engine posts to the owning Stagehand (R277). -/
structure FwdPacket where
  node   : Nat
  packet : List Byte
  deriving DecidableEq, Repr

/-- A flood frame passed to Stagehand 0 for re-sending (R257). -/
structure FloodFrame where
  origin : BitVec 24
  seq    : BitVec 16
  ttl    : Nat
  scope  : BitVec 8
  grand  : Bool
  sec    : Bool
  frame  : List Byte
  deriving DecidableEq, Repr

/-- A node's Tour report (R553, type 0x12), as its Stagehand posts it. -/
structure TourRep where
  node     : Nat
  tour     : Nat
  complete : Bool
  refused  : Bool
  hashFail : Bool
  first    : Nat
  held     : Nat
  map      : BitVec 64
  deriving DecidableEq, Repr

/-- A command held for a target cue (R55). -/
structure Held where
  engine : Nat
  target : CueNo
  op     : Nat
  sub    : Sub
  deriving DecidableEq, Repr

/-- An air-time charge of the ledger (R198). -/
structure Charge where
  seq : Word32
  tag : Nat
  sub : Option Nat
  cue : CueNo                      -- cue of S
  us  : Nat                        -- air time, units of 1/307,200 µs
  deriving DecidableEq, Repr

/-- Node states (R254). -/
inductive NodeSt where
  | free
  | admitted
  | joining
  | active
  | drifting
  | searching
  | dormant
  | leaving
  deriving DecidableEq, Repr

/-- A downlink pending at its node's Stagehand (R262, R277). -/
structure Downlink where
  id      : Nat                    -- item number chosen by the engine
  cmd     : Option Sub             -- the NODE_SEND; none for a forwarded packet
  dest    : Nat                    -- destination node
  payload : List Byte
  ack     : Bool
  wake    : Bool
  coexPri : Bool
  mic16   : Bool
  tries   : Nat                    -- attempts left
  expiry  : CueNo                  -- hold expires after this cue
  sent    : Bool := false          -- on air or awaiting a hop Reply
  acked   : Bool := false          -- hop Reply received
  seqNo   : Nat := 0               -- frame sequence of the hop frame
  hop     : Nat := 0               -- node that got the hop frame
  lastTx  : CueNo := 0
  frameEnd : Option Stamp := none  -- end of the last modulated sample (R327)
  nums    : Option (Nat × Word32) := none  -- sequence and counter kept for its next sending by another node's Stagehand
  wait    : Option CueNo := none   -- not sent before this cue: a Reply with code RETRY (R216)
  deriving DecidableEq, Repr

/-- New connection parameters waiting for event E (R245). -/
structure SchedUpd where
  event : Word32
  intv  : Nat
  lat   : Nat
  sup   : Nat
  map   : BitVec 128
  cmd   : Option Sub               -- completes with the first element sent (R266)
  deriving DecidableEq, Repr

/-- A node context (R239, R283, R455, R556). -/
structure Node where
  st       : NodeSt := .free
  grand    : Bool := false
  pan      : Nat := 0
  short    : Nat := 0
  eui      : BitVec 64 := 0
  caps     : BitVec 16 := 0
  ppm      : Nat := 0
  byAdmit  : Bool := false         -- admitted by NODE_ADMIT (R236)
  lastCue  : CueNo := 0            -- cue of the last contact
  stCue    : CueNo := 0            -- cue at which the state was entered
  event    : Word32 := 0           -- e_c
  arrival  : Stamp := 0            -- a_c
  nextWin  : Word32 := 0           -- next event whose window is to be planned
  intv     : Nat := 0              -- I
  lat      : Nat := 0              -- L
  sup      : Nat := 0              -- T
  hop      : Nat := 0              -- h
  map      : BitVec 128 := 0
  misses   : Nat := 0              -- m
  guardT   : Nat := 0              -- G of the last planned window, ticks
  upd      : Option SchedUpd := none
  rho      : Int := 0              -- learned offset ratio (R174)
  rhoSet   : Bool := false
  delay    : Option Int := none    -- D, ticks (R327)
  timeSent : Option (CueNo × Nat × Int) := none  -- last time element: cue, steps, delay (R328)
  timeDue  : Bool := false         -- a late frame owes a time element (R325)
  parent   : BitVec 24 := 0xFFFFFE -- R283
  pQuality : Nat := 0
  hops     : Nat := 0
  port     : Nat := 0
  line     : Nat := 0
  heard    : Bool := false
  quality  : Nat := 0
  repCue   : CueNo := 0
  moves    : Nat := 0
  gen      : Nat := 0
  moveScene : Nat := 0
  flapScene : Option Nat := none   -- Scene of the last flap event
  wrapped  : List Byte := []       -- AES-128(K_node, K_link xor T) (R455)
  devCtr   : Word32 := 0
  win      : Word32 := 0           -- H
  bits     : Word32 := 0           -- B
  keySeq   : Nat := 0
  keyed    : Bool := false
  mic16    : Bool := false
  failures : Nat := 0
  micFails : Nat := 0              -- failures of the Scene, by kind, for the alarm record
  replays  : Nat := 0
  badSeqs  : Nat := 0
  alarmed  : Bool := false
  seen     : List Word32 := []     -- counters accepted in this cue (R466)
  iid      : Option (BitVec 64) := none
  mapId    : Nat := 0
  mapCue   : Option Nat := none    -- Scene of the last map built (R144)
  offer    : Option Nat := none    -- map id offered, not yet accepted (R143)
  mapCodes : List Nat := []        -- codes of the map its context holds
  txMap    : Nat := 0              -- map the node's receiver offered us
  txCodes  : List Nat := []        -- codes of that map
  txNew    : Option (Nat × List Nat) := none  -- map offered to us, its accept owed (R143)
  frameEnd : Option Stamp := none  -- end of the last frame sent that asks an answer (R327)
  downs    : List Downlink := []
  leave    : Option (Nat × Option Sub × CueNo) := none  -- reason, command, expiry
  leaveSent : Bool := false
  ovCue    : CueNo := 0            -- cue of the last Overture to the node (R247)
  grpOwed  : Bool := false         -- a group key element is owed (R458)
  answers  : Nat := 0              -- answers within the present contact (R229)
  tour     : List Nat := []        -- tour, state, first missing, held, last round, silent rounds (R556)
  deriving DecidableEq, Repr

/-- What another Stagehand asks of a pending downlink (R18, R262). -/
inductive DownOp where
  | sent (hop seq : Nat)           -- it went on air
  | onAir (last : CueNo) (fin : Stamp)   -- its transmit end: the cue, the end of its last modulated sample
  | acked                          -- its hop has replied
  | retry (wait : Option CueNo)    -- it is to be sent again
  | close (reason status : Nat)    -- it has ended
  deriving DecidableEq, Repr

/-- A change of a node context that another engine has decided: its own Stagehand writes it in Housekeeping
(R18, R49). -/
inductive CtxOp where
  | place (i : Nat) (n : Node)     -- Prompter 0 allocated it (R234, R264)
  | join (i : Nat) (r : JoinRes)   -- Prompter 0 took back its join (R234)
  | anchor (i : Nat) (a : Stamp)   -- its first anchor (R242)
  | offer (i id : Nat) (codes : List Nat)  -- its map is stored (R144)
  | free (i : Nat)                 -- a new join frees it (R235)
  | iid (i : Nat) (k : Option (BitVec 64))  -- its IID key is written or deleted (R279, R297)
  | down (i id : Nat) (k : DownOp)
  deriving DecidableEq, Repr

/-- A peer entry (R251, R252). -/
structure Peer where
  router  : Nat
  slot    : Nat
  present : Bool
  last    : Stamp
  expect  : Stamp
  log2    : Nat
  channel : Nat
  planChk : Nat
  airUs   : Nat
  misses  : Nat
  cue     : CueNo
  deriving DecidableEq, Repr

/-- A flood of Stagehand 0's queue (R258). -/
structure Flood where
  id     : Nat
  cmd    : Option Sub
  scope  : BitVec 8
  grand  : Bool
  seq    : BitVec 16
  frame  : List Byte
  sentIn : List Nat                -- slot entries done
  sentOk : Nat                     -- entries that sent
  tries  : List (Nat × Nat)        -- slot entry, attempts used
  fail   : Nat                     -- first failing result; 0 none
  planned : Nat
  lastTx : CueNo
  deriving DecidableEq, Repr

/-- A seen-cache entry (R256). -/
structure Seen where
  origin : BitVec 24
  seq    : BitVec 16
  scene  : Nat
  deriving DecidableEq, Repr

/-- An entry of the LPM associative memory (R287, R295). -/
structure Lpm where
  pfx   : BitVec 128
  ctx   : Nat
  len   : Nat
  kind  : Nat
  param : Nat
  gen   : Nat
  deriving DecidableEq, Repr

/-- A slot of the address table (R279). -/
structure Slot where
  node : Nat
  iid  : Bool
  key  : BitVec 64                 -- the key, as the context or the stash entry holds it
  gen  : Nat
  deriving DecidableEq, Repr

/-- A table change waiting for Housekeeping (R281, R289, R297). -/
inductive TabOp where
  | addKey (node : Nat) (iid : Bool) (key : BitVec 64)
  | delKey (node : Nat) (iid : Bool) (key : BitVec 64)
  | write (c : Sub) (done : Nat)
  deriving DecidableEq, Repr

/-- A table lock (R299): the cue of the TABLE_READ. -/
structure Lock where
  table : Nat
  part  : Nat
  cue   : CueNo
  deriving DecidableEq, Repr

/-- A bit-loading map store entry (R140, R141). -/
structure MapEnt where
  valid : Bool := false
  codes : List Nat := []
  check : BitVec 8 := 0
  links : Nat := 0
  gen   : Nat := 0
  freed : Nat := 0
  deriving DecidableEq, Repr

/-- A learning to apply in Housekeeping (R284). -/
structure Learn where
  node    : Nat
  port    : Nat
  line    : Nat
  quality : Nat
  report  : Option (BitVec 24 × Nat × Nat)
  deriving DecidableEq, Repr

/-- What an engine sent a transmit request for (R171, R258, R262). -/
inductive TxUse where
  | cmd (op : Nat) (c : Sub)       -- RAW_TX or OVERTURE_SEND
  | down (node : Nat) (id : Nat)   -- hop frame of a downlink of a destination node
  | flood (id : Nat) (slot : Nat)  -- a flood in a flood entry of the slot plan
  | leave (node : Nat)             -- a leave element (R264)
  | reply (node : Nat)             -- a Reply that asks an answer (R229)
  | other
  deriving DecidableEq, Repr

/-- An engine's note of a transmit request: its key, once Publish wrote it its chain and transmit
sequence, its use, and the node to which it carries mesh time (R325). -/
structure UseEnt where
  item  : Nat
  sent  : Option (Chain × Word32) := none
  use   : TxUse
  timed : Option Nat := none
  fall  : Nat := 0                 -- falling ramp of the request, ticks (R327)
  deriving DecidableEq, Repr

/-- A listening window planned by a Stagehand: window id, node, event. -/
structure WinEnt where
  id    : Word32
  node  : Nat
  event : Word32
  line  : Nat
  chan  : Nat
  full  : Bool                     -- its guard equalled GUARD_MAX (R247)
  deriving DecidableEq, Repr

/-- What an audition told of a node that may now join (R230 to R232). -/
structure Audit where
  eui    : BitVec 64
  caps   : BitVec 16
  ppm    : Nat
  wanted : BitVec 8
  grand  : Bool
  pan    : Nat
  deriving DecidableEq, Repr

/-- Forwarding, tables and mesh access (chapters 06 and 07). -/
structure Mesh where
  uses     : List UseEnt := []     -- notes of requests without a latched transmit end
  items    : Nat := 0              -- notes made
  wins     : List WinEnt := []     -- windows planned, outcome not yet processed
  judge    : List WinEnt := []     -- window outcomes of this cue that may be misses (R244, R268)
  lineEnd  : SMap Nat := []        -- end stamp of the last window planned on a line, default 0
  nodes    : SMap Node := []       -- default {} (free)
  freed    : List (Nat × Nat) := []     -- node index, Scene boundaries until it is free again (R234)
  freedShort : List (Nat × Nat) := []   -- 65536 × PAN + short address, the same
  ctxOps   : List CtxOp := []      -- changes of contexts waiting for their Stagehands
  audits   : List Audit := []      -- nodes that hold an ACCEPTED audition reply
  joins    : Nat := 0              -- q of R232
  results  : List (BitVec 64 × Nat × Nat × List Byte) := []  -- EUI-64, status, node, response elements: joins complete
  pendingJoin : List (BitVec 64) := []   -- EUI-64s passed to the Box Office
  peers    : List Peer := []
  peerFull : Option Nat := none    -- Scene of the last peer-table-full record
  conflict : Option Nat := none    -- Scene of the last slot-conflict event
  floods   : List Flood := []
  floodCnt : Nat := 0              -- own flood sequence count, 13 bits
  seen     : SMap (List Seen) := []     -- per Stagehand, oldest first; default []
  lpm      : SMap (Option Lpm) := []    -- by slot; default none
  lpmWrites : Nat := 0
  lpmDown  : Nat := 0              -- moves down (R294)
  addr     : SMap (Option Slot) := []   -- key 24,640 × partition + slot; default none
  addrWrites : SMap Nat := []      -- per partition, default 0
  attWrites : SMap Nat := []
  maps     : SMap MapEnt := []     -- map store, default {}
  mapWrites : Nat := 0             -- entries of the map store written
  mapReqs  : List (Nat × List Nat) := []  -- maps waiting for Housekeeping
  mapLinks : List (Nat × Bool) := []  -- links to count against entries, true up (R141, R143)
  mapDrops : List Nat := []        -- entries whose link count fell to 0 (R141)
  ops      : List TabOp := []      -- address-table work of Prompter 0, in order
  lpmOps   : List TabOp := []      -- LPM work of Prompter 1, in order
  locks    : List Lock := []
  unlocks  : List Lock := []       -- released at the end of this Housekeeping
  learns   : List Learn := []
  seqs     : SMap Nat := []        -- per-sender sequences, by engine, default 0 (R215)
  fresh    : Nat := 0              -- MODEL'S OWN: free values taken by engines
  deriving DecidableEq, Repr

/-- A change of a derived time base waiting for the next cue start (R311). -/
inductive TbChange where
  | set (v : Word64) (r : Int)
  | step (d : Int) (reason : Nat)
  | rate (r : Int)
  deriving DecidableEq, Repr

/-- Parameters that a derived base had until a stamp (R314). -/
structure TbOld where
  till  : Stamp
  a     : Stamp
  v     : Word64
  r     : Int
  valid : Bool
  steps : Nat
  deriving DecidableEq, Repr

/-- A derived time base (R310 to R313). -/
structure TBase where
  valid  : Bool := false
  a      : Stamp := 0
  v      : Word64 := 0
  r      : Int := 0
  steps  : Nat := 0                -- 16-bit step count
  shown  : Nat := 0                -- step count at the last record that carried a value (R341)
  pend   : List TbChange := []
  hist   : List TbOld := []        -- earlier parameters, newest first (R314)
  deriving DecidableEq, Repr

/-- TB2 states (R337). -/
inductive PtpSt where
  | disabled
  | listening
  | acquiring
  | locked
  | holdover
  deriving DecidableEq, Repr

/-- A PTP timestamp with its correction (R334): seconds, nanoseconds, 2^-16 ns. -/
structure PtpTs where
  sec  : Nat
  nano : Nat
  corr : Int
  deriving DecidableEq, Repr

/-- A Sync and, once its Follow_Up has come, the origin timestamp (R335). -/
structure SyncWait where
  seqId   : Nat
  t2      : Stamp                  -- receive stamp on TB0, ingress latency removed
  t1      : Option PtpTs
  corr    : Int
  logIntv : Int
  cue     : CueNo
  deriving DecidableEq, Repr

/-- A Pdelay_Resp and its Pdelay_Resp_Follow_Up (R335). -/
structure PdelWait where
  seqId : Nat
  t4    : Stamp
  t2    : PtpTs
  corr  : Int
  deriving DecidableEq, Repr

/-- The PTP client and servo (R331 to R340). -/
structure PtpC where
  st       : PtpSt := .disabled
  reroute  : Bool := false
  lost     : Bool := false         -- master lost
  traceable : Bool := false
  era      : Nat := 0
  i        : Int := 0              -- servo integrator
  mpd      : Option Int := none    -- filtered delay, ticks
  asym     : Int := 0              -- A
  asymNext : Option Int := none    -- A from the next cue start (R340)
  eraNext  : Option Nat := none    -- era from the next cue start (R315)
  offset   : Int := 0              -- o of the last exchange
  deviating : Nat := 0
  good     : Nat := 0              -- consecutive exchanges within LOCK_THR
  run      : List Int := []        -- stable run of R338, first exchange first
  discarded : Nat := 0
  sync     : Option SyncWait := none
  dreq     : Option (Nat × Stamp) := none   -- Delay_Req or Pdelay_Req: sequenceId, launch stamp (TB0)
  pdel     : Option PdelWait := none
  dseq     : Nat := 0              -- own request sequenceId
  peerD    : Option Int := none    -- raw peer delay
  masters  : List (Ptp × Bool) := []   -- foreign masters, at most 4, with their qualification
  dnext    : Option Stamp := none  -- when the next own request is due (R333)
  minLog   : Int := -4             -- the master's least request interval, log2 s (R349)
  master   : Option (BitVec 64) := none
  holdCue  : CueNo := 0            -- cue of entry to HOLDOVER
  syncAt   : Option (Stamp × Int) := none   -- receive stamp and interval of the master's last Sync (R337)
  wrapped  : Bool := false         -- the era counts the wrap of TB2 since its anchor (R334)
  utc      : BitVec 19 := 0        -- TIM_UTC fields
  dropped  : Nat := 0              -- unsupported frames dropped and counted (R331)
  deriving DecidableEq, Repr

/-- Mains timing (R343 to R347). -/
structure Mains where
  cross   : List Word64 := []      -- crossings of the window, oldest first
  cross0  : List Stamp := []       -- the same crossings on TB0 (R323)
  onTb2   : Bool := false
  last    : Option Stamp := none   -- last capture (TB0)
  since   : Nat := 0               -- crossings since the last report
  reports : Nat := 0
  prev    : Option (Int × Word64) := none  -- F and crossing of the previous report
  told    : Option Nat := none     -- Scene of the last mains-disturbed event
  freq    : Nat := 0
  trace   : Bool := false
  restarts : Nat := 0
  deriving DecidableEq, Repr

/-- A pulse program (R320). -/
structure Pulse where
  base   : Nat
  mode   : Nat
  activeLow : Bool
  notify : Bool
  width  : Nat
  first  : Word64
  period : Nat
  count  : Nat
  k      : Nat                     -- instants judged
  deriving DecidableEq, Repr

/-- A group key of the key store (R439). -/
structure GroupKey where
  wrapped : List Byte
  seq     : Nat
  deriving DecidableEq, Repr

/-- The key store (R439). -/
structure Keys where
  priv    : List Byte := []        -- router key, 40 octets wrapped; [] when none
  pub     : List Byte := []
  issuers : SMap (List Byte) := [] -- slots 0 to 3, default [] (not valid)
  cur     : Option GroupKey := none
  prev    : Option GroupKey := none
  pendKey : Option (GroupKey × Nat) := none  -- pending key and the Scene at which it becomes current
  curScene : Nat := 0              -- Scene at which the current group key became current
  ctr     : Word32 := 0            -- router group frame counter
  deriving DecidableEq, Repr

/-- A tag-table entry (R496). -/
structure TagEnt where
  tag    : BitVec 64
  ring   : Nat
  status : Nat
  done   : Bool
  accept : CueNo
  result : List Byte
  compl  : CueNo
  deriving DecidableEq, Repr

/-- A Tour (R552 to R557). -/
structure Tour where
  id     : Nat
  round  : Nat
  scope  : BitVec 8
  grand  : Bool
  mic16  : Bool
  flog   : Nat
  ttl    : Nat
  caps   : Nat
  limit  : Nat
  silent : Nat
  applyAt : Word64
  hash   : List Byte
  length : Nat
  blocks : Nat
  need   : List Nat                -- need map of the present round
  nextNeed : List Nat
  frags  : List (Nat × Nat × List Byte)  -- fragments queued: block, fragment, data
  pos    : Nat                     -- place in the need map of the block being sent
  asked  : Nat                     -- blocks of the need map asked for in this round
  announce : Bool                  -- the announce of the round is still to be sent
  sub    : Sub
  nodes  : List Nat                -- targeted nodes
  ending : Option Nat              -- reason of the end element still to be sent
  taken  : CueNo                   -- cue in which Prompter 0 passed it to Stagehand 0
  marked : Bool := false           -- the contexts of the targeted nodes say so (R556)
  deriving DecidableEq, Repr

/-- A configuration record of one type: in effect, generation, and the waiting one (R380). -/
structure Cfg where
  bytes : List Byte := []
  gen   : Nat := 0
  wait  : Option (List Byte × Nat × CueNo) := none   -- bytes, generation, cue of effect
  deriving DecidableEq, Repr

/-- An entry of a record without the item it asks for (R45). -/
structure RawEntry where
  cls     : Nat
  src     : Nat
  seq     : Word32
  arrival : CueNo
  carried : Bool
  body    : List Byte
  deriving DecidableEq, Repr

/-- A selector record (R530). -/
structure Selector where
  seq     : Word32
  slot    : Nat
  trial   : Bool
  trials  : Nat
  staged  : Nat
  version : Nat
  rclass  : Nat
  deriving DecidableEq, Repr

/-- A rolling activation (R540). -/
structure Roll where
  cue     : CueNo                  -- a
  sub     : Option Sub             -- none: pauses only, from a partner's record (R544)
  step    : Nat                    -- steps done
  version : Nat
  rclass  : Nat
  ends    : List (Nat × Nat)       -- steps whose update-end was latched, outcome
  old     : Selector
  deriving DecidableEq, Repr

/-- A settings copy (R550): its sequence, the items 0x01, 0x02 and 0x03, and the formats of the last
two. -/
structure Settings where
  seq     : Word32
  map0    : Option Nat                 -- item 0x01: bank replaced by S0
  map1    : Option Nat
  laneBad : List (Bool × Nat)          -- lasting faults of lanes
  chains  : List Nat                   -- chains out of service
  fmtCorr : Nat
  corrA   : SMap Int                   -- item 0x02: power-loop corrections
  corrB   : SMap Int
  fmtHist : Nat
  history : List (Nat × CueNo × Nat)   -- item 0x03: bundle version, cue, outcome
  deriving DecidableEq, Repr

/-- Update (chapter 14). -/
structure Upd where
  sel0     : Option Selector := none
  sel1     : Option Selector := none
  slot     : Nat := 0              -- slot booted
  version  : Nat := 0
  rclass   : Nat := 0
  verified : Bool := false
  staging  : Option Sub := none
  stageHit : Bool := false         -- a write of its image data was discarded (R408)
  verifying : Option (Sub × BundleInfo) := none
  confirming : Option Sub := none
  bundle   : Option BundleInfo := none   -- staged bundle as verified
  roll     : Option Roll := none
  lastStep : Nat := 0
  bootKey  : Nat := 0              -- key slot and security version of the booted bundle (R459)
  bootSec  : Nat := 0
  bootRevoke : BitVec 4 := 0       -- and the key slots that its manifest revokes
  tour     : Option Tour := none
  tourId   : Nat := 0
  selBusy  : Option Bool := none   -- copy of the selector, and of the settings, written in this cue; true: copy 1
  setBusy  : Option Bool := none
  history  : List (Nat × CueNo × Nat) := []  -- last 16 activations (R550)
  set0     : Option Settings := none
  set1     : Option Settings := none
  corrScene : Option Nat := none   -- Scene in which item 0x02 was last written (R550)
  running  : Option BundleInfo := none   -- the running set, once a rolling activation has brought it
  bootVersion : Nat := 0           -- bundle version of the set booted
  deriving DecidableEq, Repr

/-- A capture in progress (R110 to R112): its entry, cues left, cue of its start, the gain code at the start once
it has begun, and whether its port has since gone. -/
structure Capture where
  sub   : Sub
  left  : Nat
  start : CueNo
  gain  : Option Nat := none
  dead  : Bool := false
  deriving DecidableEq, Repr

/-- The pair state of R500 after cue e, as the words of a sweep spell it; of the engines' work lists, the
deferred items that came from records, with their engine. -/
structure PairState where
  mesh     : Mesh                      -- region 0 and 2: contexts, caches, tables, LPM; region 3: peers, floods
  keys     : Keys                      -- region 0: key store
  keyNext  : Option Keys
  tags     : List TagEnt               -- region 1
  held     : List Held                 -- region 3
  deferred : List (Nat × RawEntry)
  tour     : Option Tour
  pulses   : SMap Pulse                -- programs by TPULSE pin
  mains    : Mains
  bookHash : Word64
  outHash  : Word64
  cfgs     : SMap Cfg                  -- region 4
  scene    : Nat                       -- Scene log2 in effect
  tb1      : TBase                     -- region 5
  tb2      : TBase
  tb3      : TBase
  ptp      : PtpC
  ledgerA  : List Charge               -- region 6
  ledgerB  : List Charge
  shadowA  : List TxReq
  shadowB  : List TxReq
  seqA     : Word32
  seqB     : Word32
  lastSwap : CueNo                     -- of R504: the last change of roles, entries of the last 64 cues,
  quiet    : List Nat                  -- and whether a relief is pending
  relief   : Bool
  images   : Upd                       -- the image commands in progress and the selector they meet
  pools    : SMap (List Sub)           -- posted receive buffers by ring
  capture  : Option Capture        -- a capture in progress
  seqs     : List (Nat × Word32)       -- per-source sequences
  start    : Stamp                     -- cue start of cue e
  deriving DecidableEq, Repr

/-- What a processing start is given (R69, R475, R502): a session value, and in replay the whole record at
CUE_BUF_TAIL and the pair state that a snapshot spells. -/
structure StartIn where
  session : BitVec 64
  replay  : List Byte := []
  snap    : Option PairState := none
  deriving DecidableEq, Repr

/-- What a CUE brings from outside: the TRNG draw of its Intake (R41), the port measurements
(R78), the two die temperatures (R582), and in replay whether a whole record lies ready (R69). -/
structure CueIn where
  draw  : List Byte
  meas  : List PortMeas
  tPit  : Int
  tStage : Int
  replay : List Byte       -- replay mode: the whole record at CUE_BUF_TAIL, [] when none (R69, R70)
  snap   : Option PairState := none  -- the pair state that a snapshot record at CUE_BUF_TAIL spells (R502)
  deriving DecidableEq, Repr

end Sys2Proof.Machine
end

