-- ==== Sys2Proof/Syntax.lean ====
section
/-! DEFINITION. The commands of the AMN-4100: one constructor per row of spec/opcode_table.json,
in the table's order, with the row's operands. A row of a host opcode carries the latched
submission entry; a row of a happening carries what the outside world supplies with it (a stamp, a
measurement, a received frame, the outcome of a test). The rule named is the table's. -/

namespace Sys2Proof

open Sys2Proof.Machine

/-- The commands of the block. -/
inductive Instr where
  /-- R29: The Stage Manager emits a Cue every 102,400,000 TB0 ticks and increments the cue counter. -/
  | cue (i : CueIn)
  /-- R32: A cue that is a Scene boundary starts Scene work such as TB1 follow, Tour rounds, FEID scans and record changes. -/
  | sceneBoundary
  /-- R34: Work starts at the later of its nominal start and the end of Intake, and each engine runs its work list within budget. -/
  | workPhase (ops : List BankOp)
  /-- R55: A command held for a target cue becomes a scheduled item of that cue. -/
  | heldCommandDue
  /-- R57: Publish writes outputs of the engines in engine order: transmissions, completions, events and records. -/
  | publishPhase
  /-- R34: Housekeeping starts after Publish: relocation, ageing, scrubbing and journaling. -/
  | housekeepingPhase (ops : List BankOp)
  /-- R376: Prompter 0 completes a NOP with result 0. -/
  | nop (c : Sub)
  /-- R376: A command with a reserved opcode completes with BAD_PARAM. -/
  | reservedOpcode (op : BitVec 16) (c : Sub)
  /-- R380: Applies a configuration record after type, range and generation checks. -/
  | configApply (c : Sub)
  /-- R380: Writes the record in effect, or the waiting one, to the buffer. -/
  | configRead (c : Sub)
  /-- R262: Builds and delivers a secured frame to a node at its contacts. -/
  | nodeSend (c : Sub)
  /-- R263: Queues a flood with Stagehand 0 for the flood entries of its scope. -/
  | floodSend (c : Sub)
  /-- R205: Sends a PSDU from the host buffer with the given PHY parameters. -/
  | rawTx (c : Sub)
  /-- R204: Sends an Overture wake-up signature. -/
  | overtureSend (c : Sub)
  /-- R383: Adds one receive buffer to the pool of its completion ring. -/
  | rxPost (c : Sub)
  /-- R264: Allocates a node index for an EUI-64 in the admitted state. -/
  | nodeAdmit (c : Sub)
  /-- R264: Frees a node context, or sends a leave element first with NOTIFY. -/
  | nodeEvict (c : Sub)
  /-- R265: Writes a 64-byte report of a node to the buffer. -/
  | nodeQuery (c : Sub)
  /-- R293: Reads valid entries of a learned table to the buffer, optionally locking it. -/
  | tableRead (c : Sub)
  /-- R296: Inserts, rewrites or deletes IID keys or LPM entries. -/
  | tableWrite (c : Sub)
  /-- R300: Releases a table lock at the end of Housekeeping. -/
  | tableUnlock (c : Sub)
  /-- R245: Schedules new connection parameters for a Grand node at a future event. -/
  | scheduleSet (c : Sub)
  /-- R315: Sets, steps or re-rates a derived time base, or sets TB2 asymmetry or era. -/
  | timeSet (c : Sub)
  /-- R320: Replaces the program of a TPULSE pin at the next cue. -/
  | pulseProgram (c : Sub)
  /-- R111: Captures spectra or raw ADC samples of a port into host memory. -/
  | captureSpectrum (c : Sub)
  /-- R538: Writes a bundle into the inactive boot slot. -/
  | imageStage (c : Sub)
  /-- R539: Box Office verifies the staged bundle and its activation states. -/
  | imageVerify (c : Sub) (b : BundleInfo)
  /-- R540: Writes a TRIAL selector and rolls the engines to the new set, or restarts on an Understudy. -/
  | imageActivate (c : Sub)
  /-- R546: Writes a CONFIRMED selector and blows version and revoke fuses. -/
  | imageConfirm (c : Sub)
  /-- R552: Starts flooded delivery of a node image to a scope. -/
  | tourStart (c : Sub)
  /-- R503: Requests relief of the Lead or reports role status. -/
  | roleRequest (c : Sub)
  /-- R524: Reads whole Call Board records from the store or journal to the buffer. -/
  | callboardRead (c : Sub)
  /-- R430: Runs a self-test of a unit, served aside. -/
  | selftestRun (c : Sub) (fails : Nat)
  /-- R457: Installs a router, issuer or group key into the key store. -/
  | keyInstall (c : Sub)
  /-- R537: A latched update-end entry gives the outcome of an image command's flash or hash operation. -/
  | updateEnd (u : UpdEnd)
  /-- R537: A flash or hash operation of an image command ends and its update-end entry becomes pending. -/
  | flashOperationEnd (u : UpdEnd)
  /-- R541: At the end of an activation pause the engine switches to its new image, or the activation stops. -/
  | stepSwitch
  /-- R555: A fetched image block of a Tour is latched and its fragments are queued. -/
  | tourBlock (block : Nat) (ok : Bool) (bytes : List Byte)
  /-- R371: The device starts fetching entries from a qualifying submission ring. -/
  | submissionFetch (q : Nat)
  /-- R374: The fetch of an entry and its data ends; the entry waits for the next Intake. -/
  | fetchComplete (q : Nat) (r : FetchResult) (entry : List Byte) (data : List Byte)
  /-- R369: A write of a submission ring's tail doorbell. -/
  | submissionDoorbell (q : Nat) (v : Nat)
  /-- R370: A write of a completion ring's head doorbell releases entries and credit. -/
  | completionDoorbell (c : Nat) (v : Nat)
  /-- R366: A write of the event ring head doorbell frees room in the event ring. -/
  | eventDoorbell (v : Nat)
  /-- R395: The hold of an MSI-X vector ends and one message covers entries written during it. -/
  | vectorHoldExpiry (e : HoldEnd)
  /-- R395: Unmasking a vector with its pending bit set sends the message. -/
  | msixUnmask (v : Nat)
  /-- R355: PERST_N or Function Level Reset resets the endpoint and clears every ring. -/
  | endpointReset
  /-- R353: A non-aligned or non-32-bit BAR0 or BAR2 access is refused and flagged. -/
  | barAccessError (write : Bool)
  /-- R354: A write to BAR4 has no effect and sets BAR4_WRITE. -/
  | bar4Write (off : Nat) (v : Word32)
  /-- R6: A write to a register field without behaviour of its own, under its access code. -/
  | registerWrite (off : Nat) (v : Word32)
  /-- R614: A read of TIM_TB0_LO latches TIM_TB0_HI for its path. -/
  | tb0LoRead (path : Path)
  /-- R614: A read of UND_OFFSET_LO latches UND_OFFSET_HI for its path. -/
  | undOffsetLoRead (path : Path)
  /-- R67: A write to CUE_BOOK_CTL.MODE after processing start is refused with a record. -/
  | cueBookCtlModeWrite (path : Path) (v : Word32)
  /-- R470: A write to UND_CTL.MODE after processing start is refused with a record. -/
  | undCtlModeWrite (path : Path) (v : Word32)
  /-- R73: A host write to an export buffer pointer it owns, or ignored when the device owns it. -/
  | cueBufPointerWrite (tail : Bool) (v : Word32)
  /-- R86: Enabling a receive port starts its gain at MAN_GAIN. -/
  | portEnable (p : Fin 4)
  /-- R90: Disabling a port ends its receptions with sample loss and misses its windows. -/
  | portDisable (p : Fin 4)
  /-- R85: RXF_PORT_CTL.FORCE in manual mode applies MAN_GAIN within 1 us. -/
  | portForce (p : Fin 4)
  /-- R98: CHR_LINE_CTL.COMMIT marks a line's shadows pending. -/
  | lineCommit (n : Fin 96)
  /-- R98: CHR_LINE_CTL.FORCE makes the line take its shadows at the next cue start. -/
  | lineForce (n : Fin 96)
  /-- R180: Setting TXx_CTL.EN starts calibration of a chain. -/
  | chainEnable (c : Chain)
  /-- R208: Clearing TXx_CTL.EN cuts the chain and flushes its queue. -/
  | chainDisable (c : Chain) (t : Stamp)
  /-- R175: TXx_CTL.RECAL forces a VCO recalibration at the next retune. -/
  | recal (c : Chain)
  /-- R364: Setting a ring's EN zeroes its pointers and advances its pair's epoch. -/
  | ringEnable (k : RingKind) (q : Fin 64)
  /-- R400: Clearing a ring's EN stops fetch or makes its writes discard. -/
  | ringDisable (k : RingKind) (q : Fin 64)
  /-- R390: W1C of a queue notice clears it and its count, or re-raises it. -/
  | noticeAcknowledge (q : Fin 256) (high : Bool) (low : Bool)
  /-- R389: A write of FLUSH asks for a hardware queue flush. -/
  | queueFlush (q : Fin 256)
  /-- R389: The flush takes effect when producer and consumer both stand at packet boundaries. -/
  | flushEffect (q : Fin 256)
  /-- R388: A wait-mode producer resumes when its queue has room. -/
  | producerResume (q : Fin 256)
  /-- R391: The two copies of a queue pointer differ; the queue is reset and tested. -/
  | queuePointerMismatch (q : Fin 256)
  /-- R391: The queue storage test ends and the queue returns or is quarantined. -/
  | queueTestEnd (q : Fin 256) (pass : Bool)
  /-- R437: BOX_ROOT_CTL.PROGRAM fuses the root key, or is refused. -/
  | rootProgram
  /-- R437: Root fusing ends and the key registers read 0. -/
  | rootFusingComplete
  /-- R464: Draws a fresh 32-octet debug challenge. -/
  | newChal (draw : List Byte)
  /-- R464: Checks the debug response and opens JTAG, or sets REFUSED. -/
  | unlock
  /-- R515: CBD_SNAP_CTL.TRIGGER takes a register snapshot into the Call Board. -/
  | snapshotTrigger (busy : Bool)
  /-- R515: A trigger that arrived during a snapshot is taken after its last continuation. -/
  | queuedSnapshot
  /-- R572: SYS_CTL.RESTART requests a processing restart. -/
  | restart
  /-- R572: SYS_CTL.REBOOT requests a boot restart. -/
  | reboot
  /-- R572: SYS_CTL.SYSTEM_RESET takes a system reset. -/
  | systemReset
  /-- R581: A write of KICK restarts the host watchdog count. -/
  | kick
  /-- R566: A request for Full mode from Quiet or to wake from Retention. -/
  | reqFull
  /-- R567: A request for Quiet mode, taken from the next cue start. -/
  | reqQuiet
  /-- R568: A request for Retention, accepted or refused. -/
  | reqRetention
  /-- R617: A change of EN or MODE of an Ethernet link takes it down and retrains it. -/
  | ethLinkReconfigure (eth1 : Bool) (v : Word32)
  /-- R397: Stage-door IDENT returns SYS_ID and the status word. -/
  | ident
  /-- R397: Stage-door STATUS returns and clears error bits of the status word. -/
  | status
  /-- R397: Stage-door READ returns BAR0 words. -/
  | read (bytes : List Byte) (words : Nat)
  /-- R398: Stage-door WRITE writes BAR0 words of permitted blocks when its CRC is good. -/
  | write (bytes : List Byte)
  /-- R397: Stage-door LOAD writes data into the recovery window during recovery. -/
  | load (bytes : List Byte)
  /-- R533: Stage-door BOOT verifies and runs the recovery image. -/
  | boot (bytes : List Byte) (image : ImageIn)
  /-- R397: An unknown stage-door command byte sets BAD_CMD. -/
  | badCmd (byte : Byte)
  /-- R14: A die-to-die sample block fails its CRC and is replaced by zeros. -/
  | sampleBlockCrcFail (b : BlockFail)
  /-- R15: A die-to-die lane error moves traffic to the spare and starts the lane test. -/
  | laneError (down : Bool) (lane : Nat)
  /-- R16: The lane pattern test ends with a transient or lasting fault. -/
  | lanePatternTestEnd (down : Bool) (lane : Nat) (pass : Bool)
  /-- R87: A 1 us block with clips above COUNT lowers the port gain by 6. -/
  | overloadStep (p : Fin 4) (clips : Nat) (t : Stamp)
  /-- R91: Transmit blanking of the mapped ports begins PRE before the rising curtain. -/
  | blankBegin (c : Chain) (t : Stamp)
  /-- R91: Transmit blanking ends POST after the falling curtain. -/
  | blankEnd (c : Chain) (t : Stamp)
  /-- R103: A scheduled line begins to retune for its next listening window. -/
  | lineRetune (n : Fin 96) (t : Stamp)
  /-- R104: A listening window reaches its end without sync and yields a no-sync outcome. -/
  | windowEnd (n : Fin 96) (t : Stamp)
  /-- R106: A port's Spotlight summary completes at cue start + 990 us. -/
  | spotlightSummary (p : Fin 4) (bins : List Int) (later : List (List Int)) (windows : List Nat) (valid : Nat)
  /-- R145: The preamble metric exceeds the threshold and a candidate is started. -/
  | detection (n : Fin 96) (d : Fin 6) (i : DetIn) (t : Stamp)
  /-- R151: The preamble watch declares a candidate stronger than the current one. -/
  | watchCandidate (n : Fin 96) (d : Fin 6) (w : WatchIn)
  /-- R145: A detection times out and is counted as false. -/
  | detectTimeout (n : Fin 96) (d : Fin 6) (t : Stamp)
  /-- R149: The demodulator declares sync, freezes AGC and takes stamp, offset and reference power. -/
  | syncFieldMatched (n : Fin 96) (d : Fin 6) (i : SyncIn) (stepLanding : Bool) (t : Stamp)
  /-- R146: A reception's header is decoded and passes or fails. -/
  | headerCheck (n : Fin 96) (d : Fin 6) (i : HeaderIn) (t : Stamp)
  /-- R150: A watch preamble CAPT_THR stronger ends the frozen reception and takes the main path. -/
  | displacement (n : Fin 96) (d : Fin 6) (t : Stamp)
  /-- R145: At the last payload sample the FCS is checked and the reception entry committed. -/
  | receptionCommit (n : Fin 96) (d : Fin 6) (i : CommitIn) (t : Stamp)
  /-- R176: A chain begins the hop or recalibration for its next request. -/
  | retune (c : Chain) (t : Stamp)
  /-- R176: The synthesiser declares lock after 4 us in the lock window. -/
  | lockDeclared (c : Chain) (t : Stamp)
  /-- R192: PAEN_x rises LEAD before the start stamp. -/
  | paenRise (c : Chain) (t : Stamp)
  /-- R194: COEX_REQ lines rise LEAD before the start stamp. -/
  | coexReqRise (c : Chain) (t : Stamp)
  /-- R177: The rising curtain begins once free, locked, granted and not inhibited. -/
  | launch (c : Chain) (grants : BitVec 4) (inhibit : Bool) (t : Stamp)
  /-- R177: S + 250 us passes before launch and the chain decides not to send. -/
  | launchDeadline (c : Chain) (grants : BitVec 4) (inhibit : Bool) (t : Stamp)
  /-- R180: The rising ramp completes and modulation begins. -/
  | risingRampComplete (c : Chain) (t : Stamp)
  /-- R180: The last modulated sample starts the falling ramp. -/
  | lastModulatedSample (c : Chain) (t : Stamp)
  /-- R169: The falling curtain ends and the chain writes its transmit end. -/
  | transmitEnd (c : Chain) (measured : Int) (t : Stamp)
  /-- R178: Lock is lost; the curtain falls and a recalibration self-test starts. -/
  | lockLost (c : Chain) (t : Stamp)
  /-- R179: The VCO recalibration after a lock loss ends: transient fault, or chain out of service. -/
  | recalibrationEnd (c : Chain) (pass : Bool) (t : Stamp)
  /-- R195: A grant falls after launch with YIELD set and the curtain falls. -/
  | preempted (c : Chain) (grants : BitVec 4) (t : Stamp)
  /-- R196: COEX_INHIBIT rises and obeying chains drop their curtains. -/
  | inhibited (t : Stamp)
  /-- R317: An edge passing its filter on a TCAP pin is stamped. -/
  | tcapEdge (pin : Fin 8) (rising : Bool) (pins : BitVec 8) (widthNs : Nat) (t : Stamp)
  /-- R319: The Stage Manager processes a pin capture into a capture event or mains timing. -/
  | pinCapture (x : PinCap)
  /-- R321: A TPULSE pin fires when its base reaches a programmed instant. -/
  | pulseFire (pin : Fin 8) (t : Stamp)
  /-- R321: A pulse's width expires and the pin returns inactive. -/
  | pulseEnd (pin : Fin 8) (t : Stamp)
  /-- R199: A latched transmit end corrects the ledger and sets its command's outcome. -/
  | transmitEndEntry (x : TxEnd)
  /-- R244: A window outcome is processed and may count as a miss. -/
  | windowOutcome (rx : Reception)
  /-- R231: Prompter 0 answers an audition request with an audition reply. -/
  | auditionRequest (rx : Reception)
  /-- R232: A join request or poll is answered with RETRY or the join response. -/
  | joinRequest (rx : Reception)
  /-- R250: A lost request is answered with an extra beacon and the node reinstated. -/
  | lostRequest (rx : Reception)
  /-- R272: A secured Data frame from a node is checked, learned and its payload forwarded. -/
  | data (rx : Reception)
  /-- R229: A node Reply to a device frame is matched to the hop frame. -/
  | reply (rx : Reception)
  /-- R216: A secured Control frame's elements are processed. -/
  | control (rx : Reception)
  /-- R257: A flood frame is taken on first sight or dropped as seen. -/
  | floodFrame (rx : Reception)
  /-- R251: A beacon from another router updates the peer table. -/
  | beacon (rx : Reception)
  /-- R273: An ETH0 frame not for PTP is classified and forwarded by Prompter 1. -/
  | eth0Frame (stamp : Stamp) (bytes : List Byte)
  /-- R446: The Box Office takes a join as an engine message and performs its cryptography. -/
  | joinHandoff (j : JoinReq)
  /-- R234: Prompter 0 takes back the Box Office result and allocates the node. -/
  | joinResult (j : JoinRes)
  /-- R277: The owning Stagehand takes a packet posted to it and delivers it to the node. -/
  | forwardedPacket (x : FwdPacket)
  /-- R258: Stagehand 0 queues a flood posted for re-sending. -/
  | floodResend (x : FloodFrame)
  /-- R144: A Prompter finds or allocates a map store entry for a built map. -/
  | mapAllocation (node : Nat) (codes : List Nat)
  /-- R556: Stagehand 0 takes a node's Tour report and updates the need map. -/
  | tourReport (x : TourRep)
  /-- R248: A node without contact beyond its supervision time becomes dormant. -/
  | supervisionTimeout (node : Nat)
  /-- R236: A joining node with no secured uplink returns to admitted or is freed. -/
  | joinTimeout (node : Nat)
  /-- R248: A node dormant for the dormant limit is freed. -/
  | dormantLimit (node : Nat)
  /-- R247: A searching node's Overture is repeated every Overture retry cues. -/
  | overtureRetry (node : Nat)
  /-- R252: An expected peer beacon is not received by 1 ms after its time. -/
  | peerBeaconMiss (i : Nat)
  /-- R252: A peer entry without beacons for the peer supervision time is released. -/
  | peerSupervisionExpiry (i : Nat)
  /-- R262: A NODE_SEND hold expires before delivery or reply. -/
  | holdExpiry (node : Nat) (id : Nat)
  /-- R254: A leaving node's hold expires and its context is freed. -/
  | leaveHoldExpiry (node : Nat)
  /-- R299: A table lock runs out at the end of Housekeeping of cue a+3. -/
  | lockExpiry
  /-- R335: A PTP Sync message is received. -/
  | sync (m : Ptp)
  /-- R335: A PTP Follow_Up is paired with its Sync. -/
  | followUp (m : Ptp)
  /-- R335: A PTP Delay_Resp completes an exchange and drives the servo. -/
  | delayResp (m : Ptp)
  /-- R331: A PTP Pdelay_Req is answered with a one-step Pdelay_Resp. -/
  | pdelayReq (m : Ptp)
  /-- R335: A PTP Pdelay_Resp is received for peer delay. -/
  | pdelayResp (m : Ptp)
  /-- R335: A PTP Pdelay_Resp_Follow_Up is received for peer delay. -/
  | pdelayRespFollowUp (m : Ptp)
  /-- R331: A PTP Announce feeds master selection. -/
  | announce (m : Ptp)
  /-- R337: The Announce receipt timeout puts TB2 in holdover, master lost. -/
  | announceReceiptTimeout
  /-- R337: No Sync for 3 Sync intervals puts TB2 in holdover. -/
  | syncTimeout
  /-- R335: A Sync not paired with its Follow_Up within 1 s is discarded. -/
  | syncPairDiscard
  /-- R337: The holdover limit is reached and TRACEABLE is cleared. -/
  | holdoverLimit
  /-- R477: A received HELLO is compared for pairing and may trigger a resync. -/
  | hello (h : Hello)
  /-- R476: Every 64 cues a member sends a HELLO. -/
  | helloDue
  /-- R478: The Understudy receives a RECORD segment of a Prompt Book record. -/
  | record (h : PairHdr) (cue : CueNo) (segment : Nat) (segments : Nat) (bytes : List Byte)
  /-- R479: The Lead receives an ACK and releases the held outputs of that cue. -/
  | ack (h : PairHdr) (cue : CueNo)
  /-- R478: The Lead resends a missing segment. -/
  | nak (h : PairHdr) (cue : CueNo) (segment : Nat)
  /-- R483: A partner digest is compared; a mismatch makes the Understudy stale and starts audits. -/
  | digest (h : PairHdr) (d : Digest)
  /-- R484: A TIME frame is answered or gives an offset sample for the pair. -/
  | time (h : PairHdr) (t1 : Stamp) (t2 : Stamp) (t3 : Stamp) (t4 : Stamp)
  /-- R500: The Lead starts streaming pair state on RESYNC. -/
  | resync (h : PairHdr)
  /-- R501: The Understudy receives swept pair state, completing a resync at its end. -/
  | sweep (h : PairHdr) (region : Nat) (offset : Nat) (words : List Word64) (last : Option PairState) (cue : CueNo)
  /-- R500: The Understudy applies forwarded writes of already-swept words. -/
  | forward (h : PairHdr) (words : List PairWord)
  /-- R483: The state audit ends with a transient or lasting fault. -/
  | stateAuditEnd (pass : Bool)
  /-- R479: Without an ACK by cue start + 1,400 us the Lead releases and marks the partner stale. -/
  | releaseDeadline
  /-- R499: No RECORD for 8 cues makes the Understudy stale. -/
  | pairLinkLost
  /-- R492: A fit Understudy senses a lead-line rise with a tick and starts leading. -/
  | promote (levelRise : Stamp) (tick : Stamp)
  /-- R492: After the gap the promoted unit takes its first live Intake and fetches rings. -/
  | firstLiveCue (i : CueIn)
  /-- R493: A Lead senses a lead-line fall, cuts its chains and restarts as Understudy. -/
  | demote (t : Stamp)
  /-- R489: A tick on LEAD_IN keeps the Director vote present. -/
  | leadInTick (widthNs : Nat)
  /-- R489: No vote for 2 own cues raises the Director-lost event. -/
  | directorLost
  /-- R490: The Director receives a heartbeat pulse from a unit. -/
  | heartbeat (unitB : Bool) (widthNs : Nat) (view : Bool) (t : Stamp)
  /-- R491: The Director's 64-cue hold after a swap ends. -/
  | directorHoldExpiry
  /-- R503: A relief pending for 64 cues without a swap lapses. -/
  | reliefLapse
  /-- R504: A due rehearsal sets a relief pending at a quiet Scene boundary. -/
  | rehearsal
  /-- R426: An engine takes an exception; FAULTED is set and a core test starts. -/
  | engineException (e : Fin 12)
  /-- R426: An engine's core test ends and the engine resumes or is retired. -/
  | coreTestEnd (e : Fin 12) (pass : Bool) (checks : Nat)
  /-- R441: A TRNG health test fails and a restart self-test begins. -/
  | trngHealthFail (test : Nat)
  /-- R441: The TRNG restart ends with a transient or lasting fault. -/
  | trngRestartEnd (pass : Bool)
  /-- R517: A journal block erase completes and paused journaling resumes. -/
  | journalEraseEnd
  /-- R520: The journal tag scan ends, a keep-restored record is written and held records numbered. -/
  | journalScanComplete (t : Stamp)
  /-- R579: The FEID read of an address ends and a module partner event completes. -/
  | moduleReadEnd (a : Fin 8) (bytes : List Byte)
  /-- R579: A latched FEID module event is processed and recorded. -/
  | moduleEvent (x : ModuleEv)
  /-- R566: VKEEP becomes good and the keep domain starts. -/
  | vkeepGood
  /-- R566: VKEEP is lost and everything is lost. -/
  | vkeepLost
  /-- R574: VIN becomes good in Keep-only and a main start begins. -/
  | vinGood (tPit : Int) (tStage : Int)
  /-- R566: VIN is lost; processing stops and the device enters Keep-only. -/
  | vinLost
  /-- R563: A rail leaves its tolerance and a system reset is taken. -/
  | railFault (rail : Fin 7)
  /-- R563: A VIO bank leaves its sensed range and a supply-fault record is left. -/
  | vioFault (bankB : Bool)
  /-- R572: RST_N held low takes a system reset. -/
  | rstN
  /-- R572: TRST_N resets the test access port. -/
  | trstN
  /-- R565: REF or a PLL is lost; processing stops and the chains are cut. -/
  | clockLost (domain : Fin 14) (t : Stamp)
  /-- R565: REF present 1 ms and PLLs relocked lead to a processing restart. -/
  | clockRecovered (t : Stamp)
  /-- R532: The ROM chooses the boot slot, verifies and loads, or enters recovery. -/
  | romStart (v : VerifyIn)
  /-- R574: Components are loaded and tested and BOOT_DONE is set. -/
  | bootDone (hashesOk : Bool) (t : Stamp)
  /-- R581: BOOT_DONE not set within 2 s of ROM start takes a system reset. -/
  | bootWatchdog
  /-- R581: No Housekeeping ended for 8 cues takes a system reset. -/
  | keepWatchdog
  /-- R581: HOST_TIMEOUT cues without KICK sets EXPIRED and may restart processing. -/
  | hostWatchdog
  /-- R575: At a cue start with BOOT_DONE and START, processing starts with state zeroed. -/
  | processingStart (x : StartIn)
  /-- R576: Processing stops, chains are cut and every engine takes its core test. -/
  | processingRestart (trigger : Fin 7)
  /-- R570: The device leaves Retention at the wake cue or on a stage-door request and resumes processing. -/
  | retentionWake (t : Stamp)
  /-- R102: A scheduled line finishes its retune at the window's start stamp and becomes ready to detect. -/
  | windowStart (n : Fin 96) (t : Stamp)
  /-- R192: PAEN_x falls, and PACTL_x returns to 0 V or LEVEL, TXx_PA_CFG.LAG after the falling curtain ends. -/
  | paenFall (c : Chain) (t : Stamp)
  /-- R334: TB2 passes 2^64 - 1 forward through its rate and the era rises by 1. -/
  | tb2Wrap
  /-- R566: In Keep-only with VIN good, both die temperatures fall below 100 C and the main start begins. -/
  | mainStartOnCooling (tPit : Int) (tStage : Int)
  /-- R476: An Ethernet link comes up; on ETH1 each member sends a HELLO at link-up. -/
  | ethLinkUp (eth1 : Bool) (speed : Nat) (session : BitVec 64)
  /-- R399: An Ethernet link goes down; frames are then discarded at the MAC and counted in PAD_ETHx_DROPS. -/
  | ethLinkDown (eth1 : Bool)
  deriving DecidableEq, Repr

end Sys2Proof
end

