-- ==== Sys2Proof/Config.lean ====
section
/-! DEFINITION. What the manual leaves open: constants without a body, so that no statement can
rest on a value. Each is named in a row of the assumption log. -/

namespace Sys2Proof.Config

/-- Number of packet buffers of the packet-buffer region (R48 gives no number). -/
opaque packetBuffers : Nat

/-- Body of the engine message with the given count of messages (R48 gives a length, no layout). -/
opaque messageBody : Nat → List (BitVec 8)

/-- Frame address of a queued request (R167 gives the field, no placement). -/
opaque frameAddr : Nat → BitVec 32

/-- A 64-bit word of a node context at bytes 0 to 63 and 120 to 127 (R283 gives bytes 64 to 119):
the model's digest of the context fields, the word index. -/
opaque contextWord : List Nat → Nat → BitVec 64

/-- Words of the seen caches, of the address table and the map store, and of the key store, whose layout in the Wings the
manual does not give: table, index, fields. -/
opaque tableWord : Nat → Nat → List Nat → BitVec 64

/-- The unstated number that an engine gives a free choice (frame sequence starts, item numbers). -/
opaque fresh : Nat → Nat

/-- HIF_Q_CFG_h as the firmware set assigns it at processing start (R385). -/
opaque queueCfg : Nat → BitVec 32

/-- Item number of a transmit request, [31:4] of its origin (R167: chosen by the engine). -/
opaque itemNumber : Nat → BitVec 32

/-- Window id of a planned listening window (R102: chosen by the engine). -/
opaque windowId : Nat → BitVec 32

/-- Ramps byte of the requests the mesh engines write (R167 gives the field, no value). -/
opaque ramps : BitVec 8

/-- A 64-bit value that the manual does not state: kind, count of free values. Kind 0: mesh time while
TB1 is not valid (R325); kind 1 the offset field of an entry without sync; kind 2 ingress context and node
of a flood from no node of this device; kind 3 audition status for a kind that is not served;
the further kinds stand in log entry 5. -/
opaque openWord : Nat → Nat → BitVec 64

/-- The downward lane carries TX-B traffic (R16 names no assignment). -/
opaque laneTxb : Nat → Bool

/-- Calibrated full scale at the RFIN ball, 0.01 dBm (R77): RF calibration tables, port, band filter, gain code. -/
opaque gainCal : Nat → Nat → Nat → Nat → Int

/-- The reported in-band power is the next 0.01 dBm above the exact sum: the rounding of R109 is open. -/
opaque bandRound : List Int → Nat → Bool

/-- A bin power over an interval whose gain changed: the powers at the ball under each gain in effect, oldest first,
and how many windows fell under each (R106). -/
opaque spotMix : List Int → List Nat → Int

/-- A bin power of a capture: port, span code, centre, stamp of the cue, bin (R111). -/
opaque captureBin : Nat → Nat → Nat → Nat → Nat → BitVec 16

/-- An ADC code of a capture: port and number of its sample period on TB0 (R111). -/
opaque captureCode : Nat → Nat → BitVec 12

/-- The header bits that soft decisions give where no code word fits the symbols: symbols, stamp (R126, R136). -/
opaque softHeader : List Nat → Nat → Nat

/-- The same for an octet of a payload: symbols, stamp, octet (R126, R137). -/
opaque softPayload : List Nat → Nat → Nat → BitVec 8

/-- Driver setting of a chain: from its RF calibration tables, the calibrated table for W_tx and the corrected target in
0.125 dB, corrected by temperature and VIN with the fused coefficients (R188). -/
opaque driver : Nat → Nat → Nat → Int → Int → Int → Int

/-- VIN at a stamp, in mV: a level of the outside world (R188). -/
opaque vinLevel : Nat → Int

/-- PA output at a PADET reading outside the points of the table, 0.25 dBm (R189, R211). -/
opaque padetOut : Nat → Int

/-- Coded bits of a SUN FSK frame sent with FEC: RSC, and the bits of header and PSDU (R118, R182). -/
opaque fskCoded : Bool → List Bool → List Bool

/-- Format of a settings item that the Stage Manager component of a bundle version writes (R550). -/
opaque settingsFormat : Nat → Nat → Nat

/-- The pair state of a snapshot record, in bytes (R502: its layout is not given). -/
opaque snapshotBytes : Nat → List (BitVec 8)

end Sys2Proof.Config
end

