-- ==== Sys2Proof/Machine/Bits.lean ====
section
/-! DEFINITION. Bytes and bit fields: little-endian packing (R3), the CRC-16 of R129, the CRC-8 of
R625, and the hash functions of R60. -/

namespace Sys2Proof.Machine

/-- The byte at offset `i`; 0 beyond the end. -/
def byteAt (l : List Byte) (i : Nat) : Nat := (l.getD i 0).toNat

/-- A little-endian number (R3). -/
def leNat (l : List Byte) : Nat :=
  match l with
  | [] => 0
  | b :: r => b.toNat + 256 * leNat r

/-- `n` bytes from offset `i`, zero beyond the end. -/
def slice (l : List Byte) (i n : Nat) : List Byte :=
  let t := (l.drop i).take n
  t ++ List.replicate (n - t.length) 0

/-- Unsigned field of `n` bytes at offset `i` (R3). -/
def uAt (l : List Byte) (i n : Nat) : Nat := leNat (slice l i n)

/-- Two's complement reading of an `n`-bit number. -/
def signed (n v : Nat) : Int :=
  if 2 ^ (n - 1) ≤ v % 2 ^ n then (v % 2 ^ n : Int) - (2 ^ n : Nat) else (v % 2 ^ n : Nat)

/-- Signed field of `n` bytes at offset `i`. -/
def sAt (l : List Byte) (i n : Nat) : Int := signed (8 * n) (uAt l i n)

/-- `n` little-endian bytes of `v` (R3). -/
def le (n v : Nat) : List Byte :=
  match n with
  | 0 => []
  | m + 1 => BitVec.ofNat 8 v :: le m (v / 256)

/-- `n` little-endian bytes of a signed number. -/
def leI (n : Nat) (v : Int) : List Byte := le n (v % ((2 ^ (8 * n) : Nat) : Int)).toNat

/-- Every byte of the `n` at offset `i` is 0. -/
def zeroAt (l : List Byte) (i n : Nat) : Bool := (slice l i n).all (· == 0)

/-- `l` padded with zeros to `n` bytes. -/
def padTo (n : Nat) (l : List Byte) : List Byte := l ++ List.replicate (n - l.length) 0

/-- `l` padded with zeros to a multiple of `k` bytes. -/
def padMul (k : Nat) (l : List Byte) : List Byte :=
  l ++ List.replicate ((k - l.length % k) % k) 0

/-- `a / b`, rounded up. -/
def ceilDiv (a b : Nat) : Nat := (a + b - 1) / b

/-- Bits [hi:lo] of a number. -/
def bits (v hi lo : Nat) : Nat := v / 2 ^ lo % 2 ^ (hi + 1 - lo)

/-- Bit `n` of a number. -/
def bit (v n : Nat) : Bool := v / 2 ^ n % 2 == 1

/-- 1 for true, 0 for false. -/
def ofBool (b : Bool) : Nat := if b then 1 else 0

/-- `l` cut into pieces of `k` (`n` pieces at most). -/
def chunksN {α : Type} (k n : Nat) (l : List α) : List (List α) :=
  match n with
  | 0 => []
  | m + 1 => if l.isEmpty then [] else l.take k :: chunksN k m (l.drop k)

/-- `l` cut into pieces of `k`. -/
def chunks {α : Type} (k : Nat) (l : List α) : List (List α) := chunksN k l.length l

/-- The 64-bit words of a byte string, the last padded with zeros. -/
def words64 (l : List Byte) : List Word64 := (chunks 8 l).map fun c => BitVec.ofNat 64 (leNat c)

/-- The 32-bit words of a byte string. -/
def words32 (l : List Byte) : List Word32 := (chunks 4 l).map fun c => BitVec.ofNat 32 (leNat c)

/-- The bytes of a list of 32-bit words. -/
def bytes32 (l : List Word32) : List Byte := l.flatMap fun w => le 4 w.toNat

/-- One bit of the reflected CRC register. -/
def crc16Bit (c : BitVec 16) : BitVec 16 :=
  if c.getLsbD 0 then (c >>> 1) ^^^ 0x8408#16 else c >>> 1

/-- The CRC register after one byte. -/
def crc16Byte (c : BitVec 16) (b : Byte) : BitVec 16 :=
  let c0 := c ^^^ b.zeroExtend 16
  crc16Bit (crc16Bit (crc16Bit (crc16Bit (crc16Bit (crc16Bit (crc16Bit (crc16Bit c0)))))))

/-- The CRC-16 of R129: reflected polynomial 0x8408, initial value 0xFFFF, no final exclusive or. -/
def crc16 (l : List Byte) : BitVec 16 := l.foldl crc16Byte 0xFFFF#16

/-- The CRC-8 register of R625, fed one bit. -/
def crc8Bit (poly c : BitVec 8) (b : Bool) : BitVec 8 :=
  if (c.getLsbD 7) ^^ b then (c <<< 1) ^^^ poly else c <<< 1

/-- The CRC-8 of R625 over bits `0` to `n - 1` of `v`, initial value 0xFF. -/
def crc8 (poly : BitVec 8) (n v : Nat) : BitVec 8 :=
  (List.range n).foldl (fun c i => crc8Bit poly c (bit v i)) 0xFF#8

/-- `mix64` of R60. -/
def mix64 (x : Word64) : Word64 :=
  let x := x ^^^ (x >>> 31)
  let x := x * 0xD6E8FEB86659FD93#64
  let x := x ^^^ (x >>> 29)
  let x := x * 0xA5CB9ED14C3AB7E5#64
  x ^^^ (x >>> 32)

/-- `word_term` of R60. -/
def wordTerm (addr : Nat) (d : Word64) : Word64 := mix64 (d ^^^ mix64 (BitVec.ofNat 64 addr))

/-- `chain` of R60. -/
def chain64 (h w : Word64) : Word64 := mix64 (h ^^^ mix64 w)

/-- `chain` over a list of words. -/
def chainAll (h : Word64) (l : List Word64) : Word64 := l.foldl chain64 h

/-- A count saturating at `m`. -/
def satAdd (m a b : Nat) : Nat := min m (a + b)

/-- Clamp to a range. -/
def clampI (lo hi v : Int) : Int := max lo (min hi v)

/-- The list with element `i` replaced; lists may be shorter. -/
def setAt {α : Type} (l : List α) (i : Nat) (v : α) : List α := l.set i v

/-- The index of the first element that satisfies `p`. -/
def findIdx {α : Type} (p : α → Bool) (l : List α) : Option Nat :=
  let i := (l.takeWhile (fun a => !p a)).length
  if i < l.length then some i else none

/-- Insert before the first element that `lt`-follows `a` (stable insertion). -/
def insertBy {α : Type} (lt : α → α → Bool) (a : α) (l : List α) : List α :=
  match l with
  | [] => [a]
  | b :: r => if lt a b then a :: b :: r else b :: insertBy lt a r

/-- Stable sort by `lt`. -/
def sortBy {α : Type} (lt : α → α → Bool) (l : List α) : List α :=
  l.foldl (fun acc a => insertBy lt a acc) []

end Sys2Proof.Machine
end

