-- ==== Sys2Proof/Machine/SMap.lean ====
section
/-! DEFINITION. Sparse maps in one canonical form: keys strictly rising, no value equal to the
default of an unlisted key, so that equal maps are equal data. -/

namespace Sys2Proof.Machine

/-- The value at key `k`; an unlisted key reads `d`. -/
def smGet {α : Type} (d : α) (m : SMap α) (k : Nat) : α :=
  match m with
  | [] => d
  | (j, v) :: r => if j = k then v else smGet d r k

/-- The map without key `k`. -/
def smDel {α : Type} (m : SMap α) (k : Nat) : SMap α := m.filter fun e => decide (e.1 ≠ k)

/-- The map with value `v` listed at key `k`. -/
def smPut {α : Type} (m : SMap α) (k : Nat) (v : α) : SMap α :=
  match m with
  | [] => [(k, v)]
  | (j, w) :: r =>
    if j = k then (k, v) :: r
    else if k < j then (k, v) :: (j, w) :: r
    else (j, w) :: smPut r k v

/-- The map with value `v` at key `k`; the default value removes the entry. -/
def smSet {α : Type} [DecidableEq α] (d : α) (m : SMap α) (k : Nat) (v : α) : SMap α :=
  if v = d then smDel m k else smPut m k v

/-- Every key of the map is above `b`. -/
def smAbove {α : Type} (b : Nat) (m : SMap α) : Bool :=
  m.all fun e => decide (b < e.1)

/-- Keys strictly rising and no value equal to the default. -/
def smWf {α : Type} [DecidableEq α] (d : α) (m : SMap α) : Bool :=
  match m with
  | [] => true
  | (k, v) :: r => decide (v ≠ d) && smAbove k r && smWf d r

/-- The map with `f` applied to the value at key `k`. -/
def smMod {α : Type} [DecidableEq α] (d : α) (m : SMap α) (k : Nat) (f : α → α) : SMap α :=
  smSet d m k (f (smGet d m k))

/-- The map with `f` applied to every listed key. -/
def smMapAll {α : Type} [DecidableEq α] (d : α) (m : SMap α) (f : Nat → α → α) : SMap α :=
  m.foldr (fun e acc => smSet d acc e.1 (f e.1 e.2)) []

/-- The keys of the map, rising. -/
def smKeys {α : Type} (m : SMap α) : List Nat := m.map Prod.fst

end Sys2Proof.Machine
end

