-- ==== Sys2Proof/Machine/State.lean ====
section
/-! DEFINITION. The state of the AMN-4100 as plain data, its faults and refusals, and the state
right after the keep power-on reset (R572). Structured machine state has a field here; every
register of the register tables that is a plain word (set-up fields, event bits, live counters) is
held in `regs`, keyed by BAR0 offset, where an unlisted offset stands at its Reset value
(`Machine.regReset`). Maps are sparse: an unlisted key stands at the default named beside it. -/

namespace Sys2Proof.Machine

/-- Faults of the block. The manual's errors are effects on the state (event bits, records,
statuses), so the only fault is an operand that names no unit of the device. -/
inductive Fault where
  /-- Raised by a command whose operand names a ring, a vector or a lane that the
  device does not have (the outside world cannot send it). Safe: the machine stops. -/
  | noSuchUnit
  deriving DecidableEq, Repr

/-- Refusals of the block. -/
inductive Refusal where
  /-- Raised by an arm of `exec` whose command has no meaning yet. Safe: the machine stops. -/
  | notModelled (mnemonic : String)
  deriving DecidableEq, Repr

/-- Power modes (R566). -/
inductive Power where
  | off
  | keepOnly
  | startup
  | full
  | quiet
  | retention
  deriving DecidableEq, Repr

/-- Phases of a cue (R34). -/
inductive Phase where
  | intake
  | work
  | publish
  | housekeeping
  deriving DecidableEq, Repr

/-- An item of an engine's work list: a command row taken by the engine, or timer work that has
no row of its own (R52). -/
inductive Item where
  | row (i : Instr)
  | held (op : Nat) (c : Sub)     -- the action of a command held for its target cue (R55)
  | beacon (slot : Nat)           -- beacon of slot plan entry (R226)
  | floodSlot (slot : Nat)        -- flood entry of the slot plan (R258)
  | window (node : Nat)           -- listening window planned (R243)
  | supervise (node : Nat)        -- supervision check (R238, R248)
  | ptpRequest                    -- PTP request of the Stage Manager (R333)
  | ecdh (j : JoinReq)            -- the Box Office's shared secret of a join (R51, R446)
  | ticket (node : Nat) (j : JoinRes)                     -- its ticket signature, for the node allocated (R445)
  | ticketed (node : Nat) (j : JoinRes) (t : List Byte)   -- the ticket handed back to Prompter 0
  | message (size : Nat)          -- an engine message with no further content
  deriving DecidableEq, Repr

/-- A completed input waiting for, or latched in, an Intake (R38, R39, R45). -/
structure Input where
  cls     : Nat
  src     : Nat
  seq     : Word32
  arrival : CueNo
  carried : Bool
  body    : List Byte
  item    : Item
  deriving DecidableEq, Repr

/-- An output of an engine waiting for Publish (R57). -/
inductive Out where
  | complete (c : Sub) (op : Nat) (status : Nat) (result : List Byte) (data : List Byte)
  | tx (r : TxReq)
  | record (r : Rec)
  | deliver (ring : Nat) (source : Nat) (reason : Nat) (node : Option Nat) (arrival : Stamp)
      (cue : CueNo) (context : Nat) (rssi : Int) (line : Nat) (packet : List Byte)
  | post (engine : Nat) (item : Item) (packet : Bool)
  | eth0 (frame : List Byte)
  | exported (bytes : List Byte)
  | window (line : Nat) (w : Window)
  deriving DecidableEq, Repr

/-- A latched Prompt Book record (R39, R45): its cue and cue start, the last processed cue, its draw and
the other entries in canonical order, and the book hash after it. -/
structure Latched where
  cue      : CueNo
  start    : Stamp
  last     : CueNo
  draw     : List Byte
  entries  : List Input
  replayed : Bool
  hash     : Word64
  bytes    : List Byte
  deriving DecidableEq, Repr

/-- One engine (R50 to R56). -/
structure Eng where
  left     : Nat := 0              -- work units left of this cue's Work budget
  hkLeft   : Nat := 0              -- work units left of the Housekeeping budget
  blocked  : Bool := false         -- an item was deferred in this cue (R53)
  paused   : Bool := false         -- core test or activation pause (R426, R541)
  retired  : Bool := false         -- R426
  deferred : List (CueNo × Item) := []  -- R53, with the cue whose Intake latched the item
  sched    : List Item := []       -- scheduled items of this cue (R52)
  messages : List (Nat × Item × Bool) := []   -- messages waiting to be posted (R48): receiver, item, packet
  draws    : Nat := 0              -- outputs of R440 taken in this cue
  dropWait : Nat := 0              -- packets dropped in this cue: 1,024 messages waited (R48)
  dropBuf  : Nat := 0              -- packets dropped in this cue: no packet buffer (R48)
  switched : Bool := false         -- runs the new image (R541)
  resume   : Bool := false         -- its core test passed: it resumes at the next cue start (R426)
  deriving DecidableEq, Repr

/-- Processing: the Cue, the Prompt Book and the digest (chapter 02). -/
structure Proc where
  cueNow     : CueNo := 0          -- CUE_NOW (R30)
  cueStart   : Stamp := 0          -- TB0 stamp of the start of the present cue
  processing : Bool := false       -- CUE_STATUS.PROCESSING
  phase      : Phase := .intake    -- CUE_STATUS.PHASE
  lag        : Nat := 0            -- CUE_STATUS.LAG
  bookMode   : Nat := 0            -- CUE_BOOK_CTL.MODE taken (R67)
  faulted    : Bool := false       -- R64
  first      : Bool := false       -- the next record is the first of processing
  procCue    : CueNo := 0          -- cue being processed
  procStart  : Stamp := 0          -- TB0 stamp of its start
  lastCue    : CueNo := 0          -- last processed cue
  hkDone     : Bool := true        -- its Housekeeping has ended
  draw       : List Byte := []     -- TRNG draw of the record (R41)
  inputs     : List Input := []    -- completed, waiting for Intake (R38)
  record     : List Input := []    -- latched record, canonical order (R39)
  recBytes   : List Byte := []     -- its bytes (R45)
  latched    : List Latched := []  -- records latched and not yet begun, oldest first (R35)
  seqs       : List (Nat × Word32) := []   -- per-source sequences, key 256 × class + source (R40)
  sceneLog2  : Nat := 10           -- Scene length in effect (R32)
  bookHash   : Word64 := 0
  outHash    : Word64 := 0
  digest     : Digest := ⟨0, 0, 0, 0, 0⟩   -- latest digest record (R58, R74)
  gapNext    : Bool := false       -- GAP is due in the next exported record (R68)
  replayed   : Bool := false       -- the record was read in replay (R69)
  held       : List Held := []     -- R55
  outs       : List (Nat × Out) := []  -- outputs waiting for Publish, with their engine
  nextDraw   : List Byte := []     -- TRNG draw of the present cue's Intake (R41)
  stopAt     : Stamp := 0          -- stamp of the last stop
  stopped    : Bool := false       -- stopped by a failed test (R576)
  itemCue    : CueNo := 0          -- cue whose Intake latched the item now taken (R384)
  sceneAt    : Option CueNo := none  -- cue whose Scene work is done (R32)
  buffers    : Nat := 0            -- packet buffers held as Work began, and taken in it (R48)
  deriving DecidableEq, Repr

/-- Detector states (R145). -/
inductive DetSt where
  | idle
  | detecting
  | frozen
  deriving DecidableEq, Repr

/-- A candidate of the preamble watch (R101, R150): its in-band power and F in 0.01 dBm, and the gain of the
second path's AGC in 0.01 dB. -/
structure Watch where
  pow   : Int
  noise : Int
  agc   : Int
  deriving DecidableEq, Repr

/-- A demodulator or FRC detector (R131, R145). -/
structure Det where
  st       : DetSt := .idle
  since    : Stamp := 0            -- when its detection was declared
  cand     : Int := 0              -- candidate power, 0.01 dBm
  agc      : Int := 0              -- main digital AGC gain, 0.01 dB (R100)
  watch    : Option Watch := none  -- preamble-watch candidate
  flags    : BitVec 16 := 0        -- metadata flags gathered so far (R155)
  arrival  : Stamp := 0
  pref     : Int := 0              -- P_ref (R149)
  rssi     : Int := 0
  snr      : Int := 0
  floor    : Int := 0
  offset   : Int := 0
  gain     : Nat := 0
  header   : Bool := false         -- the header check has passed (R146)
  hbits    : Nat := 0              -- header bits of FRC and L-OFDM
  length   : Nat := 0              -- PSDU octets that the header gives, an FRC payload without its CRC
  status   : Nat := 0              -- UNSUPPORTED or MAP_UNKNOWN found at the header
  phyInfo  : BitVec 16 := 0
  ext      : List Nat := []        -- SNR extension of an L-OFDM reception (R158)
  displaced : Nat := 0
  dispRssi : Int := -32768
  deriving DecidableEq, Repr

/-- A chorus line: the settings it has taken and its reception state (R98, R102, R145). -/
structure Line where
  en        : Bool := false
  scheduled : Bool := false
  port      : Nat := 0
  bw        : Nat := 6
  nco       : Word32 := 0x22BB645A
  agc       : Nat := 12
  pers      : BitVec 8 := 0
  captThr   : Nat := 6
  watchEn   : Bool := true
  detLevel  : Nat := 0
  tag       : BitVec 8 := 0x5A
  preMin    : Nat := 6
  sfMask    : BitVec 6 := 0x3F
  pending   : Bool := false        -- COMMIT waits (R98)
  force     : Bool := false        -- FORCE waits (R98)
  outOfBand : Bool := false        -- R97
  mismatch  : Bool := false        -- R117
  queue     : List Window := []    -- window queue (R102)
  serving   : Option Window := none
  retuning  : Bool := false
  ready     : Bool := false        -- the window's start has been reached
  dets      : SMap Det := []       -- default {}
  quietOff  : Bool := false        -- off in Quiet mode (R567)
  inv       : Int := 0             -- inverse of the gain steps since the line took its port, 0.01 dB (R83)
  lastEnd   : Option Stamp := none -- end stamp of the window entry written last (R103)
  tables    : Option Nat := none   -- Chorus tables that a roll brought (R543); none: those booted
  deriving DecidableEq, Repr

/-- A Spotlight interval (R106 to R108, R115): the view and the words of centre and span that it began with, its
cue, the gain codes in effect, oldest first, and what fell in it. -/
structure Spot where
  view   : Nat := 0
  centre : Nat := 0
  span   : Nat := 0
  cue    : CueNo := 0
  gains  : List Nat := [40]
  blank  : Bool := false
  ovl    : Bool := false
  loss   : Bool := false
  deriving DecidableEq, Repr

/-- What a Spotlight interval measured (R109, R158): its cue, centre, span code and group values. -/
structure SpotRes where
  cue    : CueNo
  centre : Nat
  span   : Nat
  groups : List Int
  deriving DecidableEq, Repr

/-- A receive port (R78 to R93). -/
structure Port where
  gain      : Nat := 40
  blankA    : Bool := false
  blankB    : Bool := false
  window    : Bool := false        -- the last cue start was a gain window
  pend      : Int := 0             -- pending wanted change; 0 none
  pendRun   : Nat := 0             -- consecutive cue starts with a pending change (R84)
  holdLeft  : Nat := 0             -- R88
  ovlCue    : Bool := false        -- an overload step in the present cue
  satCue    : Bool := false        -- saturated in the present cue
  satLast   : Bool := false        -- RXF_PORT_STATUS.SATURATED
  oos       : Bool := false        -- out of service (R16)
  quietOff  : Bool := false        -- no running line in Quiet (R567)
  cal       : Option Nat := none   -- RF calibration tables that a roll brought (R543); none: those booted
  mean      : BitVec 16 := 0x8000  -- RXF_PORT_POWER.MEAN
  clips     : Nat := 0             -- RXF_PORT_POWER.CLIPS
  lost      : Option Stamp := none -- first stamp of the sample block replaced last by zeros (R14, R627)
  spot      : Spot := {}           -- Spotlight interval under way
  spotDone  : Option Spot := none  -- interval that has ended, its summary not yet complete
  spotPrev  : Option SpotRes := none  -- what the interval before measured
  deriving DecidableEq, Repr

/-- Chain states (R180). -/
inductive ChainSt where
  | off
  | idle
  | retuning
  | calibrating
  | waiting
  | rising
  | on
  | falling
  | outOfService
  deriving DecidableEq, Repr

/-- A request's claim of COEX_REQ lines (R194): its sequence, the lines of REQ_MASK and its COEX_PRI flag. -/
structure Claim where
  seq  : Word32
  mask : BitVec 4
  pri  : Bool
  deriving DecidableEq, Repr

/-- A transmit chain (chapter 05). -/
structure Tx where
  st       : ChainSt := .off
  locked   : Bool := false
  tune     : Option Bool := none   -- a hop or recalibration has not locked yet; true with recalibration (R175, R176)
  calValid : Bool := false
  calWord  : BitVec 64 := 0        -- W_tx of the last calibration
  calTemp  : Int := 0
  recalDue : Bool := false         -- lock lost or RECAL since the last calibration (R175)
  parked   : BitVec 64 := 0        -- last W_tx
  target   : BitVec 64 := 0        -- W_tx of the retune in progress
  queue    : List TxReq := []      -- ascending start stamp (R168)
  cur      : Option TxReq := none  -- request being carried out
  hopped   : Bool := false         -- it had a retune time, at which its settings were latched (R211)
  curFlags : BitVec 8 := 0         -- transmit-end flags gathered so far
  curtain  : Stamp := 0            -- curtain start
  fallAt   : Stamp := 0            -- start of the falling curtain
  fallUs   : Nat := 0              -- its duration, µs
  forced   : Bool := false         -- the fall was forced: profile 0
  result   : Nat := 0              -- result when the falling curtain was forced
  shift    : Nat := 0              -- ticks after S of a late launch
  air      : Air := .none          -- the frame on the air (R182, R203)
  driver   : Int := 0              -- driver setting (R188)
  seq      : Word32 := 0           -- next transmit sequence (R167)
  ends     : Word32 := 0           -- transmit ends written
  corr     : SMap Int := []        -- 16 corrections, 0.125 dB, default 0 (R189)
  big      : SMap Int := []        -- segments whose last error exceeded 3 dB: 2 × measured + 1, default 0 (R191)
  measured : Option Int := none    -- last measured power
  lastSeg  : Nat := 0
  paen     : Bool := false         -- PAEN_x
  paenOf   : Option Word32 := none -- the request for which it rose
  paenFrom : Option Stamp := none  -- end of the falling curtain from which LAG counts (R192)
  claims   : List Claim := []      -- COEX_REQ lines claimed (R194)
  blank    : Bool := false         -- the chain's blank is in force
  blankOf  : Option Word32 := none -- the request for which it began
  blankPorts : BitVec 4 := 0       -- ports of the blank in force (R93)
  blankPost : Nat := 0             -- its tail, µs, as computed when it began (R93)
  blankFrom : Option Stamp := none -- stamp from which the tail counts (R91)
  test     : Bool := false         -- self-test after lock loss runs (R179)
  ledger   : List Charge := []
  shadow   : List TxReq := []      -- shadow queue (R480)
  cut      : Option Stamp := none  -- cut stamp (R208)
  cal      : Option Nat := none    -- RF calibration tables that a roll brought (R543); none: those booted
  cfg      : SMap Word32 := []     -- the registers of R211 as they took effect
  deriving DecidableEq, Repr

/-- A capture or pulse pin. -/
structure Pin where
  caps   : Nat := 0                -- captures of this cue
  lost   : Nat := 0                -- edges not captured since the last capture
  cfg    : Option Word32 := none   -- TIM_CAP_CFG_i in effect; none: reset value
  prog   : Option Pulse := none
  next   : Option (Option Pulse) := none  -- program taking effect at the next cue
  active : Bool := false           -- TPULSE in its active level
  lastCap : Option Stamp := none   -- last edge captured (R606)
  lastEdge : Option Stamp := none  -- active edge of its last pulse
  width  : Nat := 0                -- active time of that pulse, ns
  deriving DecidableEq, Repr

/-- Time (chapter 08). -/
structure Time where
  tb0    : Stamp := 0              -- TB0 (R306)
  hiPcie : Word32 := 0             -- TIM_TB0_HI latch of PCIe (R614)
  hiDoor : Word32 := 0             -- and of the stage door
  tb1    : TBase := {}
  tb2    : TBase := {}
  tb3    : TBase := {}
  ptp    : PtpC := {}
  mains  : Mains := {}
  pins   : SMap Pin := []          -- TCAPi and TPULSEi, default {}
  deriving DecidableEq, Repr

/-- A submission ring (R356, R371). -/
structure Sq where
  head  : Nat := 0
  tail  : Nat := 0
  error : Bool := false
  readFault : Bool := false
  bell  : Word32 := 0              -- last doorbell value (R368)
  flight : Nat := 0                -- entries being fetched
  deriving DecidableEq, Repr

/-- A completion ring (R356, R364, R372, R383). -/
structure Cq where
  head  : Nat := 0
  tail  : Nat := 0
  error : Bool := false
  bell  : Word32 := 0
  epoch : Nat := 0
  outst : Nat := 0                 -- outstanding commands
  pool  : List Sub := []           -- posted receive buffers, oldest first
  deriving DecidableEq, Repr

/-- The event ring (R365, R366). -/
structure EvRing where
  head  : Nat := 0
  tail  : Nat := 0
  error : Bool := false
  bell  : Word32 := 0
  lost  : Nat := 0                 -- discarded since the last events-lost record
  deriving DecidableEq, Repr

/-- A hardware queue (R385 to R391). The pointers are counted from the last reset of the queue: RP is `rp`, WP lies
`packets` words beyond it and PP `writing` words beyond that (`hwqWp`, `hwqPp`); each is held once, since a difference
of its two copies is an event (R391). -/
structure Hwq where
  rp      : Nat := 0               -- words read since the last reset of the queue
  packets : List (List Word64) := []  -- committed packets, each with its header word, oldest first (R387)
  consuming : Nat := 0             -- words of the front packet already read
  writing : List Word64 := []      -- the packet from WP to PP: a place for its header, and its body words
  skip    : Bool := false          -- the packet being written has been rewound; the rest of it is passed over
  seq     : Nat := 0               -- the producer's packet sequence (R387)
  waiting : Bool := false          -- producer waits for room (R388)
  flush   : Bool := false          -- a flush is asked
  testing : Bool := false
  quarantined : Bool := false
  resets  : Nat := 0
  high    : Bool := false
  low     : Bool := false
  highCnt : Nat := 0
  lowCnt  : Nat := 0
  deriving DecidableEq, Repr

/-- The host interface (chapter 09). -/
structure Hif where
  sq      : SMap Sq := []          -- default {}
  cq      : SMap Cq := []          -- default {}
  evr     : EvRing := {}
  hostMem : List Host.Cell := []   -- host memory as the device has written it; unlisted reads 0
  outstanding : List (Nat × Sub) := []  -- fetched commands, opcode and entry, without a completion (R372)
  fetchedBytes : Nat := 0          -- bytes waiting for the next Intake (R374)
  vecHold : SMap Bool := []        -- vector within its hold time (R395), default false
  vecDue  : SMap Bool := []        -- a message is due at the hold's end
  vecEnd  : SMap Stamp := []       -- end of the hold that its last message began, default 0
  vecSent : SMap Nat := []         -- messages sent, default 0
  vecMask : SMap Bool := []        -- MSI-X vector mask bit: listed true = unmasked; default false (masked)
  pba     : SMap Bool := []        -- pending bits
  queues  : SMap Hwq := []         -- default {}
  qcfg    : Bool := false          -- the firmware set has assigned the queues
  capture : Option Capture := none  -- CAPTURE_SPECTRUM in progress
  rr      : Nat := 0               -- next ring of the round robin
  selfTests : List (Sub × Nat × Nat) := []  -- SELFTEST_RUN in progress: its failing count, Housekeepings left (R430)
  -- stage door
  crcErr  : Bool := false
  badCmd  : Bool := false
  denied  : Bool := false
  busy    : Bool := false
  recovery : Bool := false
  window  : List (Nat × Byte) := []  -- recovery window bytes, default 0
  miso    : List Byte := []        -- bytes returned by the last transaction
  deriving DecidableEq, Repr

/-- A bank migration (R420). -/
structure Migr where
  bank  : Nat
  spare : Nat
  step  : Nat
  deriving DecidableEq, Repr

/-- The Wings and integrity (chapter 10), and the die-to-die link (R13 to R16). -/
structure Wings where
  banks   : SMap Nat := [(96, 3), (97, 3)]  -- WNG_BANK_STATE, default 0 (in service)
  map0    : Option Nat := none     -- bank S0 replaces
  map1    : Option Nat := none
  migr    : Option Migr := none
  waitMigr : List Nat := []        -- banks waiting for a migration
  corrs   : List (Nat × Nat × CueNo) := []   -- bank, row, cue of corrections (R416)
  march   : List (Nat × Nat × Nat) := []     -- bank, row, failing cells: tests planned
  poison  : List (Nat × Nat × Nat) := []     -- poisoned words: bank, row, word (R413)
  words   : SMap (Option Word64) := []  -- words that a port has written as words, by address / 8; default none
  bar4    : Word64 × Bool := (0, false) -- the last completion of a BAR4 read: the word, and its poisoned bit (R354)
  scrubRow : Nat := 0
  wakeRows : Nat := 0              -- rows left of the wake scrub pass
  laneTest : List (Bool × Nat) := []  -- lanes whose pattern test runs, true downward (R15)
  laneBad : List (Bool × Nat) := []   -- lanes with a lasting fault
  laneMap : SMap Nat := []         -- lane that carries the traffic of lane 64 × direction + n, plus 1; default 0, itself
  spareUp : Option Nat := some 32  -- lane that stands by as the spare (R13, R15)
  spareDown : Option Nat := some 4
  qtest   : List Nat := []
  portB   : Nat := 0
  lasting : Bool := false          -- an unrepaired lasting fault is recorded
  deriving DecidableEq, Repr

/-- Fuses (R435). -/
structure Fuses where
  root      : Option (List Byte) := none
  vkeys     : BitVec 4 := 0xF      -- VKEY_HASH_k programmed
  revoke    : BitVec 4 := 0
  secVer    : Nat := 0
  dbg       : BitVec 2 := 1
  dbgKeySet : Bool := true
  dbgHash   : List Byte := []
  grade     : BitVec 2 := 1
  cols      : Nat := 0
  deriving DecidableEq, Repr

/-- The Box Office (chapter 11). -/
structure Sec where
  fuses   : Fuses := {}
  keys    : Keys := {}
  keyNext : Option Keys := none    -- key store from the next cue start (R439)
  fusing  : Bool := false          -- BOX_ROOT_CTL.BUSY
  rootRef : Bool := false          -- BOX_ROOT_CTL.REFUSED
  rootKey : SMap Word32 := []      -- BOX_ROOT_KEY_i, default 0
  resp    : SMap Word32 := []      -- BOX_DBG_RESP_i
  chal    : List Byte := []
  chalUsed : Bool := true
  dbgRef  : Bool := false          -- BOX_DBG_CTL.REFUSED
  jtag    : Bool := false          -- JTAG_OPEN
  tapReset : Bool := false         -- the test access port stands at its reset
  trngOk  : Bool := false
  reserve : Nat := 0
  trngTest : Bool := false
  drawn   : Nat := 0               -- MODEL'S OWN: free values taken outside the engines
  deriving DecidableEq, Repr

/-- The plain payload of a pair frame by its type (R476). -/
inductive PairMsg where
  | hello (h : Hello)
  | record (cue : CueNo) (segment : Nat) (segments : Nat) (bytes : List Byte)
  | ack (cue : CueNo)
  | nak (cue : CueNo) (segment : Nat)
  | digest (d : Digest)
  | time (t1 : Stamp) (t2 : Stamp) (t3 : Stamp)
  | resync
  | sweep (region : Nat) (offset : Nat) (words : List Word64) (last : Bool)
  | forward (words : List PairWord)
  deriving DecidableEq, Repr

/-- A pair frame handed to ETH1: the session value and the frame counter of its header, and its payload (R474). -/
structure PairFrame where
  session : BitVec 64
  counter : Word32
  msg     : PairMsg
  deriving DecidableEq, Repr

/-- The Director's states (R491). -/
inductive DirSt where
  | start
  | none
  | leadA
  | leadB
  deriving DecidableEq, Repr

/-- What the Director has heard of one unit (R490). -/
structure DirIn where
  last  : Option Stamp := none
  width : Nat := 0                 -- last pulse, ns
  view  : Bool := false
  deriving DecidableEq, Repr

/-- Redundancy (chapter 12). -/
structure Pair where
  mode     : Nat := 0              -- UND_CTL.MODE taken (R470)
  role     : Nat := 0              -- UND_STATUS.ROLE
  linkUp   : Bool := false
  agree    : Bool := false         -- the HELLOs agree
  session  : BitVec 64 := 0        -- own session value
  txCtr    : Word32 := 0           -- own frame counter
  rxSess   : Option (BitVec 64) := none
  rxCtr    : Word32 := 0
  partner  : Nat := 0              -- partner role from its HELLO
  covered  : Bool := false         -- outputs are held for the partner (R479)
  holdOuts : List (CueNo × List Out) := []  -- outputs held for release
  held     : List (CueNo × List Byte) := []  -- records held whole, oldest first
  segs     : List (CueNo × Nat × Nat × List Byte) := []  -- segments arrived: cue, segment, segments, bytes
  naks     : List (CueNo × Nat) := []
  lastRec  : CueNo := 0            -- own cue of the last RECORD
  sentRecs : List (CueNo × List Byte) := []  -- records still in the Lead's buffer
  delta    : Int := 0              -- Δ
  samples  : List (CueNo × Int) := []        -- last 64 samples, own cue and Δ sample
  k        : Int := 0              -- K
  fixedD   : Bool := false
  hiPcie   : Word32 := 0           -- UND_OFFSET_HI latches
  hiDoor   : Word32 := 0
  leadIn   : Bool := false         -- LEAD_IN level
  tickCue  : Option CueNo := none  -- cue of the last tick
  promo    : Option (CueNo × Nat × Nat) := none  -- own cue u of the vote, records to replay, k
  demoting : Bool := false
  viewLow  : Option CueNo := none  -- relief pending since this cue
  hbOut    : Nat := 0              -- pulse of PAIR_HB_OUT at the last cue start, µs; 0 low (R487)
  forced   : Bool := false         -- a lasting fault forces a swap (R428)
  auditBad : Bool := false         -- a state audit failed: lasting fault (R483)
  lastSwap : CueNo := 0            -- cue of the last change of roles
  dueSince : Option CueNo := none
  quiet    : List Nat := []        -- entries of classes 5, 7, 8, 9 of the last 64 cues
  audit    : Bool := false
  mine     : List Digest := []     -- own digests not yet compared
  theirs   : List Digest := []     -- the partner's
  acked    : Option CueNo := none  -- newest record that the partner acknowledged
  lastHello : CueNo := 0           -- own cue of the last HELLO sent (R476)
  started  : CueNo := 0            -- own cue of the start of processing (R473)
  sweepPos : Option (Nat × Nat) := none  -- Lead: region and word of the next SWEEP frame (R500)
  sweepAgain : Bool := false       -- Lead: a sweep was abandoned; the next begins at a Scene boundary (R501)
  fwdOut   : List PairWord := []   -- Lead: changed words that wait for their FORWARD frame (R500)
  swept    : Nat := 0
  sweeping : Bool := false
  heardLead : Bool := false
  tags     : List TagEnt := []     -- tag table, oldest first
  tagNew   : List TagEnt := []     -- accepted in this cue
  fwd      : List PairWord := []   -- forwarded and swept words applied (pair state received)
  -- Director mode
  dir      : DirSt := .start
  dirCues  : Nat := 0
  dirA     : DirIn := {}
  dirB     : DirIn := {}
  lineA    : Option Bool := none   -- DIR_LEAD_A_OUT; none: high-impedance
  lineB    : Option Bool := none
  ticksA   : Nat := 0              -- ticks on line A since the Director's cue start (R488)
  ticksB   : Nat := 0
  hold     : Bool := false
  reason   : Nat := 0              -- 1 failure, 2 relief
  deriving DecidableEq, Repr

/-- A Call Board slot: sequence and the eight record words; the check is a function of them (R511). -/
structure CbSlot where
  seq   : Word32
  words : List Word32
  deriving DecidableEq, Repr

/-- The Call Board (chapter 13). -/
structure Board where
  next    : Word32 := 0
  store   : SMap (Option CbSlot) := []   -- 16,384 slots, default none (erased)
  scanned : Bool := false
  waiting : List (List Word32) := []     -- held until the scan (R520)
  dropped : Nat := 0
  jnl     : SMap (Option CbSlot) := []   -- journal slots, default none
  jnlSeq  : Word32 := 0
  paused  : Bool := false
  ahead   : Option Nat := none           -- block whose erase-ahead was last begun (R517)
  copied  : Bool := false                -- the journal was written in this cue
  erasing : Option Nat := none           -- block being erased
  lost    : Nat := 0
  snapDue : Bool := false                -- a trigger waits (R515)
  deriving DecidableEq, Repr

/-- Power, clocks, start-up (chapter 15), and pads. -/
structure Pwr where
  mode     : Power := .keepOnly
  vin      : Bool := false
  vkeep    : Bool := true
  vioStuck : Bool := false         -- a bank was outside both ranges when sensed (R596, R610)
  quietReq : Option Bool := none   -- true: Quiet, false: Full, from the next cue start
  retReq   : Option CueNo := none  -- Retention accepted in this cue (R569)
  wakeIn   : Option CueNo := none  -- processing resumes at this cue (R570)
  doorFull : Bool := false         -- stage-door REQ Full in Retention
  tPit     : Int := 0
  tStage   : Int := 0
  hot      : Bool := false
  warned   : Bool := false
  cause    : Nat := 0              -- SYS_RST_CAUSE.CAUSE
  count    : Nat := 0              -- system resets
  rom      : Bool := false         -- ROM has started; boot watchdog runs
  bootDone : Bool := false
  hostWd   : Nat := 0              -- cues since KICK
  keepWd   : Nat := 0              -- cues without an ended Housekeeping
  clocks   : BitVec 14 := 0        -- domains that lost their clock or lock (R565)
  feid     : SMap (List Byte) := []      -- descriptors by address, default []
  feidMiss : SMap Nat := []        -- consecutive scans without a descriptor
  feidSeen : SMap Bool := []       -- arrived in processing
  feidDue  : List Nat := []        -- addresses of the scan not yet read (R579)
  feidErr  : Option Nat := none    -- Scene of the last bus-error record (R577)
  eth0Up   : Bool := false
  eth1Up   : Bool := false
  speed0   : Nat := 0
  inhibit  : Bool := false         -- COEX_INHIBIT level
  restartReq : Option Nat := none  -- a processing restart is due at the next cue start: its trigger (R573)
  restarting : Bool := false       -- core tests of a restart run (R576)
  recImage : Bool := false         -- a recovery image runs (R533)
  coreTests : List Nat := []       -- engines under core test for a restart
  deriving DecidableEq, Repr

/-- The whole state of the block. -/
structure State where
  pending : List Instr := []       -- commands waiting, first in, first out
  regs    : SMap Word32 := []      -- BAR0 words by offset; default their Reset value
  proc    : Proc := {}
  engs    : SMap Eng := []         -- engines 0 to 11, default {}
  ports   : SMap Port := []        -- default {}
  lines   : SMap Line := []        -- default {}
  txa     : Tx := {}
  txb     : Tx := {}
  mesh    : Mesh := {}
  time    : Time := {}
  hif     : Hif := {}
  wings   : Wings := {}
  sec     : Sec := {}
  pair    : Pair := {}
  board   : Board := {}
  upd     : Upd := {}
  updP    : Upd := {}              -- image commands of the partner's records (R544)
  cfgs    : SMap Cfg := []         -- configuration records by type, default {} (the defaults)
  pwr     : Pwr := {}
  wire0   : List (List Byte) := [] -- frames handed to ETH0 since the cue start
  wire1   : List PairFrame := []     -- frames handed to ETH1 since the cue start
  deriving DecidableEq, Repr

/-- The machine right after the keep power-on reset (R572): VKEEP good, VIN absent, TB0 and the cue
counter 0 (R30, R306), every register at its Reset column, every table empty. The reset record of R573
(code 0xB001, source 13, LOCAL, cause 0) is held until the scan of R520. -/
def State.reset : State := { board := { waiting := [[0x010DB001, 0, 0, 0, 0, 0, 0, 0]] } }

end Sys2Proof.Machine
end

