-- ==== Sys2Proof/Machine/Regs.lean ====
section
/-! DEFINITION. The BAR0 register map (R611 to R617) and the register tables of every chapter:
offset, fields, access codes (R6), Reset column and legal encodings (R5). Each row is one register
or one numbered set of registers; bits in no field are reserved and read 0 (R4). -/

namespace Sys2Proof.Machine

/-- Access codes of R6. -/
inductive Access where
  | rw
  | ro
  | w1c
  | w1s
  | wo
  deriving DecidableEq, Repr

/-- The legal encodings of a field (R5). -/
inductive Legal where
  | any
  | range (lo hi : Nat)
  | personality            -- the codes of R116
  deriving DecidableEq, Repr

/-- A register field. -/
structure RegField where
  hi    : Nat
  lo    : Nat
  acc   : Access
  reset : Nat
  legal : Legal
  deriving DecidableEq, Repr

/-- A register or a numbered set of registers. -/
structure RegRow where
  base   : Nat
  stride : Nat
  count  : Nat
  fields : List RegField
  deriving DecidableEq, Repr

/-- Registers of the SYS_ block. -/
def regRowsSys : List RegRow := [
  -- SYS_ID (R27)
  ⟨0x0, 0, 1, [⟨15, 0, .ro, 16640, .any⟩, ⟨19, 16, .ro, 0, .any⟩, ⟨23, 20, .ro, 1, .any⟩, ⟨25, 24, .ro, 0, .any⟩]⟩,
  -- SYS_STATUS (R584)
  ⟨0x4, 0, 1, [⟨0, 0, .ro, 0, .any⟩, ⟨1, 1, .ro, 0, .any⟩]⟩,
  -- SYS_CTL (R584)
  ⟨0x8, 0, 1, [⟨0, 0, .rw, 0, .any⟩, ⟨1, 1, .wo, 0, .any⟩, ⟨2, 2, .wo, 0, .any⟩, ⟨3, 3, .wo, 0, .any⟩]⟩,
  -- SYS_RST_CAUSE (R584)
  ⟨0xC, 0, 1, [⟨3, 0, .ro, 0, .any⟩, ⟨31, 16, .ro, 0, .any⟩]⟩,
  -- SYS_FEID (R584)
  ⟨0x10, 0, 1, [⟨7, 0, .ro, 0, .any⟩, ⟨15, 8, .w1c, 0, .any⟩, ⟨16, 16, .w1c, 0, .any⟩]⟩,
  -- SYS_WDT (R584)
  ⟨0x14, 0, 1, [⟨15, 0, .rw, 0, .any⟩, ⟨16, 16, .rw, 0, .any⟩, ⟨17, 17, .wo, 0, .any⟩, ⟨18, 18, .w1c, 0, .any⟩]⟩,
  -- SYS_FEID_DESC (R584)
  ⟨0x100, 4, 64, [⟨31, 0, .ro, 0, .any⟩]⟩]

/-- Registers of the PWR_ block. -/
def regRowsPwr : List RegRow := [
  -- PWR_MODE (R585)
  ⟨0x1000, 0, 1, [⟨1, 0, .rw, 0, (.range 0 2)⟩, ⟨3, 2, .ro, 0, .any⟩, ⟨4, 4, .w1c, 0, .any⟩, ⟨11, 5, .rw, 24, (.range 1 96)⟩, ⟨12, 12, .rw, 0, .any⟩]⟩,
  -- PWR_WAKE_CUE (R585)
  ⟨0x1004, 0, 1, [⟨31, 0, .rw, 0, .any⟩]⟩,
  -- PWR_SUPPLY (R585)
  ⟨0x1008, 0, 1, [⟨0, 0, .ro, 0, .any⟩, ⟨1, 1, .ro, 0, .any⟩, ⟨2, 2, .ro, 0, .any⟩, ⟨3, 3, .ro, 0, .any⟩, ⟨4, 4, .w1c, 0, .any⟩, ⟨15, 8, .ro, 0, .any⟩]⟩,
  -- PWR_THERM (R585)
  ⟨0x100C, 0, 1, [⟨7, 0, .rw, 100, (.range 70 110)⟩, ⟨8, 8, .w1c, 0, .any⟩, ⟨9, 9, .ro, 0, .any⟩]⟩,
  -- PWR_TEMP (R585)
  ⟨0x1010, 0, 1, [⟨7, 0, .ro, 0, .any⟩, ⟨15, 8, .ro, 0, .any⟩]⟩]

/-- Registers of the CLK_ block. -/
def regRowsClk : List RegRow := [
  -- CLK_STATUS (R586)
  ⟨0x2000, 0, 1, [⟨13, 0, .ro, 0, .any⟩]⟩,
  -- CLK_EVENTS (R586)
  ⟨0x2004, 0, 1, [⟨13, 0, .w1c, 0, .any⟩]⟩]

/-- Registers of the PAD_ block. -/
def regRowsPad : List RegRow := [
  -- PAD_ETH0_CFG (R616)
  ⟨0x3000, 0, 1, [⟨0, 0, .rw, 0, .any⟩, ⟨2, 1, .rw, 0, (.range 0 2)⟩, ⟨3, 3, .rw, 1, .any⟩, ⟨11, 8, .rw, 8, (.range 0 10)⟩]⟩,
  -- PAD_ETH1_CFG (R616)
  ⟨0x3004, 0, 1, [⟨0, 0, .rw, 0, .any⟩, ⟨2, 1, .ro, 2, .any⟩, ⟨3, 3, .ro, 0, .any⟩, ⟨11, 8, .rw, 8, (.range 0 10)⟩]⟩,
  -- PAD_ETH_STATUS (R616)
  ⟨0x3008, 0, 1, [⟨0, 0, .ro, 0, .any⟩, ⟨2, 1, .ro, 0, .any⟩, ⟨3, 3, .ro, 0, .any⟩]⟩,
  -- PAD_ETH0_DROPS (R616)
  ⟨0x300C, 0, 1, [⟨31, 0, .ro, 0, .any⟩]⟩,
  -- PAD_ETH1_DROPS (R616)
  ⟨0x3010, 0, 1, [⟨31, 0, .ro, 0, .any⟩]⟩]

/-- Registers of the CUE_ block. DESIGN CHOICE (R72 calls OFFSET a multiple of 8 and says nothing of another value): a
write of CUE_BUF_HEAD or CUE_BUF_TAIL that is no multiple of 8 is stored as written. -/
def regRowsCue : List RegRow := [
  -- CUE_NOW (R72)
  ⟨0x10000, 0, 1, [⟨31, 0, .ro, 0, .any⟩]⟩,
  -- CUE_STATUS (R72)
  ⟨0x10004, 0, 1, [⟨1, 0, .ro, 0, .any⟩, ⟨3, 2, .ro, 0, .any⟩, ⟨4, 4, .ro, 0, .any⟩, ⟨5, 5, .ro, 0, .any⟩, ⟨6, 6, .ro, 0, .any⟩]⟩,
  -- CUE_SCENE (R72)
  ⟨0x10008, 0, 1, [⟨4, 0, .ro, 10, .any⟩, ⟨31, 16, .ro, 0, .any⟩]⟩,
  -- CUE_BOOK_CTL (R72)
  ⟨0x10010, 0, 1, [⟨1, 0, .rw, 0, (.range 0 2)⟩, ⟨12, 8, .rw, 20, (.range 20 30)⟩]⟩,
  -- CUE_BUF_ADDR_LO (R72)
  ⟨0x10018, 0, 1, [⟨31, 0, .rw, 0, .any⟩]⟩,
  -- CUE_BUF_ADDR_HI (R72)
  ⟨0x1001C, 0, 1, [⟨31, 0, .rw, 0, .any⟩]⟩,
  -- CUE_BUF_HEAD (R72)
  ⟨0x10020, 0, 1, [⟨30, 0, .rw, 0, .any⟩]⟩,
  -- CUE_BUF_TAIL (R72)
  ⟨0x10024, 0, 1, [⟨30, 0, .rw, 0, .any⟩]⟩,
  -- CUE_EXPORT_LOST (R72)
  ⟨0x10028, 0, 1, [⟨31, 0, .ro, 0, .any⟩]⟩,
  -- CUE_DIG_CUE (R72)
  ⟨0x10040, 0, 1, [⟨31, 0, .ro, 0, .any⟩]⟩,
  -- CUE_DIG_FLAGS (R72)
  ⟨0x10044, 0, 1, [⟨31, 0, .ro, 0, .any⟩]⟩,
  -- CUE_DIG_STATE_LO (R72)
  ⟨0x10048, 0, 1, [⟨31, 0, .ro, 0, .any⟩]⟩,
  -- CUE_DIG_STATE_HI (R72)
  ⟨0x1004C, 0, 1, [⟨31, 0, .ro, 0, .any⟩]⟩,
  -- CUE_DIG_OUT_LO (R72)
  ⟨0x10050, 0, 1, [⟨31, 0, .ro, 0, .any⟩]⟩,
  -- CUE_DIG_OUT_HI (R72)
  ⟨0x10054, 0, 1, [⟨31, 0, .ro, 0, .any⟩]⟩,
  -- CUE_DIG_BOOK_LO (R72)
  ⟨0x10058, 0, 1, [⟨31, 0, .ro, 0, .any⟩]⟩,
  -- CUE_DIG_BOOK_HI (R72)
  ⟨0x1005C, 0, 1, [⟨31, 0, .ro, 0, .any⟩]⟩,
  -- CUE_BACKLOG (R72)
  ⟨0x10080, 4, 12, [⟨23, 0, .ro, 0, .any⟩]⟩,
  -- CUE_SHED (R72)
  ⟨0x100C0, 4, 12, [⟨31, 0, .ro, 0, .any⟩]⟩]

/-- Registers of the TIM_ block. -/
def regRowsTim : List RegRow := [
  -- TIM_TB0_LO (R350)
  ⟨0x11000, 0, 1, [⟨31, 0, .ro, 0, .any⟩]⟩,
  -- TIM_TB0_HI (R350)
  ⟨0x11004, 0, 1, [⟨31, 0, .ro, 0, .any⟩]⟩,
  -- TIM_TB_STATUS (R350)
  ⟨0x11008, 0, 1, [⟨0, 0, .ro, 0, .any⟩, ⟨1, 1, .ro, 0, .any⟩, ⟨2, 2, .ro, 0, .any⟩, ⟨6, 4, .ro, 0, .any⟩, ⟨7, 7, .ro, 0, .any⟩, ⟨8, 8, .ro, 0, .any⟩]⟩,
  -- TIM_TB2_ERA (R350)
  ⟨0x1100C, 0, 1, [⟨15, 0, .ro, 0, .any⟩]⟩,
  -- TIM_STEPS (R350)
  ⟨0x11010, 0, 1, [⟨7, 0, .ro, 0, .any⟩, ⟨15, 8, .ro, 0, .any⟩, ⟨23, 16, .ro, 0, .any⟩]⟩,
  -- TIM_PTP_OFFSET (R350)
  ⟨0x11014, 0, 1, [⟨31, 0, .ro, 0, .any⟩]⟩,
  -- TIM_PTP_DELAY (R350)
  ⟨0x11018, 0, 1, [⟨31, 0, .ro, 0, .any⟩]⟩,
  -- TIM_PTP_MASTER_LO (R350)
  ⟨0x11020, 0, 1, [⟨31, 0, .ro, 0, .any⟩]⟩,
  -- TIM_PTP_MASTER_HI (R350)
  ⟨0x11024, 0, 1, [⟨31, 0, .ro, 0, .any⟩]⟩,
  -- TIM_UTC (R350)
  ⟨0x11028, 0, 1, [⟨15, 0, .ro, 0, .any⟩, ⟨16, 16, .ro, 0, .any⟩, ⟨17, 17, .ro, 0, .any⟩, ⟨18, 18, .ro, 0, .any⟩]⟩,
  -- TIM_CAP_CFG (R350)
  ⟨0x11100, 4, 8, [⟨0, 0, .rw, 0, .any⟩, ⟨2, 1, .rw, 1, (.range 1 3)⟩, ⟨15, 8, .rw, 0, .any⟩, ⟨21, 16, .rw, 4, (.range 1 63)⟩]⟩,
  -- TIM_CAP_LOST (R350)
  ⟨0x11140, 4, 8, [⟨31, 0, .ro, 0, .any⟩]⟩,
  -- TIM_PULSE_STATUS (R350)
  ⟨0x11180, 0, 1, [⟨7, 0, .ro, 0, .any⟩, ⟨15, 8, .ro, 0, .any⟩]⟩,
  -- TIM_MAINS_FREQ (R350)
  ⟨0x11190, 0, 1, [⟨31, 0, .ro, 0, .any⟩]⟩,
  -- TIM_MAINS_STATUS (R350)
  ⟨0x11194, 0, 1, [⟨0, 0, .ro, 0, .any⟩, ⟨1, 1, .ro, 0, .any⟩, ⟨31, 16, .ro, 0, .any⟩]⟩]

/-- Registers of the UND_ block. -/
def regRowsUnd : List RegRow := [
  -- UND_CTL (R508)
  ⟨0x12000, 0, 1, [⟨1, 0, .rw, 0, (.range 0 2)⟩, ⟨2, 2, .rw, 0, .any⟩]⟩,
  -- UND_STATUS (R508)
  ⟨0x12004, 0, 1, [⟨2, 0, .ro, 0, .any⟩, ⟨3, 3, .ro, 0, .any⟩, ⟨4, 4, .ro, 0, .any⟩, ⟨5, 5, .ro, 0, .any⟩, ⟨6, 6, .ro, 0, .any⟩, ⟨11, 8, .ro, 0, .any⟩, ⟨23, 16, .ro, 0, .any⟩]⟩,
  -- UND_OFFSET_LO (R508)
  ⟨0x12008, 0, 1, [⟨31, 0, .ro, 0, .any⟩]⟩,
  -- UND_OFFSET_HI (R508)
  ⟨0x1200C, 0, 1, [⟨31, 0, .ro, 0, .any⟩]⟩,
  -- UND_CUE_OFFSET (R508)
  ⟨0x12010, 0, 1, [⟨31, 0, .ro, 0, .any⟩]⟩,
  -- UND_SWAPS (R508)
  ⟨0x12014, 0, 1, [⟨7, 0, .ro, 0, .any⟩, ⟨15, 8, .ro, 0, .any⟩, ⟨23, 16, .ro, 0, .any⟩, ⟨31, 24, .ro, 0, .any⟩]⟩,
  -- UND_MISMATCH (R508)
  ⟨0x12018, 0, 1, [⟨31, 0, .ro, 0, .any⟩]⟩,
  -- UND_LINK_ERRORS (R508)
  ⟨0x1201C, 0, 1, [⟨31, 0, .ro, 0, .any⟩]⟩,
  -- UND_RESYNCS (R508)
  ⟨0x12020, 0, 1, [⟨31, 0, .ro, 0, .any⟩]⟩,
  -- UND_DIR_STATUS (R508)
  ⟨0x12024, 0, 1, [⟨2, 0, .ro, 0, .any⟩, ⟨3, 3, .ro, 0, .any⟩, ⟨4, 4, .ro, 0, .any⟩, ⟨5, 5, .ro, 0, .any⟩, ⟨6, 6, .ro, 0, .any⟩, ⟨7, 7, .ro, 0, .any⟩]⟩]

/-- Registers of the RXF_ block. -/
def regRowsRxf : List RegRow := [
  -- RXF_BLANK_MAP (R113)
  ⟨0x20000, 0, 1, [⟨3, 0, .rw, 15, .any⟩, ⟨7, 4, .rw, 15, .any⟩]⟩,
  -- RXF_BLANK_GUARD (R113)
  ⟨0x20004, 0, 1, [⟨7, 0, .rw, 10, .any⟩, ⟨15, 8, .rw, 10, .any⟩]⟩,
  -- RXF_PORT_CTL (R113)
  ⟨0x20100, 64, 4, [⟨0, 0, .rw, 0, .any⟩, ⟨2, 1, .rw, 0, (.range 0 2)⟩, ⟨3, 3, .rw, 0, .any⟩, ⟨5, 5, .wo, 0, .any⟩, ⟨13, 8, .rw, 40, (.range 0 60)⟩]⟩,
  -- RXF_GAIN_CFG (R113)
  ⟨0x20104, 64, 4, [⟨7, 0, .rw, 30, (.range 20 50)⟩, ⟨11, 8, .rw, 3, (.range 1 10)⟩, ⟨15, 12, .rw, 2, (.range 1 6)⟩, ⟨19, 16, .rw, 6, (.range 1 12)⟩, ⟨31, 20, .rw, 256, .any⟩]⟩,
  -- RXF_OVL_CFG (R113)
  ⟨0x20108, 64, 4, [⟨0, 0, .rw, 1, .any⟩, ⟨15, 8, .rw, 8, (.range 1 255)⟩, ⟨23, 16, .rw, 8, .any⟩]⟩,
  -- RXF_PORT_STATUS (R113)
  ⟨0x20110, 64, 4, [⟨5, 0, .ro, 40, .any⟩, ⟨6, 6, .ro, 0, .any⟩, ⟨7, 7, .ro, 0, .any⟩, ⟨14, 8, .ro, 0, .any⟩, ⟨15, 15, .ro, 0, .any⟩, ⟨16, 16, .ro, 0, .any⟩, ⟨17, 17, .ro, 0, .any⟩]⟩,
  -- RXF_PORT_POWER (R113)
  ⟨0x20114, 64, 4, [⟨15, 0, .ro, 32768, .any⟩, ⟨31, 16, .ro, 0, .any⟩]⟩,
  -- RXF_OVL_STEPS (R113)
  ⟨0x20118, 64, 4, [⟨31, 0, .ro, 0, .any⟩]⟩,
  -- RXF_EVENTS (R113)
  ⟨0x2011C, 64, 4, [⟨0, 0, .w1c, 0, .any⟩, ⟨1, 1, .w1c, 0, .any⟩, ⟨2, 2, .w1c, 0, .any⟩, ⟨3, 3, .w1c, 0, .any⟩, ⟨4, 4, .w1c, 0, .any⟩]⟩]

/-- Registers of the CHR_ block. -/
def regRowsChr : List RegRow := [
  -- CHR_LINE_CTL (R114)
  ⟨0x22000, 32, 96, [⟨0, 0, .rw, 0, .any⟩, ⟨1, 1, .rw, 0, .any⟩, ⟨3, 2, .rw, 0, .any⟩, ⟨7, 4, .rw, 6, .any⟩, ⟨8, 8, .wo, 0, .any⟩, ⟨9, 9, .wo, 0, .any⟩]⟩,
  -- CHR_LINE_NCO (R114)
  ⟨0x22004, 32, 96, [⟨31, 0, .rw, 582706266, (.range 100663296 1811939328)⟩]⟩,
  -- CHR_LINE_AGC (R114)
  ⟨0x22008, 32, 96, [⟨4, 0, .rw, 12, (.range 6 24)⟩]⟩,
  -- CHR_LINE_STATUS (R114)
  ⟨0x2200C, 32, 96, [⟨2, 0, .ro, 0, .any⟩, ⟨3, 3, .ro, 0, .any⟩, ⟨4, 4, .ro, 0, .any⟩, ⟨12, 8, .ro, 0, .any⟩, ⟨23, 16, .ro, 0, .any⟩]⟩,
  -- CHR_SPOT_CTL (R114)
  ⟨0x23000, 64, 4, [⟨1, 0, .rw, 0, .any⟩]⟩,
  -- CHR_SPOT_VIEW_0_C (R114)
  ⟨0x23010, 8, 4, [⟨31, 0, .rw, 0, .any⟩]⟩,
  -- CHR_SPOT_VIEW_0_S (R114)
  ⟨0x23014, 8, 4, [⟨3, 0, .rw, 0, (.range 0 10)⟩]⟩,
  -- CHR_SPOT_VIEW_1_C (R114)
  ⟨0x23050, 8, 4, [⟨31, 0, .rw, 0, .any⟩]⟩,
  -- CHR_SPOT_VIEW_1_S (R114)
  ⟨0x23054, 8, 4, [⟨3, 0, .rw, 0, (.range 0 10)⟩]⟩,
  -- CHR_SPOT_VIEW_2_C (R114)
  ⟨0x23090, 8, 4, [⟨31, 0, .rw, 0, .any⟩]⟩,
  -- CHR_SPOT_VIEW_2_S (R114)
  ⟨0x23094, 8, 4, [⟨3, 0, .rw, 0, (.range 0 10)⟩]⟩,
  -- CHR_SPOT_VIEW_3_C (R114)
  ⟨0x230D0, 8, 4, [⟨31, 0, .rw, 0, .any⟩]⟩,
  -- CHR_SPOT_VIEW_3_S (R114)
  ⟨0x230D4, 8, 4, [⟨3, 0, .rw, 0, (.range 0 10)⟩]⟩]

/-- Registers of the DEM_ block. -/
def regRowsDem : List RegRow := [
  -- DEM_LINE_CFG (R165)
  ⟨0x24000, 16, 96, [⟨7, 0, .rw, 0, .personality⟩, ⟨11, 8, .rw, 6, (.range 3 15)⟩, ⟨12, 12, .rw, 1, .any⟩, ⟨18, 16, .rw, 0, .any⟩]⟩,
  -- DEM_FRC_CFG (R165)
  ⟨0x24004, 16, 96, [⟨7, 0, .rw, 90, .any⟩, ⟨13, 8, .rw, 6, (.range 4 8)⟩, ⟨21, 16, .rw, 63, (.range 1 63)⟩]⟩,
  -- DEM_LINE_STATUS (R165)
  ⟨0x24008, 16, 96, [⟨0, 0, .ro, 0, .any⟩, ⟨6, 1, .ro, 0, .any⟩, ⟨7, 7, .ro, 0, .any⟩]⟩,
  -- DEM_LINE_CNT (R165)
  ⟨0x2400C, 16, 96, [⟨15, 0, .ro, 0, .any⟩, ⟨31, 16, .ro, 0, .any⟩]⟩]

/-- Registers of the TX_ block. -/
def regRowsTx : List RegRow := [
  -- TX_CTL (R211)
  ⟨0x26000, 4096, 2, [⟨0, 0, .rw, 0, .any⟩, ⟨1, 1, .wo, 0, .any⟩]⟩,
  -- TX_STATUS (R211)
  ⟨0x26004, 4096, 2, [⟨3, 0, .ro, 0, .any⟩, ⟨4, 4, .ro, 0, .any⟩, ⟨5, 5, .ro, 0, .any⟩, ⟨12, 6, .ro, 0, .any⟩]⟩,
  -- TX_PA_CFG (R211)
  ⟨0x26008, 4096, 2, [⟨1, 0, .rw, 0, (.range 0 2)⟩, ⟨9, 2, .rw, 0, (.range 0 160)⟩, ⟨15, 10, .rw, 5, .any⟩, ⟨21, 16, .rw, 2, .any⟩, ⟨29, 22, .rw, 0, .any⟩]⟩,
  -- TX_PA_CTL (R211)
  ⟨0x2600C, 4096, 2, [⟨9, 0, .rw, 0, .any⟩, ⟨10, 10, .rw, 0, .any⟩]⟩,
  -- TX_COEX_CFG (R211)
  ⟨0x26010, 4096, 2, [⟨3, 0, .rw, 0, .any⟩, ⟨7, 4, .rw, 0, .any⟩, ⟨15, 8, .rw, 20, .any⟩, ⟨16, 16, .rw, 1, .any⟩, ⟨17, 17, .rw, 1, .any⟩]⟩,
  -- TX_PWR_STATUS (R211)
  ⟨0x26014, 4096, 2, [⟨15, 0, .ro, 32768, .any⟩, ⟨23, 16, .ro, 0, .any⟩]⟩,
  -- TX_LEDGER_CFG (R211)
  ⟨0x26018, 4096, 2, [⟨0, 0, .rw, 0, .any⟩, ⟨5, 1, .rw, 9, (.range 0 16)⟩, ⟨31, 8, .rw, 0, .any⟩]⟩,
  -- TX_EVENTS (R211)
  ⟨0x2601C, 4096, 2, [⟨0, 0, .w1c, 0, .any⟩, ⟨1, 1, .w1c, 0, .any⟩, ⟨2, 2, .w1c, 0, .any⟩, ⟨3, 3, .w1c, 0, .any⟩, ⟨4, 4, .w1c, 0, .any⟩, ⟨5, 5, .w1c, 0, .any⟩]⟩]

/-- Registers of the TXA_ block. -/
def regRowsTxa : List RegRow := [
  -- TXA_PADET_CAL (R211)
  ⟨0x26040, 4, 8, [⟨11, 0, .rw, 0, .any⟩, ⟨31, 16, .rw, 0, .any⟩]⟩,
  -- TXA_RAMP_TAB (R211)
  ⟨0x26080, 4, 32, [⟨15, 0, .rw, 0, .any⟩, ⟨31, 16, .rw, 0, .any⟩]⟩,
  -- TXA_SUB_LO (R211)
  ⟨0x26100, 16, 16, [⟨21, 0, .rw, 0, .any⟩]⟩,
  -- TXA_SUB_HI (R211)
  ⟨0x26104, 16, 16, [⟨21, 0, .rw, 0, .any⟩, ⟨31, 31, .rw, 0, .any⟩]⟩,
  -- TXA_SUB_LIM (R211)
  ⟨0x26108, 16, 16, [⟨26, 0, .rw, 0, .any⟩, ⟨31, 27, .rw, 16, (.range 0 16)⟩]⟩,
  -- TXA_SUB_USED (R211)
  ⟨0x2610C, 16, 16, [⟨31, 0, .ro, 0, .any⟩]⟩]

/-- Registers of the TXB_ block. -/
def regRowsTxb : List RegRow := [
  -- TXB_PADET_CAL (R211)
  ⟨0x27040, 4, 8, [⟨11, 0, .rw, 0, .any⟩, ⟨31, 16, .rw, 0, .any⟩]⟩,
  -- TXB_RAMP_TAB (R211)
  ⟨0x27080, 4, 32, [⟨15, 0, .rw, 0, .any⟩, ⟨31, 16, .rw, 0, .any⟩]⟩,
  -- TXB_SUB_LO (R211)
  ⟨0x27100, 16, 16, [⟨21, 0, .rw, 0, .any⟩]⟩,
  -- TXB_SUB_HI (R211)
  ⟨0x27104, 16, 16, [⟨21, 0, .rw, 0, .any⟩, ⟨31, 31, .rw, 0, .any⟩]⟩,
  -- TXB_SUB_LIM (R211)
  ⟨0x27108, 16, 16, [⟨26, 0, .rw, 0, .any⟩, ⟨31, 27, .rw, 16, (.range 0 16)⟩]⟩,
  -- TXB_SUB_USED (R211)
  ⟨0x2710C, 16, 16, [⟨31, 0, .ro, 0, .any⟩]⟩]

/-- Registers of the MAC_ block. -/
def regRowsMac : List RegRow := [
  -- MAC_NODES (R271)
  ⟨0x30000, 0, 1, [⟨17, 0, .ro, 0, .any⟩]⟩,
  -- MAC_GRAND (R271)
  ⟨0x30004, 0, 1, [⟨17, 0, .ro, 0, .any⟩]⟩,
  -- MAC_PAN (R271)
  ⟨0x30010, 4, 8, [⟨12, 0, .ro, 0, .any⟩]⟩,
  -- MAC_JOIN_REFUSED (R271)
  ⟨0x30030, 0, 1, [⟨31, 0, .ro, 0, .any⟩]⟩,
  -- MAC_DROPPED (R271)
  ⟨0x30034, 0, 1, [⟨31, 0, .ro, 0, .any⟩]⟩,
  -- MAC_FLOOD_SEEN (R271)
  ⟨0x30038, 0, 1, [⟨31, 0, .ro, 0, .any⟩]⟩,
  -- MAC_WINDOW_SKIPS (R271)
  ⟨0x3003C, 0, 1, [⟨31, 0, .ro, 0, .any⟩]⟩,
  -- MAC_PEERS (R271)
  ⟨0x30040, 0, 1, [⟨5, 0, .ro, 0, .any⟩, ⟨13, 8, .ro, 0, .any⟩]⟩]

/-- Registers of the FWD_ block. -/
def regRowsFwd : List RegRow := [
  -- FWD_LPM_USED (R305)
  ⟨0x31000, 0, 1, [⟨13, 0, .ro, 0, .any⟩]⟩,
  -- FWD_LPM_WRITES (R305)
  ⟨0x31004, 0, 1, [⟨31, 0, .ro, 0, .any⟩]⟩,
  -- FWD_LPM_DOWN (R305)
  ⟨0x31008, 0, 1, [⟨31, 0, .ro, 0, .any⟩]⟩,
  -- FWD_LOCKS (R305)
  ⟨0x31010, 0, 1, [⟨0, 0, .ro, 0, .any⟩, ⟨15, 8, .ro, 0, .any⟩, ⟨23, 16, .ro, 0, .any⟩]⟩,
  -- FWD_DROPPED (R305)
  ⟨0x31020, 0, 1, [⟨31, 0, .ro, 0, .any⟩]⟩,
  -- FWD_HOPLIMIT (R305)
  ⟨0x31024, 0, 1, [⟨31, 0, .ro, 0, .any⟩]⟩,
  -- FWD_DELIVERY_FAILED (R305)
  ⟨0x31028, 0, 1, [⟨31, 0, .ro, 0, .any⟩]⟩,
  -- FWD_LEARN_SKIPPED (R305)
  ⟨0x3102C, 0, 1, [⟨31, 0, .ro, 0, .any⟩]⟩,
  -- FWD_FLAPS (R305)
  ⟨0x31030, 0, 1, [⟨31, 0, .ro, 0, .any⟩]⟩]

/-- Registers of the WNG_ block. -/
def regRowsWng : List RegRow := [
  -- WNG_STATUS (R433)
  ⟨0x32000, 0, 1, [⟨10, 0, .ro, 0, .any⟩, ⟨11, 11, .ro, 0, .any⟩, ⟨12, 12, .ro, 0, .any⟩, ⟨31, 16, .ro, 0, .any⟩]⟩,
  -- WNG_SPARE_MAP (R433)
  ⟨0x32004, 0, 1, [⟨6, 0, .ro, 0, .any⟩, ⟨7, 7, .ro, 0, .any⟩, ⟨14, 8, .ro, 0, .any⟩, ⟨15, 15, .ro, 0, .any⟩, ⟨21, 16, .ro, 0, .any⟩]⟩,
  -- WNG_CORR (R433)
  ⟨0x32008, 0, 1, [⟨31, 0, .ro, 0, .any⟩]⟩,
  -- WNG_UNCORR (R433)
  ⟨0x3200C, 0, 1, [⟨31, 0, .ro, 0, .any⟩]⟩,
  -- WNG_COLLISIONS (R433)
  ⟨0x32010, 0, 1, [⟨31, 0, .ro, 0, .any⟩]⟩,
  -- WNG_ERR_ADDR (R433)
  ⟨0x32014, 0, 1, [⟨31, 0, .ro, 0, .any⟩]⟩,
  -- WNG_ERR_INFO (R433)
  ⟨0x32018, 0, 1, [⟨6, 0, .ro, 0, .any⟩, ⟨17, 7, .ro, 0, .any⟩, ⟨21, 18, .ro, 0, .any⟩, ⟨28, 22, .ro, 0, .any⟩, ⟨29, 29, .ro, 0, .any⟩, ⟨30, 30, .ro, 0, .any⟩]⟩,
  -- WNG_FAULTS (R433)
  ⟨0x3201C, 0, 1, [⟨15, 0, .ro, 0, .any⟩, ⟨31, 16, .ro, 0, .any⟩]⟩,
  -- WNG_BANK_STATE (R433)
  ⟨0x32040, 4, 7, [⟨31, 0, .ro, 0, .any⟩]⟩]

/-- Registers of the BOX_ block. -/
def regRowsBox : List RegRow := [
  -- BOX_STATUS (R469)
  ⟨0x33000, 0, 1, [⟨1, 0, .ro, 0, .any⟩, ⟨2, 2, .ro, 0, .any⟩, ⟨3, 3, .ro, 0, .any⟩, ⟨4, 4, .ro, 0, .any⟩, ⟨5, 5, .ro, 0, .any⟩, ⟨15, 8, .ro, 0, .any⟩]⟩,
  -- BOX_FUSES (R469)
  ⟨0x33004, 0, 1, [⟨6, 0, .ro, 0, .any⟩, ⟨11, 8, .ro, 0, .any⟩, ⟨15, 12, .ro, 0, .any⟩, ⟨16, 16, .ro, 0, .any⟩]⟩,
  -- BOX_ROOT_CHECK (R469)
  ⟨0x33008, 0, 1, [⟨31, 0, .ro, 0, .any⟩]⟩,
  -- BOX_ROOT_CTL (R469)
  ⟨0x3300C, 0, 1, [⟨0, 0, .wo, 0, .any⟩, ⟨1, 1, .ro, 0, .any⟩, ⟨2, 2, .w1c, 0, .any⟩]⟩,
  -- BOX_ROOT_KEY (R469)
  ⟨0x33010, 4, 4, [⟨31, 0, .wo, 0, .any⟩]⟩,
  -- BOX_DBG_CHAL (R469)
  ⟨0x33040, 4, 8, [⟨31, 0, .ro, 0, .any⟩]⟩,
  -- BOX_DBG_RESP (R469)
  ⟨0x33080, 4, 32, [⟨31, 0, .wo, 0, .any⟩]⟩,
  -- BOX_DBG_CTL (R469)
  ⟨0x33100, 0, 1, [⟨0, 0, .wo, 0, .any⟩, ⟨1, 1, .wo, 0, .any⟩, ⟨2, 2, .w1c, 0, .any⟩]⟩,
  -- BOX_MIC_FAIL (R469)
  ⟨0x33110, 0, 1, [⟨31, 0, .ro, 0, .any⟩]⟩,
  -- BOX_REPLAY (R469)
  ⟨0x33114, 0, 1, [⟨31, 0, .ro, 0, .any⟩]⟩,
  -- BOX_CRED_FAIL (R469)
  ⟨0x33118, 0, 1, [⟨31, 0, .ro, 0, .any⟩]⟩]

/-- Registers of the UPD_ block. -/
def regRowsUpd : List RegRow := [
  -- UPD_STATUS (R560)
  ⟨0x34000, 0, 1, [⟨0, 0, .ro, 0, .any⟩, ⟨1, 1, .ro, 0, .any⟩, ⟨3, 2, .ro, 0, .any⟩, ⟨4, 4, .ro, 0, .any⟩, ⟨5, 5, .ro, 0, .any⟩, ⟨6, 6, .ro, 0, .any⟩, ⟨10, 7, .ro, 0, .any⟩, ⟨11, 11, .ro, 0, .any⟩]⟩,
  -- UPD_SEL_SEQ (R560)
  ⟨0x34004, 0, 1, [⟨31, 0, .ro, 0, .any⟩]⟩,
  -- UPD_BUNDLE (R560)
  ⟨0x34008, 0, 1, [⟨31, 0, .ro, 0, .any⟩]⟩,
  -- UPD_CLASS (R560)
  ⟨0x3400C, 0, 1, [⟨31, 0, .ro, 0, .any⟩]⟩,
  -- UPD_STAGED_LEN (R560)
  ⟨0x34010, 0, 1, [⟨31, 0, .ro, 0, .any⟩]⟩,
  -- UPD_TOUR (R560)
  ⟨0x34014, 0, 1, [⟨7, 0, .ro, 0, .any⟩, ⟨15, 8, .ro, 0, .any⟩]⟩]

/-- Registers of the HIF_ block. -/
def regRowsHif : List RegRow := [
  -- HIF_ERR (R402)
  ⟨0x40000, 0, 1, [⟨0, 0, .w1c, 0, .any⟩, ⟨1, 1, .w1c, 0, .any⟩, ⟨2, 2, .w1c, 0, .any⟩]⟩,
  -- HIF_DBG_WIN (R402)
  ⟨0x40004, 0, 1, [⟨1, 0, .rw, 0, (.range 0 2)⟩]⟩,
  -- HIF_EQ_BASE_LO (R402)
  ⟨0x40010, 0, 1, [⟨31, 12, .rw, 0, .any⟩]⟩,
  -- HIF_EQ_BASE_HI (R402)
  ⟨0x40014, 0, 1, [⟨31, 0, .rw, 0, .any⟩]⟩,
  -- HIF_EQ_CFG (R402)
  ⟨0x40018, 0, 1, [⟨0, 0, .rw, 0, .any⟩, ⟨5, 1, .rw, 6, (.range 6 16)⟩]⟩,
  -- HIF_EQ_STATUS (R402)
  ⟨0x4001C, 0, 1, [⟨16, 0, .ro, 0, .any⟩, ⟨17, 17, .ro, 0, .any⟩]⟩,
  -- HIF_EQ_WB_LO (R402)
  ⟨0x40020, 0, 1, [⟨31, 2, .rw, 0, .any⟩]⟩,
  -- HIF_EQ_WB_HI (R402)
  ⟨0x40024, 0, 1, [⟨31, 0, .rw, 0, .any⟩]⟩,
  -- HIF_EQ_LOST (R402)
  ⟨0x40028, 0, 1, [⟨31, 0, .ro, 0, .any⟩]⟩,
  -- HIF_EV_MASK (R402)
  ⟨0x40100, 4, 16, [⟨15, 0, .rw, 0, .any⟩]⟩,
  -- HIF_EV_VEC (R402)
  ⟨0x40140, 4, 16, [⟨5, 0, .rw, 0, .any⟩]⟩,
  -- HIF_VEC_HOLD (R402)
  ⟨0x40200, 4, 64, [⟨7, 0, .rw, 0, .any⟩]⟩,
  -- HIF_SQ_BASE_LO (R402)
  ⟨0x41000, 32, 64, [⟨31, 12, .rw, 0, .any⟩]⟩,
  -- HIF_SQ_BASE_HI (R402)
  ⟨0x41004, 32, 64, [⟨31, 0, .rw, 0, .any⟩]⟩,
  -- HIF_SQ_CFG (R402)
  ⟨0x41008, 32, 64, [⟨0, 0, .rw, 0, .any⟩, ⟨5, 1, .rw, 4, (.range 4 12)⟩, ⟨9, 6, .rw, 3, .any⟩]⟩,
  -- HIF_SQ_STATUS (R402)
  ⟨0x4100C, 32, 64, [⟨16, 0, .ro, 0, .any⟩, ⟨17, 17, .ro, 0, .any⟩, ⟨18, 18, .ro, 0, .any⟩]⟩,
  -- HIF_CQ_BASE_LO (R402)
  ⟨0x42000, 32, 64, [⟨31, 12, .rw, 0, .any⟩]⟩,
  -- HIF_CQ_BASE_HI (R402)
  ⟨0x42004, 32, 64, [⟨31, 0, .rw, 0, .any⟩]⟩,
  -- HIF_CQ_CFG (R402)
  ⟨0x42008, 32, 64, [⟨0, 0, .rw, 0, .any⟩, ⟨5, 1, .rw, 4, (.range 4 12)⟩, ⟨15, 10, .rw, 0, .any⟩]⟩,
  -- HIF_CQ_STATUS (R402)
  ⟨0x4200C, 32, 64, [⟨16, 0, .ro, 0, .any⟩, ⟨17, 17, .ro, 0, .any⟩, ⟨25, 19, .ro, 0, .any⟩]⟩,
  -- HIF_CQ_CREDIT (R402)
  ⟨0x42010, 32, 64, [⟨12, 0, .ro, 0, .any⟩, ⟨28, 16, .ro, 0, .any⟩]⟩,
  -- HIF_RX_DROPPED (R402)
  ⟨0x42014, 32, 64, [⟨31, 0, .ro, 0, .any⟩]⟩,
  -- HIF_CQ_DISCARDS (R402)
  ⟨0x42018, 32, 64, [⟨31, 0, .ro, 0, .any⟩]⟩,
  -- HIF_Q_CFG (R402)
  ⟨0x44000, 32, 256, [⟨16, 0, .ro, 0, .any⟩, ⟨20, 17, .ro, 0, .any⟩, ⟨21, 21, .ro, 0, .any⟩, ⟨22, 22, .ro, 0, .any⟩, ⟨27, 24, .ro, 0, .any⟩, ⟨31, 28, .ro, 0, .any⟩]⟩,
  -- HIF_Q_WM (R402)
  ⟨0x44004, 32, 256, [⟨15, 0, .rw, 0, .any⟩, ⟨31, 16, .rw, 0, .any⟩]⟩,
  -- HIF_Q_STATUS (R402)
  ⟨0x44008, 32, 256, [⟨16, 0, .ro, 0, .any⟩, ⟨17, 17, .ro, 0, .any⟩, ⟨18, 18, .ro, 0, .any⟩, ⟨31, 24, .ro, 0, .any⟩]⟩,
  -- HIF_Q_NOTICE (R402)
  ⟨0x4400C, 32, 256, [⟨0, 0, .w1c, 0, .any⟩, ⟨1, 1, .w1c, 0, .any⟩, ⟨2, 2, .wo, 0, .any⟩, ⟨15, 8, .ro, 0, .any⟩, ⟨23, 16, .ro, 0, .any⟩]⟩,
  -- HIF_Q_DROPS (R402)
  ⟨0x44010, 32, 256, [⟨31, 0, .ro, 0, .any⟩]⟩]

/-- Registers of the MSIX_ block. -/
def regRowsMsix : List RegRow := [
  -- MSIX_TABLE (R613)
  ⟨0x48000, 4, 256, [⟨31, 0, .rw, 0, .any⟩]⟩,
  -- MSIX_PBA (R613)
  ⟨0x49000, 4, 2, [⟨31, 0, .ro, 0, .any⟩]⟩]

/-- Registers of the CBD_ block. -/
def regRowsCbd : List RegRow := [
  -- CBD_NEXT_SEQ (R527)
  ⟨0x200000, 0, 1, [⟨31, 0, .ro, 0, .any⟩]⟩,
  -- CBD_JNL_SEQ (R527)
  ⟨0x200004, 0, 1, [⟨31, 0, .ro, 0, .any⟩]⟩,
  -- CBD_JNL_OLDEST (R527)
  ⟨0x200008, 0, 1, [⟨31, 0, .ro, 0, .any⟩]⟩,
  -- CBD_STATUS (R527)
  ⟨0x20000C, 0, 1, [⟨0, 0, .ro, 0, .any⟩, ⟨1, 1, .ro, 0, .any⟩, ⟨2, 2, .ro, 0, .any⟩]⟩,
  -- CBD_LOST (R527)
  ⟨0x200010, 0, 1, [⟨31, 0, .ro, 0, .any⟩]⟩,
  -- CBD_HELD_DROPPED (R527)
  ⟨0x200014, 0, 1, [⟨31, 0, .ro, 0, .any⟩]⟩,
  -- CBD_SNAP_BASE (R527)
  ⟨0x200020, 0, 1, [⟨23, 2, .rw, 0, .any⟩]⟩,
  -- CBD_SNAP_CTL (R527)
  ⟨0x200024, 0, 1, [⟨6, 0, .rw, 6, (.range 1 96)⟩, ⟨8, 8, .wo, 0, .any⟩]⟩,
  -- CBD_SLOT (R527)
  ⟨0x300000, 4, 262144, [⟨31, 0, .ro, 0, .any⟩]⟩]

/-- Every register row of BAR0. -/
def regRows : List RegRow :=
  regRowsSys ++ regRowsPwr ++ regRowsClk ++ regRowsPad ++ regRowsCue ++ regRowsTim ++ regRowsUnd ++ regRowsRxf ++ regRowsChr ++ regRowsDem ++ regRowsTx ++ regRowsTxa ++ regRowsTxb ++ regRowsMac ++ regRowsFwd ++ regRowsWng ++ regRowsBox ++ regRowsUpd ++ regRowsHif ++ regRowsMsix ++ regRowsCbd

/-- Offsets of the registers the machine uses by name (first of a numbered set). -/
abbrev rSysId : Nat := 0x0
abbrev rSysStatus : Nat := 0x4
abbrev rSysCtl : Nat := 0x8
abbrev rSysRstCause : Nat := 0xC
abbrev rSysFeid : Nat := 0x10
abbrev rSysWdt : Nat := 0x14
abbrev rSysFeidDesc : Nat := 0x100
abbrev rPwrMode : Nat := 0x1000
abbrev rPwrWakeCue : Nat := 0x1004
abbrev rPwrSupply : Nat := 0x1008
abbrev rPwrTherm : Nat := 0x100C
abbrev rPwrTemp : Nat := 0x1010
abbrev rClkStatus : Nat := 0x2000
abbrev rClkEvents : Nat := 0x2004
abbrev rPadEth0Cfg : Nat := 0x3000
abbrev rPadEth1Cfg : Nat := 0x3004
abbrev rPadEthStatus : Nat := 0x3008
abbrev rPadEth0Drops : Nat := 0x300C
abbrev rPadEth1Drops : Nat := 0x3010
abbrev rCueNow : Nat := 0x10000
abbrev rCueStatus : Nat := 0x10004
abbrev rCueScene : Nat := 0x10008
abbrev rCueBookCtl : Nat := 0x10010
abbrev rCueBufAddrLo : Nat := 0x10018
abbrev rCueBufAddrHi : Nat := 0x1001C
abbrev rCueBufHead : Nat := 0x10020
abbrev rCueBufTail : Nat := 0x10024
abbrev rCueExportLost : Nat := 0x10028
abbrev rCueDigCue : Nat := 0x10040
abbrev rCueDigFlags : Nat := 0x10044
abbrev rCueDigStateLo : Nat := 0x10048
abbrev rCueDigStateHi : Nat := 0x1004C
abbrev rCueDigOutLo : Nat := 0x10050
abbrev rCueDigOutHi : Nat := 0x10054
abbrev rCueDigBookLo : Nat := 0x10058
abbrev rCueDigBookHi : Nat := 0x1005C
abbrev rCueBacklog : Nat := 0x10080
abbrev rCueShed : Nat := 0x100C0
abbrev rTimTb0Lo : Nat := 0x11000
abbrev rTimTb0Hi : Nat := 0x11004
abbrev rTimTbStatus : Nat := 0x11008
abbrev rTimTb2Era : Nat := 0x1100C
abbrev rTimSteps : Nat := 0x11010
abbrev rTimPtpOffset : Nat := 0x11014
abbrev rTimPtpDelay : Nat := 0x11018
abbrev rTimPtpMasterLo : Nat := 0x11020
abbrev rTimPtpMasterHi : Nat := 0x11024
abbrev rTimUtc : Nat := 0x11028
abbrev rTimCapCfg : Nat := 0x11100
abbrev rTimCapLost : Nat := 0x11140
abbrev rTimPulseStatus : Nat := 0x11180
abbrev rTimMainsFreq : Nat := 0x11190
abbrev rTimMainsStatus : Nat := 0x11194
abbrev rUndCtl : Nat := 0x12000
abbrev rUndStatus : Nat := 0x12004
abbrev rUndOffsetLo : Nat := 0x12008
abbrev rUndOffsetHi : Nat := 0x1200C
abbrev rUndCueOffset : Nat := 0x12010
abbrev rUndSwaps : Nat := 0x12014
abbrev rUndMismatch : Nat := 0x12018
abbrev rUndLinkErrors : Nat := 0x1201C
abbrev rUndResyncs : Nat := 0x12020
abbrev rUndDirStatus : Nat := 0x12024
abbrev rRxfBlankMap : Nat := 0x20000
abbrev rRxfBlankGuard : Nat := 0x20004
abbrev rRxfPortCtl : Nat := 0x20100
abbrev rRxfGainCfg : Nat := 0x20104
abbrev rRxfOvlCfg : Nat := 0x20108
abbrev rRxfPortStatus : Nat := 0x20110
abbrev rRxfPortPower : Nat := 0x20114
abbrev rRxfOvlSteps : Nat := 0x20118
abbrev rRxfEvents : Nat := 0x2011C
abbrev rChrLineCtl : Nat := 0x22000
abbrev rChrLineNco : Nat := 0x22004
abbrev rChrLineAgc : Nat := 0x22008
abbrev rChrLineStatus : Nat := 0x2200C
abbrev rChrSpotCtl : Nat := 0x23000
abbrev rDemLineCfg : Nat := 0x24000
abbrev rDemFrcCfg : Nat := 0x24004
abbrev rDemLineStatus : Nat := 0x24008
abbrev rDemLineCnt : Nat := 0x2400C
abbrev rTxCtl : Nat := 0x26000
abbrev rTxStatus : Nat := 0x26004
abbrev rTxPaCfg : Nat := 0x26008
abbrev rTxPaCtl : Nat := 0x2600C
abbrev rTxCoexCfg : Nat := 0x26010
abbrev rTxPwrStatus : Nat := 0x26014
abbrev rTxLedgerCfg : Nat := 0x26018
abbrev rTxEvents : Nat := 0x2601C
abbrev rTxaPadetCal : Nat := 0x26040
abbrev rTxbPadetCal : Nat := 0x27040
abbrev rTxaRampTab : Nat := 0x26080
abbrev rTxbRampTab : Nat := 0x27080
abbrev rTxaSubLo : Nat := 0x26100
abbrev rTxbSubLo : Nat := 0x27100
abbrev rTxaSubHi : Nat := 0x26104
abbrev rTxbSubHi : Nat := 0x27104
abbrev rTxaSubLim : Nat := 0x26108
abbrev rTxbSubLim : Nat := 0x27108
abbrev rTxaSubUsed : Nat := 0x2610C
abbrev rTxbSubUsed : Nat := 0x2710C
abbrev rMacNodes : Nat := 0x30000
abbrev rMacGrand : Nat := 0x30004
abbrev rMacPan : Nat := 0x30010
abbrev rMacJoinRefused : Nat := 0x30030
abbrev rMacDropped : Nat := 0x30034
abbrev rMacFloodSeen : Nat := 0x30038
abbrev rMacWindowSkips : Nat := 0x3003C
abbrev rMacPeers : Nat := 0x30040
abbrev rFwdLpmUsed : Nat := 0x31000
abbrev rFwdLpmWrites : Nat := 0x31004
abbrev rFwdLpmDown : Nat := 0x31008
abbrev rFwdLocks : Nat := 0x31010
abbrev rFwdDropped : Nat := 0x31020
abbrev rFwdHoplimit : Nat := 0x31024
abbrev rFwdDeliveryFailed : Nat := 0x31028
abbrev rFwdLearnSkipped : Nat := 0x3102C
abbrev rFwdFlaps : Nat := 0x31030
abbrev rWngStatus : Nat := 0x32000
abbrev rWngSpareMap : Nat := 0x32004
abbrev rWngCorr : Nat := 0x32008
abbrev rWngUncorr : Nat := 0x3200C
abbrev rWngCollisions : Nat := 0x32010
abbrev rWngErrAddr : Nat := 0x32014
abbrev rWngErrInfo : Nat := 0x32018
abbrev rWngFaults : Nat := 0x3201C
abbrev rWngBankState : Nat := 0x32040
abbrev rBoxStatus : Nat := 0x33000
abbrev rBoxFuses : Nat := 0x33004
abbrev rBoxRootCheck : Nat := 0x33008
abbrev rBoxRootCtl : Nat := 0x3300C
abbrev rBoxRootKey : Nat := 0x33010
abbrev rBoxDbgChal : Nat := 0x33040
abbrev rBoxDbgResp : Nat := 0x33080
abbrev rBoxDbgCtl : Nat := 0x33100
abbrev rBoxMicFail : Nat := 0x33110
abbrev rBoxReplay : Nat := 0x33114
abbrev rBoxCredFail : Nat := 0x33118
abbrev rUpdStatus : Nat := 0x34000
abbrev rUpdSelSeq : Nat := 0x34004
abbrev rUpdBundle : Nat := 0x34008
abbrev rUpdClass : Nat := 0x3400C
abbrev rUpdStagedLen : Nat := 0x34010
abbrev rUpdTour : Nat := 0x34014
abbrev rHifErr : Nat := 0x40000
abbrev rHifDbgWin : Nat := 0x40004
abbrev rHifEqBaseLo : Nat := 0x40010
abbrev rHifEqBaseHi : Nat := 0x40014
abbrev rHifEqCfg : Nat := 0x40018
abbrev rHifEqStatus : Nat := 0x4001C
abbrev rHifEqWbLo : Nat := 0x40020
abbrev rHifEqWbHi : Nat := 0x40024
abbrev rHifEqLost : Nat := 0x40028
abbrev rHifEvMask : Nat := 0x40100
abbrev rHifEvVec : Nat := 0x40140
abbrev rHifVecHold : Nat := 0x40200
abbrev rHifSqBaseLo : Nat := 0x41000
abbrev rHifSqBaseHi : Nat := 0x41004
abbrev rHifSqCfg : Nat := 0x41008
abbrev rHifSqStatus : Nat := 0x4100C
abbrev rHifCqBaseLo : Nat := 0x42000
abbrev rHifCqBaseHi : Nat := 0x42004
abbrev rHifCqCfg : Nat := 0x42008
abbrev rHifCqStatus : Nat := 0x4200C
abbrev rHifCqCredit : Nat := 0x42010
abbrev rHifRxDropped : Nat := 0x42014
abbrev rHifCqDiscards : Nat := 0x42018
abbrev rHifQCfg : Nat := 0x44000
abbrev rHifQWm : Nat := 0x44004
abbrev rHifQStatus : Nat := 0x44008
abbrev rHifQNotice : Nat := 0x4400C
abbrev rHifQDrops : Nat := 0x44010
abbrev rMsixTable : Nat := 0x48000
abbrev rMsixPba : Nat := 0x49000
abbrev rCbdNextSeq : Nat := 0x200000
abbrev rCbdJnlSeq : Nat := 0x200004
abbrev rCbdJnlOldest : Nat := 0x200008
abbrev rCbdStatus : Nat := 0x20000C
abbrev rCbdLost : Nat := 0x200010
abbrev rCbdHeldDropped : Nat := 0x200014
abbrev rCbdSnapBase : Nat := 0x200020
abbrev rCbdSnapCtl : Nat := 0x200024
abbrev rCbdSlot : Nat := 0x300000
/-- The default ramp points `a[i]` of R184. -/
def rampDefault : List Nat := [
  0, 41, 163, 366, 650, 1013, 1456, 1976, 2573, 3245, 3990, 4807, 5694, 6647, 7666, 8747,
  9888, 11086, 12337, 13640, 14990, 16384, 17819, 19291, 20796, 22331, 23893, 25476, 27077, 28693,
  30319, 31951, 33584, 35216, 36842, 38458, 40059, 41642, 43204, 44739, 46244, 47716, 49151, 50545,
  51895, 53198, 54449, 55647, 56788, 57869, 58888, 59841, 60728, 61545, 62290, 62962, 63559, 64079,
  64522, 64885, 65169, 65372, 65494, 65535]

/-- `off` is a register of the row. -/
def RegRow.holds (r : RegRow) (off : Nat) : Bool :=
  decide (r.base ≤ off) &&
    (if r.stride = 0 then off == r.base
     else (off - r.base) % r.stride == 0 && decide ((off - r.base) / r.stride < r.count))

/-- The rows of the block that holds `off` (R611). -/
def blockRows (off : Nat) : List RegRow :=
  if off < 0x1000 then regRowsSys
  else if off < 0x2000 then regRowsPwr
  else if off < 0x3000 then regRowsClk
  else if off < 0x4000 then regRowsPad
  else if off < 0x10000 then []
  else if off < 0x11000 then regRowsCue
  else if off < 0x12000 then regRowsTim
  else if off < 0x13000 then regRowsUnd
  else if off < 0x20000 then []
  else if off < 0x21000 then regRowsRxf
  else if off < 0x24000 then regRowsChr
  else if off < 0x25000 then regRowsDem
  else if off < 0x28000 then regRowsTx ++ regRowsTxa ++ regRowsTxb
  else if off < 0x31000 then regRowsMac
  else if off < 0x32000 then regRowsFwd
  else if off < 0x33000 then regRowsWng
  else if off < 0x34000 then regRowsBox
  else if off < 0x40000 then regRowsUpd
  else if off < 0x48000 then regRowsHif
  else if off < 0x50000 then regRowsMsix
  else regRowsCbd

/-- The row of a BAR0 offset; none where the offset holds no register (R353, R612). -/
def regLookup (off : Nat) : Option RegRow := (blockRows off).find? (·.holds off)

/-- A ramp-table word (R184, R211). -/
def isRamp (off : Nat) : Bool :=
  (decide (0x26080 ≤ off) && decide (off < 0x26100)) ||
  (decide (0x27080 ≤ off) && decide (off < 0x27100))

/-- The Reset value of a register word. -/
def regReset (off : Nat) : Word32 :=
  if isRamp off then
    let i := (off % 0x1000 - 0x80) / 4
    BitVec.ofNat 32 (rampDefault.getD (2 * i) 0 + 65536 * rampDefault.getD (2 * i + 1) 0)
  else
    match regLookup off with
    | none => 0
    | some r => BitVec.ofNat 32 (r.fields.foldl (fun a f => a + f.reset * 2 ^ f.lo) 0)

/-- The stored word of a register; unlisted words stand at their Reset value. -/
def regGet (m : SMap Word32) (off : Nat) : Word32 := smGet (regReset off) m off

/-- The stored words with `v` at `off`. -/
def regSet (m : SMap Word32) (off : Nat) (v : Word32) : SMap Word32 :=
  smSet (regReset off) m off v

/-- The stored words in canonical form: offsets rising, no word at its Reset value. -/
def regsWf (m : SMap Word32) : Bool :=
  match m with
  | [] => true
  | (k, v) :: r => decide (v ≠ regReset k) && smAbove k r && regsWf r

/-- The personality codes of R116. -/
def persOk (v : Nat) : Bool :=
  v == 0 || (decide (0x10 ≤ v) && decide (v ≤ 0x17)) || (decide (0x21 ≤ v) && decide (v ≤ 0x24)) ||
    v == 0x30 || v == 0x40 ||
    (decide (0x80 ≤ v) && decide (v < 0xB0) && (decide (v % 16 < 6) || v % 16 == 7))

/-- The value is a legal encoding of the field (R5). -/
def Legal.holds (l : Legal) (v : Nat) : Bool :=
  match l with
  | .any => true
  | .range lo hi => decide (lo ≤ v) && decide (v ≤ hi)
  | .personality => persOk v

/-- Mask of the bits [hi:lo]. -/
def maskOf (hi lo : Nat) : Word32 := BitVec.ofNat 32 ((2 ^ (hi + 1 - lo) - 1) * 2 ^ lo)

/-- Mask of a field. -/
def RegField.mask (f : RegField) : Word32 := maskOf f.hi f.lo

/-- Bits [hi:lo] of a register word. -/
def fieldOf (w : Word32) (hi lo : Nat) : Nat := bits w.toNat hi lo

/-- The word with bits [hi:lo] set to `v`. -/
def withField (w : Word32) (hi lo v : Nat) : Word32 :=
  (w &&& ~~~ (maskOf hi lo)) ||| ((BitVec.ofNat 32 (v * 2 ^ lo)) &&& maskOf hi lo)

/-- One field of a register write: the stored word after it and the mask of refused bits (R5, R6).
`locked` are the bits of fields that R402 locks: a write that would change one is refused. -/
def writeField (old v locked : Word32) (acc : Word32 × Word32) (f : RegField) : Word32 × Word32 :=
  let m := f.mask
  match f.acc with
  | .ro => acc
  | .wo => acc
  | .w1c => (acc.1 &&& ~~~ (v &&& m), acc.2)
  | .w1s => (acc.1 ||| (v &&& m), acc.2)
  | .rw =>
    if f.legal.holds (fieldOf v f.hi f.lo) then
      if (locked &&& m) ≠ 0 ∧ ((old ^^^ v) &&& m) ≠ 0 then (acc.1, acc.2 ||| m)
      else ((acc.1 &&& ~~~ m) ||| (v &&& m), acc.2)
    else (acc.1, acc.2 ||| m)

/-- A register write under the access codes: the stored word after it and the mask of the bits left
unchanged by R5 and R402. -/
def writeWord (r : RegRow) (old v locked : Word32) : Word32 × Word32 :=
  r.fields.foldl (writeField old v locked) (old, 0)

end Sys2Proof.Machine
end

