-- ==== Sys2Proof/Machine/Ops.lean ====
section
/-! DEFINITION. The named operations over the state that every command is built from: registers,
engines, Call Board and event ring records (R509, R365), host memory and message-signalled
interrupts (R394, R395), outputs of Publish (R57), inputs of the Prompt Book (R38). -/

namespace Sys2Proof.Machine

/-- Stamp ticks of a cue (R29). -/
abbrev cueTicks : Nat := 102400000

/-- Stamp ticks of a microsecond. -/
abbrev usTicks : Nat := 102400

/-- A count as a stamp. -/
def tk (n : Nat) : Stamp := BitVec.ofNat 64 n

/-- A 32-bit word of a count. -/
def w32 (n : Nat) : Word32 := BitVec.ofNat 32 n

/-- TB0 moved on to `t`; it never decreases (R308). -/
def atTime (t : Stamp) (s : State) : State :=
  if later64 t s.time.tb0 then { s with time := { s.time with tb0 := t } } else s

/-! ### Registers -/

/-- The stored word of a register. -/
def reg (s : State) (off : Nat) : Word32 := regGet s.regs off

/-- Bits [hi:lo] of a stored register word. -/
def rbits (s : State) (off hi lo : Nat) : Nat := fieldOf (reg s off) hi lo

/-- Bit `n` of a stored register word. -/
def rbit (s : State) (off n : Nat) : Bool := bit (reg s off).toNat n

/-- The state with a stored register word. -/
def setReg (off : Nat) (v : Word32) (s : State) : State := { s with regs := regSet s.regs off v }

/-- The state with bits [hi:lo] of a register at `v`. -/
def setRBits (off hi lo v : Nat) (s : State) : State := setReg off (withField (reg s off) hi lo v) s

/-- The state with bit `n` of a register set. -/
def setRBit (off n : Nat) (s : State) : State := setReg off (reg s off ||| BitVec.ofNat 32 (2 ^ n)) s

/-- A 32-bit count register raised by `n`, saturating at 0xFFFF_FFFF. -/
def countReg (off n : Nat) (s : State) : State :=
  setReg off (w32 (satAdd 0xFFFFFFFF (reg s off).toNat n)) s

/-! ### Parts of the state -/

/-- Engine `e`. -/
def eng (s : State) (e : Nat) : Eng := smGet {} s.engs e

/-- The state with engine `e` changed. -/
def modEng (e : Nat) (f : Eng → Eng) (s : State) : State :=
  { s with engs := smMod {} s.engs e f }

/-- Receive port `p`; its gain starts at 40 (R86). -/
def port (s : State) (p : Nat) : Port := smGet {} s.ports p

/-- The state with port `p` changed. -/
def modPort (p : Nat) (f : Port → Port) (s : State) : State :=
  { s with ports := smMod {} s.ports p f }

/-- Chorus line `n`. -/
def line (s : State) (n : Nat) : Line := smGet {} s.lines n

/-- The state with line `n` changed. -/
def modLine (n : Nat) (f : Line → Line) (s : State) : State :=
  { s with lines := smMod {} s.lines n f }

/-- Detector `d` of line `n`. -/
def det (s : State) (n d : Nat) : Det := smGet {} (line s n).dets d

/-- The state with a detector changed. -/
def modDet (n d : Nat) (f : Det → Det) (s : State) : State :=
  modLine n (fun l => { l with dets := smMod {} l.dets d f }) s

/-- A transmit chain. -/
def tx (s : State) (c : Chain) : Tx :=
  match c with
  | .a => s.txa
  | .b => s.txb

/-- The state with a chain changed. -/
def modTx (c : Chain) (f : Tx → Tx) (s : State) : State :=
  match c with
  | .a => { s with txa := f s.txa }
  | .b => { s with txb := f s.txb }

/-- 0 for TX-A, 1 for TX-B. -/
def chainIx (c : Chain) : Nat :=
  match c with
  | .a => 0
  | .b => 1

/-- The chain with a number. -/
def chainOf (n : Nat) : Chain := if n = 0 then .a else .b

/-- A register of a chain's block, by its offset in the block (R211). -/
def txReg (c : Chain) (off : Nat) : Nat := 0x26000 + 0x1000 * chainIx c + off

/-- Node context `i`. -/
def node (s : State) (i : Nat) : Node := smGet {} s.mesh.nodes i

/-- The state with a node context changed. -/
def modNode (i : Nat) (f : Node → Node) (s : State) : State :=
  { s with mesh := { s.mesh with nodes := smMod {} s.mesh.nodes i f } }

/-- The state with mesh access and forwarding changed. -/
def modMesh (f : Mesh → Mesh) (s : State) : State := { s with mesh := f s.mesh }

/-- The state with processing changed. -/
def modProc (f : Proc → Proc) (s : State) : State := { s with proc := f s.proc }

/-- The state with the host interface changed. -/
def modHif (f : Hif → Hif) (s : State) : State := { s with hif := f s.hif }

/-- The state with time changed. -/
def modTime (f : Time → Time) (s : State) : State := { s with time := f s.time }

/-- The state with the PTP client changed. -/
def modPtp (f : PtpC → PtpC) (s : State) : State :=
  { s with time := { s.time with ptp := f s.time.ptp } }

/-- The state with the Wings changed. -/
def modWings (f : Wings → Wings) (s : State) : State := { s with wings := f s.wings }

/-- The state with the Box Office changed. -/
def modSec (f : Sec → Sec) (s : State) : State := { s with sec := f s.sec }

/-- The state with redundancy changed. -/
def modPair (f : Pair → Pair) (s : State) : State := { s with pair := f s.pair }

/-- The state with the Call Board changed. -/
def modBoard (f : Board → Board) (s : State) : State := { s with board := f s.board }

/-- The state with update changed. -/
def modUpd (f : Upd → Upd) (s : State) : State := { s with upd := f s.upd }

/-- The state with power changed. -/
def modPwr (f : Pwr → Pwr) (s : State) : State := { s with pwr := f s.pwr }

/-- A capture (0 to 7) or pulse (8 to 15) pin. -/
def pin (s : State) (i : Nat) : Pin := smGet {} s.time.pins i

/-- The state with a pin changed. -/
def modPin (i : Nat) (f : Pin → Pin) (s : State) : State :=
  { s with time := { s.time with pins := smMod {} s.time.pins i f } }

/-- Submission ring `q`. -/
def sq (s : State) (q : Nat) : Sq := smGet {} s.hif.sq q

/-- The state with submission ring `q` changed. -/
def modSq (q : Nat) (f : Sq → Sq) (s : State) : State :=
  { s with hif := { s.hif with sq := smMod {} s.hif.sq q f } }

/-- Completion ring `c`. -/
def cq (s : State) (c : Nat) : Cq := smGet {} s.hif.cq c

/-- The state with completion ring `c` changed. -/
def modCq (c : Nat) (f : Cq → Cq) (s : State) : State :=
  { s with hif := { s.hif with cq := smMod {} s.hif.cq c f } }

/-- Hardware queue `q`. -/
def hwq (s : State) (q : Nat) : Hwq := smGet {} s.hif.queues q

/-- The state with hardware queue `q` changed. -/
def modHwq (q : Nat) (f : Hwq → Hwq) (s : State) : State :=
  { s with hif := { s.hif with queues := smMod {} s.hif.queues q f } }

/-- The configuration record of a type. -/
def cfgOf (s : State) (t : Nat) : Cfg := smGet {} s.cfgs t

/-- A free number taken outside the engines, and the state with the count of these moved on. -/
def fresh (s : State) : Nat × State :=
  (Config.fresh s.sec.drawn, modSec (fun x => { x with drawn := x.drawn + 1 }) s)

/-- A value that the manual leaves open to an engine: a function of the cue and of the count of these since
processing started, so that records give it again (R61). -/
def engineOpen (k : Nat) (s : State) : Word64 := Config.openWord k (2 ^ 32 * s.mesh.fresh + s.proc.procCue.toNat)

/-- Version of the tables of a kind that a rolling activation has brought (R536, R543). -/
def rolledTables (k : Nat) (s : State) : Option Nat := s.upd.running.map fun b => b.versions.getD (k - 1) 0

/-- The tables in effect on a port or chain: those a roll brought it, else those of the set booted (R543). -/
def calTables (s : State) (x : Option Nat) : Nat := x.getD (65536 + s.upd.bootVersion)

/-! ### Host memory and interrupts -/

/-- Bytes written to host memory from address `a`. -/
def hostWrite (a : Nat) (l : List Byte) (s : State) : State :=
  modHif (fun h => { h with hostMem :=
    (l.foldl (fun (acc : SMap Byte × Nat) b => (smSet 0 acc.1 acc.2 b, acc.2 + 1)) (h.hostMem, a)).1 }) s

/-- A byte of host memory as the device has written it. -/
def hostByte (s : State) (a : Nat) : Byte := smGet 0 s.hif.hostMem a

/-- A number of ticks after a stamp. -/
def plus (t : Stamp) (n : Nat) : Stamp := t + BitVec.ofNat 64 n

/-- Send the message of vector `v`, start its hold and clear its pending bit (R394, R395). -/
def vecSend (v : Nat) (s : State) : State :=
  let hold := rbits s (rHifVecHold + 4 * v) 7 0
  modHif (fun h => { h with
    vecSent := smMod 0 h.vecSent v (· + 1)
    vecHold := smSet false h.vecHold v (hold != 0)
    vecEnd := smSet 0 h.vecEnd v (plus s.time.tb0 (hold * usTicks))
    vecDue := smSet false h.vecDue v false
    pba := smSet false h.pba v false }) s

/-- Signal vector `v`: sent at once, at the end of its hold, or when unmasked (R395). -/
def vecSignal (v : Nat) (s : State) : State :=
  if !smGet false s.hif.vecMask v then modHif (fun h => { h with pba := smSet false h.pba v true }) s
  else if smGet false s.hif.vecHold v then
    modHif (fun h => { h with vecDue := smSet false h.vecDue v true }) s
  else vecSend v s

/-- Each vector of the list signalled once. -/
def vecSignals (l : List Nat) (s : State) : State := l.dedup.foldl (fun s v => vecSignal v s) s

/-! ### Records -/

/-- The eight words of a record (R509). -/
def recWords (r : Rec) : List Word32 :=
  [w32 (r.code % 65536 + 65536 * (r.src % 256) + 16777216 * (r.flags % 256)), r.cue,
    r.stamp.setWidth 32, (r.stamp >>> 32).setWidth 32, r.p1, r.p2, r.p3, r.p4]

/-- The record a slot holds. -/
def recOf (l : List Word32) : Rec :=
  let w (i : Nat) := l.getD i 0
  { code := (w 0).toNat % 65536, src := bits (w 0).toNat 23 16, flags := bits (w 0).toNat 31 24
    cue := w 1, stamp := (w 3) ++ (w 2), p1 := w 4, p2 := w 5, p3 := w 6, p4 := w 7 }

/-- Check of a record's tag (R511): the CRC-16 over the sequence and the record bytes. -/
def slotCheck (x : CbSlot) : BitVec 16 := crc16 (le 4 x.seq.toNat ++ bytes32 x.words)

/-- Eight words written to the store under the next sequence (R511, R516). -/
def storeWords (l : List Word32) (b : Board) : Board :=
  { b with store := smSet none b.store (b.next.toNat % 16384) (some ⟨b.next, l⟩), next := b.next + 1 }

/-- Eight words recorded: to the store, or held until the scan of R520 has completed, at most 64. -/
def boardWords (l : List Word32) (b : Board) : Board :=
  if b.scanned then storeWords l b
  else if b.waiting.length < 64 then { b with waiting := b.waiting ++ [l] }
  else { b with dropped := satAdd 0xFFFFFFFF b.dropped 1 }

/-- The event ring is enabled. -/
def evEn (s : State) : Bool := rbit s rHifEqCfg 0

/-- Entries of the event ring. -/
def evSize (s : State) : Nat := 2 ^ rbits s rHifEqCfg 5 1

/-- Records of the event ring beyond the host's head. -/
def evCount (s : State) : Nat :=
  (s.hif.evr.tail + 2 * evSize s - s.hif.evr.head) % (2 * evSize s)

/-- Source `src` is masked (R393). -/
def evMasked (s : State) (src : Nat) : Bool := rbit s (rHifEvMask + 4 * (src / 16)) (src % 16)

/-- The vector of an event group (R394). -/
def evVec (s : State) (src : Nat) : Nat := rbits s (rHifEvVec + 4 * (src / 16)) 5 0

/-- A ring's base address (R402). -/
def ringBase (s : State) (lo hi : Nat) : Nat := (reg s lo).toNat + 2 ^ 32 * (reg s hi).toNat

/-- Eight words written at the event tail, which moves on (R365). -/
def evPut (l : List Word32) (s : State) : State :=
  let n := evSize s
  let s1 := hostWrite (ringBase s rHifEqBaseLo rHifEqBaseHi + 32 * (s.hif.evr.tail % n)) (bytes32 l) s
  modHif (fun h => { h with evr := { h.evr with tail := (h.evr.tail + 1) % (2 * n) } }) s1

/-- The event ring takes one more record (R366). -/
def evRoom (s : State) : Bool := evEn s && decide (evCount s < evSize s - 1)

/-- A record of event source `src` reaches the event ring: masked, written, or discarded and
counted (R366, R393). -/
def evWrite (src : Nat) (l : List Word32) (s : State) : State :=
  if evMasked s src then s
  else if evRoom s then evPut l s
  else
    countReg rHifEqLost 1 (modHif (fun h => { h with evr := { h.evr with lost := h.evr.lost + 1 } }) s)

/-- The tail writeback after a batch (R365). -/
def evWriteback (s : State) : State :=
  if evEn s then
    hostWrite (ringBase s rHifEqWbLo rHifEqWbHi) (le 4 s.hif.evr.tail) s
  else s

/-- End of a batch written outside Publish: writeback, then the vector of its group (R365, R394). -/
def evBatch (src : Nat) (s : State) : State :=
  if evEn s && !evMasked s src then vecSignal (evVec s src) (evWriteback s) else s

/-- Eight words to the Call Board and the event ring as a batch of their own. -/
def emitWords (src : Nat) (l : List Word32) (s : State) : State :=
  evBatch src (evWrite src l (modBoard (boardWords l) s))

/-- A LOCAL record, written as it occurs (R63, R509), with its stamp. -/
def emitLocalAt (t : Stamp) (code src p1 p2 p3 p4 : Nat) (s : State) : State :=
  emitWords src (recWords ⟨code, src, 1, s.proc.cueNow, t, w32 p1, w32 p2, w32 p3, w32 p4⟩) s

/-- A LOCAL record of a happening of now. -/
def emitLocal (code src p1 p2 p3 p4 : Nat) (s : State) : State :=
  emitLocalAt s.time.tb0 code src p1 p2 p3 p4 s

/-- The events-lost record, written when room returns (R366). -/
def evLost (s : State) : State :=
  if s.hif.evr.lost ≠ 0 ∧ evRoom s = true then
    emitLocal 0x6002 147 s.hif.evr.lost 0 0 0
      (modHif (fun h => { h with evr := { h.evr with lost := 0 } }) s)
  else s

/-! ### Outputs of Publish -/

/-- An output of engine `e`, written in this cue's Publish (R57). -/
def out (e : Nat) (o : Out) (s : State) : State :=
  modProc (fun p => { p with outs := p.outs ++ [(e, o)] }) s

/-- A record that engine `e` leaves in Publish, with the stamp of its happening and its flags. -/
def emitFlagged (e flags : Nat) (t : Stamp) (code p1 p2 p3 p4 : Nat) (s : State) : State :=
  out e (.record ⟨code, e, flags, s.proc.procCue, t, w32 p1, w32 p2, w32 p3, w32 p4⟩) s

/-- A record that engine `e` leaves in Publish on a decision of processing (R509). -/
def emit (e code p1 p2 p3 p4 : Nat) (s : State) : State :=
  emitFlagged e 0 s.proc.procStart code p1 p2 p3 p4 s

/-- A record with the stamp of its happening. -/
def emitAt (e : Nat) (t : Stamp) (code p1 p2 p3 p4 : Nat) (s : State) : State :=
  emitFlagged e 0 t code p1 p2 p3 p4 s

/-- A completion that engine `e` writes in Publish (R361), with the bytes for its buffer. -/
def finish (e op status : Nat) (c : Sub) (result : List Byte) (data : List Byte) (s : State) :
    State :=
  out e (.complete c op status result data) s

/-- A completion with result 0 and no buffer data. -/
def done (e op status : Nat) (c : Sub) (s : State) : State := finish e op status c [] [] s

/-- A packet that does not fit a message body travels in a packet buffer (R48). -/
def longPacket (it : Item) : Bool :=
  match it with
  | .row (.forwardedPacket x) => decide (256 < x.packet.length)
  | .row (.floodResend x) => decide (256 < x.frame.length)
  | _ => false

/-- Packet buffers of messages waiting to be posted, latched, taken for the cue, or put off (R48). -/
def buffersHeld (s : State) : Nat :=
  (s.engs.map fun g => (g.2.messages.filter fun m => longPacket m.2.1).length +
    (g.2.deferred.filter fun x => longPacket x.2).length).sum +
  ((s.proc.inputs ++ s.proc.record ++ s.proc.latched.flatMap (·.entries)).filter fun x => longPacket x.item).length

/-- A message that engine `e` posts in Publish (R47, R48). A packet that does not fit takes its buffer now, of those
free as the Work of the cue began; with none left it is dropped and counted. -/
def post (e receiver : Nat) (it : Item) (packet : Bool) (s : State) : State :=
  if !longPacket it then out e (.post receiver it packet) s
  else if Config.packetBuffers ≤ s.proc.buffers then
    countReg 0x31020 1 (modEng e (fun g => { g with dropBuf := g.dropBuf + 1 }) s)
  else out e (.post receiver it packet) (modProc (fun p => { p with buffers := p.buffers + 1 }) s)

/-- A frame that an engine hands to ETH0 in Publish. -/
def outEth0 (e : Nat) (frame : List Byte) (s : State) : State := out e (.eth0 frame) s

/-! ### Inputs -/

/-- The next per-source sequence of a class and source, and the state with it counted (R40). -/
def takeSeq (cls src : Nat) (s : State) : Word32 × State :=
  let k := 256 * cls + src
  let v := smGet 0 s.proc.seqs k
  (v, modProc (fun p => { p with seqs := smSet 0 p.seqs k (v + 1) }) s)

/-- The unit runs replay (R69). -/
def inReplay (s : State) : Bool := s.proc.bookMode == 2

/-- Roles of UND_STATUS.ROLE (R508): 2 to 6 are the Understudy's. -/
def isUnderstudy (s : State) : Bool := decide (2 ≤ s.pair.role) && decide (s.pair.role ≤ 6)

/-- Solo or Lead, live: the unit operates ports, chains and rings. -/
def isLive (s : State) : Bool := decide (s.pair.role ≤ 1) && !inReplay s

/-- A promoted unit is in the own cue before its first live one, at or after the start of the Lead cue that would
follow the last replayed one (R492). -/
def beforeLive (s : State) : Bool :=
  match s.pair.promo with
  | some (u, _, k) =>
    let last := ((s.proc.latched.getLast?).map (·.start)).getD s.proc.procStart
    s.proc.cueNow == u + BitVec.ofNat 32 (max k 2) &&
      decide (0 ≤ sdiff64 (s.time.tb0 + BitVec.ofInt 64 s.pair.delta) (last + BitVec.ofNat 64 cueTicks))
  | none => false

/-- The unit latches inputs of its own: processing runs live, and no Retention has been accepted (R69,
R480, R492, R569, R622). -/
def takesInputs (s : State) : Bool :=
  s.proc.processing && (isLive s || beforeLive s) && s.pwr.retReq.all (· == s.proc.cueNow) &&
    s.pwr.wakeIn.all (fun w => s.proc.cueNow + 1 == w)

/-- A completed input, waiting for the next Intake; dropped while none is taken (R38, R622). -/
def input (cls src : Nat) (body : List Byte) (it : Item) (s : State) : State :=
  if takesInputs s then
    let (q, s) := takeSeq cls src s
    modProc (fun p => { p with inputs := p.inputs ++ [⟨cls, src, q, p.cueNow, false, body, it⟩] }) s
  else s

/-! ### Taking items -/

/-- An item put off to the next cue (R53). -/
def defer (e : Nat) (it : Item) (s : State) : State :=
  modEng e (fun g => { g with blocked := true, deferred := g.deferred ++ [(s.proc.itemCue, it)] }) s

/-- Cues from `a` at which the pause of an activation step begins and ends (R540). -/
def stepWindow (k : Nat) : Nat × Nat :=
  match k with
  | 1 => (1, 8)
  | 2 => (9, 12)
  | 3 => (13, 20)
  | 4 => (21, 28)
  | k => (29 + 20 * (k - 5), 48 + 20 * (k - 5))

/-- The engine that an activation step pauses (R536, R540). -/
def stepEngine (k : Nat) : Nat :=
  match k with
  | 1 => 11
  | 2 => 10
  | 3 => 8
  | 4 => 9
  | k => k - 5

/-- Cues since the cue that processed an IMAGE_ACTIVATE. -/
def rollCues (s : State) (r : Roll) : Int := sdiff32 s.proc.procCue r.cue

/-- An activation pauses engine `e` in the cue being processed (R540, R541, R544). -/
def rollPaused (s : State) (e : Nat) : Bool :=
  (s.upd.roll.toList ++ s.updP.roll.toList).any fun r =>
    (List.range 12).any fun j => stepEngine (j + 1) == e &&
      decide (((stepWindow (j + 1)).1 : Int) ≤ rollCues s r) && decide (rollCues s r ≤ ((stepWindow (j + 1)).2 : Int))

/-- The engine takes no item now: an earlier item was put off, it is paused, or the budget left is
short (R53). -/
def engHeld (s : State) (e cost : Nat) : Bool :=
  let g := eng s e
  g.blocked || g.paused || g.retired || rollPaused s e || decide (g.left < cost)

/-- Engine `e` charges `cost` work units. -/
def charge (e cost : Nat) (s : State) : State :=
  modEng e (fun g => { g with left := g.left - cost }) s

/-- Engine `e` takes an item at `cost`, or puts it off (R53); without processing the item reaches
no engine (R622). -/
def takeItem (e cost : Nat) (it : Item) (eff : State → State) (s : State) : State :=
  if !s.proc.processing then s
  else if engHeld s e cost then defer e it s
  else eff (charge e cost s)

/-- The Stagehand that owns a node index (R18). -/
def owner (i : Nat) : Nat := i % 8

/-- Started blocks of `k` in `n`. -/
def blocksOf (k n : Nat) : Nat := ceilDiv n k

end Sys2Proof.Machine
end

