-- ==== Sys2Proof/Machine/CfgRec.lean ====
section
/-! DEFINITION. The six configuration records (R379): their lengths, defaults, the checks of
CONFIG_APPLY (R380, R621) and their fields as the engines read them. -/

namespace Sys2Proof.Machine

/-- Record types of R379. -/
abbrev recMesh : Nat := 1
abbrev recFwd : Nat := 2
abbrev recTime : Nat := 3
abbrev recPair : Nat := 4
abbrev recInteg : Nat := 5
abbrev recSec : Nat := 6

/-- Length of a record type (R269, R303, R349, R507, R432, R468); 0 for an unknown type. -/
def recLen (t : Nat) : Nat :=
  match t with
  | 1 => 2848
  | 2 => 144
  | 3 => 64
  | 4 => 16
  | 5 => 32
  | 6 => 16
  | _ => 0

/-- Default fields of a record type: offset, size, value, as the tables give; others are 0. The D_r
default of a pair member is 2,500 µs (R228). -/
def recDefaults (t : Nat) (member : Bool) : List (Nat × Nat × Nat) :=
  match t with
  | 1 => [(2, 1, 2), (4, 2, 4000), (6, 2, if member then 2500 else 2000), (10, 2, 1024), (13, 1, 4),
      (14, 1, 4), (15, 1, 4), (16, 2, 8192), (20, 1, 3), (21, 1, 3), (22, 2, 16384), (28, 2, 1024),
      (32, 2, 8192), (34, 1, 4), (58, 1, 10), (59, 1, 255)]
  | 2 => [(9, 1, 8), (10, 2, 256)]
  | 3 => [(4, 1, 3), (5, 1, 8), (6, 1, 1), (7, 1, 4), (8, 4, 100000), (12, 4, 1000),
      (16, 4, 10000), (20, 4, 86400000), (32, 4, 1000000), (36, 4, 10995116), (40, 2, 16),
      (42, 1, 16), (48, 2, 50), (50, 2, 5)]
  | 4 => [(2, 2, 512)]
  | 5 => [(0, 2, 2), (2, 1, 1), (3, 1, 8), (4, 2, 16), (6, 1, 16)]
  | 6 => [(2, 1, 0x0F), (4, 2, 16)]
  | _ => []

/-- Byte `i` of the default record of a type; every line owner is 0xFF (R269). -/
def recDefByte (t : Nat) (member : Bool) (i : Nat) : Byte :=
  if t = 1 ∧ 2752 ≤ i then 0xFF
  else
    match (recDefaults t member).find? fun f => decide (f.1 ≤ i) && decide (i < f.1 + f.2.1) with
    | none => 0
    | some f => BitVec.ofNat 8 (f.2.2 / 256 ^ (i - f.1))

/-- The unit is a member of a pair (UND_CTL.MODE 0b01 taken, R470). -/
def isMember (s : State) : Bool := s.pair.mode == 1

/-- Byte `i` of the record of type `t` in effect. -/
def cfgByte (s : State) (t i : Nat) : Byte :=
  let b := (cfgOf s t).bytes
  if b.isEmpty then recDefByte t (isMember s) i else b.getD i 0

/-- An unsigned field of the record in effect. -/
def cfgU (s : State) (t off n : Nat) : Nat :=
  leNat ((List.range n).map fun k => cfgByte s t (off + k))

/-- A signed field of the record in effect. -/
def cfgS (s : State) (t off n : Nat) : Int := signed (8 * n) (cfgU s t off n)

/-- The bytes of the record in effect. -/
def cfgBytes (s : State) (t : Nat) : List Byte := (List.range (recLen t)).map (cfgByte s t)

/-! ### Checks -/

/-- A field of `n` bytes at `off` lies from `lo` to `hi`. -/
def inRange (b : List Byte) (f : Nat × Nat × Nat × Nat) : Bool :=
  decide (f.2.2.1 ≤ uAt b f.1 f.2.1) && decide (uAt b f.1 f.2.1 ≤ f.2.2.2)

/-- Range of the fields of the mesh access record: offset, size, lowest, highest (R269). -/
def meshRanges : List (Nat × Nat × Nat × Nat) := [
  (0, 2, 1, 0xFFFE), (2, 1, 1, 100), (3, 1, 0, 2), (4, 2, 200, 20000), (6, 2, 1900, 10000),
  (8, 2, 0, 1), (10, 2, 64, 65535), (12, 1, 0, 3), (13, 1, 1, 255), (14, 1, 1, 255), (15, 1, 1, 255),
  (16, 2, 100, 65535), (20, 1, 0, 10), (21, 1, 1, 3), (22, 2, 64, 65535), (24, 1, 0, 1),
  (28, 2, 1, 65535), (30, 2, 0, 15), (32, 2, 10, 65535), (34, 1, 1, 8), (35, 1, 0, 0),
  (56, 1, 1, 128), (57, 1, 0, 32), (58, 1, 6, 16), (60, 4, 0, 0)]

/-- A PAN entry of the mesh access record (R269): the fields of a disabled PAN are not used. -/
def panOk (b : List Byte) (p : Nat) : Bool :=
  let o := 64 + 16 * p
  let on := uAt b o 1
  decide (on ≤ 1) && zeroAt b (o + 12) 4 &&
    (on == 0 || (inRange b (o + 4, 2, 1, 4094) && inRange b (o + 6, 2, 10, 65535)))

/-- A slot plan entry (R225): the fields of an unused entry are not used. -/
def slotOk (b : List Byte) (j : Nat) : Bool :=
  let o := 192 + 16 * j
  let k := uAt b o 1
  decide (k ≤ 2) && zeroAt b (o + 10) 6 &&
    (k == 0 || (inRange b (o + 3, 1, 0, 3) && inRange b (o + 4, 4, 0, 65535) &&
      inRange b (o + 8, 2, 0, 999)))

/-- A personality a channel plan entry may name: an FRC entry has S from 0 to 5 (R222). -/
def planPersOk (v : Nat) : Bool := persOk v && !(decide (0x80 ≤ v) && v % 16 == 7)

/-- A channel plan entry (R222). -/
def chanOk (b : List Byte) (i : Nat) : Bool :=
  let o := 704 + 16 * i
  planPersOk (uAt b (o + 14) 1) && decide (uAt b (o + 15) 1 < 8)

/-- Set bits of a channel map. -/
def popcount (m : Nat) : Nat := ((List.range 128).filter fun i => bit m i).length

/-- A channel map: at least 2 bits, each naming an entry in use (R241). -/
def mapOk (m n : Nat) : Bool := decide (2 ≤ popcount m) && decide (m < 2 ^ n)

/-- Connection parameters in range, with T at least 2 × (L + 1) × I (R239). -/
def connOk (i l t : Nat) : Bool :=
  decide (1 ≤ i) && decide (l ≤ 15) && decide (10 ≤ t) && decide (2 * (l + 1) * i ≤ t)

/-- The indices that R621 checks. -/
def meshIndicesOk (b : List Byte) : Bool :=
  let n := uAt b 56 1
  let ok (off : Nat) := decide (uAt b off 1 < n)
  let grand := uAt b 24 1 == 1
  let panOn (p : Nat) := uAt b (64 + 16 * p) 1 == 1
  let pans := (List.range 8).filter panOn
  (!(grand || !pans.isEmpty) || (ok 25 && (uAt b 59 1 == 255 || ok 59))) &&
  (!grand || (ok 26 && ok 27 && mapOk (uAt b 36 16) n && connOk (uAt b 28 2) (uAt b 30 2) (uAt b 32 2))) &&
  pans.all (fun p => ok (65 + 16 * p) && ok (66 + 16 * p) && ok (67 + 16 * p)) &&
  (List.range (uAt b 57 1)).all (fun j => uAt b (192 + 16 * j) 1 == 0 || ok (193 + 16 * j))

/-- The mesh access record (R269, R621). -/
def meshRecOk (member : Bool) (b : List Byte) : Bool :=
  meshRanges.all (inRange b) && (!member || decide (2500 ≤ uAt b 6 2)) &&
  (List.range 8).all (panOk b) && (List.range 32).all (slotOk b) &&
  (List.range (uAt b 56 1)).all (chanOk b) &&
  (List.range 96).all (fun n => decide (uAt b (2752 + n) 1 ≤ 7) || uAt b (2752 + n) 1 == 255) &&
  meshIndicesOk b

/-- The forwarding record (R303). -/
def fwdRecOk (b : List Byte) : Bool :=
  inRange b (6, 2, 0, 1) && inRange b (8, 1, 0, 63) && inRange b (9, 1, 2, 255) &&
  inRange b (10, 2, 1, 65535) && zeroAt b 12 4 &&
  (List.range 16).all fun i => inRange b (22 + 8 * i, 1, 0, 1) && zeroAt b (23 + 8 * i) 1

/-- The time record (R349). -/
def timeRecOk (b : List Byte) : Bool :=
  inRange b (0, 2, 0, 63) && inRange b (2, 1, 0, 127) &&
  (decide (-4 ≤ sAt b 3 1) && decide (sAt b 3 1 ≤ 4)) && inRange b (4, 1, 2, 10) &&
  inRange b (5, 1, 2, 64) && inRange b (6, 1, 0, 15) && inRange b (7, 1, 0, 15) &&
  inRange b (8, 4, 1000, 1000000000) && inRange b (12, 4, 10, 100000) &&
  inRange b (16, 4, 100, 1000000) && inRange b (40, 2, 1, 1024) && inRange b (42, 1, 1, 255) &&
  inRange b (43, 1, 0, 7) && inRange b (48, 2, 2, 256) && inRange b (50, 2, 1, 255) && zeroAt b 54 10

/-- The pair record (R507). -/
def pairRecOk (b : List Byte) : Bool := inRange b (0, 1, 0, 168) && zeroAt b 1 1 && zeroAt b 4 12

/-- The integrity record (R432). -/
def integRecOk (b : List Byte) : Bool :=
  inRange b (0, 2, 0, 3) && inRange b (2, 1, 1, 8) && inRange b (3, 1, 1, 8) &&
  inRange b (4, 2, 2, 65535) && inRange b (6, 1, 1, 64) && zeroAt b 7 25

/-- The security record (R468). -/
def secRecOk (b : List Byte) : Bool :=
  inRange b (0, 2, 0, 3) && inRange b (2, 1, 0, 15) && zeroAt b 3 1 && inRange b (4, 2, 1, 65535) &&
  zeroAt b 6 10

/-- A record of a known type, of its length, every field in range (R380). -/
def recOk (member : Bool) (t : Nat) (b : List Byte) : Bool :=
  decide (b.length = recLen t) &&
  match t with
  | 1 => meshRecOk member b
  | 2 => fwdRecOk b
  | 3 => timeRecOk b
  | 4 => pairRecOk b
  | 5 => integRecOk b
  | 6 => secRecOk b
  | _ => false

/-! ### Fields in effect -/

/-- Router ID. -/
def routerId (s : State) : Nat := cfgU s recMesh 0 2
/-- Device ppm. -/
def devPpm (s : State) : Nat := cfgU s recMesh 2 1
/-- Join policy. -/
def joinPolicy (s : State) : Nat := cfgU s recMesh 3 1
/-- GUARD_MAX, µs. -/
def guardMax (s : State) : Nat := cfgU s recMesh 4 2
/-- D_r, µs. -/
def replyDelay (s : State) : Nat := cfgU s recMesh 6 2
/-- FLOOD_RELAY. -/
def floodRelay (s : State) : Bool := bit (cfgU s recMesh 8 2) 0
/-- Overture retry, cues. -/
def overtureRetryCues (s : State) : Nat := cfgU s recMesh 10 2
/-- Plan entries in use. -/
def planEntries (s : State) : Nat := cfgU s recMesh 56 1
/-- Slot entries. -/
def slotEntries (s : State) : Nat := cfgU s recMesh 57 1
/-- Grand network enabled. -/
def grandOn (s : State) : Bool := cfgU s recMesh 24 1 == 1
/-- Audition channel. -/
def auditionChan (s : State) : Nat := cfgU s recMesh 25 1
/-- Join channel (R231). -/
def joinChan (s : State) : Nat :=
  let c := cfgU s recMesh 59 1
  if c = 255 then auditionChan s else c
/-- PAN `p` enabled. -/
def panOn (s : State) (p : Nat) : Bool := cfgU s recMesh (64 + 16 * p) 1 == 1
/-- Channel of PAN `p`. -/
def panChan (s : State) (p : Nat) : Nat := cfgU s recMesh (65 + 16 * p) 1
/-- Capacity of PAN `p`. -/
def panCapacity (s : State) (p : Nat) : Nat := cfgU s recMesh (68 + 16 * p) 2
/-- Supervision of PAN `p`, cues. -/
def panSupervision (s : State) (p : Nat) : Nat := cfgU s recMesh (70 + 16 * p) 2
/-- Pending limit of a node. -/
def pendingLimit (s : State) : Nat := cfgU s recMesh 34 1

/-- A channel plan entry (R222). -/
structure PlanEntry where
  carrier : Nat
  phy     : Nat
  power   : Int
  pers    : Nat
  route   : Nat
  deriving DecidableEq, Repr

/-- Channel plan entry `i` in effect (R222). -/
def planAt (s : State) (i : Nat) : PlanEntry :=
  let o := 704 + 16 * i
  { carrier := cfgU s recMesh o 8, phy := cfgU s recMesh (o + 8) 4, power := cfgS s recMesh (o + 12) 2
    pers := cfgU s recMesh (o + 14) 1, route := cfgU s recMesh (o + 15) 1 }

/-- A slot plan entry (R225). -/
structure SlotEntry where
  kind    : Nat
  channel : Nat
  scope   : Nat
  flags   : Nat
  cue     : Nat
  offset  : Nat
  deriving DecidableEq, Repr

/-- Slot plan entry `j` in effect (R225). -/
def slotAt (s : State) (j : Nat) : SlotEntry :=
  let o := 192 + 16 * j
  { kind := cfgU s recMesh o 1, channel := cfgU s recMesh (o + 1) 1, scope := cfgU s recMesh (o + 2) 1
    flags := cfgU s recMesh (o + 3) 1, cue := cfgU s recMesh (o + 4) 4
    offset := cfgU s recMesh (o + 8) 2 }

/-- The plan check of R223: CRC-16 over the plan, unused entries as zeros. -/
def planCheck (s : State) : Nat :=
  (crc16 ((List.range 2048).map fun i =>
    if i / 16 < planEntries s then cfgByte s recMesh (704 + i) else 0)).toNat

/-- The default completion ring (R303). -/
def defaultRing (s : State) : Nat := cfgU s recFwd 8 1

/-- Scene number of a cue (R32). -/
def sceneOf (s : State) (c : CueNo) : Nat := c.toNat / 2 ^ s.proc.sceneLog2

/-- Cue `c` is a Scene boundary (R32). -/
def isBoundary (s : State) (c : CueNo) : Bool := c.toNat % 2 ^ s.proc.sceneLog2 == 0

/-- The first cue after `c` that is a boundary under Scenes of `2^k` cues (R33). -/
def nextBoundary (k : Nat) (c : CueNo) : CueNo :=
  BitVec.ofNat 32 ((c.toNat / 2 ^ k + 1) * 2 ^ k)

end Sys2Proof.Machine
end

