-- ==== Sys2Proof/Machine/HostCmd.lean ====
section
/-! DEFINITION. What is common to every host command: the buffer rules (R360), the order of
judgement (R378), holding for a target cue (R55, R56), resubmission (R497), service aside (R381),
and the completion entry with its epoch check (R361 to R364). -/

namespace Sys2Proof.Machine

/-- Status codes of R377. -/
abbrev stOk : Nat := 0
abbrev stWrongState : Nat := 1
abbrev stBadParam : Nat := 2
abbrev stNoResource : Nat := 3
abbrev stTimeout : Nat := 4
abbrev stNotLocked : Nat := 5
abbrev stDwell : Nat := 6
abbrev stDenied : Nat := 7
abbrev stFlushed : Nat := 8
abbrev stIntegrity : Nat := 9
abbrev stNotLead : Nat := 10

/-- Unsigned parameter field of a submission entry at offset `off` (32 to 63) of the entry (R359). -/
def pU (c : Sub) (off n : Nat) : Nat := uAt c.params (off - 32) n

/-- Signed parameter field. -/
def pS (c : Sub) (off n : Nat) : Int := sAt c.params (off - 32) n

/-- The parameter bytes from `off` to `hi` are 0 (reserved, R4). -/
def pZero (c : Sub) (off hi : Nat) : Bool := zeroAt c.params (off - 32) (hi + 1 - off)

/-- EPOCH of a latched entry (R359). -/
def epochOf (c : Sub) : Nat := bits c.flags.toNat 14 8

/-- FETCH_FAILED of a latched entry (R375). -/
def fetchFailed (c : Sub) : Bool := c.flags.getLsbD 15

/-- RESUBMIT of an entry (R359). -/
def resubmit (c : Sub) : Bool := c.flags.getLsbD 0

/-! ### Completion -/

/-- The 32 bytes of a completion entry (R361). -/
def compBytes (c : Sub) (status : Nat) (result : List Byte) (cue : CueNo) (head : Nat)
    (phase aside : Bool) : List Byte :=
  le 8 c.tag.toNat ++ (padTo 8 result).take 8 ++ le 4 c.accept.toNat ++ le 4 cue.toNat ++
    le 2 head ++ le 1 c.ring ++ le 1 status ++ le 2 (ofBool phase + 2 * ofBool aside) ++ le 2 0

/-- Entries of completion ring `c`. -/
def cqSize (s : State) (c : Nat) : Nat := 2 ^ rbits s (rHifCqCfg + 0x20 * c) 5 1

/-- Entries of submission ring `q`. -/
def sqSize (s : State) (q : Nat) : Nat := 2 ^ rbits s (rHifSqCfg + 0x20 * q) 5 1

/-- Completion ring `c` is enabled. -/
def cqEn (s : State) (c : Nat) : Bool := rbit s (rHifCqCfg + 0x20 * c) 0

/-- Submission ring `q` is enabled. -/
def sqEn (s : State) (q : Nat) : Bool := rbit s (rHifSqCfg + 0x20 * q) 0

/-- The host-memory writes of a command pass the two checks of R364. -/
def epochOk (s : State) (c : Sub) : Bool := cqEn s c.ring && epochOf c == (cq s c.ring).epoch

/-- The vector of completion ring `c` (R394). -/
def cqVec (s : State) (c : Nat) : Nat := rbits s (rHifCqCfg + 0x20 * c) 15 10

/-- The command is outstanding no longer: its credit returns (R363, R372). -/
def settle (c : Sub) (s : State) : State :=
  let hit (x : Nat × Sub) : Bool := x.2.ring == c.ring && x.2.tag == c.tag && x.2.accept == c.accept
  let hit := if s.hif.outstanding.any hit then hit
    else fun x => x.2.ring == c.ring && x.2.tag == c.tag
  if s.hif.outstanding.any hit then
    modCq c.ring (fun r => { r with outst := r.outst - 1 })
      (modHif (fun h => { h with outstanding := h.outstanding.eraseP hit }) s)
  else s

/-- Buffer data and the completion entry written to host memory, or discarded and counted when the
epoch check fails; the command's credit returns either way (R361 to R364). A command latched from a
partner's record writes nothing and holds no credit here (R495). -/
def completeWrite (c : Sub) (status : Nat) (result data : List Byte) (cue : CueNo) (aside : Bool)
    (s : State) : State :=
  let n := cqSize s c.ring
  let t := (cq s c.ring).tail
  let s1 :=
    if epochOk s c then
      let s := if data.isEmpty then s else hostWrite c.bufAddr.toNat data s
      let s := hostWrite
        (ringBase s (rHifCqBaseLo + 0x20 * c.ring) (rHifCqBaseHi + 0x20 * c.ring) + 32 * (t % n))
        (compBytes c status result cue (sq s c.ring).head (decide (t < n)) aside) s
      modCq c.ring (fun r => { r with tail := (t + 1) % (2 * n) }) s
    else countReg (rHifCqDiscards + 0x20 * c.ring) (if data.isEmpty then 1 else 2) s
  if c.partner then s else settle c s1

/-- A completion written as soon as it is decided, with ASIDE set, and its vector signalled
(R381, R394). -/
def completeAside (c : Sub) (status : Nat) (result data : List Byte) (s : State) : State :=
  let ok := epochOk s c
  let s1 := completeWrite c status result data s.proc.cueNow true s
  if ok then vecSignal (cqVec s c.ring) s1 else s1

/-- The completion of a command: at once for one served aside, else in Publish (R57, R381). -/
def reply (e op status : Nat) (c : Sub) (result data : List Byte) (s : State) : State :=
  if c.aside then completeAside c status result data s else finish e op status c result data s

/-- A completion with result 0 and no buffer data. -/
def replySt (e op status : Nat) (c : Sub) (s : State) : State := reply e op status c [] [] s

/-! ### Judging -/

/-- The use an opcode makes of its buffer (R360, R376). -/
inductive BufUse where
  | none
  | read
  | image          -- read, up to 25,165,824 bytes
  | written
  deriving DecidableEq, Repr

/-- The buffer fields agree with the opcode's use (R359, R360). -/
def bufOk (u : BufUse) (c : Sub) : Bool :=
  match u with
  | .none => c.bufAddr == 0 && c.length == 0 && c.bufLen == 0
  | .read => c.length == c.bufLen && decide (1 ≤ c.length) && decide (c.length ≤ 65472) &&
      c.bufAddr.toNat % 8 == 0
  | .image => c.length == c.bufLen && decide (1 ≤ c.length) && decide (c.length ≤ 25165824) &&
      c.bufAddr.toNat % 8 == 0
  | .written => c.length == 0 && c.bufAddr.toNat % 8 == 0

/-- One opcode of R376, as the judging needs it. -/
structure CmdSpec where
  op     : Nat
  engine : Sub → State → Nat           -- the engine that takes it
  use    : BufUse
  aside  : Bool                        -- on an Understudy: aside (true) or NOT_LEAD (R382)
  static : Sub → Bool                  -- no reserved encoding in its parameters
  wrong  : Sub → State → Bool          -- "Also WRONG_STATE when" of R382
  check  : Sub → State → Option Nat    -- the owner's checks: the status they give (R378 step 6)
  cost   : Sub → State → Nat           -- R51
  act    : Nat → Sub → State → State   -- the effect, once every check has passed

/-- The reserved flags are 0 (R359). -/
def flagsOk (c : Sub) : Bool := bits c.flags.toNat 7 1 == 0

/-- Cues from acceptance to the target (R55). -/
def targetDiff (c : Sub) : Int := sdiff32 c.target c.accept

/-- The command waits for a later cue (R55). -/
def isFuture (c : Sub) : Bool := c.target != 0 && decide (0 < targetDiff c) && !c.aside

/-- The command is held: its target cue is still to come when it is validated, which a deferral can put off (R53,
R55). -/
def mustHold (c : Sub) (s : State) : Bool := isFuture c && decide (0 < sdiff32 c.target s.proc.procCue)

/-- Commands that engine `e` holds (R56). -/
def heldCount (s : State) (e : Nat) : Nat := (s.proc.held.filter fun h => h.engine == e).length

/-- The status by which a command ends before its owner's checks, in the order of R378; none when
it goes on. -/
def judged (k : CmdSpec) (c : Sub) (s : State) : Option Nat :=
  if isUnderstudy s && c.aside && !k.aside then some stNotLead
  else if fetchFailed c then some stIntegrity
  else if !(flagsOk c && bufOk k.use c && k.static c) || (c.target != 0 && decide (65536 < targetDiff c))
  then some stBadParam
  else if k.wrong c s then some stWrongState
  else if c.target != 0 && decide (targetDiff c < 0) then some stTimeout
  else if mustHold c s && decide (1024 ≤ heldCount s (k.engine c s)) then some stNoResource
  else none

/-- The record of a command that completes with WRONG_STATE (R378, R620). -/
def wrongRecord (e op : Nat) (c : Sub) (s : State) : State :=
  let p1 := op % 65536 + 65536 * c.ring
  let lo := c.tag.toNat % 2 ^ 32
  let hi := c.tag.toNat / 2 ^ 32
  if c.aside then emitLocal 0x0006 9 p1 lo hi c.accept.toNat s
  else emit e 0x0006 p1 lo hi c.accept.toNat s

/-- A command refused with a status; WRONG_STATE leaves its record (R378). -/
def refuse (e op status : Nat) (c : Sub) (s : State) : State :=
  let s := if status = stWrongState then wrongRecord e op c s else s
  replySt e op status c s

/-- The tag-table entry of a resubmission; a Solo unit keeps no table (R497). -/
def tagOf (s : State) (c : Sub) : Option TagEnt :=
  if resubmit c && !c.aside && s.pair.role != 0 then
    s.pair.tags.find? fun t => t.tag == c.tag && t.ring == c.ring
  else none

/-- The original of a resubmission takes the buffer fields of the resubmission, with its ring epoch
(R364, R497). -/
def takePlace (c o : Sub) : Sub :=
  if o.ring == c.ring && o.tag == c.tag then
    { o with bufAddr := c.bufAddr, bufLen := c.bufLen, partner := c.partner
             flags := (o.flags &&& 0x80FF#16) ||| (c.flags &&& 0x7F00#16) }
  else o

/-- A change of the command that a row carries. -/
def mapRow (f : Sub → Sub) (i : Instr) : Instr :=
  match i with
  | .reservedOpcode op c => .reservedOpcode op (f c)
  | .nop c => .nop (f c)
  | .configApply c => .configApply (f c)
  | .configRead c => .configRead (f c)
  | .nodeSend c => .nodeSend (f c)
  | .floodSend c => .floodSend (f c)
  | .rawTx c => .rawTx (f c)
  | .overtureSend c => .overtureSend (f c)
  | .rxPost c => .rxPost (f c)
  | .nodeAdmit c => .nodeAdmit (f c)
  | .nodeEvict c => .nodeEvict (f c)
  | .nodeQuery c => .nodeQuery (f c)
  | .tableRead c => .tableRead (f c)
  | .tableWrite c => .tableWrite (f c)
  | .tableUnlock c => .tableUnlock (f c)
  | .scheduleSet c => .scheduleSet (f c)
  | .timeSet c => .timeSet (f c)
  | .pulseProgram c => .pulseProgram (f c)
  | .captureSpectrum c => .captureSpectrum (f c)
  | .imageStage c => .imageStage (f c)
  | .imageActivate c => .imageActivate (f c)
  | .imageConfirm c => .imageConfirm (f c)
  | .tourStart c => .tourStart (f c)
  | .roleRequest c => .roleRequest (f c)
  | .callboardRead c => .callboardRead (f c)
  | .keyInstall c => .keyInstall (f c)
  | .imageVerify c b => .imageVerify (f c) b
  | .selftestRun c n => .selftestRun (f c) n
  | i => i

/-- A change of the command of an item. -/
def mapItem (f : Sub → Sub) (it : Item) : Item :=
  match it with
  | .row i => .row (mapRow f i)
  | .held op c => .held op (f c)
  | it => it

/-- A change of the command that an engine's note of a request names. -/
def mapUse (f : Sub → Sub) (u : TxUse) : TxUse :=
  match u with
  | .cmd op c => .cmd op (f c)
  | u => u

/-- A change of every command in progress, wherever it waits. -/
def mapSubs (f : Sub → Sub) (s : State) : State :=
  let down (d : Downlink) : Downlink := { d with cmd := d.cmd.map f }
  let nodeF (_ : Nat) (n : Node) : Node :=
    { n with downs := n.downs.map down
             upd := n.upd.map fun u => { u with cmd := u.cmd.map f }
             leave := n.leave.map fun l => (l.1, l.2.1.map f, l.2.2) }
  let updF (u : Upd) : Upd :=
    { u with
      staging := u.staging.map f
      verifying := u.verifying.map fun x => (f x.1, x.2)
      confirming := u.confirming.map f
      roll := u.roll.map fun r => { r with sub := r.sub.map f }
      tour := u.tour.map fun t => { t with sub := f t.sub } }
  { s with
    proc := { s.proc with held := s.proc.held.map fun h => { h with sub := f h.sub } }
    engs := smMapAll {} s.engs fun _ g => { g with deferred := g.deferred.map fun x => (x.1, mapItem f x.2) }
    mesh := { s.mesh with
      nodes := smMapAll {} s.mesh.nodes nodeF
      uses := s.mesh.uses.map fun u => { u with use := mapUse f u.use }
      floods := s.mesh.floods.map fun x => { x with cmd := x.cmd.map f } }
    hif := { s.hif with
      cq := smMapAll {} s.hif.cq fun _ r => { r with pool := r.pool.map f }
      capture := s.hif.capture.map fun x => { x with sub := f x.sub } }
    upd := updF s.upd
    updP := updF s.updP }

/-- A command that passed R378 steps 1 to 5: its owner's checks, then held for its target cue, or
acted on (R55). -/
def accepted (k : CmdSpec) (e : Nat) (c : Sub) (s : State) : State :=
  match k.check c s with
  | some st => refuse e k.op st c s
  | none =>
    if mustHold c s then
      modProc (fun p => { p with held := p.held ++ [⟨e, c.target, k.op, c⟩] }) s
    else k.act e c s

/-- A command accepted in the cue joins the tag table of a pair member in the next Housekeeping, unless it is
a resubmission that finds its entry (R496, R497). -/
def tagNote (c : Sub) (s : State) : State :=
  if s.pair.role = 0 ∨ (tagOf s c).isSome = true then s
  else modPair (fun p => { p with tagNew := p.tagNew ++ [⟨c.tag, c.ring, 0, false, c.accept, [], 0⟩] }) s

/-- What an engine does with a command it takes: the order of R378, the tag table of R497. -/
def handle (k : CmdSpec) (e : Nat) (c : Sub) (s : State) : State :=
  match judged k c s, tagOf s c with
  | some st, none => refuse e k.op st c s
  | none, none => accepted k e c s
  | j, some t =>
    if j = some stIntegrity ∨ j = some stBadParam then refuse e k.op (j.getD 0) c s
    else if t.done then finish e k.op t.status { c with accept := t.accept } t.result [] s
    else mapSubs (takePlace c) s

/-- A status that R51 charges at 10: a command that ends without its action. -/
def cheap (st : Option Nat) : Bool := st == some stWrongState || st == some stBadParam

/-- The work units of a command (R51): 10 when it ends without its action, or is held. -/
def cmdCost (k : CmdSpec) (c : Sub) (s : State) : Nat :=
  if (judged k c s).isSome || cheap (k.check c s) || mustHold c s || (tagOf s c).any (·.done) then 10
  else k.cost c s

/-- A latched host command is taken by its engine; a command served aside is served by Prompter 1
outside the budgets (R53, R381). -/
def runCmd (k : CmdSpec) (it : Item) (c : Sub) (s : State) : State :=
  if c.aside then handle k 9 c s
  else takeItem (k.engine c s) (cmdCost k c s) it (handle k (k.engine c s) c) s

/-- The action of a command held for its target cue (R55): its state is judged again. -/
def runHeld (k : CmdSpec) (c : Sub) (s : State) : State :=
  let e := k.engine c s
  if k.wrong c s then refuse e k.op stWrongState c s
  else
    match k.check c s with
    | some st => refuse e k.op st c s
    | none => k.act e c s

/-- The engine is Prompter 0. -/
def byPrompter0 (_ : Sub) (_ : State) : Nat := 8
/-- The engine is Prompter 1. -/
def byPrompter1 (_ : Sub) (_ : State) : Nat := 9
/-- The engine is the Stage Manager. -/
def byStage (_ : Sub) (_ : State) : Nat := 10
/-- The engine is the Box Office. -/
def byBox (_ : Sub) (_ : State) : Nat := 11
/-- The owner has no further check. -/
def noCheck (_ : Sub) (_ : State) : Option Nat := none
/-- No further case of WRONG_STATE. -/
def neverWrong (_ : Sub) (_ : State) : Bool := false
/-- An item kind not listed in R51. -/
def cost10 (_ : Sub) (_ : State) : Nat := 10

/-! ### NOP and reserved opcodes -/

/-- NOP (R376). -/
def cmdNop : CmdSpec where
  op := 0x0001
  engine := byPrompter0
  use := .none
  aside := true
  static := fun c => pZero c 32 63
  wrong := neverWrong
  check := noCheck
  cost := cost10
  act := fun e c s => replySt e 0x0001 stOk c s

/-- A reserved opcode: Prompter 0 takes it and it completes with BAD_PARAM (R376). -/
def cmdReserved (op : Nat) : CmdSpec where
  op := op
  engine := byPrompter0
  use := .none
  aside := false
  static := fun _ => false
  wrong := neverWrong
  check := noCheck
  cost := cost10
  act := fun e c s => replySt e op stBadParam c s

/-- Meaning of NOP. -/
def execNop (c : Sub) (s : State) : Host.Outcome State Fault Refusal :=
  .next (runCmd cmdNop (.row (.nop c)) c s)

/-- Meaning of RESERVED_OPCODE. -/
def execReservedOpcode (op : BitVec 16) (c : Sub) (s : State) : Host.Outcome State Fault Refusal :=
  .next (runCmd (cmdReserved op.toNat) (.row (.reservedOpcode op c)) c s)

/-! ### Receive buffers -/

/-- RX_POST (R383). -/
def cmdRxPost : CmdSpec where
  op := 0x0024
  engine := byPrompter0
  use := .written
  aside := false
  static := fun c => pZero c 32 63 && decide (2080 ≤ c.bufLen)
  wrong := neverWrong
  check := fun c s => if 1024 ≤ (cq s c.ring).pool.length then some stNoResource else none
  cost := cost10
  act := fun _ c s => modCq c.ring (fun r => { r with pool := r.pool ++ [c] }) s

/-- Meaning of RX_POST. -/
def execRxPost (c : Sub) (s : State) : Host.Outcome State Fault Refusal :=
  .next (runCmd cmdRxPost (.row (.rxPost c)) c s)

end Sys2Proof.Machine
end

