-- ==== Sys2Proof/Machine/SelfTest.lean ====
section
/-! DEFINITION. Recording the outcome of a self-test (R423, R425) and what a lasting fault does to a
pair (R428, R473). -/

namespace Sys2Proof.Machine

/-- Event source of the unit of a self-test: class and index of R429 (R392). -/
def unitSource (cls ix : Nat) : Nat :=
  match cls with
  | 0 => if ix < 96 then 176 + ix / 8 else 188
  | 1 => 160 + ix / 16
  | 2 => if ix < 33 then 20 else 21
  | 3 => 128 + ix
  | 4 => ix
  | _ => 192

/-- A transient (pass) or lasting fault counted in WNG_FAULTS (R425, R433). -/
def countFault (pass : Bool) (s : State) : State :=
  if pass then setRBits rWngFaults 15 0 (satAdd 0xFFFF (rbits s rWngFaults 15 0) 1) s
  else setRBits rWngFaults 31 16 (satAdd 0xFFFF (rbits s rWngFaults 31 16) 1) s

/-- A lasting fault in the Lead forces a swap: its view falls (R428, R473). -/
def forceSwap (s : State) : State :=
  if s.pair.role = 1 then modPair (fun p => { p with forced := true }) s else s

/-- The outcome of a self-test: the record 0x7004 with class, index, outcome and failing count, the
fault counted, and the swap a lasting fault forces in the Lead (R425, R428). -/
def testOutcome (cls ix : Nat) (pass : Bool) (fails : Nat) (s : State) : State :=
  let s1 := emitLocal 0x7004 (unitSource cls ix) cls ix (if pass then 0 else 1) fails (countFault pass s)
  if pass then s1 else forceSwap s1

/-- State of bank `b` (WNG_BANK_STATE, R433): 0 in service, 1 faulted, 2 retired, 3 spare. -/
def bankState (s : State) (b : Nat) : Nat := smGet 0 s.wings.banks b

/-- The unit has a lasting fault that nothing repairs: a faulted bank or one still migrating, a
quarantined queue, a bad lane, a chain out of service, a retired engine, a failed audit (R473). -/
def unrepaired (s : State) : Bool :=
  s.wings.banks.any (fun b => b.2 == 1) || s.wings.migr.isSome || !s.wings.waitMigr.isEmpty ||
  s.hif.queues.any (fun q => q.2.quarantined) || s.engs.any (fun e => e.2.retired) ||
  !s.wings.laneBad.isEmpty || s.txa.st == .outOfService || s.txb.st == .outOfService ||
  s.pair.auditBad || s.wings.lasting

/-- A relief pending lowers the view from the next cue start (R503). -/
def reliefShown (s : State) : Bool :=
  match s.pair.viewLow with
  | some c => decide (0 ≤ sdiff32 s.proc.cueNow c)
  | none => false

/-- The unit is fit to take or keep the lead (R473); PAIR_VIEW_OUT is high while it is (R487). DEDUCED: a fresh
Understudy is fit once the 64 cues of R473 have passed and it has heard no Lead. -/
def isFit (s : State) : Bool :=
  match s.pair.role with
  | 1 => !s.proc.faulted && !unrepaired s && !s.pair.forced && !reliefShown s
  | 2 => !s.proc.faulted && !unrepaired s
  | 3 => !s.proc.faulted && !unrepaired s
  | 5 => !s.pair.heardLead && decide (64 ≤ sdiff32 s.proc.cueNow s.pair.started) && !s.proc.faulted && !unrepaired s
  | _ => false

end Sys2Proof.Machine
end

