-- ==== Sys2Proof/Machine/HostIf.lean ====
section
/-! DEFINITION. The host interface as hardware (chapter 09): ring enables, doorbells and their errors
(R364 to R370), the start of a fetch (R371, R372), MSI-X (R394, R395), endpoint reset (R355), BAR
access errors (R353, R354) and the hardware queues (R385 to R391). -/

namespace Sys2Proof.Machine

/-! ### Ring errors and enables -/

/-- The ring-error record and event of a ring kind (R370). -/
def ringErrorRecord (k : RingKind) (s : State) : State :=
  match k with
  | .submission => emitLocal 0x6001 145 0 0 0 0 s
  | .completion => emitLocal 0x6001 146 0 0 0 0 s
  | .event => emitLocal 0x6001 147 0 0 0 0 s

/-- A ring goes into error (R370). -/
def ringError (k : RingKind) (q : Nat) (s : State) : State :=
  ringErrorRecord k
    (match k with
    | .submission => modSq q (fun r => { r with error := true }) s
    | .completion => modCq q (fun r => { r with error := true }) s
    | .event => modHif (fun h => { h with evr := { h.evr with error := true } }) s)

/-- Register of a ring's EN and SIZE_LOG2. -/
def ringCfg (k : RingKind) (q : Nat) : Nat :=
  match k with
  | .submission => rHifSqCfg + 0x20 * q
  | .completion => rHifCqCfg + 0x20 * q
  | .event => rHifEqCfg

/-- Entries of submission ring `q` that wait to be fetched (R357). -/
def sqCount (s : State) (q : Nat) : Nat :=
  ((sq s q).tail + 2 * sqSize s q - (sq s q).head) % (2 * sqSize s q)

/-- Entries of completion ring `c` not yet released (R357). -/
def cqCount (s : State) (c : Nat) : Nat :=
  ((cq s c).tail + 2 * cqSize s c - (cq s c).head) % (2 * cqSize s c)

/-- Credit of completion ring `c` (R372). -/
def cqCredit (s : State) (c : Nat) : Nat := cqSize s c - cqCount s c - (cq s c).outst

/-- Entries being fetched are given up, and their credit returns. -/
def dropFlight (q : Nat) (s : State) : State :=
  let n := (sq s q).flight
  modCq q (fun r => { r with outst := r.outst - n }) (modSq q (fun r => { r with flight := 0 }) s)

/-- Setting EN: pointers to 0, errors cleared, and for a completion ring the epoch of its pair one
on (R364, R370, R402). Setting EN where it is 1 changes nothing. -/
def enableRing (k : RingKind) (q : Nat) (s : State) : State :=
  if rbit s (ringCfg k q) 0 then s
  else
    let s1 := setRBit (ringCfg k q) 0 s
    match k with
    | .submission =>
      modSq q (fun r => { r with head := 0, tail := 0, error := false, readFault := false }) s1
    | .completion =>
      modCq q (fun r => { r with head := 0, tail := 0, error := false, epoch := (r.epoch + 1) % 128 }) s1
    | .event =>
      evLost (modHif (fun h => { h with evr := { h.evr with head := 0, tail := 0, error := false } }) s1)

/-- Clearing EN: fetch stops, or the ring's writes are discarded (R364, R400). -/
def disableRing (k : RingKind) (q : Nat) (s : State) : State :=
  let s1 := setRBits (ringCfg k q) 0 0 0 s
  match k with
  | .submission => dropFlight q s1
  | .completion => s1
  | .event => s1

/-- Meaning of RING_ENABLE. -/
def execRingEnable (k : RingKind) (q : Fin 64) (s : State) : Host.Outcome State Fault Refusal :=
  .next (enableRing k q.val s)

/-- Meaning of RING_DISABLE. -/
def execRingDisable (k : RingKind) (q : Fin 64) (s : State) : Host.Outcome State Fault Refusal :=
  .next (disableRing k q.val s)

/-! ### Doorbells -/

/-- A doorbell reached a ring with EN 0 (R370). -/
def doorbellOff (s : State) : State := setRBit rHifErr 2 s

/-- A write of the tail doorbell of submission ring `q` (R368 to R370). -/
def ringTail (q v : Nat) (s : State) : State :=
  let n := sqSize s q
  let s1 := modSq q (fun r => { r with bell := w32 v }) s
  if !sqEn s q then doorbellOff s1
  else if 2 * n ≤ v % 2 ^ 32 ∨ n < (v % 2 ^ 32 + 2 * n - (sq s q).head) % (2 * n) then
    ringError .submission q s1
  else modSq q (fun r => { r with tail := v % 2 ^ 32 }) s1

/-- A write of the head doorbell of completion ring `c` (R368 to R370): it may not pass the tail or
move back. -/
def ringHead (c v : Nat) (s : State) : State :=
  let n := cqSize s c
  let s1 := modCq c (fun r => { r with bell := w32 v }) s
  if !cqEn s c then doorbellOff s1
  else if 2 * n ≤ v % 2 ^ 32 ∨ cqCount s c < ((cq s c).tail + 2 * n - v % 2 ^ 32) % (2 * n) then
    ringError .completion c s1
  else modCq c (fun r => { r with head := v % 2 ^ 32, error := false }) s1

/-- A write of the head doorbell of the event ring (R366, R368 to R370). -/
def eventHead (v : Nat) (s : State) : State :=
  let n := evSize s
  let s1 := modHif (fun h => { h with evr := { h.evr with bell := w32 v } }) s
  if !evEn s then doorbellOff s1
  else if 2 * n ≤ v % 2 ^ 32 ∨ evCount s < (s.hif.evr.tail + 2 * n - v % 2 ^ 32) % (2 * n) then
    ringError .event 0 s1
  else
    evLost (modHif (fun h => { h with evr := { h.evr with head := v % 2 ^ 32, error := false } }) s1)

/-- Meaning of SUBMISSION_DOORBELL; beyond ring 63 no doorbell lies there (R353). -/
def execSubmissionDoorbell (q : Nat) (v : Nat) (s : State) : Host.Outcome State Fault Refusal :=
  .next (if q < 64 then ringTail q v s else s)

/-- Meaning of COMPLETION_DOORBELL; beyond ring 63 no doorbell lies there (R353). -/
def execCompletionDoorbell (c : Nat) (v : Nat) (s : State) : Host.Outcome State Fault Refusal :=
  .next (if c < 64 then ringHead c v s else s)

/-- Meaning of EVENT_DOORBELL. -/
def execEventDoorbell (v : Nat) (s : State) : Host.Outcome State Fault Refusal := .next (eventHead v s)

/-! ### Fetch -/

/-- Bytes that wait for the next Intake at which fetch pauses: 288 KiB (R374). -/
abbrev fetchPause : Nat := 294912

/-- Submission ring `q` qualifies for fetching (R371, R374); a running recovery image serves ring 0 without
processing (R533). -/
def sqQualifies (s : State) (q : Nat) : Bool :=
  (s.proc.processing || (s.pwr.recImage && q == 0)) && !inReplay s && s.pair.role != 7 && decide (s.hif.fetchedBytes < fetchPause) &&
    sqEn s q && !(sq s q).error && decide ((sq s q).flight < sqCount s q) && cqEn s q &&
    decide (1 ≤ cqCredit s q)

/-- The qualifying ring whose turn it is, in ascending round robin from `rr` (R371). -/
def nextRing (s : State) : Option Nat :=
  ((List.range 64).map fun i => (s.hif.rr + i) % 64).find? (sqQualifies s)

/-- SUBMISSION_FETCH (R371): the ring's turn begins; up to BURST + 1 entries are fetched, each of
which takes a credit. -/
def startFetch (q : Nat) (s : State) : State :=
  if nextRing s = some q then
    let n := min (min (rbits s (rHifSqCfg + 0x20 * q) 9 6 + 1) (sqCount s q - (sq s q).flight))
      (cqCredit s q)
    modHif (fun h => { h with rr := (q + 1) % 64 })
      (modCq q (fun r => { r with outst := r.outst + n })
        (modSq q (fun r => { r with flight := r.flight + n }) s))
  else s

/-- Meaning of SUBMISSION_FETCH. -/
def execSubmissionFetch (q : Nat) (s : State) : Host.Outcome State Fault Refusal :=
  if q < 64 then .next (startFetch q s) else .fault .noSuchUnit

/-! ### MSI-X -/

/-- The hold of a vector ends, once its microseconds have passed (R395). -/
def holdEnds (v : Nat) (s : State) : State :=
  if smGet false s.hif.vecHold v && later64 (smGet 0 s.hif.vecEnd v) s.time.tb0 then s else
  let due := smGet false s.hif.vecDue v
  let s1 := modHif (fun h => { h with
    vecHold := smSet false h.vecHold v false, vecDue := smSet false h.vecDue v false }) s
  if due then vecSignal v s1 else s1

/-- A vector unmasked, or masked, in the MSI-X table (R395). -/
def maskVector (v : Nat) (masked : Bool) (s : State) : State :=
  let s1 := modHif (fun h => { h with vecMask := smSet false h.vecMask v (!masked) }) s
  if !masked && smGet false s.hif.pba v then
    vecSignal v (modHif (fun h => { h with pba := smSet false h.pba v false }) s1)
  else s1

/-- Meaning of VECTOR_HOLD_EXPIRY. -/
def execVectorHoldExpiry (e : HoldEnd) (s : State) : Host.Outcome State Fault Refusal :=
  if e.vector < 64 then .next (holdEnds e.vector (atTime e.stamp s)) else .fault .noSuchUnit

/-- Meaning of MSIX_UNMASK. -/
def execMsixUnmask (v : Nat) (s : State) : Host.Outcome State Fault Refusal :=
  if v < 64 then .next (maskVector v false s) else .fault .noSuchUnit

/-! ### Resets and access errors -/

/-- The registers outside a range of offsets. -/
def regsOutside (lo hi : Nat) (m : SMap Word32) : SMap Word32 :=
  m.filter fun x => decide (x.1 < lo) || decide (hi ≤ x.1)

/-- The endpoint and the Host interface block reset: every EN and pointer 0, every register at its
Reset column; the epochs, the fetched commands and the queues of the Wings stay (R355, R364). -/
def resetEndpoint (s : State) : State :=
  let drop := (List.range 64).foldl (fun s q => if (sq s q).flight = 0 then s else dropFlight q s) s
  let s1 : State := { drop with regs := regsOutside 0x40000 0x50000 drop.regs }
  modHif (fun h => { h with
    sq := []
    cq := smMapAll {} h.cq fun _ r => { r with head := 0, tail := 0, error := false, bell := 0 }
    evr := {}
    vecHold := [], vecDue := [], vecEnd := [], vecMask := [], pba := [], rr := 0 }) s1

/-- Meaning of ENDPOINT_RESET (R355). -/
def execEndpointReset (s : State) : Host.Outcome State Fault Refusal := .next (resetEndpoint s)

/-- Meaning of BAR_ACCESS_ERROR: the access has no effect and BAR_ACCESS is set (R353). -/
def execBarAccessError (_write : Bool) (s : State) : Host.Outcome State Fault Refusal :=
  .next (setRBit rHifErr 0 s)

/-- BAR4 is open (R463, R469): DBG_STATE as shipped, and BAR4_CLOSE clear. -/
def bar4Open (s : State) : Bool := s.sec.fuses.dbg == 1 && !bit (cfgU s recSec 0 2) 0

/-- Meaning of BAR4_WRITE: no effect but BAR4_WRITE (R354). -/
def execBar4Write (_off : Nat) (_v : Word32) (s : State) : Host.Outcome State Fault Refusal :=
  .next (setRBit rHifErr 1 s)

/-! ### Hardware queues -/

/-- Event source of hardware queue `q` (R392). -/
def hwqSource (q : Nat) : Nat := 160 + q / 16

/-- HIF_Q_CFG of a queue, as the firmware set assigns it at processing start (R385). -/
def hwqCfg (s : State) (q : Nat) : Word32 := if s.hif.qcfg then Config.queueCfg q else 0

/-- Depth of a queue in words (R385). -/
def hwqDepth (s : State) (q : Nat) : Nat := 2 ^ (fieldOf (hwqCfg s q) 20 17 + 4)

/-- Level of a queue in words: WP less RP (R386). -/
def hwqLevel (x : Hwq) : Nat := (x.packets.map List.length).sum - x.consuming

/-- A pointer of a queue: RP, WP or PP, of n + 1 bits (R386). -/
def hwqPtr (s : State) (q n : Nat) : Nat := n % (2 * hwqDepth s q)

/-- The read pointer (R386). -/
def hwqRp (s : State) (q : Nat) : Nat := hwqPtr s q (hwq s q).rp

/-- The write pointer (R386). -/
def hwqWp (s : State) (q : Nat) : Nat := hwqPtr s q ((hwq s q).rp + hwqLevel (hwq s q))

/-- The pending pointer of the producer (R386). -/
def hwqPp (s : State) (q : Nat) : Nat :=
  hwqPtr s q ((hwq s q).rp + hwqLevel (hwq s q) + (hwq s q).writing.length)

/-- High mark. -/
def hwqHigh (s : State) (q : Nat) : Nat := rbits s (rHifQWm + 0x20 * q) 15 0

/-- Low mark. -/
def hwqLow (s : State) (q : Nat) : Nat := rbits s (rHifQWm + 0x20 * q) 31 16

/-- The queue-notice event and record (R390). -/
def queueNotice (q : Nat) (s : State) : State := emitLocal 0x6003 (hwqSource q) 0 0 0 0 s

/-- The HIGH mark after the level moved from `a` to `b`: each crossing counts, an upward one sets the
notice (R390). -/
def crossHigh (q a b : Nat) (s : State) : State :=
  let m := hwqHigh s q
  if m = 0 ∨ decide (m < a) = decide (m < b) then s
  else
    let s1 := modHwq q (fun x => { x with highCnt := satAdd 255 x.highCnt 1 }) s
    if m < b ∧ (hwq s q).high = false then queueNotice q (modHwq q (fun x => { x with high := true }) s1)
    else s1

/-- The LOW mark after the level moved from `a` to `b`: a downward crossing sets the notice (R390). -/
def crossLow (q a b : Nat) (s : State) : State :=
  let m := hwqLow s q
  if m = 0 ∨ decide (a < m) = decide (b < m) then s
  else
    let s1 := modHwq q (fun x => { x with lowCnt := satAdd 255 x.lowCnt 1 }) s
    if b < m ∧ (hwq s q).low = false then queueNotice q (modHwq q (fun x => { x with low := true }) s1)
    else s1

/-- A queue changed, with the crossings of its marks (R390). -/
def hwqChange (q : Nat) (f : Hwq → Hwq) (s : State) : State :=
  let a := hwqLevel (hwq s q)
  let s1 := modHwq q f s
  let b := hwqLevel (hwq s1 q)
  crossLow q a b (crossHigh q a b s1)

/-- W1C of a queue's notices (R390): the notice and its count are cleared, and the notice is set again
at once when its condition still holds. -/
def ackNotices (q : Nat) (high low : Bool) (s : State) : State :=
  let v := hwqLevel (hwq s q)
  let s1 :=
    if high then
      let s1 := modHwq q (fun x => { x with high := false, highCnt := 0 }) s
      if hwqHigh s q ≠ 0 ∧ hwqHigh s q < v then
        queueNotice q (modHwq q (fun x => { x with high := true }) s1)
      else s1
    else s
  if low then
    let s2 := modHwq q (fun x => { x with low := false, lowCnt := 0 }) s1
    if hwqLow s q ≠ 0 ∧ v < hwqLow s q then
      queueNotice q (modHwq q (fun x => { x with low := true }) s2)
    else s2
  else s1

/-- A flush asked by the host; without HOST_FLUSH it has no effect (R389). -/
def askFlush (q : Nat) (s : State) : State :=
  if bit (hwqCfg s q).toNat 22 then modHwq q (fun x => { x with flush := true }) s else s

/-- The flush takes effect at packet boundaries of both sides; RP moves to WP, and the packets passed over count as
drops (R389). -/
def flushNow (q : Nat) (s : State) : State :=
  let x := hwq s q
  if x.flush && x.writing.isEmpty && !x.skip && x.consuming == 0 then
    hwqChange q (fun x => { x with packets := [], rp := x.rp + hwqLevel x, flush := false })
      (countReg (rHifQDrops + 0x20 * q) x.packets.length s)
  else s

/-- Words of the packet being written once its header has a place (R387). -/
def packetWords (x : Hwq) : List Word64 := if x.writing.isEmpty then [0] else x.writing

/-- A quarantined queue, and one whose storage test runs, takes nothing in (R391). -/
def hwqSink (x : Hwq) : Bool := x.testing || x.quarantined

/-- A wait-mode producer resumes once its queue has room (R388); on a quarantined queue it never waits (R391). -/
def resumeProducer (q : Nat) (s : State) : State :=
  let x := hwq s q
  if x.waiting && (hwqSink x || decide (hwqLevel x + (packetWords x).length < hwqDepth s q)) then
    modHwq q (fun x => { x with waiting := false }) s
  else s

/-- A word of a queue in its storage: the queue region of the Wings from BASE (R385, R405). -/
def queueAddr (s : State) (q n : Nat) : Nat :=
  0x1600000 + 8 * ((fieldOf (hwqCfg s q) 16 0 + n % hwqDepth s q) % 131072)

/-- A word stored in the queue region. -/
def storeQueue (q n : Nat) (v : Word64) (s : State) : State :=
  modWings (fun w => { w with words := smSet none w.words (queueAddr s q n / 8) (some v) }) s

/-- The packet in progress is rewound, PP set to WP, and counted (R387, R388, R408); what its producer still writes
of it is passed over. -/
def rewindPacket (q : Nat) (more : Bool) (s : State) : State :=
  countReg (rHifQDrops + 0x20 * q) 1
    (modHwq q (fun x => { x with writing := [], skip := more, waiting := false }) s)

/-- The producer writes a body word at PP (R387, R388): a packet longer than 2^n - 1 words is rewound and counted; on
a full queue the producer rewinds or waits. -/
def queueWord (q : Nat) (v : Word64) (s : State) : State :=
  let x := hwq s q
  let l := packetWords x
  if x.skip || x.waiting then s
  else if hwqDepth s q - 1 < l.length + 1 then rewindPacket q true s
  else if !hwqSink x && decide (hwqDepth s q < hwqLevel x + l.length + 1) then
    if bit (hwqCfg s q).toNat 21 then modHwq q (fun x => { x with waiting := true }) s
    else rewindPacket q true s
  else
    storeQueue q (x.rp + hwqLevel x + l.length) v (modHwq q (fun x => { x with writing := l ++ [v] }) s)

/-- The header word of a packet (R387). -/
def packetHeader (words : Nat) (kind : BitVec 8) (seq : Nat) : Word64 :=
  BitVec.ofNat 64 (words % 65536 + 65536 * kind.toNat + 2 ^ 32 * (seq % 2 ^ 32))

/-- The producer commits its packet: WP moves to PP (R387). During the storage test a commit is discarded and counted,
on a quarantined queue discarded (R391). -/
def queueCommit (q : Nat) (kind : BitVec 8) (s : State) : State :=
  let x := hwq s q
  let l := packetWords x
  let header := packetHeader (l.length - 1) kind x.seq
  if x.skip then modHwq q (fun x => { x with skip := false, seq := x.seq + 1 }) s
  else if x.waiting then s
  else
    let s1 := modHwq q (fun x => { x with writing := [], seq := x.seq + 1 }) s
    if x.testing then countReg (rHifQDrops + 0x20 * q) 1 s1
    else if x.quarantined then s1
    else
      storeQueue q (x.rp + hwqLevel x) header
        (hwqChange q (fun x => { x with packets := x.packets ++ [header :: l.drop 1] }) s1)

/-- The packet failed in the producer (R387): a CRC failure, an abort or a header check that fails. -/
def queueRewind (q : Nat) (s : State) : State :=
  let x := hwq s q
  if x.skip then modHwq q (fun x => { x with skip := false }) s
  else if x.writing.isEmpty then s
  else rewindPacket q false s

/-- The consumer reads up to `n` words of the front packet (R387); a sink shows empty. -/
def queueRead (q n : Nat) (s : State) : State :=
  let x := hwq s q
  match x.packets with
  | [] => s
  | p :: _ =>
    if hwqSink x then s
    else if p.length ≤ x.consuming + n then
      hwqChange q (fun x => { x with
        packets := x.packets.drop 1, rp := x.rp + (p.length - x.consuming), consuming := 0 }) s
    else hwqChange q (fun x => { x with rp := x.rp + n, consuming := x.consuming + n }) s

/-- The consumer found a poisoned word: the packet is discarded at its boundary and counted (R414). -/
def discardPacket (q : Nat) (s : State) : State :=
  match (hwq s q).packets with
  | [] => s
  | p :: _ => countReg (rHifQDrops + 0x20 * q) 1 (queueRead q p.length s)

/-- The two copies of a pointer differ: the queue is reset and its storage tested (R391, R400). DESIGN CHOICE: a queue
under test or quarantined, which shows empty and takes nothing, is checked no more. -/
def queueMismatch (q : Nat) (s : State) : State :=
  let x := hwq s q
  if x.testing || x.quarantined then s
  else
    emitLocal 0x6004 (hwqSource q) 0 0 0 0
      (hwqChange q (fun x => { x with
        rp := 0, packets := [], writing := [], skip := false, consuming := 0, waiting := false, flush := false
        testing := true, resets := satAdd 255 x.resets 1 }) s)

/-- The storage test of a queue ends (R391). -/
def queueTested (q : Nat) (pass : Bool) (s : State) : State :=
  if (hwq s q).testing then
    testOutcome 1 q pass (if pass then 0 else 1)
      (modHwq q (fun x => { x with testing := false, quarantined := !pass }) s)
  else s

/-- Meaning of NOTICE_ACKNOWLEDGE. -/
def execNoticeAcknowledge (q : Fin 256) (high : Bool) (low : Bool) (s : State) :
    Host.Outcome State Fault Refusal := .next (ackNotices q.val high low s)

/-- Meaning of QUEUE_FLUSH. -/
def execQueueFlush (q : Fin 256) (s : State) : Host.Outcome State Fault Refusal :=
  .next (askFlush q.val s)

/-- Meaning of FLUSH_EFFECT. -/
def execFlushEffect (q : Fin 256) (s : State) : Host.Outcome State Fault Refusal :=
  .next (flushNow q.val s)

/-- Meaning of PRODUCER_RESUME. -/
def execProducerResume (q : Fin 256) (s : State) : Host.Outcome State Fault Refusal :=
  .next (resumeProducer q.val s)

/-- Meaning of QUEUE_POINTER_MISMATCH. -/
def execQueuePointerMismatch (q : Fin 256) (s : State) : Host.Outcome State Fault Refusal :=
  .next (queueMismatch q.val s)

/-- Meaning of QUEUE_TEST_END. -/
def execQueueTestEnd (q : Fin 256) (pass : Bool) (s : State) : Host.Outcome State Fault Refusal :=
  .next (queueTested q.val pass s)

end Sys2Proof.Machine
end

