-- ==== Sys2Proof/Machine/Crypto.lean ====
section
/-! DEFINITION. The public algorithms the Box Office uses by name: SHA-256 (FIPS 180-4), AES-128
(FIPS 197), CCM* (IEEE 802.15.4, R449), AES key wrap (RFC 3394) and ECDSA and ECDH on P-256
(FIPS 186-4). The manual names them and gives their inputs; their own text is PRESUMED. Strings are
octets, first octet first; integers inside them are big-endian (R434). -/

namespace Sys2Proof.Machine

/-- A big-endian number (R434). -/
def beNat (l : List Byte) : Nat := l.foldl (fun a b => 256 * a + b.toNat) 0

/-- `n` big-endian octets of `v` (R434). -/
def be (n v : Nat) : List Byte := (le n v).reverse

/-- Exclusive or of two octet strings. -/
def xorBytes (a b : List Byte) : List Byte := List.zipWith (· ^^^ ·) a b

/-- The octets of an ASCII label. -/
def ascii (s : String) : List Byte := s.toList.map fun c => BitVec.ofNat 8 c.toNat

/-! ### SHA-256 -/

/-- The prime numbers below 312, of which there are 64. -/
def smallPrimes : List Nat :=
  (List.range 312).filter fun n => decide (2 ≤ n) && (List.range 18).all fun d => decide (d < 2) || n == d || n % d != 0

/-- The greatest number below 2^36 whose `k`-th power is at most `n`, found from its top bit down. -/
def rootBelow (k n : Nat) : Nat :=
  (List.range 36).foldr (fun i r => if (r + 2 ^ i) ^ k ≤ n then r + 2 ^ i else r) 0

/-- The first 32 bits of the fraction of the `k`-th root of a prime. -/
def rootFraction (k p : Nat) : Word32 := BitVec.ofNat 32 (rootBelow k (p * 2 ^ (32 * k)))

/-- Round constants of SHA-256: from the cube roots of the first 64 primes. -/
def shaK : List Word32 := smallPrimes.map (rootFraction 3)

/-- Initial hash value: from the square roots of the first 8 primes. -/
def shaInit : List Word32 := (smallPrimes.take 8).map (rootFraction 2)

/-- One step of the message schedule: the last 16 words, newest last, give the next. -/
def shaNextW (w : List Word32) : Word32 :=
  let g (i : Nat) := w.getD i 0
  let s0 := (g 1).rotateRight 7 ^^^ (g 1).rotateRight 18 ^^^ (g 1 >>> 3)
  let s1 := (g 14).rotateRight 17 ^^^ (g 14).rotateRight 19 ^^^ (g 14 >>> 10)
  g 0 + s0 + g 9 + s1

/-- One round: the eight working words and the sliding window of the schedule. -/
def shaRound (acc : List Word32 × List Word32) (k : Word32) : List Word32 × List Word32 :=
  let g (i : Nat) := acc.1.getD i 0
  let w := acc.2.getD 0 0
  let s1 := (g 4).rotateRight 6 ^^^ (g 4).rotateRight 11 ^^^ (g 4).rotateRight 25
  let ch := (g 4 &&& g 5) ^^^ (~~~ (g 4) &&& g 6)
  let t1 := g 7 + s1 + ch + k + w
  let s0 := (g 0).rotateRight 2 ^^^ (g 0).rotateRight 13 ^^^ (g 0).rotateRight 22
  let maj := (g 0 &&& g 1) ^^^ (g 0 &&& g 2) ^^^ (g 1 &&& g 2)
  ([t1 + s0 + maj, g 0, g 1, g 2, g 3 + t1, g 4, g 5, g 6], acc.2.drop 1 ++ [shaNextW acc.2])

/-- One block of 64 octets. -/
def shaBlock (h : List Word32) (b : List Byte) : List Word32 :=
  let w := (List.range 16).map fun i => BitVec.ofNat 32 (beNat (slice b (4 * i) 4))
  List.zipWith (· + ·) h (shaK.foldl shaRound (h, w)).1

/-- SHA-256 of an octet string. -/
def sha256 (m : List Byte) : List Byte :=
  let pad := m ++ [0x80] ++ List.replicate ((119 - m.length % 64) % 64) 0 ++ be 8 (8 * m.length)
  ((chunks 64 pad).foldl shaBlock shaInit).flatMap fun w => be 4 w.toNat

/-! ### AES-128 -/

/-- Multiplication by x in GF(2^8). -/
def xtime (b : Byte) : Byte := if b.getLsbD 7 then (b <<< 1) ^^^ 0x1B else b <<< 1

/-- Multiplication in GF(2^8). -/
def gmul (a b : Byte) : Byte :=
  ((List.range 8).foldl (fun (acc : Byte × Byte) i =>
    (if b.getLsbD i then acc.1 ^^^ acc.2 else acc.1, xtime acc.2)) (0, a)).1

/-- The inverse in GF(2^8), a^254; 0 for 0. -/
def ginv8 (a : Byte) : Byte :=
  let a2 := gmul a a
  let a4 := gmul a2 a2
  let a8 := gmul a4 a4
  let a16 := gmul a8 a8
  let a32 := gmul a16 a16
  let a64 := gmul a32 a32
  let a128 := gmul a64 a64
  gmul a2 (gmul a4 (gmul a8 (gmul a16 (gmul a32 (gmul a64 a128)))))

/-- S-box of AES. -/
def aesS (x : Byte) : Byte :=
  let b := ginv8 x
  b ^^^ b.rotateLeft 1 ^^^ b.rotateLeft 2 ^^^ b.rotateLeft 3 ^^^ b.rotateLeft 4 ^^^ 0x63

/-- Inverse S-box of AES. -/
def aesInvS (x : Byte) : Byte :=
  ginv8 (x.rotateLeft 1 ^^^ x.rotateLeft 3 ^^^ x.rotateLeft 6 ^^^ 0x05)

/-- The next round key from one and a round constant. -/
def aesNextKey (rc : Byte) (k : List Byte) : List Byte :=
  let g (i : Nat) := k.getD i 0
  let t := [aesS (g 13) ^^^ rc, aesS (g 14), aesS (g 15), aesS (g 12)]
  let w0 := xorBytes (k.take 4) t
  let w1 := xorBytes (slice k 4 4) w0
  let w2 := xorBytes (slice k 8 4) w1
  w0 ++ w1 ++ w2 ++ xorBytes (slice k 12 4) w2

/-- The 11 round keys of AES-128. -/
def aesKeys (k : List Byte) : List (List Byte) :=
  ((List.range 10).foldl (fun (acc : List (List Byte) × List Byte × Byte) _ =>
    let n := aesNextKey acc.2.2 acc.2.1
    (acc.1 ++ [n], n, xtime acc.2.2)) ([k], k, 1)).1

/-- ShiftRows by a column step of `d` (1 forward, 3 inverse), bytes column by column. -/
def aesRows (d : Nat) (s : List Byte) : List Byte :=
  (List.range 16).map fun i => s.getD ((i % 4) + 4 * ((i / 4 + d * (i % 4)) % 4)) 0

/-- MixColumns with the four coefficients of its first row. -/
def aesCols (c : List Byte) (s : List Byte) : List Byte :=
  (List.range 16).map fun i =>
    (List.range 4).foldl (fun a j => a ^^^ gmul (c.getD ((j + 4 - i % 4) % 4) 0) (s.getD (4 * (i / 4) + j) 0)) 0

/-- AES-128 encryption of a 16-octet block. -/
def aesEnc (key block : List Byte) : List Byte :=
  let ks := aesKeys key
  let s0 := xorBytes block (ks.getD 0 [])
  let s9 := (List.range 9).foldl (fun s r =>
    xorBytes (aesCols [2, 3, 1, 1] (aesRows 1 (s.map aesS))) (ks.getD (r + 1) [])) s0
  xorBytes (aesRows 1 (s9.map aesS)) (ks.getD 10 [])

/-- AES-128 decryption of a 16-octet block. -/
def aesDec (key block : List Byte) : List Byte :=
  let ks := aesKeys key
  let s0 := (aesRows 3 (xorBytes block (ks.getD 10 []))).map aesInvS
  let s9 := (List.range 9).foldl (fun s r =>
    (aesRows 3 (aesCols [14, 11, 13, 9] (xorBytes s (ks.getD (9 - r) [])))).map aesInvS) s0
  xorBytes s9 (ks.getD 0 [])

/-! ### AES key wrap -/

/-- One step of the unwrap of RFC 3394: the register A and the 8-octet blocks R[1..n]. -/
def unwrapStep (key : List Byte) (n t : Nat) (acc : List Byte × List (List Byte)) :
    List Byte × List (List Byte) :=
  let i := (t - 1) % n
  let b := aesDec key (xorBytes acc.1 (be 8 t) ++ acc.2.getD i [])
  (b.take 8, acc.2.set i (b.drop 8))

/-- AES key unwrap (RFC 3394); none when its integrity check fails. -/
def keyUnwrap (key blob : List Byte) : Option (List Byte) :=
  let n := blob.length / 8 - 1
  let r := (List.range (6 * n)).reverse.foldl (fun acc t => unwrapStep key n (t + 1) acc)
    (blob.take 8, chunks 8 (blob.drop 8))
  if r.1 = List.replicate 8 0xA6 then some r.2.flatten else none

/-! ### CCM* -/

/-- CBC-MAC over a string whose length is a multiple of 16. -/
def cbcMac (key l : List Byte) : List Byte :=
  (chunks 16 l).foldl (fun x b => aesEnc key (xorBytes x b)) (List.replicate 16 0)

/-- The key stream block `i` of CCM* (L = 2). -/
def ccmStream (key nonce : List Byte) (i : Nat) : List Byte := aesEnc key ([0x01] ++ nonce ++ be 2 i)

/-- Counter-mode encryption or decryption of the data. -/
def ccmCrypt (key nonce l : List Byte) : List Byte :=
  (((chunks 16 l).zipIdx).map fun x => xorBytes x.1 (ccmStream key nonce (x.2 + 1))).flatten

/-- The MIC of CCM*, `m` octets, over authenticated data and plain data. -/
def ccmMic (m : Nat) (key nonce aad plain : List Byte) : List Byte :=
  let flags : Byte := BitVec.ofNat 8 (64 * ofBool (!aad.isEmpty) + 8 * ((m - 2) / 2) + 1)
  let b0 := [flags] ++ nonce ++ be 2 plain.length
  let a := if aad.isEmpty then [] else padMul 16 (be 2 aad.length ++ aad)
  (xorBytes (cbcMac key (b0 ++ a ++ padMul 16 plain)) (ccmStream key nonce 0)).take m

/-! ### P-256 -/

/-- The prime of the field. -/
abbrev p256 : Nat := 0xffffffff00000001000000000000000000000000ffffffffffffffffffffffff
/-- The order of the group. -/
abbrev n256 : Nat := 0xffffffff00000000ffffffffffffffffbce6faada7179e84f3b9cac2fc632551
/-- The coefficient b. -/
abbrev b256 : Nat := 0x5ac635d8aa3a93e7b3ebbd55769886bc651d06b0cc53b0f63bce3c3e27d2604b
/-- The base point. -/
abbrev g256 : Option (Nat × Nat) :=
  some (0x6b17d1f2e12c4247f8bce6e563a440f277037d812deb33a0f4a13945d898c296,
    0x4fe342e2fe1a7f9b8ee7eb4a7c0f9e162bce33576b315ececbb6406837bf51f5)

/-- `a ^ e mod m` for `e` below 2^256. -/
def powMod (a e m : Nat) : Nat :=
  (List.range 256).reverse.foldl (fun acc i =>
    let s := acc * acc % m
    if bit e i then s * a % m else s) 1

/-- Inverse modulo a prime. -/
def invMod (a m : Nat) : Nat := powMod (a % m) (m - 2) m

/-- Sum of two points; `none` is the neutral element. -/
def ecAdd (a b : Option (Nat × Nat)) : Option (Nat × Nat) :=
  match a, b with
  | none, q => q
  | p, none => p
  | some (x1, y1), some (x2, y2) =>
    if x1 = x2 ∧ (y1 + y2) % p256 = 0 then none
    else
      let l := if x1 = x2 then (3 * x1 * x1 + (p256 - 3)) * invMod (2 * y1) p256 % p256
        else (y2 + (p256 - y1)) * invMod (x2 + (p256 - x1)) p256 % p256
      let x3 := (l * l + (p256 - x1) + (p256 - x2)) % p256
      some (x3, (l * (x1 + (p256 - x3)) + (p256 - y1)) % p256)

/-- Scalar multiple of a point, scalars below 2^256. -/
def ecMul (k : Nat) (p : Option (Nat × Nat)) : Option (Nat × Nat) :=
  (List.range 256).reverse.foldl (fun acc i =>
    let d := ecAdd acc acc
    if bit k i then ecAdd d p else d) none

/-- A public key X ‖ Y as a point, when it lies on P-256. -/
def ecPoint (q : List Byte) : Option (Nat × Nat) :=
  let x := beNat (slice q 0 32)
  let y := beNat (slice q 32 32)
  if x < p256 ∧ y < p256 ∧ q.length = 64 ∧
      y * y % p256 = (x * x * x + (p256 - 3) * x + b256) % p256 then some (x, y) else none

/-- The 64 octets X ‖ Y of a point. -/
def ecBytes (p : Option (Nat × Nat)) : List Byte :=
  match p with
  | some (x, y) => be 32 x ++ be 32 y
  | none => List.replicate 64 0

/-- ECDSA verification of r ‖ s over a 32-octet hash. -/
def ecdsaOk (q hash sig : List Byte) : Bool :=
  let r := beNat (slice sig 0 32)
  let s := beNat (slice sig 32 32)
  match ecPoint q with
  | none => false
  | some pt =>
    if r = 0 ∨ n256 ≤ r ∨ s = 0 ∨ n256 ≤ s then false
    else
      let w := invMod s n256
      match ecAdd (ecMul (beNat hash * w % n256) g256) (ecMul (r * w % n256) (some pt)) with
      | none => false
      | some (x, _) => x % n256 == r

/-- ECDSA signature with nonce `k`; none when r or s is 0 (R440). -/
def ecdsaSign (k d : Nat) (hash : List Byte) : Option (List Byte) :=
  match ecMul k g256 with
  | none => none
  | some (x, _) =>
    let r := x % n256
    let s := invMod k n256 * ((beNat hash + r * d) % n256) % n256
    if r = 0 ∨ s = 0 then none else some (be 32 r ++ be 32 s)

end Sys2Proof.Machine
end

