-- ==== Sys2Proof/Machine/Phy.lean ====
section
/-! DEFINITION. The PHYs as the machine needs them: personalities and bandwidth codes (R96, R116),
frame durations (R130, R135 to R137, R145, R186), bit-loading maps (R134, R140) and what each chain
may send (R172, R181). Durations are in units of 1/307,200 µs (a third of a stamp tick), in which
every bit time of R116 is whole. -/

namespace Sys2Proof.Machine

/-- Duration units of a microsecond. -/
abbrev u3PerUs : Nat := 307200

/-- PHY families of R116. -/
inductive Phy where
  | none
  | fsk
  | ofdm
  | oqpsk
  | lofdm
  | frc
  deriving DecidableEq, Repr

/-- The PHY of a personality code. -/
def phyOf (p : Nat) : Phy :=
  if p = 0 then .none
  else if p < 0x20 then .fsk
  else if p < 0x30 then .ofdm
  else if p = 0x30 then .oqpsk
  else if p = 0x40 then .lofdm
  else .frc

/-- The bandwidth code a personality requires (R116); none for 0x00. -/
def bwOf (p : Nat) : Option Nat :=
  match phyOf p with
  | .none => none
  | .fsk => some ([5, 6, 7, 7, 8, 9, 7, 8].getD (p - 0x10) 5)
  | .ofdm => some ([12, 10, 8, 6].getD (p - 0x21) 12)
  | .oqpsk => some 15
  | .lofdm => some 12
  | .frc => some (5 + 2 * ((p - 0x80) / 16))

/-- Passband of a bandwidth code in Hz (R96). -/
def passband (bw : Nat) : Nat :=
  [6250, 12500, 25000, 50000, 100000, 125000, 200000, 250000, 400000, 500000, 600000, 800000,
    1200000, 1600000, 2000000, 2500000].getD bw 0

/-- Nominal bit rate of a SUN FSK mode in kb/s (R116). -/
def fskRate (p : Nat) : Nat := [50, 100, 100, 150, 200, 300, 200, 300].getD (p - 0x10) 50

/-- Duration of `n` SUN FSK bit periods. -/
def fskBits (p n : Nat) : Nat := n * (u3PerUs * 1000 / fskRate p)

/-- Spreading factor of an FRC personality with S from 0 to 5. -/
def frcSf (p : Nat) : Nat := 7 + p % 16

/-- FRC symbol time in duration units: N / BW (R122). -/
def frcTs (sf b : Nat) : Nat := 2 ^ sf * 8 * u3PerUs / 2 ^ b

/-- SPACING by the rule under R125. -/
def frcSpacing (sf b : Nat) : Nat :=
  let ms := 2 ^ sf * 8 / 2 ^ b
  if ms < 8192 then 0 else if ms ≤ 16384 then 1 else 2

/-- Payload symbols of an FRC frame (R130). -/
def frcNpay (len pcrc cr s : Nat) : Nat := 8 * ceilDiv ((2 * (len + 2 * pcrc) + 2) * (5 + cr)) (8 * s)

/-- Bits carried by a map code (R140). -/
def codeBits (c : Nat) : Nat := [0, 1, 2, 4, 6, 8].getD c 0

/-- The 104 codes of a map's 39 bytes (R140). -/
def mapCodes (b : List Byte) : List Nat :=
  let v := uAt b 0 39
  (List.range 104).map fun d => bits v (3 * d + 2) (3 * d)

/-- The 39 bytes of 104 codes (R140). -/
def codeBytes (l : List Nat) : List Byte :=
  le 39 ((List.range 104).foldl (fun a d => a + (l.getD d 0 % 8) * 2 ^ (3 * d)) 0)

/-- Σb of a map. -/
def mapSum (l : List Nat) : Nat := (l.map codeBits).sum

/-- A legal map: no reserved code, Σb even and from 24 to 600 (R134, R140). -/
def mapLegal (l : List Nat) : Bool :=
  l.all (fun c => decide (c ≤ 5)) && mapSum l % 2 == 0 && decide (24 ≤ mapSum l) &&
    decide (mapSum l ≤ 600)

/-- The map check (R140). -/
def mapCheck (l : List Nat) : BitVec 8 := crc8 0x07 312 (leNat (codeBytes l))

/-- The codes of map 0: code 2 on every subcarrier (R140). -/
def map0 : List Nat := List.replicate 104 2

/-- Data bits per OFDM symbol of SUN OFDM: the rate of option and MCS in kb/s times 120 µs.
PRESUMED: IEEE 802.15.4, of which the manual states only the highest rates (R119). -/
def ofdmBits (opt mcs : Nat) : Nat :=
  let rate := match opt with
    | 1 => [100, 200, 400, 800].getD mcs 0
    | 2 => [50, 100, 200, 400, 600, 800].getD mcs 0
    | 3 => [25, 50, 100, 200, 300, 400, 600].getD mcs 0
    | _ => [12, 25, 50, 100, 150, 200, 300].getD mcs 0
  rate * 120 / 1000

/-- A SUN OFDM MCS that the device supports for an option (R119). -/
def mcsOk (opt mcs : Nat) : Bool :=
  match opt with
  | 1 => decide (mcs ≤ 3)
  | 2 => decide (mcs ≤ 5)
  | 3 => decide (1 ≤ mcs) && decide (mcs ≤ 6)
  | _ => decide (2 ≤ mcs) && decide (mcs ≤ 6)

/-- FCS or CRC octets that the PHY adds to a frame with these phy params (R118, R120, R129, R133).
PRESUMED for SUN OFDM: 4. -/
def fcsOctets (p phy : Nat) : Nat :=
  match phyOf p with
  | .none => 0
  | .fsk => if bit phy 3 then 4 else 2
  | .ofdm => 4
  | .oqpsk => 2
  | .lofdm => 4
  | .frc => if bit phy 5 then 2 else 0

/-- Time from the first preamble symbol to the sync point (R118, R123, R135, R145), in duration
units. SFD and preamble of the standard PHYs beyond R118 are PRESUMED (IEEE 802.15.4). -/
def syncTime (p phy : Nat) : Nat :=
  match phyOf p with
  | .none => 0
  | .fsk => fskBits p (8 * bits phy 15 8 + 16)
  | .ofdm => 6 * 120 * u3PerUs
  | .oqpsk => 10 * 16 * u3PerUs
  | .lofdm => 450 * u3PerUs
  | .frc => (bits phy 23 16 + 2) * frcTs (frcSf p) ((p - 0x80) / 16)

/-- Time from the sync point to the end of the last sample of a frame of `len` PSDU octets, FCS
not included; `sum` is Σb of the map of an L-OFDM frame. -/
def bodyTime (p phy len sum : Nat) : Nat :=
  let n := len + fcsOctets p phy
  match phyOf p with
  | .none => 0
  | .fsk =>
    if bit phy 0 then fskBits p (32 + 32 * ceilDiv (2 * (8 * n + 3)) 32) else fskBits p (16 + 8 * n)
  | .ofdm =>
    let o := p - 0x20
    let phr := if o = 1 then 3 else 6
    (phr + ceilDiv (8 * n + 6) (max 1 (ofdmBits o (bits phy 2 0)))) * 120 * u3PerUs
  | .oqpsk => (2 + 2 * n) * 16 * u3PerUs
  | .lofdm => (125 + 125 * ceilDiv (8 * n + 6) (max 1 (sum / 2))) * u3PerUs
  | .frc =>
    let b := (p - 0x80) / 16
    let sf := frcSf p
    (10 + frcNpay len (ofBool (bit phy 5)) (bits phy 4 3) (sf - frcSpacing sf b)) * frcTs sf b

/-- Duration of a frame on air. -/
def frameTime (p phy len sum : Nat) : Nat := syncTime p phy + bodyTime p phy len sum

/-- Duration of a ramp profile in µs (R184). -/
def rampUs (k : Nat) : Nat := [2, 4, 8, 12, 16, 24, 32, 64].getD k 0

/-- The path is polar (R181). -/
def isPolar (p : Nat) : Bool := phyOf p != .ofdm && phyOf p != .lofdm

/-- Planned air time A of a request, in duration units (R186, R202). -/
def airTime (r : TxReq) : Nat :=
  let p := r.pers.toNat
  let phy := r.phy.toNat
  if r.flags.getLsbD 1 then 56 * bits phy 15 8 * 1000 * u3PerUs / 2 ^ bits phy 1 0
  else
    let sum := if phyOf p = .lofdm then mapSum (mapCodes r.frame) else 0
    frameTime p phy r.length sum +
      (if isPolar p then (rampUs (bits r.ramps.toNat 3 0) + rampUs (bits r.ramps.toNat 7 4)) * u3PerUs
       else 0)

/-- The personality may be sent on a chain (R181). -/
def persOnChain (c : Chain) (p : Nat) : Bool :=
  match phyOf p with
  | .none => false
  | .oqpsk => c == .b
  | .frc => planPersOk p
  | _ => persOk p

/-- The compensated carrier word lies in the chain's range (R172). -/
def carrierOk (c : Chain) (w : Int) : Bool :=
  match c with
  | .a => decide (300000000 ≤ w) && decide (w ≤ 1920000000)
  | .b => decide (4800000000 ≤ w) && decide (w ≤ 4967000000)

/-- ρ clamped to ±100 ppm (R173). -/
def clampRho (rho : Int) : Int := clampI (-109951163) 109951163 rho

/-- The compensated word W_tx (R173). -/
def wTx (w : Nat) (rho : Int) : Int := w + ((w : Int) * clampRho rho + 2 ^ 39) / 2 ^ 40

/-- A legal map block of an L-OFDM request: 39 code bytes and a 0 (R182). -/
def mapBlockOk (l : List Byte) : Bool :=
  decide (40 ≤ l.length) && mapLegal (mapCodes l) && byteAt l 39 == 0

/-- `request_allowed` of R198: personality, carrier and map (R172, R181, R182). -/
def requestAllowed (r : TxReq) : Bool :=
  carrierOk r.chain (wTx r.carrier.toNat r.offset) &&
    (r.flags.getLsbD 1 ||
      (persOnChain r.chain r.pers.toNat && (phyOf r.pers.toNat != .lofdm || mapBlockOk r.frame)))

/-- NCO word of a carrier word: round(W × 2^31 / 6.4 × 10^9) (R222). -/
def ncoOf (w : Nat) : Nat := (w * 2 ^ 32 + 6400000000) / 12800000000

end Sys2Proof.Machine
end

