-- ==== Sys2Proof/Machine/Frame.lean ====
section
/-! DEFINITION. The Clotos mesh frame (R212 to R221) with its security header (R448), and the receive
metadata (R155): parsing and building. -/

namespace Sys2Proof.Machine

/-! ### Receive metadata -/

/-- The 48 bytes of receive metadata, the extension and the PSDU (R155, R158). -/
def rxBytes (r : Reception) : List Byte :=
  let ext := if r.flags.getLsbD 5 then padTo 104 (r.ext.map fun v => BitVec.ofNat 8 (min 255 v)) else []
  le 1 r.outcome ++ le 1 r.status ++ le 2 r.flags.toNat ++ le 1 r.line ++ le 1 r.port ++
    le 1 r.pers.toNat ++ le 1 r.gain ++ le 8 r.arrival.toNat ++ le 8 r.endStamp.toNat ++
    le 4 r.windowId.toNat ++ leI 4 r.offset ++ leI 2 r.rssi ++ leI 2 r.snr ++ leI 2 r.floor ++
    le 2 r.psdu.length ++ le 2 r.phyInfo.toNat ++ le 1 r.displaced ++ le 1 (ext.length / 8) ++
    leI 2 r.dispRssi ++ le 2 0 ++ ext ++ r.psdu

/-- The window id of a fixed-mode reception (R155). -/
abbrev noWindow : Word32 := 0xFFFFFFFF

/-- FCS or CRC octets at the end of a received PSDU (R155, R157). -/
def rxFcs (r : Reception) : Nat := fcsOctets r.pers.toNat r.phyInfo.toNat

/-- The mesh frame of a reception: the PSDU without its FCS or CRC (R213). -/
def rxFrame (r : Reception) : List Byte := r.psdu.take (r.psdu.length - rxFcs r)

/-- The reception brings a frame to the engines: outcome frame, status OK or UNCHECKED. -/
def rxGood (r : Reception) : Bool := r.outcome == 0 && (r.status == 0 || r.status == 5)

/-! ### Addresses -/

/-- Broadcast (R212). -/
abbrev addrBroadcast : Nat := 0xFFFFFF
/-- Unassigned (R212). -/
abbrev addrNone : Nat := 0xFFFFFE

/-- Mesh address of a Grand node (R212). -/
def addrGrand (i : Nat) : Nat := i
/-- Mesh address of a Compact node (R212). -/
def addrCompact (pan short : Nat) : Nat := 2 ^ 22 + 2 ^ 16 * pan + short
/-- Mesh address of a router (R212). -/
def addrRouter (r : Nat) : Nat := 2 ^ 23 + r

/-- The address is no reserved encoding (R212). -/
def addrOk (a : Nat) : Bool :=
  match bits a 23 22 with
  | 0 => bits a 21 17 == 0
  | 1 => bits a 21 19 == 0 && decide (1 ≤ bits a 15 0) && decide (bits a 15 0 ≤ 0xFFFD)
  | 2 => bits a 21 16 == 0 && decide (1 ≤ bits a 15 0) && decide (bits a 15 0 ≤ 0xFFFE)
  | _ => a == addrBroadcast || a == addrNone

/-! ### Frames -/

/-- A mesh frame (R214, R215, R217, R218, R448); `body` holds the elements and the payload, encrypted
when `sec`. -/
structure Frame where
  typ    : Nat
  sec    : Bool
  ackReq : Bool
  dir    : Bool                -- true: from a router
  ie     : Bool
  more   : Bool
  seq    : Nat
  router : Nat
  link   : Nat
  mic16  : Bool := false
  group  : Bool := false       -- KEY 0b01
  keySeq : Nat := 0
  ctr    : Nat := 0
  route  : Option (Nat × List Nat) := none    -- position, addresses
  flood  : Option (Nat × Nat × Nat) := none   -- origin, flood sequence, TTL
  body   : List Byte
  mic    : List Byte := []
  deriving DecidableEq, Repr

/-- Octets of the MIC (R448). -/
def micLen (f : Frame) : Nat := if f.sec then (if f.mic16 then 16 else 8) else 0

/-- The control field of the header (R215), VERSION 0b01. -/
def frameControl (f : Frame) : Nat :=
  f.typ + 16 * ofBool f.sec + 32 * ofBool f.ackReq + 64 * ofBool f.dir + 128 * ofBool f.ie +
    256 * ofBool f.route.isSome + 512 * ofBool f.flood.isSome + 1024 * ofBool f.more + 2048

/-- The 8-octet header with a given link field (R215). -/
def headerBytes (f : Frame) (link : Nat) : List Byte :=
  le 2 (frameControl f) ++ le 1 f.seq ++ le 2 f.router ++ le 3 link

/-- The security header (R448). -/
def secBytes (f : Frame) : List Byte :=
  if f.sec then le 1 (ofBool f.mic16 + 2 * ofBool f.group + 8 * f.keySeq) ++ le 4 f.ctr else []

/-- The route and flood headers (R217, R218). -/
def hopBytes (f : Frame) : List Byte :=
  (match f.route with
    | some (pos, l) => le 1 (l.length - 1 + 16 * pos) ++ l.flatMap (le 3)
    | none => []) ++
  (match f.flood with
    | some (o, q, ttl) => le 3 o ++ le 2 q ++ le 1 ttl
    | none => [])

/-- The octets of a frame (R214). -/
def frameBytes (f : Frame) : List Byte :=
  headerBytes f f.link ++ secBytes f ++ hopBytes f ++ f.body ++ f.mic

/-- No field of a parsed frame carries a reserved encoding and VERSION is 0b01 (R220). -/
def frameOk (ctl : Nat) (f : Frame) (secCtl floodCtl : Nat) : Bool :=
  bits ctl 12 11 == 1 && bits ctl 15 13 == 0 && decide (f.typ ≤ 8) && addrOk f.link &&
    (!f.sec || decide (bits secCtl 2 1 ≤ 1)) &&
    (f.route.all fun r => r.2.all addrOk) &&
    (f.flood.all fun x => addrOk x.1 && floodCtl < 16) &&
    decide (micLen f ≤ f.body.length + f.mic.length)

/-- The frame in a string of octets; none when it is malformed or carries a reserved encoding
(R214 to R220). -/
def parseFrame (l : List Byte) : Option Frame :=
  let ctl := uAt l 0 2
  let sec := bit ctl 4
  let o1 := if sec then 13 else 8
  let secCtl := if sec then uAt l 8 1 else 0
  let hasRoute := bit ctl 8
  let n := uAt l o1 1 % 16 + 1
  let o2 := if hasRoute then o1 + 1 + 3 * n else o1
  let o3 := if bit ctl 9 then o2 + 6 else o2
  let m := if sec then (if bit secCtl 0 then 16 else 8) else 0
  let f : Frame := {
    typ := ctl % 16, sec := sec, ackReq := bit ctl 5, dir := bit ctl 6, ie := bit ctl 7
    more := bit ctl 10, seq := uAt l 2 1, router := uAt l 3 2, link := uAt l 5 3
    mic16 := bit secCtl 0, group := bits secCtl 2 1 == 1, keySeq := bits secCtl 7 3
    ctr := if sec then uAt l 9 4 else 0
    route := if hasRoute then some (uAt l o1 1 / 16, (List.range n).map fun i => uAt l (o1 + 1 + 3 * i) 3)
      else none
    flood := if bit ctl 9 then some (uAt l o2 3, uAt l (o2 + 3) 2, uAt l (o2 + 5) 1 % 16) else none
    body := (l.drop o3).take (l.length - o3 - m)
    mic := l.drop (max o3 (l.length - m)) }
  if o3 + m ≤ l.length ∧ frameOk ctl f secCtl (if bit ctl 9 then uAt l (o2 + 5) 1 else 0) = true
  then some f else none

/-! ### Elements -/

/-- The elements at the start of a body and the payload after them (R219), from at most `n`
elements; none when the list runs past the body or has no end element. -/
def parseElems (n : Nat) (l : List Byte) : Option (List (Nat × List Byte) × List Byte) :=
  match n with
  | 0 => none
  | m + 1 =>
    let len := byteAt l 1
    if l.length < 2 + len then none
    else if byteAt l 0 = 0 then (if len = 0 then some ([], l.drop 2) else none)
    else
      match parseElems m (l.drop (2 + len)) with
      | none => none
      | some (es, p) => some ((byteAt l 0, (l.drop 2).take len) :: es, p)

/-- Elements and payload of a plain body (R214, R219). -/
def splitBody (f : Frame) (plain : List Byte) : Option (List (Nat × List Byte) × List Byte) :=
  if f.ie then parseElems (plain.length + 1) plain else some ([], plain)

/-- The octets of a list of elements with the end element; nothing for an empty list. -/
def elemBytes (l : List (Nat × List Byte)) : List Byte :=
  if l.isEmpty then []
  else (l.flatMap fun e => le 1 e.1 ++ le 1 e.2.length ++ e.2) ++ [0, 0]

/-! ### Security -/

/-- The security level of a MIC (R449). -/
def secLevel (f : Frame) : Nat := if f.mic16 then 7 else 6

/-- The nonce of a frame with its 8-octet source (R449). -/
def frameNonce (f : Frame) (source : List Byte) : List Byte :=
  source ++ be 4 f.ctr ++ le 1 (secLevel f + 8 * ofBool f.dir + 16 * ofBool f.group)

/-- The authenticated data: header and security header, the link field as 0 on a routed or flooded
frame (R449). -/
def frameAad (f : Frame) : List Byte :=
  headerBytes f (if f.route.isSome || f.flood.isSome then 0 else f.link) ++ secBytes f

/-- The source of a group key: five 0xFF and the originator's address, big-endian (R449). -/
def groupSource (addr : Nat) : List Byte := List.replicate 5 0xFF ++ be 3 addr

/-- The source of a link key: the node's EUI-64, big-endian (R434, R449). -/
def linkSource (eui : BitVec 64) : List Byte := be 8 eui.toNat

/-- A frame with its body encrypted and its MIC formed (R449). -/
def sealFrame (key source : List Byte) (f : Frame) : Frame :=
  let nonce := frameNonce f source
  { f with
    body := ccmCrypt key nonce f.body
    mic := ccmMic (micLen f) key nonce (frameAad f) f.body }

/-- The plain body of a secured frame, when its MIC verifies (R449). -/
def openFrame (key source : List Byte) (f : Frame) : Option (List Byte) :=
  let nonce := frameNonce f source
  let plain := ccmCrypt key nonce f.body
  if ccmMic (micLen f) key nonce (frameAad f) plain = f.mic then some plain else none

/-- The originator of a group-keyed frame (R450). -/
def groupOrigin (f : Frame) : Nat :=
  match f.flood with
  | some (o, _, _) => o
  | none => if f.dir then addrRouter f.router else f.link

/-- The node end of an uplink: the first route address, else the link field (R450). -/
def uplinkNode (f : Frame) : Nat :=
  match f.route with
  | some (_, a :: _) => a
  | _ => f.link

/-- The longest frame a personality carries (R221). -/
def frameLimit (p phy : Nat) : Nat :=
  match phyOf p with
  | .oqpsk => 125
  | .frc => 255
  | .none => 0
  | _ => 2047 - fcsOctets p phy

/-! ### What kind of work a reception is -/

/-- The row that takes a reception entry, by its outcome and frame type (R216, R257, R272). A frame
of no kind below is taken as a window outcome: it is dropped, and counts for its window. -/
def rxInstr (r : Reception) : Instr :=
  if !rxGood r then .windowOutcome r
  else
    match parseFrame (rxFrame r) with
    | none => .windowOutcome r
    | some f =>
      if f.flood.isSome then .floodFrame r
      else if f.dir then (if f.typ = 0 then .beacon r else .windowOutcome r)
      else
        match f.typ with
        | 1 => .data r
        | 2 => .reply r
        | 3 => .auditionRequest r
        | 5 => .joinRequest r
        | 7 => .lostRequest r
        | 8 => .control r
        | _ => .windowOutcome r

end Sys2Proof.Machine
end

