-- ==== Sys2Proof/Machine/Coding.lean ====
section
/-! DEFINITION. Bits on the air: the PN9 sequence and the Gray code (R128, R129), the convolutional code
with its puncturing (R126, R133, R137), the FRC interleaver and chirps (R122 to R128), and the L-OFDM
subcarriers, dealing, constellations and scrambler (R133 to R139). Bits are in the order sent. -/

namespace Sys2Proof.Machine

/-! ### Bit strings -/

/-- The bits of octets, bit 0 of each first. -/
def octetBits (l : List Byte) : List Bool := l.flatMap fun b => (List.range 8).map fun i => b.getLsbD i

/-- The `n` bits of a number, bit 0 first. -/
def natBits (n v : Nat) : List Bool := (List.range n).map (bit v)

/-- The number that bits spell, bit 0 first. -/
def bitsNat (l : List Bool) : Nat := l.foldr (fun b a => ofBool b + 2 * a) 0

/-- The number that bits spell, the most significant first. -/
def bitsMsb (l : List Bool) : Nat := l.foldl (fun a b => 2 * a + ofBool b) 0

/-- The octets of bits, bit 0 of each first. -/
def bitsOctets (l : List Bool) : List Byte := (chunks 8 l).map fun c => BitVec.ofNat 8 (bitsNat c)

/-- Exclusive or of bit strings, as long as the first. -/
def xorBits (l m : List Bool) : List Bool := (l.zip (m ++ List.replicate l.length false)).map fun p => p.1 ^^ p.2

/-- `n` bits of the PN9 register of R129 from a state. -/
def pn9From (n st : Nat) : List Bool :=
  match n with
  | 0 => []
  | m + 1 => bit st 0 :: pn9From m (st / 2 + 256 * ((st ^^^ st / 32) % 2))

/-- The first `n` bits of the PN9 sequence s (R129). -/
def pn9 (n : Nat) : List Bool := pn9From n 0x1FF

/-- s[i] of the PN9 sequence, which repeats after 511 (R135). -/
def pn9At (i : Nat) : Bool := (pn9 (i % 511 + 1)).getLastD false

/-- The inverse Gray code of R128. -/
def ginv (v : Nat) : Nat := (List.range 31).foldl (fun k i => k ^^^ v / 2 ^ (i + 1)) v

/-- The Gray code. -/
def gray (k : Nat) : Nat := k ^^^ k / 2

/-! ### The convolutional code -/

/-- Parity of the low 7 bits. -/
def parity7 (v : Nat) : Bool := (List.range 7).foldl (fun a i => a ^^ bit v i) false

/-- The coder's register with a new input bit in bit 6, above the state of the last six (R126, R133). The order
of the generators' bits is PRESUMED: their most significant bit taps the new input. -/
def convReg (st : Nat) (u : Bool) : Nat := 64 * ofBool u + st

/-- The pairs a, b of generators 133 and 171 octal (R126). -/
def convPairs (st : Nat) (l : List Bool) : List (Bool × Bool) :=
  match l with
  | [] => []
  | u :: r =>
    let g := convReg st u
    (parity7 (g &&& 0o133), parity7 (g &&& 0o171)) :: convPairs (g / 2) r

/-- The rate-1/2 code from state 0: a, then b, for each input bit (R126, R133). -/
def convCode (l : List Bool) : List Bool := (convPairs 0 l).flatMap fun p => [p.1, p.2]

/-- The input bits that give the a bits of a coded part, from a state: generator 133 taps the new input. -/
def convInvert (st : Nat) (l : List Bool) : List Bool :=
  match l with
  | [] => []
  | a :: r =>
    let u := a ^^ parity7 (st &&& 0o133)
    u :: convInvert (convReg st u / 2) r

/-- Code rate `cr` keeps bit b of the input bit with this number (R126); a is kept by each. -/
def keepsB (cr i : Nat) : Bool :=
  match cr with
  | 0 => i % 4 == 0
  | 1 => i % 2 == 0
  | 2 => i % 4 == 0 || i % 4 == 1 || i % 4 == 2
  | _ => true

/-- The coded bits that a rate keeps of pairs a, b, from input bit `i` on (R126). -/
def puncture (cr i : Nat) (l : List (Bool × Bool)) : List Bool :=
  match l with
  | [] => []
  | p :: r => p.1 :: (if keepsB cr i then [p.2] else []) ++ puncture cr (i + 1) r

/-- The a bits of `n` input bits in punctured coded bits, from input bit `i` on. -/
def aBits (cr i n : Nat) (l : List Bool) : List Bool :=
  match n with
  | 0 => []
  | m + 1 => l.headD false :: aBits cr (i + 1) m (l.drop (if keepsB cr i then 2 else 1))

/-- The coded bits of input bits at a rate; 3 is rate 1/2 without puncturing. -/
def coded (cr : Nat) (l : List Bool) : List Bool := puncture cr 0 (convPairs 0 l)

/-- The `n` input bits whose code is exactly the coded bits received, none when no input has that code and the
soft decisions decide (R126). -/
def decoded (cr n : Nat) (l : List Bool) : Option (List Bool) :=
  let u := convInvert 0 (aBits cr 0 n l)
  if coded cr u = l then some u else none

/-! ### Far-Reach Chirp -/

/-- Phase of chip `n` of the up-chirp of shift `k` in units of π/N (R122); the down-chirp's is its negative. -/
def chirpPhase (sf : Nat) (down : Bool) (k n : Nat) : Int :=
  let m : Int := ((n + k) % 2 ^ sf : Nat)
  let ph := m * m - 2 ^ sf * m
  if down then -ph else ph

/-- The two tag shifts of tag byte `y` (R124). -/
def tagShifts (sf y : Nat) : List Nat :=
  [2 ^ (sf - 4) * bits y 7 4 + 2 ^ (sf - 5), 2 ^ (sf - 4) * bits y 3 0 + 2 ^ (sf - 5)]

/-- The values of a group of `m` symbols of `s` bits (R127): coded bit q goes to bit ((q div M) + 3j) mod s of
symbol j = q mod M. -/
def frcGroup (m s : Nat) (l : List Bool) : List Nat :=
  (List.range m).map fun j =>
    (List.range s).foldl (fun v r => v + ofBool (l.getD (m * r + j) false) * 2 ^ ((r + 3 * j) % s)) 0

/-- The coded bits of a group of values (R127). -/
def frcUngroup (m s : Nat) (v : List Nat) : List Bool :=
  (List.range (m * s)).map fun q => bit (v.getD (q % m) 0) ((q / m + 3 * (q % m)) % s)

/-- The shift of symbol `i` with value `v` of `s` bits (R128). -/
def frcShift (sf s y i v : Nat) : Nat := (ginv v + i * (2 * y + 1)) % 2 ^ s * 2 ^ (sf - s)

/-- The value that the shift of symbol `i` carries (R128); a shift between two values is read as the nearest. -/
def frcValue (sf s y i k : Nat) : Nat :=
  let step := 2 ^ (sf - s)
  gray (((k + step / 2) / step + (2 ^ s - i * (2 * y + 1) % 2 ^ s)) % 2 ^ s)

/-- The symbols of a part from symbol `i` on, in groups of `m` symbols (R127, R128). -/
def frcSymbols (sf s m y i : Nat) (l : List Bool) : List Nat :=
  ((chunks (m * s) l).flatMap (frcGroup m s)).mapIdx fun j v => frcShift sf s y (i + j) v

/-- The coded bits of a part's symbols. -/
def frcCoded (sf s m y i : Nat) (l : List Nat) : List Bool :=
  (chunks m (l.mapIdx fun j k => frcValue sf s y (i + j) k)).flatMap (frcUngroup m s)

/-- Six zero tail bits (R126, R137). -/
abbrev tail6 : List Bool := List.replicate 6 false

/-- The header symbols of 24 header bits (R126 to R128). -/
def frcHeaderSyms (sf y h : Nat) : List Nat := frcSymbols sf 6 10 y 0 (coded 3 (natBits 24 h ++ tail6))

/-- The 24 bits that ten header symbols carry, none when the soft decisions decide. -/
def frcHeaderRead (sf y : Nat) (l : List Nat) : Option Nat :=
  (decoded 3 30 ((frcCoded sf 6 10 y 0 l).take 60)).map fun u => bitsNat (u.take 24)

/-- The payload and its CRC as they enter the coder (R129): the payload whitened, the CRC-16 not. -/
def frcPayloadBits (pcrc : Bool) (l : List Byte) : List Bool :=
  xorBits (octetBits l) (pn9 (8 * l.length)) ++ (if pcrc then octetBits (le 2 (crc16 l).toNat) else [])

/-- The payload symbols (R126 to R129), with 6 tail and 2 pad bits. -/
def frcPayloadSyms (sf s y cr : Nat) (pcrc : Bool) (l : List Byte) : List Nat :=
  frcSymbols sf s 8 y 10 (coded cr (frcPayloadBits pcrc l ++ List.replicate 8 false))

/-- The payload octets and the CRC octets that payload symbols carry, whitening removed: `n` octets and the
CRC; none when the soft decisions decide (R126 to R129). -/
def frcPayloadRead (sf s y cr n : Nat) (pcrc : Bool) (l : List Nat) : Option (List Byte) :=
  let k := 8 * n + (if pcrc then 16 else 0)
  let c := frcCoded sf s 8 y 10 l
  let used := (coded cr (List.replicate (k + 8) false)).length
  (decoded cr (k + 8) (c.take used)).map fun u =>
    bitsOctets (xorBits (u.take k) (pn9 (8 * n)))

/-- The chirps of a frame: preamble, tag, header and payload (R123); true is a down-chirp. -/
def frcChirps (sf s pre y h cr : Nat) (pcrc : Bool) (l : List Byte) : List (Bool × Nat) :=
  List.replicate pre (false, 0) ++ (tagShifts sf y).map (fun k => (true, k)) ++
    (frcHeaderSyms sf y h ++ frcPayloadSyms sf s y cr pcrc l).map fun k => (false, k)

/-! ### Loaded OFDM -/

/-- The 120 used subcarriers, by index (R133). -/
def lofdmUsed : List Int := (List.range 121).filterMap fun k => if k = 60 then none else some ((k : Int) - 60)

/-- A pilot subcarrier (R133). -/
def isPilot (k : Int) : Bool := [4, 11, 19, 26, 34, 41, 49, 56].contains k.natAbs

/-- The indices of the 104 data subcarriers, ascending (R133). -/
def lofdmData : List Int := lofdmUsed.filter fun k => !isPilot k

/-- 1 - 2 s (R135). -/
def pnSign (i : Nat) : Int := if pn9At i then -1 else 1

/-- Sign of the i-th of the 30 short-training subcarriers, index a multiple of 4 (R135). -/
def shortTraining : List Int := (List.range 30).map fun i => pnSign (384 + i)

/-- Value of the i-th of the 120 used subcarriers in the long training (R135). -/
def longTraining : List Int := (List.range 120).map fun i => pnSign (128 + i)

/-- The 16 pilots of symbol `m` (R135). -/
def pilots (m : Nat) : List Int := (List.range 16).map fun j => pnSign (16 * m + j)

/-- The order of dealing of coded bits: which subcarrier takes each (R138). `bs` gives b by subcarrier. -/
def dealOrder (bs : List Nat) : List Nat :=
  let q := (List.range bs.length).filter fun d => bs.getD d 0 ≠ 0
  let l := q.length
  let p := if 13 ∣ l then 17 else 13
  (List.range 8).flatMap fun c =>
    ((List.range l).map fun i => q.getD (p * i % l) 0).filter fun d => decide (c < bs.getD d 0)

/-- The bits that subcarrier `d` takes, in the order taken: c0, c1 and on (R138). -/
def dealtTo (bs : List Nat) (l : List Bool) (d : Nat) : List Bool :=
  (((dealOrder bs).zip l).filter fun p => p.1 == d).map (·.2)

/-- The coded bits from the bits of each subcarrier. -/
def undealt (bs : List Nat) (l : List (List Bool)) : List Bool :=
  ((dealOrder bs).foldl (fun (acc : List Bool × List (List Bool)) d =>
    match acc.2.getD d [] with
    | [] => (false :: acc.1, acc.2)
    | b :: r => (b :: acc.1, acc.2.set d r)) ([], l)).1.reverse

/-- The level of a group of `k` bits, the first most significant (R139). -/
def qamLevel (g : List Bool) : Int := 2 * (ginv (bitsMsb g) : Int) - (2 ^ g.length - 1)

/-- The bits of a level of `k` bits: the nearest level of the constellation. -/
def qamBits (k : Nat) (v : Int) : List Bool :=
  let j := (clampI 0 (2 ^ k - 1) ((v + 2 ^ k) / 2)).toNat
  ((natBits k (gray j)).reverse)

/-- The value of a subcarrier with these bits (R139). -/
def lofdmPoint (c : List Bool) : Point :=
  match c with
  | [] => ⟨0, 0, 0⟩
  | [b] => ⟨1, if b then 1 else -1, 0⟩
  | c => ⟨c.length, qamLevel (c.take (c.length / 2)), qamLevel (c.drop (c.length / 2))⟩

/-- The bits that a received point of a subcarrier with `b` bits carries. -/
def pointBits (b : Nat) (i q : Int) : List Bool :=
  if b = 0 then [] else if b = 1 then [decide (0 < i)] else qamBits (b / 2) i ++ qamBits (b / 2) q

/-- The scrambler x^7 + x^4 + 1 from a state, over bits (R137). -/
def scramble (st : Nat) (l : List Bool) : List Bool :=
  match l with
  | [] => []
  | b :: r =>
    let o := bit st 6 ^^ bit st 3
    (b ^^ o) :: scramble (2 * st % 128 + ofBool o) r

/-- The 104 points of the header symbol (R136): 52 bits coded, one bit a subcarrier. -/
def lofdmHeaderSym (h : Nat) : List Point :=
  let bs := List.replicate 104 1
  let c := coded 3 (natBits 52 h)
  (List.range 104).map fun d => lofdmPoint (dealtTo bs c d)

/-- The 52 header bits of 104 hard decisions, none when the soft decisions decide (R136). -/
def lofdmHeaderRead (hard : List Bool) : Option Nat :=
  let c := undealt (List.replicate 104 1) (hard.map fun b => [b])
  (decoded 3 52 c).map bitsNat

/-- Payload symbols of a frame: N_sym of R137. -/
def lofdmNsym (len sum : Nat) : Nat := ceilDiv (8 * len + 6) (max 1 (sum / 2))

/-- The payload symbols (R137 to R139): 104 points each. -/
def lofdmPayloadSyms (bs : List Nat) (seed : Nat) (psdu : List Byte) : List (List Point) :=
  let u := scramble seed (octetBits psdu) ++ tail6
  let full := bs.sum / 2 * lofdmNsym psdu.length bs.sum
  let c := coded 3 (u ++ List.replicate (full - u.length) false)
  (chunks bs.sum c).map fun sym => (List.range 104).map fun d => lofdmPoint (dealtTo bs sym d)

/-- The PSDU that received points carry, descrambled; none when the soft decisions decide (R137 to R139). -/
def lofdmPayloadRead (bs : List Nat) (seed len : Nat) (syms : List (List (Int × Int))) : Option (List Byte) :=
  let c := syms.flatMap fun sym => undealt bs ((List.range 104).map fun d =>
    let p := sym.getD d (0, 0)
    pointBits (bs.getD d 0) p.1 p.2)
  (decoded 3 (bs.sum / 2 * syms.length) c).map fun u => bitsOctets (scramble seed (u.take (8 * len)))

end Sys2Proof.Machine
end

