-- ==== Sys2Proof/Machine/Air.lean ====
section
/-! DEFINITION. Whole frames on the air: the FCS (R118 to R120, R129, R133), the PHY header of each PHY as it
is formed and as it is read (R118 to R121, R125, R136), the frame that the modulator builds of a request
(R182, R202) and the ramp of the curtain (R184). Of the standard PHYs, what IEEE 802.15.4 gives and the
manual does not is PRESUMED; its coding, interleaving and spreading stay with the standard. -/

namespace Sys2Proof.Machine

/-! ### Frame checks -/

/-- One bit of the reflected CRC-32 register. -/
def crc32Bit (c : BitVec 32) : BitVec 32 := if c.getLsbD 0 then (c >>> 1) ^^^ 0xEDB88320#32 else c >>> 1

/-- The CRC-32 register after one byte. -/
def crc32Byte (c : BitVec 32) (b : Byte) : BitVec 32 :=
  (List.range 8).foldl (fun c _ => crc32Bit c) (c ^^^ b.zeroExtend 32)

/-- The 4-octet FCS of IEEE 802.15.4 (PRESUMED), shorter strings filled to 4 octets. -/
def fcs4 (l : List Byte) : List Byte := le 4 (((padTo 4 l).foldl crc32Byte 0xFFFFFFFF#32) ^^^ 0xFFFFFFFF#32).toNat

/-- The 2-octet FCS of IEEE 802.15.4 (PRESUMED): the register of R129 from 0. -/
def fcs2 (l : List Byte) : List Byte := le 2 (l.foldl crc16Byte 0#16).toNat

/-- The FCS or CRC octets that follow the octets of a PSDU (R118 to R120, R129, R133). -/
def fcsOf (p phy : Nat) (l : List Byte) : List Byte :=
  match phyOf p with
  | .none => []
  | .fsk => if bit phy 3 then fcs4 l else fcs2 l
  | .ofdm => fcs4 l
  | .oqpsk => fcs2 l
  | .lofdm => fcs4 l
  | .frc => if bit phy 5 then le 2 (crc16 l).toNat else []

/-- The FCS or CRC at the end of a received PSDU is good. -/
def fcsGood (p phy : Nat) (psdu : List Byte) : Bool :=
  let n := psdu.length - fcsOctets p phy
  decide (fcsOctets p phy ≤ psdu.length) && psdu.drop n == fcsOf p phy (psdu.take n)

/-- The whitening of a SUN FSK PSDU (R118): the PN9 of IEEE 802.15.4 (PRESUMED), which begins where the sequence of
R129 stands after its first nine outputs. -/
def fskWhiten (l : List Byte) : List Byte := bitsOctets (xorBits (octetBits l) ((pn9 (8 * l.length + 9)).drop 9))

/-! ### Headers of the standard PHYs -/

/-- What a received header says: it passes with a length, the phy info of R157 and a status (0, or 4
MAP_UNKNOWN); it fails; or it calls for an unsupported option, with the phy info that it gives (R121, R146). -/
inductive HeaderSays where
  | pass (length info status : Nat)
  | fail
  | unsupported (info : Nat)
  deriving DecidableEq, Repr

/-- The 16 bits of a SUN FSK PHR, first sent first (PRESUMED: mode switch, two reserved bits, FCS type, whitening,
then the length, most significant bit first; FCS type 1 is 2 octets). -/
def fskPhr (phy len : Nat) : List Bool :=
  [false, false, false, !bit phy 3, bit phy 2] ++ ((natBits 11 len).reverse)

/-- The reading of a SUN FSK PHR (R118, R121): a set mode switch bit or a length of 0 is unsupported. `info` holds
FEC and RSC. -/
def fskPhrRead (info : Nat) (b : List Bool) : HeaderSays :=
  let n := bitsMsb ((b.drop 5).take 11)
  let i := info + 4 * ofBool (b.getD 4 false) + 8 * ofBool (!b.getD 3 false)
  if b.getD 0 false || n == 0 then .unsupported i else .pass n i 0

/-- Fields of a SUN OFDM PHR before its check (PRESUMED): rate, 5 bits, a reserved bit, the length, 11 bits,
two reserved bits and the scrambler, 2 bits; most significant bits first. -/
def ofdmPhr (mcs len : Nat) : List Bool :=
  ((natBits 5 mcs).reverse) ++ [false] ++ ((natBits 11 len).reverse) ++ List.replicate 4 false

/-- The reading of a SUN OFDM PHR (R119, R121) on an option: an MCS outside R119 or a length of 0 is unsupported.
`info` holds the option. -/
def ofdmPhrRead (opt info : Nat) (b : List Bool) : HeaderSays :=
  let mcs := bitsMsb (b.take 5)
  let n := bitsMsb ((b.drop 6).take 11)
  let i := info + mcs % 8
  if decide (7 ≤ mcs) || !mcsOk opt mcs || n == 0 then .unsupported i else .pass n i 0

/-- The reading of an O-QPSK PHR (R120, R121): 7 bits of length, 5 to 127. -/
def oqpskPhrRead (b : List Bool) : HeaderSays :=
  let n := bitsNat (b.take 7)
  if n < 5 then .unsupported 0 else .pass n 0 0

/-- The phy info that the sync field and the personality give before a header is read (R157): FEC and RSC of
the SFD, the option, or spreading factor and bandwidth of a detector. -/
def syncInfo (p d : Nat) (fec rsc : Bool) : Nat :=
  match phyOf p with
  | .fsk => ofBool fec + 2 * ofBool rsc
  | .ofdm => 8 * (p - 0x21)
  | .frc => d + 256 * ((p - 0x80) / 16)
  | _ => 0

/-! ### Headers of FRC and L-OFDM -/

/-- The FRC header check (R125): HCHK good, LENGTH and SPACING legal, reserved bits 0. -/
def frcHeaderOk (h : Nat) : Bool :=
  (crc8 0xD5 16 h).toNat == bits h 23 16 && bits h 7 0 != 0 && bits h 12 11 != 3 && bits h 15 13 == 0

/-- The FRC header that a transmitter sends (R125). -/
def frcHeader (len cr spacing : Nat) (pcrc : Bool) : Nat :=
  let v := len + 256 * cr + 1024 * ofBool pcrc + 2048 * spacing
  v + 65536 * (crc8 0xD5 16 v).toNat

/-- The phy info of an FRC header (R157). -/
def frcInfo (h d b : Nat) : Nat :=
  d + 8 * bits h 9 8 + 32 * bits h 10 10 + 64 * bits h 12 11 + 256 * b

/-- The L-OFDM header check (R136). -/
def lofdmHeaderOk (h : Nat) : Bool :=
  (crc8 0x07 38 h).toNat == bits h 45 38 && bits h 30 20 != 0 && bits h 37 31 != 0

/-- The L-OFDM header that a transmitter sends (R136). -/
def lofdmHeader (mapId check len seed : Nat) : Nat :=
  let v := mapId + 2 ^ 12 * check + 2 ^ 20 * len + 2 ^ 31 * seed
  v + 2 ^ 38 * (crc8 0x07 38 v).toNat

/-! ### Frames that the modulator builds -/

/-- Manchester half-bits (R202): a 1 is on then off. -/
def manchester (l : List Bool) : List Bool := l.flatMap fun b => [b, !b]

/-- The 56 bits of a signature (R202): lead-in, pattern and group, most significant bit first. `f` holds the
octets of pattern and group. -/
def signatureBits (f : List Byte) : List Bool :=
  ((0xAA#8 :: f).take 7).flatMap fun b => (natBits 8 b.toNat).reverse

/-- The frame that the modulator builds of a request (R182): preamble, SFD or sync, header, and the PSDU with its FCS or CRC, whitened or scrambled; an Overture's repeated signature (R202). The SFD of the standard PHYs is
PRESUMED. -/
def airOf (r : TxReq) : Air :=
  let p := r.pers.toNat
  let phy := r.phy.toNat
  let body := r.frame.take r.length
  if r.flags.getLsbD 1 then
    .keyed (List.flatten (List.replicate (bits phy 15 8) (manchester (signatureBits r.frame))))
  else
    match phyOf p with
    | .none => .none
    | .fsk =>
      let psdu := body ++ fcsOf p phy body
      let rest := fskPhr phy psdu.length ++ octetBits (if bit phy 2 then fskWhiten psdu else psdu)
      .bits (octetBits (List.replicate (bits phy 15 8) 0xAA) ++
        ((natBits 16 (if bit phy 0 then 0x6F4E else 0x904E)).reverse) ++
        (if bit phy 0 then Config.fskCoded (bit phy 1) rest else rest))
    | .ofdm =>
      let psdu := body ++ fcsOf p phy body
      .bits (ofdmPhr (bits phy 2 0) psdu.length ++ octetBits psdu)
    | .oqpsk =>
      let psdu := body ++ fcsOf p phy body
      .bits (octetBits ([0, 0, 0, 0, 0xA7, BitVec.ofNat 8 psdu.length] ++ psdu))
    | .lofdm =>
      let codes := mapCodes r.frame
      let octets := (r.frame.drop 40).take r.length
      let psdu := octets ++ fcsOf p phy octets
      let h := lofdmHeader (bits phy 11 0) (mapCheck codes).toNat psdu.length (bits phy 18 12)
      .lofdm shortTraining longTraining
        ((lofdmHeaderSym h :: lofdmPayloadSyms (codes.map codeBits) (bits phy 18 12) psdu).mapIdx
          fun m l => (l, pilots m))
    | .frc =>
      let b := (p - 0x80) / 16
      let sf := frcSf p
      let sp := frcSpacing sf b
      let y := bits phy 31 24
      .chirps sf b (frcChirps sf (sf - sp) (bits phy 23 16) y (frcHeader r.length (bits phy 4 3) sp (bit phy 5))
        (bits phy 4 3) (bit phy 5) body)

/-! ### The curtain -/

/-- The amplitude of a ramp, of 65,535, `t` after its start, in units of which a ramp of profile `k` has `d`: point
i of the table at i × d / 63, linear between points, rounded down; a falling ramp runs the points back (R184). -/
def rampLevel (tab : List Nat) (falling : Bool) (d t : Nat) : Nat :=
  let t := min t d
  let x := if falling then 63 * (d - t) else 63 * t
  let i := x / max 1 d
  let lo := tab.getD i 0
  let hi := tab.getD (min 63 (i + 1)) 0
  let f := x % max 1 d
  if lo ≤ hi then lo + (hi - lo) * f / max 1 d else lo - (lo - hi) * f / max 1 d

end Sys2Proof.Machine
end

