-- ==== Sys2Proof/Machine/TxChain.lean ====
section
/-! DEFINITION. The transmit chains (chapter 05): the ledger and the writing of requests (R197,
R198), retune and launch (R175 to R180), power control (R187 to R191), the external PA and
coexistence wires (R192 to R196), the cut (R208) and the transmit end (R169). -/

namespace Sys2Proof.Machine

/-- A stamp of the unit's own TB0 as its records bear it: TB0 + Δ once promoted (R485). -/
def recStamp (s : State) (t : Stamp) : Stamp :=
  if s.pair.fixedD then t + BitVec.ofInt 64 s.pair.delta else t

/-- A stamp of the records as the unit's own hardware runs it (R485). -/
def ownStamp (s : State) (t : Stamp) : Stamp :=
  if s.pair.fixedD || isUnderstudy s then t - BitVec.ofInt 64 s.pair.delta else t

/-- A number of ticks before a stamp. -/
def minus (t : Stamp) (n : Nat) : Stamp := t - BitVec.ofNat 64 n

/-- Event source of a chain (R392). -/
def chainSrc (c : Chain) : Nat := 128 + chainIx c

/-- OFFSET_CLAMPED of a request (R173). -/
def offsetFlag (r : TxReq) : BitVec 8 := if clampRho r.offset = r.offset then 0 else 4

/-- The curtain is up. -/
def curtainUp (x : Tx) : Bool := x.st == .rising || x.st == .on || x.st == .falling

/-- The wires of a chain once it decides at `t` not to send the request of a sequence: its COEX_REQ lines fall
(R194), its blank's tail begins (R91), and PAEN falls at once unless a curtain is up or another request
raised it (R192). -/
def releaseWires (q : Word32) (t : Stamp) (x : Tx) : Tx :=
  let own := x.paenOf == some q
  let up := curtainUp x
  { x with
    claims := x.claims.filter fun k => k.seq != q
    blankFrom := if x.blank && x.blankOf == some q then some t else x.blankFrom
    paen := if own && !up then false else x.paen
    paenOf := if own then (if up then x.cur.map (·.seq) else none) else x.paenOf }

/-! ### Transmit ends -/

/-- The 32-byte body of a transmit-end entry (R169). -/
def txEndBytes (x : TxEnd) : List Byte :=
  le 4 x.seq.toNat ++ le 1 x.result ++ le 1 x.flags.toNat ++ leI 2 x.measured ++
    le 8 x.curtain.toNat ++ le 8 x.endStamp.toNat ++ le 4 x.origin.toNat ++ le 4 0

/-- A transmit end becomes an input of class 5; its per-source sequence is the transmit sequence
(R39). -/
def txEndInput (x : TxEnd) (s : State) : State :=
  if takesInputs s then
    modProc (fun p => { p with inputs := p.inputs ++
      [⟨5, chainIx x.chain, x.seq, p.cueNow, false, txEndBytes x, .row (.transmitEndEntry x)⟩] }) s
  else s

/-- The event bits of TXx_EVENTS that a result sets (R211). -/
def resultEvent (c : Chain) (result : Nat) (s : State) : State :=
  if result = 6 ∨ result = 7 ∨ result = 8 then setRBit (txReg c 0x1C) 4 s
  else if result = 11 then setRBit (txReg c 0x1C) 3 s
  else s

/-- The chain decides not to send a request: its transmit end completes now, curtain start and end at the stamp of
the decision, with OFFSET_CLAMPED for a clamped offset (R38, R169, R173). -/
def decideNot (r : TxReq) (result : Nat) (flags : BitVec 8) (t : Stamp) (s : State) : State :=
  let x : TxEnd :=
    ⟨r.chain, r.seq, result, flags ||| offsetFlag r, -32768, recStamp s t, recStamp s t, r.origin⟩
  resultEvent r.chain result (txEndInput x (modTx r.chain (releaseWires r.seq t) s))

/-- Each request of a list ends with a result. -/
def decideNots (l : List TxReq) (result : Nat) (t : Stamp) (s : State) : State :=
  l.foldl (fun s r => decideNot r result 0 t s) s

/-! ### Ledger -/

/-- The cue that holds the stamp S of a request (R197). -/
def cueOfStamp (s : State) (t : Stamp) : CueNo :=
  s.proc.procCue + BitVec.ofInt 32 (sdiff64 t s.proc.procStart / (cueTicks : Int))

/-- A charge in the window of the slice of cue `c`, slices of `2^l` cues (R197). -/
def inWindow (l : Nat) (c : CueNo) (x : Charge) : Bool :=
  let n := 2 ^ (32 - l)
  decide ((c.toNat / 2 ^ l + n - x.cue.toNat / 2 ^ l) % n ≤ 63)

/-- Air time charged to sub-band `k` in the window of cue `c`. -/
def dutyUsed (led : List Charge) (l : Nat) (k : Nat) (c : CueNo) : Nat :=
  ((led.filter fun x => x.sub == some k && inWindow l c x).map (·.us)).sum

/-- Air time charged to a channel tag in the window of cue `c`. -/
def dwellUsed (led : List Charge) (l : Nat) (tag : Nat) (c : CueNo) : Nat :=
  ((led.filter fun x => x.tag == tag && inWindow l c x).map (·.us)).sum

/-- The first enabled sub-band containing a compensated word, lowest `k` (R198, R211). -/
def subBand (s : State) (c : Chain) (w : Int) : Option Nat :=
  (List.range 16).find? fun k =>
    let hi := reg s (txReg c (0x104 + 0x10 * k))
    bit hi.toNat 31 && decide ((2000 * rbits s (txReg c (0x100 + 0x10 * k)) 21 0 : Int) ≤ w) &&
      decide (w ≤ 2000 * (fieldOf hi 21 0 : Int))

/-- Slice log2 of sub-band `k`. -/
def subSlice (s : State) (c : Chain) (k : Nat) : Nat := rbits s (txReg c (0x108 + 0x10 * k)) 31 27

/-- The chain is enabled and in service: not off, not out of service, not hot, not in Quiet mode
(R198, R567, R582). -/
def chainServes (s : State) (c : Chain) : Bool :=
  rbit s (txReg c 0) 0 && (tx s c).st != .outOfService && !s.pwr.hot && s.pwr.mode != .quiet

/-- The charge of a request (R198). -/
def chargeOf (s : State) (r : TxReq) : Charge :=
  ⟨r.seq, r.tag, subBand s r.chain (wTx r.carrier.toNat r.offset), cueOfStamp s r.start, airTime r⟩

/-- The ledger's answer for a request that would be queued: OUT_OF_PLAN, DWELL, DUTY, or none (R198). -/
def ledgerSays (s : State) (r : TxReq) : Option Nat :=
  let c := r.chain
  let cfg := reg s (txReg c 0x18)
  let x := chargeOf s r
  let limit := fieldOf cfg 31 8
  let led := (tx s c).ledger
  if x.sub = none ∧ bit cfg.toNat 0 = true then some 8
  else if r.tag < 128 ∧ limit ≠ 0 ∧
      limit * 100 * u3PerUs < dwellUsed led (fieldOf cfg 5 1) r.tag x.cue + x.us then some 6
  else
    match x.sub with
    | some k =>
      if rbits s (txReg c (0x108 + 0x10 * k)) 26 0 * 1000 * u3PerUs <
          dutyUsed led (subSlice s c k) k x.cue + x.us then some 7
      else none
    | none => none

/-- What becomes of a request as Publish writes it: the result of a refusal, or none when the
request is charged and queued (R198). -/
def requestRefusal (s : State) (now : Stamp) (r : TxReq) : Option Nat :=
  if sdiff64 r.start now < 0 then some 1
  else if !chainServes s r.chain then some 5
  else if !requestAllowed r then some 12
  else if 64 ≤ (tx s r.chain).queue.length then some 13
  else ledgerSays s r

/-- The queue in ascending start stamp, equal stamps in the order written (R168). -/
def queueReq (r : TxReq) (q : List TxReq) : List TxReq :=
  insertBy (fun a b => decide (sdiff64 a.start b.start < 0)) r q

/-- The request with the next transmit sequence of its chain, and the sequence counted (R167). -/
def numberReq (r : TxReq) (s : State) : TxReq × State :=
  ({ r with seq := (tx s r.chain).seq }, modTx r.chain (fun x => { x with seq := x.seq + 1 }) s)

/-- The refusal record of the ledger, of the chain's own hardware: on a unit that replays no request is
refused (R63, R198, R480, R513). -/
def ledgerRecord (c : Chain) (result : Nat) (s : State) : State :=
  if result = 6 ∨ result = 7 ∨ result = 8 then emitLocal 0x2005 (chainSrc c) 0 0 0 0 s else s

/-- A numbered request is charged and joins its chain's queue, or is refused (R198). On an
Understudy it joins the shadow queue, charged and never refused (R480). -/
def admitReq (r : TxReq) (s : State) : State :=
  let chg (s : State) := modTx r.chain (fun x => { x with ledger := x.ledger ++ [chargeOf s r] }) s
  if isUnderstudy s || inReplay s then
    modTx r.chain (fun x => { x with shadow := queueReq r x.shadow }) (chg s)
  else
    match requestRefusal s (recStamp s s.time.tb0) r with
    | some k => ledgerRecord r.chain k (decideNot r k 0 s.time.tb0 s)
    | none => modTx r.chain (fun x => { x with queue := queueReq r x.queue }) (chg s)

/-- A latched transmit end corrects the charge of its request to its real air time; nothing sent
counts 0. It also leaves the shadow queue (R199, R481). -/
def ledgerCorrect (x : TxEnd) (s : State) : State :=
  let air := (sdiff64 x.endStamp x.curtain).toNat * 3
  modTx x.chain (fun t => { t with
    ledger := t.ledger.map fun g => if g.seq == x.seq then { g with us := air } else g
    shadow := t.shadow.filter fun r => r.seq != x.seq }) s

/-- Charges in a slice outside every window of cue `c` leave the ledger. -/
def ledgerTrim (c : CueNo) (led : List Charge) : List Charge :=
  led.filter fun x => decide (sdiff32 c x.cue < 64 * 65536 + 65536)

/-! ### Retune and launch -/

/-- The compensated word of a request as the synthesiser takes it. -/
def reqWord (r : TxReq) : BitVec 64 := BitVec.ofInt 64 (wTx r.carrier.toNat r.offset)

/-- A recalibration is due for a word (R175): no calibration, 16 MHz or 15 °C away, lock lost, or
RECAL written. -/
def recalNeeded (s : State) (x : Tx) (w : BitVec 64) : Bool :=
  !x.calValid || x.recalDue || decide (32000000 < (sdiff64 w x.calWord).natAbs) ||
    decide (15 < (s.pwr.tPit - x.calTemp).natAbs)

/-- The registers of R211: PA_CFG, PA_CTL, COEX_CFG, PADET_CAL and RAMP_TAB of a chain. -/
def isLatched (c : Chain) (off : Nat) : Bool :=
  let o := off - txReg c 0
  decide (txReg c 0 ≤ off) && (decide (8 ≤ o) && decide (o ≤ 0x10) || decide (0x40 ≤ o) && decide (o < 0x100))

/-- A register of R211 as it took effect; its Reset value before. -/
def cfgWord (s : State) (c : Chain) (off : Nat) : Word32 := regGet (tx s c).cfg (txReg c off)

/-- The registers of R211 take effect; a change of MODE or GAIN sets the corrections to 0 (R189). -/
def latchCfg (c : Chain) (s : State) : State :=
  let same := fieldOf (cfgWord s c 8) 9 0 == rbits s (txReg c 8) 9 0
  modTx c (fun x => { x with
    cfg := s.regs.filter fun e => isLatched c e.1
    corr := if same then x.corr else [], big := if same then x.big else [] }) s

/-- The chain can take its next request: it is idle, or locked for none (R180). -/
def chainFree (x : Tx) : Bool := x.st == .idle || (x.st == .waiting && x.cur.isNone)

/-- The retune time of a request: S - 40 µs, or S - 120 µs when a recalibration is due (R176). -/
def retuneAt (s : State) (r : TxReq) (recal : Bool) : Stamp :=
  minus (ownStamp s r.start) ((if recal then 120 else 40) * usTicks)

/-- RETUNE (R175, R176, R180, R211): from its retune time a free chain takes its next request. One on the parked word
needs no retune. -/
def startRetune (c : Chain) (t : Stamp) (s : State) : State :=
  let x := tx s c
  match x.queue with
  | r :: rest =>
    let w := reqWord r
    let parked := x.locked && x.parked == w
    let recal := !parked && recalNeeded s x w
    if !chainFree x || later64 (retuneAt s r recal) t then s
    else if parked then
      modTx c (fun x => { x with
        queue := rest, cur := some r, hopped := false, curFlags := offsetFlag r, target := w, result := 0
        st := .waiting }) s
    else
      latchCfg c (modTx c (fun x => { x with
        queue := rest, cur := some r, hopped := true, curFlags := offsetFlag r, target := w, result := 0
        cal := (rolledTables 6 s).or x.cal, locked := false, tune := some recal, st := if recal then .calibrating else .retuning }) s)
  | [] => s

/-- LOCK_DECLARED (R176, R180): the hop or recalibration in progress has locked. -/
def declareLock (c : Chain) (s : State) : State :=
  match (tx s c).tune with
  | some cal =>
    modTx c (fun x => { x with
      locked := true, parked := x.target, tune := none
      calValid := x.calValid || cal
      calWord := if cal then x.target else x.calWord
      calTemp := if cal then s.pwr.tPit else x.calTemp
      recalDue := if cal then false else x.recalDue
      st := if x.st = .retuning ∨ x.st = .calibrating then .waiting else x.st }) s
  | none => s

/-- Ends of the range of the target power in the reference plane (R187). -/
def powerRange (cfg : Word32) : Int × Int :=
  if fieldOf cfg 1 0 = 0 then (-80, 56)
  else
    let g : Int := fieldOf cfg 9 2
    (-80 + g, min 120 (56 + g))

/-- The clamped target of a request (R187): the Cartesian limit lowers the top by 24. -/
def clampPower (cfg : Word32) (r : TxReq) : Int :=
  let (lo, hi) := powerRange cfg
  let hi := if !r.flags.getLsbD 1 && !isPolar r.pers.toNat then hi - 24 else hi
  clampI lo hi r.power

/-- The segment of a clamped target (R189). -/
def powerSegment (cfg : Word32) (t : Int) : Nat :=
  let (lo, hi) := powerRange cfg
  ((16 * (t - lo)) / (hi - lo + 1)).toNat

/-- The grants a chain needs are there (R177, R195). -/
def grantsOk (coex : Word32) (grants : BitVec 4) : Bool :=
  fieldOf coex 7 4 &&& (15 - grants.toNat) == 0

/-- The chain obeys COEX_INHIBIT (R196). -/
def obeys (coex : Word32) : Bool := bit coex.toNat 17

/-- S + 250 µs of a request on the unit's own TB0 (R177). -/
def deadlineOf (s : State) (r : TxReq) : Stamp := plus (ownStamp s r.start) (250 * usTicks)

/-- A count of ns as stamp ticks, a half tick rounding up (R204). -/
def nsTicks (ns : Nat) : Nat := (ns * 1024 + 5) / 10

/-- An instant of the chain as its stamps give it, at the PA output: DELAY later (R193). -/
def atPa (s : State) (c : Chain) (t : Stamp) : Stamp := plus t (nsTicks (fieldOf (cfgWord s c 8) 29 22))

/-- The driver setting of a curtain start (R188, R189): the clamped target and the segment's correction. -/
def driverSet (s : State) (c : Chain) (r : TxReq) (p : Int) (seg : Nat) (t : Stamp) : Int :=
  Config.driver (calTables s (tx s c).cal) (chainIx c) (reqWord r).toNat (2 * p + smGet 0 (tx s c).corr seg) s.pwr.tPit (Config.vinLevel t.toNat)

/-- Duration in µs of the falling curtain of a request (R184); an Overture's last edge is within its signature (R203). -/
def fallUs (r : TxReq) : Nat := if r.flags.getLsbD 1 then 0 else rampUs (bits r.ramps.toNat 7 4)

/-- Duration in µs of its rising ramp. -/
def riseUs (r : TxReq) : Nat := if r.flags.getLsbD 1 then 0 else rampUs (bits r.ramps.toNat 3 0)

/-- The rising curtain of the waiting request begins, `t` at the PA output (R177, R182, R184, R188, R211). -/
def raiseCurtain (c : Chain) (r : TxReq) (t : Stamp) (s : State) : State :=
  let s := if (tx s c).hopped then s else latchCfg c s
  let pa := cfgWord s c 8
  let p := clampPower pa r
  let late := later64 t (ownStamp s r.start)
  let fl : BitVec 8 := (if late then 1 else 0) ||| (if p = r.power then 0 else 2)
  let seg := powerSegment pa p
  modTx c (fun x => { x with
    st := .rising, curtain := t, curFlags := x.curFlags ||| fl, result := 0, forced := false
    shift := (sdiff64 t (ownStamp s r.start)).toNat, lastSeg := seg
    driver := driverSet s c r p seg t, air := airOf r, paen := true, paenOf := some r.seq, paenFrom := none }) s

/-- LAUNCH (R177, R180, R193): the curtain rises only when every condition holds at or after S and no later than
S + 250 µs. -/
def launchAt (c : Chain) (grants : BitVec 4) (inhibit : Bool) (t : Stamp) (s : State) : State :=
  let x := tx s c
  let coex := cfgWord s c 0x10
  match x.st, x.cur with
  | .waiting, some r =>
    let t := atPa s c t
    if x.locked && decide (0 ≤ sdiff64 t (ownStamp s r.start)) &&
        !later64 t (deadlineOf s r) && grantsOk coex grants && !(inhibit && obeys coex)
    then raiseCurtain c r t s
    else s
  | _, _ => s

/-- The chain ends the request it was serving without sending it, and is idle (R180). A hop or recalibration in
progress goes on. -/
def dropCur (c : Chain) (r : TxReq) (result : Nat) (t : Stamp) (s : State) : State :=
  let flags := (tx s c).curFlags
  modTx c (fun x => { x with cur := none, curFlags := 0, st := .idle }) (decideNot r result flags t s)

/-- The result of the first condition of R177 that fails at the deadline, none when all hold. -/
def deadlineResult (x : Tx) (coex : Word32) (grants : BitVec 4) (inhibit : Bool) : Option Nat :=
  if !x.locked then some 3
  else if !grantsOk coex grants then some 9
  else if inhibit && obeys coex then some 11
  else none

/-- LAUNCH_DEADLINE (R177): at S + 250 µs the request that has not launched is not sent. -/
def deadlineAt (c : Chain) (grants : BitVec 4) (inhibit : Bool) (t : Stamp) (s : State) : State :=
  let x := tx s c
  let coex := cfgWord s c 0x10
  match x.cur, x.queue with
  | some r, q =>
    if curtainUp x then
      match q with
      | h :: rest =>
        if later64 (deadlineOf s h) t then s
        else decideNot h 2 0 t (modTx c (fun x => { x with queue := rest }) s)
      | [] => s
    else if later64 (deadlineOf s r) t then s
    else
      match deadlineResult x coex grants inhibit with
      | some k => dropCur c r k t s
      | none => s
  | none, h :: rest =>
    if later64 (deadlineOf s h) t then s
    else
      let k := if x.locked && x.parked == reqWord h then
          (deadlineResult x coex grants inhibit).getD 3 else 3
      decideNot h k 0 t (modTx c (fun x => { x with queue := rest }) s)
  | none, [] => s

/-- A falling curtain of profile 0 with a result, from `t` at the PA output (R178, R195, R196, R208). -/
def dropCurtain (c : Chain) (result : Nat) (flags : BitVec 8) (t : Stamp) (s : State) : State :=
  modTx c (fun x => { x with
    st := .falling, result := result, curFlags := x.curFlags ||| flags
    fallAt := t, fallUs := rampUs 0, forced := true }) s

/-- The curtain is up and not yet falling. -/
def onAir (x : Tx) : Bool := x.st == .rising || x.st == .on

/-- The planned end of the transmission on air: curtain start + A (R186). -/
def plannedEnd (x : Tx) : Stamp :=
  match x.cur with
  | some r => plus x.curtain (airTime r / 3)
  | none => x.curtain

/-- A transmission that a cut stamp ends, and the start of its falling curtain, timed to end at the cut (R208). -/
def cutFall (x : Tx) : Option Stamp :=
  match x.cut with
  | some k => if onAir x && later64 (plannedEnd x) k then some (minus k (rampUs 0 * usTicks)) else none
  | none => none

/-- At TB0, a transmission that a cut stamp ends has begun to fall (R208). -/
def applyCut (c : Chain) (s : State) : State :=
  match cutFall (tx s c) with
  | some f => if later64 f (atPa s c s.time.tb0) then s else dropCurtain c 15 8 f s
  | none => s

/-- TB0 moved on to the stamp of a happening of a chain, and the cut that has come by then. -/
def chainAt (c : Chain) (t : Stamp) (s : State) : State := applyCut c (atTime t s)

/-- Of two causes of a fall at one stamp the later row of the list counts: 10 PREEMPTED, 11 INHIBITED, 4 LOCK_LOST
(R209). -/
def sameFall (x : Tx) (t : Stamp) (weaker : List Nat) : Bool :=
  x.st == .falling && x.forced && x.fallAt == t && weaker.contains x.result

/-- Part of the frame has been sent: from the end of the ramp, or from the curtain start on the Cartesian path
(R169, R185). -/
def partSent (x : Tx) : Bool := x.st == .on || (x.st == .rising && x.cur.any fun r => !isPolar r.pers.toNat)

/-- LOCK_LOST (R178, R179, R209): a curtain in progress falls, and a recalibration with its self-test follows; a waiting
request starts a new retune with recalibration. -/
def loseLock (c : Chain) (t : Stamp) (s : State) : State :=
  let x := tx s c
  if x.st = .off ∨ x.st = .outOfService ∨ x.locked = false then s
  else
    let s1 := modTx c (fun x => { x with locked := false, recalDue := true, test := true }) s
    let s2 :=
      if onAir x then dropCurtain c 4 (if partSent x then 8 else 0) (atPa s c t) s1
      else if x.st = .falling then
        (if sameFall x (atPa s c t) [10, 11] then modTx c (fun x => { x with result := 4 }) s1 else s1)
      else
        let s3 := modTx c (fun x => { x with
          st := .calibrating, tune := some true, hopped := x.cur.isSome
          cal := if x.cur.isSome then (rolledTables 6 s).or x.cal else x.cal
          target := match x.cur with
            | some r => reqWord r
            | none => x.parked }) s1
        if x.cur.isSome then latchCfg c s3 else s3
    emitLocal 0x2001 (chainSrc c) 0 0 0 0 (setRBit (txReg c 0x1C) 0 s2)

/-- The chain goes out of service: every request ends with OUT_OF_SERVICE (R179). -/
def outOfService (c : Chain) (t : Stamp) (s : State) : State :=
  let x := tx s c
  let s1 := modTx c (fun x => { x with
    st := .outOfService, cur := none, queue := [], locked := false, tune := none, calValid := false
    test := false }) s
  emitLocal 0x2006 (chainSrc c) 0 0 0 0
    (setRBit (txReg c 0x1C) 5 (decideNots (x.cur.toList ++ x.queue) 5 t s1))

/-- RECALIBRATION_END (R179, R180): the self-test after a lock loss. -/
def endRecal (c : Chain) (pass : Bool) (t : Stamp) (s : State) : State :=
  let x := tx s c
  if !x.test then s
  else if pass then
    let s1 := testOutcome 3 (chainIx c) true 0 s
    if x.st = .falling then modTx c (fun x => { x with test := false }) s1
    else modTx c (fun x => { x with
      test := false, locked := true, parked := x.target, tune := none, calValid := true, calWord := x.target
      calTemp := s.pwr.tPit, recalDue := false
      st := if x.st = .calibrating then .waiting else x.st }) s1
  else outOfService c t (testOutcome 3 (chainIx c) false 1 s)

/-- The points of TXx_PADET_CAL in use: reading and power, in the order of the table (R211). -/
def padetPoints (s : State) (c : Chain) : List (Nat × Int) :=
  ((List.range 8).map fun j =>
    let w := cfgWord s c (0x40 + 4 * j)
    (fieldOf w 11 0, signed 16 (fieldOf w 31 16))).filter fun p => p.1 ≠ 0

/-- The power of a reading between two neighbouring points with rising codes, linear and rounded down; open outside
them (R189, R211). -/
def padetPower (l : List (Nat × Int)) (code : Nat) : Int :=
  match (l.zip (l.drop 1)).find? fun p => decide (p.1.1 < p.2.1) && decide (p.1.1 ≤ code) && decide (code ≤ p.2.1) with
  | some (a, b) => a.2 + (b.2 - a.2) * ((code : Int) - a.1) / ((b.1 : Int) - a.1)
  | none => Config.padetOut code

/-- The power that a chain measures (R189): the on-chip detector's in mode 0; in mode 1 PADET's reading through its
table; none in mode 2, or when there is none. -/
def measuredPower (s : State) (c : Chain) (m : Int) : Int :=
  match fieldOf (cfgWord s c 8) 1 0 with
  | 0 => m
  | 1 => if m = -32768 then m else padetPower (padetPoints s c) m.toNat
  | _ => -32768

/-- The loop's correction after a measured frame, and the power fault (R189, R191). -/
def powerLoop (c : Chain) (measured : Int) (s : State) : State :=
  let x := tx s c
  let pa := cfgWord s c 8
  match x.cur with
  | none => s
  | some r =>
    if fieldOf pa 1 0 = 2 ∨ measured = -32768 ∨ r.flags.getLsbD 1 = true then s
    else
      let err := clampPower pa r - measured
      let k := x.lastSeg
      let prev := smGet 0 x.big k
      let big := decide (12 < err.natAbs)
      let s1 := modTx c (fun x => { x with
        corr := smSet 0 x.corr k (clampI (-24) 24 (smGet 0 x.corr k + err))
        big := smSet 0 x.big k (if big then 2 * measured + 1 else 0)
        measured := some measured }) s
      if big && prev ≠ 0 then
        emitLocal 0x2002 (chainSrc c) (BitVec.ofInt 32 ((prev - 1) / 2)).toNat
          (BitVec.ofInt 32 measured).toNat 0 0 (setRBit (txReg c 0x1C) 1 s1)
      else s1

/-- The wires as the falling curtain of a request ends: its COEX_REQ lines fall (R194), and the tails of PAEN and of the
blank begin, unless the next request has claimed them (R91, R192). -/
def endWires (q : Word32) (t : Stamp) (x : Tx) : Tx :=
  { x with
    claims := x.claims.filter fun k => k.seq != q
    blankFrom := if x.blank && x.blankOf == some q then some t else x.blankFrom
    paenFrom := if x.paenOf == some q then some t else x.paenFrom }

/-- TRANSMIT_END (R169, R180, R208): the falling curtain ends, once its time has passed. -/
def endTransmit (c : Chain) (measured : Int) (t : Stamp) (s : State) : State :=
  let x := tx s c
  match x.st, x.cur with
  | .falling, some r =>
    let te := atPa s c t
    if later64 (plus x.fallAt (x.fallUs * usTicks)) te then s
    else
      let m := measuredPower s c measured
      let s1 := powerLoop c m s
      let e : TxEnd := ⟨c, r.seq, x.result, x.curFlags, m, recStamp s x.curtain, recStamp s te, r.origin⟩
      let en := rbit s (txReg c 0) 0
      txEndInput e (modTx c (fun x => endWires r.seq te { x with
        cur := none, curFlags := 0, air := .none, ends := x.ends + 1, cut := none
        target := x.parked, tune := if en && x.test then some true else x.tune
        st := if !en then .off else if x.test then .calibrating else .idle }) s1)
  | _, _ => s

/-- A cut stamp set on a chain (R208): requests not launched end with FLUSHED; a transmission that would end later
falls so as to end at the cut. -/
def cutChain (c : Chain) (cut : Stamp) (s : State) : State :=
  let x := tx s c
  let now := s.time.tb0
  let s1 := decideNots x.queue 14 now (modTx c (fun x => { x with queue := [], cut := some cut }) s)
  match x.cur with
  | none => s1
  | some r => if curtainUp x then applyCut c s1 else dropCur c r 14 now s1

/-- Both chains cut at a stamp (R208). -/
def cutChains (cut : Stamp) (s : State) : State := cutChain .b cut (cutChain .a cut s)

/-- A chain calibrates at its first queued carrier, or at the band centre (R180); not in book replay (R69). -/
def calibrate (c : Chain) (s : State) : State :=
  if inReplay s then s
  else
    modTx c (fun x => { x with
      st := .calibrating, locked := false, tune := some true
      target := match x.queue with
        | r :: _ => reqWord r
        | [] => match c with
          | .a => 1110000000
          | .b => 4883500000 }) s

/-- CHAIN_ENABLE (R180): TXx_CTL.EN set to 1 starts calibration; in Quiet mode EN takes no write
(R567), and in replay the chain stays off (R69). -/
def enableChain (c : Chain) (s : State) : State :=
  if s.pwr.mode = .quiet then s
  else
    let s1 := setRBit (txReg c 0) 0 s
    if (tx s c).st = .off ∧ rbit s (txReg c 0) 0 = false ∧ inReplay s = false then calibrate c s1 else s1

/-- CHAIN_DISABLE (R180, R208): the chain is cut at once and its queue flushed. -/
def disableChain (c : Chain) (t : Stamp) (s : State) : State :=
  let s1 := cutChain c t (setRBits (txReg c 0) 0 0 0 s)
  modTx c (fun x => if curtainUp x then x else { x with
    st := .off, test := false, locked := false, tune := none }) s1

/-! ### The curtain and the wires -/

/-- The ramp points in effect (R184, R211). -/
def rampTable (s : State) (c : Chain) : List Nat :=
  (List.range 64).map fun i =>
    let w := cfgWord s c (0x80 + 4 * (i / 2))
    if i % 2 = 0 then fieldOf w 15 0 else fieldOf w 31 16

/-- The amplitude of a chain's curtain at TB0, of 65,535 (R184, R185): the rising ramp from the curtain start, full, the
falling ramp from its start; a forced fall of a curtain still rising comes down from full. -/
def curtainLevel (s : State) (c : Chain) : Nat :=
  let x := tx s c
  let since (a : Stamp) : Nat := (sdiff64 (atPa s c s.time.tb0) a).toNat
  match x.st, x.cur with
  | .rising, some r => rampLevel (rampTable s c) false (riseUs r * usTicks) (since x.curtain)
  | .on, _ => 65535
  | .falling, _ => rampLevel (rampTable s c) true (x.fallUs * usTicks) (since x.fallAt)
  | _, _ => 0

/-- The level of PACTL_x in units of 1.8 V / 1,023 (R192). -/
def pactlLevel (s : State) (c : Chain) : Nat :=
  let w := cfgWord s c 0xC
  if (tx s c).paen || bit w.toNat 10 then fieldOf w 9 0 else 0

/-- The COEX_REQ lines: high while either chain claims them (R194). -/
def coexReq (s : State) : BitVec 4 := (s.txa.claims ++ s.txb.claims).foldl (fun a k => a ||| k.mask) 0

/-- COEX_PRI: high while any claimed request has its COEX_PRI flag set (R194). -/
def coexPri (s : State) : Bool := (s.txa.claims ++ s.txb.claims).any (·.pri)

/-- Requests of a chain that have not launched, the one being carried out first. -/
def waitingReqs (x : Tx) : List TxReq := (if curtainUp x then [] else x.cur.toList) ++ x.queue

/-- The first request not launched for which `p` does not hold, with `us` µs before its S come (R192, R194). -/
def leadReached (s : State) (x : Tx) (us : Nat) (t : Stamp) (p : TxReq → Bool) : Option TxReq :=
  (waitingReqs x).find? fun r => !p r && !later64 (minus (ownStamp s r.start) (us * usTicks)) t

/-- PAEN_RISE (R192): from S - LEAD of the next request. -/
def raisePaen (c : Chain) (t : Stamp) (s : State) : State :=
  let x := tx s c
  match leadReached s x (fieldOf (cfgWord s c 8) 15 10) t (fun r => x.paenOf == some r.seq) with
  | some r => modTx c (fun x => { x with paen := true, paenOf := some r.seq, paenFrom := none }) s
  | none => s

/-- PAEN_FALL (R192): LAG after the end of the falling curtain. -/
def dropPaen (c : Chain) (t : Stamp) (s : State) : State :=
  let x := tx s c
  match x.paenFrom with
  | some e =>
    if later64 (plus e (fieldOf (cfgWord s c 8) 21 16 * usTicks)) t then s
    else modTx c (fun x => { x with paen := false, paenOf := none, paenFrom := none }) s
  | none => s

/-- COEX_REQ_RISE (R194): each line of REQ_MASK rises from S - LEAD of a request. -/
def raiseCoex (c : Chain) (t : Stamp) (s : State) : State :=
  let x := tx s c
  let coex := cfgWord s c 0x10
  match leadReached s x (fieldOf coex 15 8) t (fun r => x.claims.any fun k => k.seq == r.seq) with
  | some r => modTx c (fun x => { x with
      claims := x.claims ++ [⟨r.seq, BitVec.ofNat 4 (fieldOf coex 3 0), r.flags.getLsbD 0⟩] }) s
  | none => s

/-- RISING_RAMP_COMPLETE (R180, R184). -/
def rampDone (c : Chain) (t : Stamp) (s : State) : State :=
  let x := tx s c
  if x.st = .rising ∧ !later64 (plus x.curtain ((x.cur.map riseUs).getD 0 * usTicks)) (atPa s c t) then
    modTx c (fun x => { x with st := .on }) s
  else s

/-- LAST_MODULATED_SAMPLE (R180, R185): the falling ramp begins, so as to end at curtain start + A. -/
def lastSampleAt (c : Chain) (t : Stamp) (s : State) : State :=
  let x := tx s c
  let u := (x.cur.map fallUs).getD 0
  if x.st = .on ∧ !later64 (minus (plannedEnd x) (u * usTicks)) (atPa s c t) then
    modTx c (fun x => { x with st := .falling, fallAt := atPa s c t, fallUs := u, forced := false }) s
  else s

/-- PREEMPTED (R195, R209): a grant of GNT_MASK has fallen with YIELD set. -/
def preempt (c : Chain) (grants : BitVec 4) (t : Stamp) (s : State) : State :=
  let coex := cfgWord s c 0x10
  if onAir (tx s c) && bit coex.toNat 16 && !grantsOk coex grants then
    emitLocal 0x2003 (chainSrc c) 0 0 0 0 (setRBit (txReg c 0x1C) 2 (dropCurtain c 10 8 (atPa s c t) s))
  else s

/-- A chain obeys a rise of COEX_INHIBIT (R196, R209). -/
def inhibitChain (c : Chain) (t : Stamp) (s : State) : State :=
  let x := tx s c
  if !obeys (cfgWord s c 0x10) then s
  else if onAir x then
    emitLocal 0x2004 (chainSrc c) 0 0 0 0 (setRBit (txReg c 0x1C) 3 (dropCurtain c 11 8 (atPa s c t) s))
  else if sameFall x (atPa s c t) [10] then
    emitLocal 0x2004 (chainSrc c) 0 0 0 0 (setRBit (txReg c 0x1C) 3 (modTx c (fun x => { x with result := 11 }) s))
  else s

/-! ### Meanings -/

/-- Meaning of CHAIN_ENABLE. -/
def execChainEnable (c : Chain) (s : State) : Host.Outcome State Fault Refusal :=
  .next (enableChain c s)

/-- Meaning of CHAIN_DISABLE. -/
def execChainDisable (c : Chain) (t : Stamp) (s : State) : Host.Outcome State Fault Refusal :=
  .next (disableChain c t (chainAt c t s))

/-- Meaning of RECAL (R175). -/
def execRecal (c : Chain) (s : State) : Host.Outcome State Fault Refusal :=
  .next (modTx c (fun x => { x with recalDue := true }) s)

/-- Meaning of RETUNE. -/
def execRetune (c : Chain) (t : Stamp) (s : State) : Host.Outcome State Fault Refusal :=
  .next (startRetune c t (chainAt c t s))

/-- Meaning of LOCK_DECLARED. -/
def execLockDeclared (c : Chain) (t : Stamp) (s : State) : Host.Outcome State Fault Refusal :=
  .next (declareLock c (chainAt c t s))

/-- Meaning of PAEN_RISE. -/
def execPaenRise (c : Chain) (t : Stamp) (s : State) : Host.Outcome State Fault Refusal :=
  .next (raisePaen c t (chainAt c t s))

/-- Meaning of PAEN_FALL. -/
def execPaenFall (c : Chain) (t : Stamp) (s : State) : Host.Outcome State Fault Refusal :=
  .next (dropPaen c t (chainAt c t s))

/-- Meaning of COEX_REQ_RISE. -/
def execCoexReqRise (c : Chain) (t : Stamp) (s : State) : Host.Outcome State Fault Refusal :=
  .next (raiseCoex c t (chainAt c t s))

/-- Meaning of LAUNCH. -/
def execLaunch (c : Chain) (grants : BitVec 4) (inhibit : Bool) (t : Stamp) (s : State) :
    Host.Outcome State Fault Refusal :=
  .next (launchAt c grants inhibit t (modPwr (fun p => { p with inhibit := inhibit }) (chainAt c t s)))

/-- Meaning of LAUNCH_DEADLINE. -/
def execLaunchDeadline (c : Chain) (grants : BitVec 4) (inhibit : Bool) (t : Stamp) (s : State) :
    Host.Outcome State Fault Refusal :=
  .next (deadlineAt c grants inhibit t (modPwr (fun p => { p with inhibit := inhibit }) (chainAt c t s)))

/-- Meaning of RISING_RAMP_COMPLETE. -/
def execRisingRampComplete (c : Chain) (t : Stamp) (s : State) : Host.Outcome State Fault Refusal :=
  .next (rampDone c t (chainAt c t s))

/-- Meaning of LAST_MODULATED_SAMPLE. -/
def execLastModulatedSample (c : Chain) (t : Stamp) (s : State) :
    Host.Outcome State Fault Refusal :=
  .next (lastSampleAt c t (chainAt c t s))

/-- Meaning of TRANSMIT_END. -/
def execTransmitEnd (c : Chain) (measured : Int) (t : Stamp) (s : State) :
    Host.Outcome State Fault Refusal :=
  .next (endTransmit c measured t (chainAt c t s))

/-- Meaning of LOCK_LOST. -/
def execLockLost (c : Chain) (t : Stamp) (s : State) : Host.Outcome State Fault Refusal :=
  .next (loseLock c t (chainAt c t s))

/-- Meaning of RECALIBRATION_END. -/
def execRecalibrationEnd (c : Chain) (pass : Bool) (t : Stamp) (s : State) :
    Host.Outcome State Fault Refusal :=
  .next (endRecal c pass t (chainAt c t s))

/-- Meaning of PREEMPTED. -/
def execPreempted (c : Chain) (grants : BitVec 4) (t : Stamp) (s : State) :
    Host.Outcome State Fault Refusal :=
  .next (preempt c grants t (chainAt c t s))

/-- Meaning of INHIBITED (R196). -/
def execInhibited (t : Stamp) (s : State) : Host.Outcome State Fault Refusal :=
  .next (inhibitChain .b t (inhibitChain .a t
    (modPwr (fun p => { p with inhibit := true }) (chainAt .b t (chainAt .a t s)))))

end Sys2Proof.Machine
end

