-- ==== Sys2Proof/Machine/Mesh.lean ====
section
/-! DEFINITION. Mesh access, shared part (chapter 06): keys of nodes and groups (R436, R455), mesh
time (R310, R325), contacts and windows (R239 to R248), requests to the chains, keep-outs (R253),
answers (R228, R229, R237) and beacons (R226, R227, R250). -/

namespace Sys2Proof.Machine

/-! ### Derived time bases and keys -/

/-- Half-up rounding of `d × r / 2^40` (R310). -/
def rateTerm (d r : Int) : Int := (d * r + 2 ^ 39) / 2 ^ 40

/-- `tb_value` of a derived base at a TB0 stamp (R310). -/
def tbValue (b : TBase) (t : Stamp) : Word64 :=
  let d := sdiff64 t b.a
  b.v + BitVec.ofInt 64 d + BitVec.ofInt 64 (rateTerm d b.r)

/-- Derived base 1, 2 or 3. -/
def tbOf (s : State) (k : Nat) : TBase :=
  match k with
  | 1 => s.time.tb1
  | 2 => s.time.tb2
  | _ => s.time.tb3

/-- ROOT, zeros while it is not programmed. -/
def rootKey (s : State) : List Byte := s.sec.fuses.root.getD (List.replicate 16 0)

/-- K_node (R436). -/
def kNode (s : State) : List Byte := (sha256 (rootKey s ++ ascii "CLOTOS-NODE")).take 16

/-- K_inst (R436). -/
def kInst (s : State) : List Byte := (sha256 (rootKey s ++ ascii "CLOTOS-INST")).take 16

/-- T of R455. -/
def keyTweak (i : Nat) : List Byte := List.replicate 12 0 ++ be 4 i

/-- The link key wrapped for a context (R455). -/
def wrapLink (s : State) (i : Nat) (k : List Byte) : List Byte := aesEnc (kNode s) (xorBytes k (keyTweak i))

/-- The link key of a node (R455). -/
def linkKey (s : State) (i : Nat) : List Byte := xorBytes (aesDec (kNode s) (node s i).wrapped) (keyTweak i)

/-- A group key of the key store unwrapped (R439, R456). -/
def groupKeyOf (s : State) (g : GroupKey) : List Byte := (keyUnwrap (kInst s) g.wrapped).getD []

/-- The current or previous group key with a key sequence (R452, R458). -/
def groupKeyBySeq (s : State) (q : Nat) : Option GroupKey :=
  (s.sec.keys.cur.toList ++ s.sec.keys.prev.toList).find? fun g => g.seq == q

/-! ### Nodes -/

/-- The node index is allocated. -/
def isAlloc (n : Node) : Bool := n.st != .free

/-- Allocated node indices. -/
def allocated (s : State) : List Nat := smKeys (s.mesh.nodes.filter fun x => isAlloc x.2)

/-- Mesh address of a node (R212). -/
def nodeAddr (s : State) (i : Nat) : Nat :=
  let n := node s i
  if n.grand then addrGrand i else addrCompact n.pan n.short

/-- The allocated node with a mesh address. -/
def nodeByAddr (s : State) (a : Nat) : Option Nat :=
  match bits a 23 22 with
  | 0 => if isAlloc (node s a) && (node s a).grand then some a else none
  | 1 => (allocated s).find? fun i =>
      !(node s i).grand && (node s i).pan == bits a 18 16 && (node s i).short == bits a 15 0
  | _ => none

/-- The allocated node with an EUI-64. -/
def nodeByEui (s : State) (e : BitVec 64) : Option Nat := (allocated s).find? fun i => (node s i).eui == e

/-- A direct node (R243). -/
def isDirect (s : State) (i : Nat) : Bool :=
  let p := (node s i).parent.toNat
  p == addrNone || p == addrRouter (routerId s)

/-- Node states that meet the device. -/
def isReached (n : Node) : Bool :=
  match n.st with
  | .joining | .active | .drifting | .searching | .leaving => true
  | _ => false

/-- The node has a wake-up receiver (R230). -/
def hasWake (n : Node) : Bool := n.caps.getLsbD 2

/-- Bit 3 of the capabilities: L-OFDM (R230). -/
def hasLofdm (n : Node) : Bool := n.caps.getLsbD 3

/-! ### Events -/

/-- Channel of event `e` (R241). -/
def eventChannel (e h i : Nat) (map : BitVec 128) : Nat :=
  let u := (i + h * e) % 128
  if bit map.toNat u then u
  else
    let l := (List.range 128).filter (bit map.toNat)
    l.getD (u % l.length) 0

/-- Ticks of `k` events at interval `intv` cues. -/
def eventTicks (k intv : Nat) : Nat := k * intv * cueTicks

/-- Interval, latency, supervision and map in force at event `e` (R245). -/
def connAt (n : Node) (e : Word32) : Nat × Nat × Nat × BitVec 128 :=
  match n.upd with
  | some u => if 0 ≤ sdiff32 e u.event then (u.intv, u.lat, u.sup, u.map) else (n.intv, n.lat, n.sup, n.map)
  | none => (n.intv, n.lat, n.sup, n.map)

/-- The anchor of event `e` (R242, R245). -/
def anchorOf (n : Node) (e : Word32) : Stamp :=
  match n.upd with
  | some u =>
    if 0 ≤ sdiff32 e u.event then
      plus (plus n.arrival (eventTicks (sdiff32 u.event n.event).toNat n.intv))
        (eventTicks (sdiff32 e u.event).toNat u.intv)
    else plus n.arrival (eventTicks (sdiff32 e n.event).toNat n.intv)
  | none => plus n.arrival (eventTicks (sdiff32 e n.event).toNat n.intv)

/-- The event counter at a stamp: the last event whose anchor is not after it. -/
def eventAt (n : Node) (t : Stamp) : Word32 :=
  if n.intv = 0 then n.event
  else
    let k := (sdiff64 t n.arrival).toNat / eventTicks 1 n.intv
    let e := n.event + BitVec.ofNat 32 k
    match n.upd with
    | some u =>
      if 0 ≤ sdiff32 e u.event then
        u.event + BitVec.ofNat 32 ((sdiff64 t (anchorOf n u.event)).toNat / max 1 (eventTicks 1 u.intv))
      else e
    | none => e

/-- The update of R245 becomes the context's own values once its event has come. -/
def takeUpdate (e : Word32) (n : Node) : Node :=
  match n.upd with
  | some u =>
    if 0 ≤ sdiff32 e u.event then
      { n with intv := u.intv, lat := u.lat, sup := u.sup, map := u.map, upd := none }
    else n
  | none => n

/-! ### Guard and windows -/

/-- Detection time of a plan entry's PHY, in duration units (R145, R243); SUN OFDM PRESUMED. -/
def detTime (p : Nat) : Nat :=
  match phyOf p with
  | .none => 0
  | .fsk => fskBits p 16
  | .ofdm => 24 * u3PerUs
  | .oqpsk => 64 * u3PerUs
  | .lofdm => 100 * u3PerUs
  | .frc => 8 * frcTs (frcSf p) ((p - 0x80) / 16)

/-- Guard G in ticks and whether it equals GUARD_MAX (R246). -/
def guardOf (s : State) (n : Node) (e : Word32) : Nat × Bool :=
  let d := (sdiff64 (anchorOf n e) n.arrival).toNat
  let base := 50 * usTicks * 1000000 + 2 * (n.ppm + devPpm s) * d
  let g := ceilDiv (base * 2 ^ min n.misses 16) 1000000
  let m := guardMax s * usTicks
  (min m g, decide (m ≤ g))

/-- Sample periods and settling ahead of a window (R103), as Rx uses it. -/
def windowLead (bw : Nat) : Nat :=
  4 * usTicks + 768 * [512000, 256000, 128000, 64000, 32000, 25600, 16000, 12800, 8000, 6400, 5000, 4000,
    2500, 2000, 1600, 1280].getD bw 1280

/-- The lines a Stagehand owns (R224, R269). -/
def ownedLines (s : State) (e : Nat) : List Nat :=
  (List.range 96).filter fun n => cfgU s recMesh (2752 + n) 1 == e

/-- The owned line for a window with this retune time (R243). -/
def chooseLine (s : State) (e : Nat) (retune : Stamp) : Option Nat :=
  let ok := (ownedLines s e).filter fun n =>
    decide ((s.mesh.wins.filter fun w => w.line == n).length < 16) &&
      (smGet 0 s.mesh.lineEnd n == 0 || !later64 (BitVec.ofNat 64 (smGet 0 s.mesh.lineEnd n)) retune)
  let endOf (n : Nat) := smGet 0 s.mesh.lineEnd n
  ok.foldl (fun best n =>
    match best with
    | none => some n
    | some b => if sdiff64 (BitVec.ofNat 64 (endOf n)) (BitVec.ofNat 64 (endOf b)) < 0 then some n else some b) none

/-- A window of event `e` of node `i`, with its retune time (R243). -/
def windowOf (s : State) (i : Nat) (e : Word32) : Window × Nat × Stamp × Nat × Bool :=
  let n := node s i
  let ch := eventChannel e.toNat n.hop i (connAt n e).2.2.2
  let pe := planAt s ch
  let g := guardOf s n e
  let ts := syncTime pe.pers pe.phy / 3
  let start := minus (anchorOf n e) (g.1 + ts)
  let bw := (bwOf pe.pers).getD 6
  let w : Window := { start := start
                      endStamp := plus (minus (anchorOf n e) ts) (g.1 + detTime pe.pers / 3)
                      nco := w32 (ncoOf pe.carrier), port := bits pe.route 2 1, bw := bw
                      pers := BitVec.ofNat 8 pe.pers, id := Config.windowId s.mesh.items }
  (w, ch, minus start (windowLead bw), g.1, g.2)

/-- Plan the windows of a node whose retune time lies two cues ahead (R243); at most `k` events. -/
def planWindows (k i : Nat) (s : State) : State :=
  match k with
  | 0 => s
  | k + 1 =>
    let n := node s i
    let e := n.nextWin
    let (w, ch, retune, g, full) := windowOf s i e
    let d := sdiff64 retune (plus s.proc.procStart (2 * cueTicks))
    if (cueTicks : Int) ≤ d then s
    else
      let s1 := modNode i (fun n => { n with nextWin := e + 1 }) s
      if d < 0 then planWindows k i s1
      else
        let s2 := modNode i (fun n => { n with guardT := g }) s1
        match chooseLine s (owner i) retune with
        | none => planWindows k i (countReg 0x3003C 1 s2)
        | some l =>
          planWindows k i (out (owner i) (.window l w) (modMesh (fun m => { m with
            items := m.items + 1
            wins := m.wins ++ [⟨w.id, i, e, l, ch, full⟩]
            lineEnd := smSet 0 m.lineEnd l w.endStamp.toNat }) s2))

/-- Listening windows planned in a cue: Grand direct nodes that the device meets (R243, R248). -/
def wantsWindows (s : State) (i : Nat) : Bool :=
  let n := node s i
  n.grand && isReached n && isDirect s i && n.intv != 0

/-! ### Requests -/

/-- The interval of air a request would take, in its start stamp and ticks (R186). -/
def airTicks (r : TxReq) : Nat := ceilDiv (airTime r) 3

/-- The request overlaps a keep-out of a peer (R253). -/
def inKeepOut (s : State) (chan : Nat) (start : Stamp) (ticks : Nat) : Bool :=
  s.mesh.peers.any fun p =>
    p.planChk == planCheck s && p.channel == chan &&
      decide (0 < sdiff64 (plus p.expect (p.airUs * usTicks + 1000 * usTicks)) start) &&
      decide (sdiff64 (minus p.expect (1000 * usTicks)) (plus start ticks) < 0)

/-- A request on a plan entry (R167, R222): tag the channel, the ramps of the firmware set; an L-OFDM
frame carries the map block before its PSDU. -/
def planReq (s : State) (e chan : Nat) (start : Stamp) (rho : Int) (coex : Bool) (mapId : Nat)
    (codes : List Nat) (frame : List Byte) : TxReq :=
  let pe := planAt s chan
  let lofdm := phyOf pe.pers == .lofdm
  { chain := chainOf (pe.route % 2), start := start, carrier := BitVec.ofNat 64 pe.carrier, offset := rho
    power := pe.power, pers := BitVec.ofNat 8 pe.pers, tag := chan
    phy := if lofdm then w32 (pe.phy / 4096 * 4096 + mapId % 4096) else w32 pe.phy
    length := frame.length, ramps := Config.ramps, flags := if coex then 1 else 0
    frameAddr := Config.frameAddr s.mesh.items, seq := 0
    origin := w32 (e % 16) + (Config.itemNumber s.mesh.items <<< 4)
    frame := if lofdm then codeBytes codes ++ [0] ++ frame else frame
    item := s.mesh.items }

/-- An engine leaves a request for Publish, with its note of what it is for. -/
def sendReq (e : Nat) (r : TxReq) (use : TxUse) (timed : Option Nat) (s : State) : State :=
  out e (.tx { r with item := s.mesh.items }) (modMesh (fun m => { m with
    items := m.items + 1
    uses := m.uses ++ [{ item := m.items, use := use, timed := timed
                         fall := if isPolar r.pers.toNat then rampUs (bits r.ramps.toNat 7 4) * usTicks else 0 }] }) s)

/-- The planned instant at which the sync point of a request leaves the ball (R185, R325). -/
def syncInstant (r : TxReq) : Stamp :=
  plus r.start ((if isPolar r.pers.toNat then rampUs (bits r.ramps.toNat 3 0) * usTicks else 0) +
    syncTime r.pers.toNat r.phy.toNat / 3)

/-- Mesh time at an instant; while TB1 is not valid the manual states none (R325). -/
def meshTime (s : State) (t : Stamp) : Word64 :=
  if s.time.tb1.valid then tbValue s.time.tb1 t else engineOpen 0 s

/-- The instant mesh time names in a frame on a plan entry that starts at `start`. -/
def timeInstant (s : State) (chan : Nat) (start : Stamp) : Stamp :=
  syncInstant (planReq s 0 chan start 0 false 0 [] [])

/-! ### Elements -/

/-- The schedule element's body (R240). -/
def scheduleBody (e : Word32) (offsetUs intv lat sup hop : Nat) (update : Bool) (map : BitVec 128) :
    List Byte :=
  le 4 e.toNat ++ le 4 offsetUs ++ le 2 intv ++ le 2 lat ++ le 2 sup ++ le 1 hop ++
    le 1 (ofBool update) ++ le 16 map.toNat

/-- Ticks to whole microseconds, to the nearest below. -/
def ticksToUs (d : Int) : Nat := d.toNat / usTicks

/-- TB1 follows a traceable TB2 (R326). -/
def timeTraceable (s : State) : Bool := bit (cfgU s recTime 0 2) 3 && s.time.ptp.traceable

/-- A delay in ticks as whole ns. -/
def ticksToNs (d : Int) : Int := 10 * d / 1024

/-- The time element's body (R326). -/
def timeBody (s : State) (n : Node) (t : Stamp) : List Byte :=
  le 8 (meshTime s t).toNat ++
    (match n.delay with
      | some d => leI 4 (ticksToNs d)
      | none => le 4 0x80000000) ++
    le 1 0 ++ le 1 (ofBool (timeTraceable s)) ++ le 2 s.time.tb1.steps

/-- A time element is due to a Grand node (R325, R328). -/
def timeElementDue (s : State) (n : Node) : Bool :=
  n.timeDue || (n.grand &&
    match n.timeSent with
    | none => true
    | some (c, st, d) =>
      decide ((cfgU s recTime 42 1 : Int) * 2 ^ s.proc.sceneLog2 ≤ sdiff32 s.proc.procCue c) || st != s.time.tb1.steps ||
        (match n.delay with
          | some x => decide (10240 < (x - d).natAbs)
          | none => false))

/-- The map offer's body (R142). -/
def offerBody (id : Nat) (codes : List Nat) : List Byte :=
  le 1 0 ++ le 2 id ++ le 1 (mapCheck codes).toNat ++ codeBytes codes

/-- The group key an active node is owed, with its first Scene: the pending one, else the current (R458). -/
def newestGroup (s : State) : Option (GroupKey × Nat) :=
  match s.sec.keys.pendKey with
  | some x => some x
  | none => s.sec.keys.cur.map fun g => (g, s.sec.keys.curScene)

/-- The elements a frame to node `i` carries besides its own purpose: leave, schedule update, map
offer and accept, pending group key (R143, R245, R254, R458). -/
def dueElements (s : State) (i : Nat) (t : Stamp) : List (Nat × List Byte) :=
  let n := node s i
  (match n.leave with
    | some (reason, _, _) => [(7, le 1 reason)]
    | none => []) ++
  (match n.upd with
    | some u =>
      if sdiff32 (eventAt n s.proc.procStart) u.event < 0 then
        [(3, scheduleBody u.event (ticksToUs (sdiff64 (anchorOf n u.event) t)) u.intv u.lat u.sup n.hop true u.map)]
      else []
    | none => []) ++
  (match n.txNew with
    | some x => [(1, le 1 1 ++ le 2 x.1 ++ le 1 (mapCheck x.2).toNat)]
    | none => []) ++
  (match n.offer with
    | some id => [(1, offerBody id n.mapCodes)]
    | none => []) ++
  (match newestGroup s with
    | some (g, scene) =>
      if n.grpOwed && n.st == .active then
        [(6, le 1 2 ++ le 1 g.seq ++ le 4 scene ++ le 2 0 ++ groupKeyOf s g)]
      else []
    | none => [])

/-- What sending the due elements leaves in the context. -/
def elementsSent (s : State) (i : Nat) (s1 : State) : State :=
  let n := node s i
  let sent := (newestGroup s).isSome && n.st == .active
  let s2 := modNode i (fun m => { m with
    txNew := none, offer := none, grpOwed := m.grpOwed && !sent
    txMap := (n.txNew.map Prod.fst).getD n.txMap, txCodes := (n.txNew.map Prod.snd).getD n.txCodes
    leaveSent := m.leaveSent || n.leave.isSome }) s1
  match n.upd with
  | some u =>
    match u.cmd with
    | some c => finish (owner i) 0x0050 stOk c [] [] (modNode i (fun m => { m with
        upd := m.upd.map fun u => { u with cmd := none } }) s2)
    | none => s2
  | none => s2

/-! ### Frames to a node -/

/-- The next sequence of engine `e` as a sender, and the state with it counted (R215). DESIGN CHOICE: the sender of
R215 is the engine that forms the frame, since no engine can share a count within a cue (R49). -/
def nextSeq (e : Nat) (s : State) : Nat × State :=
  (smGet 0 s.mesh.seqs e, modMesh (fun m => { m with seqs := smMod 0 m.seqs e fun q => (q + 1) % 256 }) s)

/-- A device counter of 0xFFFF_FFFF sends no more secured frames (R454). -/
def keySpent (n : Node) : Bool := n.devCtr == 0xFFFFFFFF

/-- A frame to node `i` under its link key (R449 to R451), its counter and sequence counted. -/
def nodeFrame (i : Nat) (f : Frame) (s : State) : List Byte × State :=
  let n := node s i
  let (q, s1) := nextSeq (owner i) s
  let f1 := { f with sec := true, dir := true, seq := q, router := routerId s, keySeq := n.keySeq
                     ctr := n.devCtr.toNat }
  let bytes := frameBytes (sealFrame (linkKey s i) (linkSource n.eui) f1)
  let s2 := modNode i (fun n => { n with devCtr := n.devCtr + 1 }) s1
  (bytes, if n.devCtr = 0xFFFFFFFE then emit (owner i) 0x8003 i 0 0 0 s2 else s2)

/-- The empty downlink frame to a link address. -/
def blankFrame (typ link : Nat) : Frame :=
  { typ := typ, sec := false, ackReq := false, dir := true, ie := false, more := false, seq := 0
    router := 0, link := link, body := [] }

/-- The plan entry on which an uplink was received, for answering it (R228): its window's, or that of
its frame type on a fixed line. -/
def uplinkChannel (s : State) (i : Nat) (typ : Nat) (win : Option WinEnt) : Nat :=
  let n := node s i
  match win with
  | some w => w.chan
  | none =>
    if typ = 7 then (if n.grand then cfgU s recMesh 26 1 else cfgU s recMesh (66 + 16 * n.pan) 1)
    else if n.grand then cfgU s recMesh 26 1
    else panChan s n.pan

/-- Start stamp of an answer (R228). -/
def answerStart (s : State) (rx : Reception) : Stamp := plus rx.endStamp (replyDelay s * usTicks)

/-- A frame to a node is queued on a channel unless it overlaps a keep-out (R253) or the node's
counter is spent (R454). -/
def sendTo (i chan : Nat) (start : Stamp) (coex : Bool) (f : Frame) (use : TxUse) (timed : Bool)
    (s : State) : State :=
  let n := node s i
  if keySpent n then s
  else
    let (bytes, s1) := nodeFrame i f s
    sendReq (owner i) (planReq s1 (owner i) chan start n.rho coex n.txMap
      (if n.txCodes.isEmpty then map0 else n.txCodes) bytes) use (if timed then some i else none) s1

/-- The planned air of a frame of `len` octets on a channel overlaps a keep-out (R253). -/
def sendBlocked (s : State) (i chan : Nat) (start : Stamp) (len : Nat) : Bool :=
  let n := node s i
  inKeepOut s chan start (airTicks (planReq s 0 chan start 0 false n.txMap
    (if n.txCodes.isEmpty then map0 else n.txCodes) (List.replicate len 0)))

/-! ### Overtures -/

/-- The signature bytes of an Overture: pattern, group (R202). -/
def overtureBits (pattern group : Nat) : List Byte := be 4 pattern ++ be 2 group

/-- An Overture request (R167, R202): carrier and power of a plan entry. -/
def overtureReq (s : State) (e chan : Nat) (start : Stamp) (rho : Int) (rate reps pattern group : Nat) : TxReq :=
  let r := planReq s e chan start rho false 0 [] []
  { r with pers := 0, phy := w32 (rate % 4 + 256 * reps), length := 0, flags := 2
           frame := overtureBits pattern group }

/-- The wake pattern and wake channel of a node (R233, R269). -/
def wakeOf (s : State) (n : Node) : Nat × Nat :=
  if n.grand then (cfgU s recMesh 52 4, cfgU s recMesh 27 1)
  else (cfgU s recMesh (72 + 16 * n.pan) 4, cfgU s recMesh (67 + 16 * n.pan) 1)

/-- The wake group of a node index (R233). -/
def wakeGroup (i : Nat) : Nat := i % 65534 + 1

/-- An Overture of the rate and repeats of the record, S at the next cue start + 500 µs (R247). -/
def sendOverture (i : Nat) (s : State) : State :=
  let w := wakeOf s (node s i)
  sendReq (owner i) (overtureReq s (owner i) w.2 (plus s.proc.procStart (cueTicks + 500 * usTicks))
    (node s i).rho (cfgU s recMesh 12 1) (cfgU s recMesh 13 1) w.1 (wakeGroup i)) .other none
    (modNode i (fun n => { n with ovCue := s.proc.procCue }) s)

/-! ### Beacons -/

/-- The beacon body (R227). -/
def beaconBody (s : State) (cue : CueNo) (slot chan flags : Nat) (t : Stamp) : List Byte :=
  le 4 cue.toNat ++ le 1 s.proc.sceneLog2 ++ le 1 slot ++ le 1 chan ++ le 1 flags ++
    le 8 (meshTime s t).toNat ++ le 2 (planCheck s) ++ le 2 (replyDelay s) ++ le 1 (auditionChan s) ++
    le 1 (((List.range 8).filter (panOn s)).foldl (fun a p => a + 2 ^ p) 0) ++
    le 1 ((allocated s).length * 255 / 131072) ++ le 1 0

/-- Allocated nodes of a Compact PAN. -/
def panNodes (s : State) (p : Nat) : Nat :=
  ((allocated s).filter fun i => !(node s i).grand && (node s i).pan == p).length

/-- The lowest enabled PAN with room (R231). -/
def roomyPan (s : State) : Option Nat :=
  (List.range 8).find? fun p => panOn s p && decide (panNodes s p < panCapacity s p)

/-- A node can be admitted: below the total of R21, to the Grand network or to a PAN with room (R227). -/
def canAdmit (s : State) : Bool :=
  decide ((allocated s).length < 131072) && (grandOn s || (roomyPan s).isSome)

/-- JOIN_OPEN, EXTRA, FULL and GRAND of a beacon (R227). -/
def beaconFlags (s : State) (extra grand : Bool) : Nat :=
  ofBool (joinPolicy s != 2) + 2 * ofBool extra + 4 * ofBool (!canAdmit s) + 8 * ofBool grand

/-- A group-keyed frame of the device, the router group counter counted; none without a current key or
with the counter spent (R451, R454). DESIGN CHOICE (R439 has only the Box Office write the key store, and R451 has an
engine's frame take its counter in Work): the engine that forms the frame takes the value by an atomic add, which R49
allows on a shared counter. -/
def groupFrame (e : Nat) (f : Frame) (s : State) : Option (List Byte) × State :=
  match s.sec.keys.cur with
  | none => (none, s)
  | some g =>
    if s.sec.keys.ctr = 0xFFFFFFFF then (none, s)
    else
      let f1 := { f with sec := true, group := true, keySeq := g.seq, ctr := s.sec.keys.ctr.toNat }
      let src := match f.flood with
        | some (o, _, _) => o
        | none => addrRouter (routerId s)
      let s1 := modSec (fun x => { x with keys := { x.keys with ctr := x.keys.ctr + 1 } }) s
      let s2 := if s.sec.keys.ctr = 0xFFFFFFFE then emit 11 0x8003 0xFFFFFFFF 0 0 0 s1 else s1
      let _ := e
      (some (frameBytes (sealFrame (groupKeyOf s g) (groupSource src) f1)), s2)

/-- The beacon of slot plan entry `j`, built two cues before its occurrence (R226). -/
def buildBeacon (j : Nat) (s : State) : State :=
  let x := slotAt s j
  let e := owner j
  let cue := s.proc.procCue + 2
  let start := plus s.proc.procStart (2 * cueTicks + x.offset * usTicks)
  let body := beaconBody s cue j x.channel (beaconFlags s false (bit x.flags 0)) (timeInstant s x.channel start)
  let (q, s0) := nextSeq e s
  let f := { blankFrame 0 addrBroadcast with router := routerId s, seq := q, body := body }
  let s1 := modMesh (fun m => { m with fresh := m.fresh + 1 }) s0
  let (bytes, s2) := if bit x.flags 1 then groupFrame e f s1 else (some (frameBytes f), s1)
  match bytes with
  | none => s2
  | some b =>
    let r := planReq s2 e x.channel start 0 false 0 map0 b
    let s3 := if inKeepOut s2 x.channel start (airTicks r) && s.mesh.conflict != some (sceneOf s s.proc.procCue)
      then emit e 0x3008 0 0 0 0 (modMesh (fun m => { m with conflict := some (sceneOf s s.proc.procCue) }) s2)
      else s2
    sendReq e r .other none s3

/-- The extra beacon that answers a node (R250): under its link key, for a Grand node with a schedule
element whose event is the first at least 8 cues after the request; MORE says that downlinks wait (R215). Due elements
that would make it too long are left out, and a beacon too long without them is not sent (R221). -/
def extraBeacon (i chan : Nat) (more : Bool) (rx : Reception) (s : State) : State :=
  let n := node s i
  let start := answerStart s rx
  let k := ceilDiv 8 (max 1 n.intv)
  let e := n.event + BitVec.ofNat 32 k
  let sched := if n.grand then
      [(3, scheduleBody e (ticksToUs (sdiff64 (anchorOf n e) rx.arrival)) n.intv n.lat n.sup n.hop false n.map)]
    else []
  let due := dueElements s i rx.arrival
  let tail := beaconBody s (cueOfStamp s start) 0xFF chan (beaconFlags s true (grandOn s)) (timeInstant s chan start)
  let limit := frameLimit (planAt s chan).pers (planAt s chan).phy
  let len (es : List (Nat × List Byte)) : Nat :=
    13 + (elemBytes es).length + tail.length + (if n.mic16 then 16 else 8)
  let all := decide (len (sched ++ due) ≤ limit)
  let es := if all then sched ++ due else sched
  let f := { blankFrame 0 (nodeAddr s i) with
    ie := !es.isEmpty, more := more, mic16 := n.mic16, body := elemBytes es ++ tail }
  if decide (limit < len es) || sendBlocked s i chan start (len es) then s
  else
    let s1 := sendTo i chan start false f (if more then .reply i else .other) true s
    if all then elementsSent s i s1 else s1

end Sys2Proof.Machine
end

