-- ==== Sys2Proof/Machine/TimeOps.lean ====
section
/-! DEFINITION. The derived time bases (R310 to R316, R324, R334), and their records (R341, R342). -/

namespace Sys2Proof.Machine

/-! ### Parameters -/

/-- The state with derived base `k` changed. -/
def modTb (k : Nat) (f : TBase → TBase) (s : State) : State :=
  match k with
  | 1 => modTime (fun t => { t with tb1 := f t.tb1 }) s
  | 2 => modTime (fun t => { t with tb2 := f t.tb2 }) s
  | _ => modTime (fun t => { t with tb3 := f t.tb3 }) s

/-- A base's present parameters as a set that ends at a stamp. -/
def tbPast (till : Stamp) (b : TBase) : TbOld := ⟨till, b.a, b.v, b.r, b.valid, b.steps⟩

/-- The parameters in effect at a stamp (R314): the present ones from their start on, else the newest
earlier set that had begun. -/
def tbAt (b : TBase) (t : Stamp) : TbOld :=
  match b.hist.find? fun h => later64 h.till t with
  | none => tbPast t b
  | some _ =>
    match (b.hist.filter fun h => later64 h.till t).getLast? with
    | some h => h
    | none => tbPast t b

/-- The value of a parameter set at a stamp (R310). -/
def tbOldValue (h : TbOld) (t : Stamp) : Word64 := tbValue { a := h.a, v := h.v, r := h.r } t

/-- A TB0 stamp converted to base `k`; none while the base was not valid (R314). -/
def convert (s : State) (k : Nat) (t : Stamp) : Option Word64 :=
  if k = 0 then some t
  else
    let h := tbAt (tbOf s k) t
    if h.valid then some (tbOldValue h t) else none

/-- Earlier parameter sets kept for conversions: 65,536 cues. -/
def tbTrim (c : Stamp) (l : List TbOld) : List TbOld :=
  l.filter fun h => decide (sdiff64 c h.till < 65536 * cueTicks)

/-- Re-anchoring at the cue start `c` (R311). -/
def tbReanchor (c : Stamp) (b : TBase) : TBase :=
  { b with a := c, v := tbValue b c, hist := tbTrim c (tbPast c b :: b.hist) }

/-- The era after a signed step of TB2 from a value (R334). -/
def eraStep (era : Nat) (v : Word64) (d : Int) : Nat :=
  (((era : Int) + ((v.toNat : Int) + d) / 2 ^ 64) % 65536).toNat

/-- One change at its anchor, and the era with it (R311, R312, R334, R348). -/
def tbChange (x : TbChange) (y : TBase × Nat) : TBase × Nat :=
  let (b, era) := y
  match x with
  | .set v r =>
    ({ b with v := v, r := r, valid := true, steps := (b.steps + 1) % 65536 },
      eraStep era b.v (sdiff64 v b.v))
  | .step d _ =>
    ({ b with v := b.v + BitVec.ofInt 64 d, valid := true, steps := (b.steps + 1) % 65536 },
      eraStep era b.v d)
  | .rate r => ({ b with r := r }, era)

/-- Base and era as the changes decided so far leave them at `c` (R348). -/
def tbPreview (c : Stamp) (era : Nat) (b : TBase) : TBase × Nat :=
  b.pend.foldl (fun y x => tbChange x y) (tbReanchor c b, era)

/-- TB2 has passed 2^64 - 1 by its rate between its anchor and a stamp (R334). -/
def tb2Wraps (s : State) (t : Stamp) : Bool :=
  decide (0 ≤ sdiff64 t s.time.tb2.a) && decide ((tbValue s.time.tb2 t).toNat < s.time.tb2.v.toNat)

/-- The era of TB2 at a stamp after its anchor (R334). -/
def eraAt (s : State) (t : Stamp) : Nat :=
  if tb2Wraps s t && !s.time.ptp.wrapped then (s.time.ptp.era + 1) % 65536 else s.time.ptp.era

/-- TIME_BASE_REANCHOR (R311): the changes decided in the cue before take effect at `c`. -/
def reanchorBase (k : Nat) (c : Stamp) (s : State) : State :=
  let b := tbOf s k
  if b.pend.isEmpty then s
  else
    let y := tbPreview c (eraAt s c) b
    let s1 := modTb k (fun _ => { y.1 with pend := [] }) s
    if k = 2 then modPtp (fun p => { p with era := y.2, wrapped := false }) s1 else s1

/-- A change decided in this cue, for the start of the next (R311). -/
def decide_ (k : Nat) (x : TbChange) (s : State) : State :=
  modTb k (fun b => { b with pend := b.pend ++ [x] }) s

/-- The start of the next cue (R311). -/
def nextStart (s : State) : Stamp := plus s.proc.procStart cueTicks

/-- Base `k` and the era as they will stand at the next cue start. -/
def tbNext (s : State) (k : Nat) : TBase × Nat := tbPreview (nextStart s) (eraAt s (nextStart s)) (tbOf s k)

/-- The time-step record of R342, with the cue of effect and its stamp. -/
def stepRecord (k reason : Nat) (d : Int) (s : State) : State :=
  let y := tbNext s k
  let v := BitVec.ofInt 64 d
  out 10 (.record ⟨0x5004, 10, 0, s.proc.procCue + 1, nextStart s,
    w32 (k + 4 * reason + 65536 * y.1.steps), v.setWidth 32, (v >>> 32).setWidth 32,
    w32 (if k = 2 then y.2 else 0)⟩) s

/-- A step of a base by `d` ticks, with its record (R312, R342). -/
def stepBase (k reason : Nat) (d : Int) (s : State) : State :=
  stepRecord k reason d (decide_ k (.step d reason) s)

/-! ### TIME_SET -/

/-- PTP_EN of the time record. -/
def ptpEn (s : State) : Bool := bit (cfgU s recTime 0 2) 0

/-- TB1_FOLLOW. -/
def tb1Follow (s : State) : Bool := bit (cfgU s recTime 0 2) 3

/-- WRONG_STATE of TIME_SET (R316), judged on what earlier commands of the cue left (R10). -/
def timeSetWrong (c : Sub) (s : State) : Bool :=
  let k := pU c 32 1
  let o := pU c 33 1
  (k == 2 && o != 3 && ptpEn s) || (k == 1 && tb1Follow s) || ((o == 1 || o == 2) && !(tbNext s k).1.valid)

/-- The change a TIME_SET makes (R315, R340). -/
def timeSetDo (c : Sub) (s : State) : State :=
  let k := pU c 32 1
  let v := BitVec.ofNat 64 (pU c 40 8)
  match pU c 33 1 with
  | 0 =>
    let d := sdiff64 v (tbNext s k).1.v
    stepRecord k 0 d (decide_ k (.set v (pS c 36 4)) s)
  | 1 => stepBase k 1 (pS c 40 8) s
  | 2 => decide_ k (.rate (pS c 36 4)) s
  | 3 => modPtp (fun p => { p with asymNext := some (pS c 40 8) }) s
  | _ => modPtp (fun p => { p with eraNext := some (pU c 40 2) }) s

/-- TIME_SET (R315, R316). -/
def cmdTimeSet : CmdSpec where
  op := 0x0060
  engine := byStage
  use := .none
  aside := false
  static := fun c => decide (1 ≤ pU c 32 1) && decide (pU c 32 1 ≤ 3) && decide (pU c 33 1 ≤ 4) &&
    pZero c 34 35 && pZero c 48 63 && (pU c 33 1 != 4 || pZero c 42 47)
  wrong := timeSetWrong
  check := fun c _ => if 3 ≤ pU c 33 1 ∧ pU c 32 1 ≠ 2 then some stBadParam else none
  cost := cost10
  act := fun e c s =>
    let s1 := timeSetDo c s
    finish e 0x0060 stOk c (le 8 (tbNext s1 (pU c 32 1)).1.v.toNat) [] s1

/-- Meaning of TIME_SET. -/
def execTimeSet (c : Sub) (s : State) : Host.Outcome State Fault Refusal :=
  .next (runCmd cmdTimeSet (.row (.timeSet c)) c s)

/-! ### TB1 follow, era -/

/-- TB1_FOLLOW (R324): at a Scene boundary TB1 is set to TB2, or steered towards it. -/
def followTb1 (s : State) : State :=
  let p := s.time.ptp
  if !tb1Follow s || !(p.st == .locked || (p.st == .holdover && p.traceable)) then s
  else
    let c := s.proc.procStart
    let b1 := s.time.tb1
    let b2 := s.time.tb2
    let e := sdiff64 (tbValue b2 c) (tbValue b1 c)
    if cfgU s recTime 32 4 * 1024 < 10 * e.natAbs ∨ b1.valid = false then
      decide_ 1 (.rate b2.r) (stepBase 1 4 e s)
    else
      let lim : Int := cfgU s recTime 36 4
      let x := (e * 2 ^ 40).tdiv (cfgU s recTime 40 2 * 2 ^ s.proc.sceneLog2 * cueTicks : Nat)
      decide_ 1 (.rate (b2.r + clampI (-lim) lim x)) s

/-- The derived bases at the start of the cue being processed: re-anchored, and the asymmetry and era
of TIME_SET taken (R311, R315, R340). A step of TB2 restarts the mains window (R343, R345). -/
def takeTimeChanges (s : State) : State :=
  let c := s.proc.procStart
  let s1 := [1, 2, 3].foldl (fun s k => reanchorBase k c s) s
  modPtp (fun p => { p with
    asym := p.asymNext.getD p.asym, era := p.eraNext.getD p.era, asymNext := none, eraNext := none }) s1

/-- Meaning of TB2_WRAP (R334): TB2 has passed 2^64 - 1 by the end of the cue being processed, and the era rises by
1. -/
def execTb2Wrap (s : State) : Host.Outcome State Fault Refusal :=
  .next (if tb2Wraps s (nextStart s) && !s.time.ptp.wrapped
    then modPtp (fun p => { p with era := (p.era + 1) % 65536, wrapped := true }) s else s)

/-- Every derived base invalid (R313). -/
def invalidateBases (s : State) : State :=
  let off (b : TBase) : TBase := { b with valid := false, hist := tbTrim s.time.tb0 (tbPast s.time.tb0 b :: b.hist) }
  [1, 2, 3].foldl (fun s k => modTb k off s) s

/-! ### Records that carry a value -/

/-- The STEP flag of a record that carries the value of base `k` at stamp `t`, noted for the next (R341). -/
def stepFlag (k : Nat) (t : Stamp) (s : State) : Nat × State :=
  if k = 0 then (0, s)
  else
    let n := (tbAt (tbOf s k) t).steps
    (if n = (tbOf s k).shown then 0 else 2, modTb k (fun b => { b with shown := n }) s)

end Sys2Proof.Machine
end

