-- ==== Sys2Proof/Machine/Pins.lean ====
section
/-! DEFINITION. Capture pins (R317 to R319), mains timing (R343 to R347) and pulse pins (R320 to
R323). -/

namespace Sys2Proof.Machine

/-! ### Captures -/

/-- TIM_CAP_CFG_i as taken at the cue start (R350). -/
def capCfg (s : State) (i : Nat) : Nat := ((pin s i).cfg.getD (regReset (rTimCapCfg + 4 * i))).toNat

/-- The main clocks run: captures and pulses work in Full and Quiet (R317). -/
def pinsRun (s : State) : Bool := s.pwr.mode == .full || s.pwr.mode == .quiet

/-- The pin captures an edge of a pulse of this width (R317). -/
def capTakes (s : State) (i : Nat) (rising : Bool) (widthNs : Nat) : Bool :=
  let c := capCfg s i
  bit c 0 && bit c (if rising then 1 else 2) && decide (10 * bits c 15 8 ≤ widthNs) && pinsRun s

/-- The two words of a pin-capture body (R318). -/
def capBytes (x : PinCap) : List Byte :=
  le 8 x.stamp.toNat ++ le 4 (ofBool x.rising + 256 * x.pins.toNat + 65536 * min 0xFFFF x.lost) ++ le 4 0

/-- An edge on a TCAP pin (R317, R318); one within 10 ns of the last captured edge is counted (R606). -/
def capEdge (i : Nat) (rising : Bool) (pins : BitVec 8) (widthNs : Nat) (t : Stamp) (s : State) : State :=
  if !capTakes s i rising widthNs then s
  else
    let p := pin s i
    let near := p.lastCap.any fun e => decide ((sdiff64 t e).natAbs < 1024)
    if p.caps < bits (capCfg s i) 21 16 ∧ near = false then
      let x : PinCap := ⟨i, recStamp s t, rising, pins, p.lost⟩
      input 4 i (capBytes x) (.row (.pinCapture x)) (modPin i (fun p => { p with caps := p.caps + 1, lost := 0, lastCap := some t }) s)
    else
      countReg (rTimCapLost + 4 * i) 1 (modPin i (fun p => { p with lost := satAdd 0xFFFF p.lost 1 }) s)

/-- Meaning of TCAP_EDGE. -/
def execTcapEdge (i : Fin 8) (rising : Bool) (pins : BitVec 8) (widthNs : Nat) (t : Stamp) (s : State) :
    Host.Outcome State Fault Refusal :=
  .next (capEdge i.val rising pins widthNs t (atTime t s))

/-- Report base of TCAPi (R349). -/
def reportBase (s : State) (i : Nat) : Nat := bits (cfgU s recTime 52 2) (2 * i + 1) (2 * i)

/-- The capture event (R319, R341). -/
def captureEvent (x : PinCap) (s : State) : State :=
  let k := reportBase s x.pin
  let (v, f, s1) :=
    if k = 0 then ((0 : Word64), 0, s)
    else
      match convert s k x.stamp with
      | some v => let y := stepFlag k x.stamp s; (v, y.1, y.2)
      | none => ((0 : Word64), 0, s)
  emitFlagged 10 f x.stamp 0x5001 (x.pin + 256 * ofBool x.rising + 512 * k) x.lost (v.setWidth 32).toNat
    ((v >>> 32).setWidth 32).toNat s1

/-! ### Mains timing -/

/-- The state with mains timing changed. -/
def modMains (f : Mains → Mains) (s : State) : State := modTime (fun t => { t with mains := f t.mains }) s

/-- MAINS_EN of the time record. -/
def mainsEn (s : State) : Bool := bit (cfgU s recTime 0 2) 4

/-- f_nom in Hz. -/
def mainsNom (s : State) : Nat := if bit (cfgU s recTime 0 2) 5 then 60 else 50

/-- W. -/
def mainsW (s : State) : Nat := cfgU s recTime 48 2

/-- K. -/
def mainsK (s : State) : Nat := cfgU s recTime 50 2

/-- Nanoseconds as ticks, a half tick rounding up. -/
def nsToTicks (n : Int) : Int := (n * 1024 + 5) / 10

/-- `a / b` rounded to the nearest integer, halves up. -/
def roundDiv (a b : Int) : Int := (2 * a + b) / (2 * b)

/-- `tb2_subsecond` of R334. -/
def tb2Subsecond (era : Nat) (v : Word64) : Nat :=
  (v.toNat % 102400000000 + era * 9709551616) % 102400000000

/-- The window restarts: counted, and one event per Scene with the reason (1 interval, 2 TB2 step, 3
change of base, 4 LOST) and the interval (R345). -/
def mainsRestart (reason : Nat) (interval : Int) (s : State) : State :=
  let sc := sceneOf s s.proc.procCue
  let v := BitVec.ofInt 64 interval
  let s1 := modMains (fun m => { m with
    cross := [], cross0 := [], since := 0, prev := none, restarts := satAdd 0xFFFF m.restarts 1, told := some sc }) s
  if s.time.mains.told = some sc then s1
  else emit 10 0x500B reason (v.setWidth 32).toNat ((v >>> 32).setWidth 32).toNat 0 s1

/-- The first cause by which a crossing restarts the window (R345). -/
def mainsCause (s : State) (v : Word64) (onTb2 : Bool) (lost : Nat) : Option (Nat × Int) :=
  let m := s.time.mains
  match m.cross.getLast? with
  | none => none
  | some p =>
    let d := sdiff64 v p
    let n : Int := 102400000000
    let f := mainsNom s
    if m.onTb2 != onTb2 then some (3, 0)
    else if lost ≠ 0 then some (4, d)
    else if 10 * d * f < 9 * n ∨ 11 * n < 10 * d * f then some (1, d)
    else none

/-- A report at the crossing `v`, the last of a full window (R346, R347). -/
def mainsReport (v : Word64) (t : Stamp) (s : State) : State :=
  let m := s.time.mains
  let w := mainsW s
  let span := sdiff64 v (m.cross.headD 0)
  let f := roundDiv (w * 1024000000000000) span
  let lag := if m.onTb2 then
    tb2Subsecond s.time.ptp.era v * mainsNom s % 102400000000 * 2 ^ 32 / 102400000000 else 0
  let roc := match m.prev with
    | some (fp, vp) => roundDiv ((f - fp) * 102400000000) (sdiff64 v vp)
    | none => 0
  let tr := m.onTb2 && s.time.ptp.traceable
  let s1 := modMains (fun m => { m with
    since := 0, reports := (m.reports + 1) % 65536, prev := some (f, v), freq := f.toNat, trace := tr }) s
  emitFlagged 10 0 t 0x500A f.toNat lag (BitVec.ofInt 32 roc).toNat
    (ofBool tr + 65536 * ((m.reports + 1) % 65536)) s1

/-- A crossing joins the window (R344 to R346). -/
def mainsCrossing (x : PinCap) (s : State) : State :=
  let t := x.stamp - BitVec.ofInt 64 (nsToTicks (cfgS s recTime 44 4))
  let c := convert s 2 t
  let v := c.getD t
  let s1 := match mainsCause s v c.isSome x.lost with
    | some (r, d) => mainsRestart r d s
    | none => s
  let w := mainsW s
  let full0 := decide (s1.time.mains.cross.length = w + 1)
  let s2 := modMains (fun m => { m with
    cross := (m.cross ++ [v]).drop (m.cross.length - w)
    cross0 := (m.cross0 ++ [t]).drop (m.cross0.length - w)
    onTb2 := c.isSome, since := m.since + 1, last := some x.stamp }) s1
  if s2.time.mains.cross.length < w + 1 then s2
  else if full0 && decide (s2.time.mains.since < mainsK s) then s2
  else mainsReport v x.stamp s2

/-- The Stage Manager processes a capture (R319). -/
def takeCapture (x : PinCap) (s : State) : State :=
  if mainsEn s && x.pin == cfgU s recTime 43 1 && x.rising then mainsCrossing x s else captureEvent x s

/-- Meaning of PIN_CAPTURE. -/
def execPinCapture (x : PinCap) (s : State) : Host.Outcome State Fault Refusal :=
  .next (takeItem 10 10 (.row (.pinCapture x)) (takeCapture x) s)

/-! ### Pulses -/

/-- Ticks of a pulse width of `ns`, times 10 (R320). -/
def widthTicks10 (ns : Nat) : Nat := ns * 1024

/-- The parameters of a PULSE_PROGRAM in range (R320). -/
def pulseStatic (c : Sub) : Bool :=
  decide (pU c 32 1 ≤ 7) && decide (pU c 33 1 ≤ 3) && decide (pU c 34 1 ≤ 3) && decide (pU c 35 1 ≤ 3) &&
    pZero c 60 63 &&
    (pU c 34 1 == 0 || (decide (10 ≤ pU c 36 4) && decide (pU c 36 4 ≤ 1000000000))) &&
    (pU c 34 1 != 2 || (decide (102400 ≤ pU c 48 8) && decide (pU c 48 8 ≤ 2 ^ 47)))

/-- WRONG_STATE of PULSE_PROGRAM (R320). -/
def pulseWrong (c : Sub) (s : State) : Bool := pU c 34 1 == 3 && (pU c 33 1 != 0 || !mainsEn s)

/-- The own checks of PULSE_PROGRAM (R320). -/
def pulseCheck (c : Sub) (s : State) : Option Nat :=
  if pU c 34 1 = 2 ∧ 10 * pU c 48 8 ≤ widthTicks10 (pU c 36 4) then some stBadParam
  else if pU c 34 1 = 3 ∧ 102400000000 < 2 * (pS c 40 8).natAbs * mainsNom s then some stBadParam
  else none

/-- The program a PULSE_PROGRAM carries; mode 0 is none. -/
def pulseOf (c : Sub) : Option Pulse :=
  if pU c 34 1 = 0 then none
  else
    some { base := pU c 33 1, mode := pU c 34 1, activeLow := bit (pU c 35 1) 0, notify := bit (pU c 35 1) 1
           width := pU c 36 4, first := BitVec.ofNat 64 (pU c 40 8), period := pU c 48 8
           count := if pU c 34 1 = 1 then 1 else pU c 56 4, k := 0 }

/-- PULSE_PROGRAM (R320). -/
def cmdPulseProgram : CmdSpec where
  op := 0x0061
  engine := byStage
  use := .none
  aside := false
  static := pulseStatic
  wrong := pulseWrong
  check := pulseCheck
  cost := cost10
  act := fun e c s =>
    replySt e 0x0061 stOk c (modPin (8 + pU c 32 1) (fun p => { p with next := some (pulseOf c) }) s)

/-- Meaning of PULSE_PROGRAM. -/
def execPulseProgram (c : Sub) (s : State) : Host.Outcome State Fault Refusal :=
  .next (runCmd cmdPulseProgram (.row (.pulseProgram c)) c s)

/-- Instant `k` of a program of mode 1 or 2 (R321). -/
def pulseInstant (p : Pulse) (k : Nat) : Word64 := p.first + BitVec.ofNat 64 (k * p.period)

/-- The program after `n` more instants judged; none when its last is judged. -/
def pulseJudged (n : Nat) (p : Pulse) : Option Pulse :=
  if p.count ≠ 0 ∧ p.count ≤ p.k + n then none else some { p with k := p.k + n }

/-- Instants of a program below the value its base holds at the cue start (R322). -/
def pulseSkips (p : Pulse) (v : Word64) : Nat :=
  if p.mode = 3 then 0
  else
    let d := sdiff64 v (pulseInstant p p.k)
    if d ≤ 0 then 0
    else if p.mode = 1 then 1
    else
      let n := ceilDiv d.toNat p.period
      if p.count = 0 then n else min n (p.count - p.k)

/-- TPULSE pin `i` at the start of the cue being processed: its new program, and the instants it skips,
with one event (R320, R322). -/
def pulseCue (i : Nat) (s : State) : State :=
  let s1 := match (pin s (8 + i)).next with
    | some g => modPin (8 + i) (fun p => { p with prog := g, next := none }) s
    | none => s
  match (pin s1 (8 + i)).prog with
  | none => s1
  | some p =>
    match convert s1 p.base s1.proc.procStart with
    | none => s1
    | some v =>
      let n := pulseSkips p v
      if n = 0 then s1
      else emit 10 0x5003 i n 0 0 (modPin (8 + i) (fun q => { q with prog := pulseJudged n p }) s1)

/-- The capture pins at a cue start: new settings, and captures of the cue from 0 (R318, R350). -/
def pinsCue (s : State) : State :=
  (List.range 8).foldl (fun s i =>
    modPin i (fun p => { p with cfg := some (reg s (rTimCapCfg + 4 * i)), caps := 0 }) s) s

/-- The pulse pins as a cue begins to be processed (R320, R322). -/
def pulsesCue (s : State) : State := (List.range 8).foldl (fun s i => pulseCue i s) s

/-- The base of a program of mode 1 or 2 reaches its next instant at TB0 stamp `t`, within one tick (R321). -/
def baseReaches (s : State) (p : Pulse) (t : Stamp) : Bool :=
  match convert s p.base (t - 1), convert s p.base (t + 1) with
  | some u, some v => decide (sdiff64 u (pulseInstant p p.k) ≤ 0) && decide (0 ≤ sdiff64 v (pulseInstant p p.k))
  | _, _ => false

/-- A predicted crossing plus `first` falls at TB0 stamp `t`, within one tick (R323): t_L + round(j × Δ0 / W), j from 1.
DEDUCED: one predicted crossing fires once, so the pulse before lies more than half a mean cycle back (R321). -/
def crossingReached (s : State) (q : Pin) (p : Pulse) (t : Stamp) : Bool :=
  let m := s.time.mains.cross0
  let w : Int := mainsW s
  match m.head?, m.getLast? with
  | some t0, some tl =>
    let span := sdiff64 tl t0
    let x := sdiff64 (t - p.first) tl
    let j := max 1 (roundDiv (x * w) span)
    decide (m.length = mainsW s + 1) && decide (0 < span) && decide ((x - roundDiv (j * span) w).natAbs ≤ 1) &&
      (match q.lastEdge with
       | some e => p.k == 0 || decide (span < 2 * w * sdiff64 t (recStamp s e))
       | none => true)
  | _, _ => false

/-- The instant of a program's next pulse has come at a stamp of the record's TB0 (R321, R323). -/
def pulseReached (s : State) (q : Pin) (p : Pulse) (t : Stamp) : Bool :=
  if p.mode = 3 then crossingReached s q p t else baseReaches s p t

/-- TPULSE pin `i` fires (R320, R321); of a unit that replays no pulse leaves the ball (R69, R480). -/
def firePulse (i : Nat) (t : Stamp) (s : State) : State :=
  match (pin s (8 + i)).prog with
  | none => s
  | some p =>
    if pinsRun s && pulseReached s (pin s (8 + i)) p (recStamp s t) then
      let out := !(isUnderstudy s || inReplay s)
      let s1 := modPin (8 + i) (fun q => { q with
        prog := pulseJudged 1 p, active := out, lastEdge := some t, width := p.width }) s
      if p.mode = 1 ∧ p.notify = true ∧ out = true then emitLocalAt (recStamp s t) 0x5002 (248 + i) 0 0 0 0 s1 else s1
    else s

/-- Meaning of PULSE_FIRE. -/
def execPulseFire (i : Fin 8) (t : Stamp) (s : State) : Host.Outcome State Fault Refusal :=
  .next (firePulse i.val t (atTime t s))

/-- The active time of a pin's pulse has passed (R321). -/
def widthOver (p : Pin) (t : Stamp) : Bool :=
  match p.lastEdge with
  | some e => decide ((widthTicks10 p.width : Int) ≤ 10 * sdiff64 t e)
  | none => true

/-- Meaning of PULSE_END (R321): after its width the pin returns inactive. -/
def execPulseEnd (i : Fin 8) (t : Stamp) (s : State) : Host.Outcome State Fault Refusal :=
  .next (modPin (8 + i.val) (fun p => if widthOver p t then { p with active := false } else p) (atTime t s))

/-- The pins stop: pulses inactive, programs off (R348). -/
def stopPins (s : State) : State :=
  (List.range 8).foldl (fun s i =>
    modPin (8 + i) (fun p => { p with prog := none, next := none, active := false }) s) s

end Sys2Proof.Machine
end

