-- ==== Sys2Proof/Machine/Forward.lean ====
section
/-! DEFINITION. Forwarding (chapter 07, R272 to R277, R304): where a payload goes, the address table
look-up (R279, R280), and the delivery of packets to nodes. -/

namespace Sys2Proof.Machine

/-- A count of FWD_DROPPED (R273 to R277). -/
def fwdDrop (s : State) : State := countReg 0x31020 1 s

/-- A count of FWD_DELIVERY_FAILED (R277). -/
def fwdFailed (s : State) : State := countReg 0x31028 1 s

/-! ### Address table look-up -/

/-- Places of a partition: 24,576 slots and 64 stash entries (R279). -/
abbrev partSlots : Nat := 24640

/-- Candidate buckets of a key (R279). -/
def buckets (iid : Bool) (k : BitVec 64) : Nat × Nat :=
  let h := (mix64 (k ^^^ (if iid then 0x5A5A5A5A5A5A5A5A#64 else 0))).toNat
  let b1 := h % 4096
  let b2 := h / 4096 % 4096
  (b1, if b2 = b1 then b1 ^^^ 1 else b2)

/-- Place `i` of partition `p`. -/
def addrSlot (s : State) (p i : Nat) : Option Slot := smGet none s.mesh.addr (partSlots * p + i)

/-- Places in which a partition may hold a key, in probe order (R279, R280). -/
def keyPlaces (iid : Bool) (k : BitVec 64) : List Nat :=
  let b := buckets iid k
  (List.range 6).map (6 * b.1 + ·) ++ (List.range 6).map (6 * b.2 + ·) ++
    (List.range 64).map (24576 + ·)

/-- The slot holds the key. -/
def slotIs (iid : Bool) (k : BitVec 64) (x : Option Slot) : Bool :=
  x.any fun v => v.iid == iid && v.key == k

/-- The place that holds a key in a partition. -/
def findKey (s : State) (p : Nat) (iid : Bool) (k : BitVec 64) : Option Nat :=
  (keyPlaces iid k).find? fun i => slotIs iid k (addrSlot s p i)

/-- The node index of a key: the first match of the eight partitions (R280). -/
def probeKey (s : State) (iid : Bool) (k : BitVec 64) : Option Nat :=
  (List.range 8).findSome? fun p =>
    match findKey s p iid k with
    | some i => (addrSlot s p i).map Slot.node
    | none => none

/-- IID_DERIVE of the forwarding record (R303). -/
def iidDerive (s : State) : Bool := bit (cfgU s recFwd 6 2) 0

/-- The node of an interface ID (R280). -/
def lookupIid (s : State) (x : BitVec 64) : Option Nat :=
  match probeKey s true x with
  | some i => some i
  | none => if iidDerive s then probeKey s false (x ^^^ 0x0200000000000000#64) else none

/-! ### LPM look-up -/

/-- The entry covers the destination and takes the ingress context (R274). -/
def lpmMatch (dst : BitVec 128) (ctx : Nat) (x : Lpm) : Bool :=
  (x.ctx == ctx || x.ctx == 0xFFFF) && (dst >>> (128 - x.len)) == (x.pfx >>> (128 - x.len))

/-- The valid entry with the lowest index that matches (R274). -/
def lpmLookup (s : State) (dst : BitVec 128) (ctx : Nat) : Option Lpm :=
  s.mesh.lpm.findSome? fun e => e.2.filter (lpmMatch dst ctx)

/-! ### Delivering -/

/-- Where an input of the forwarding engine came from: the engine, the fields of the delivery header
(R384). -/
structure Ingress where
  engine  : Nat
  source  : Nat
  node    : Option Nat
  arrival : Stamp
  context : Nat
  rssi    : Int
  line    : Nat
  deriving DecidableEq, Repr

/-- A packet to a host ring, with the reason of R384. -/
def toRing (g : Ingress) (ring reason : Nat) (packet : List Byte) (s : State) : State :=
  out g.engine (.deliver ring g.source reason g.node g.arrival s.proc.itemCue g.context g.rssi g.line packet) s

/-- A packet diverted to the default host ring (R273, R276, R304). -/
def divert (g : Ingress) (reason : Nat) (packet : List Byte) (s : State) : State :=
  toRing g (defaultRing s) reason packet s

/-- The packet with its hop limit one less (R276). -/
def hopLess (ip : List Byte) : List Byte := setAt ip 7 (BitVec.ofNat 8 (byteAt ip 7 - 1))

/-- The first hop and path of the walk of parent reports from a node (R259, R260): the addresses from
the destination up to the node whose parent is the router; none when no route exists. -/
def walkRoute (s : State) (fuel i : Nat) (seen : List Nat) : Option (List Nat) :=
  match fuel with
  | 0 => none
  | k + 1 =>
    let n := node s i
    let p := n.parent.toNat
    let aged := decide ((cfgU s recMesh 15 1 * 2 ^ s.proc.sceneLog2 : Nat) < sdiff32 s.proc.procCue n.repCue)
    if seen.contains i || p == addrNone || aged then none
    else if p == addrRouter (routerId s) then some (i :: seen)
    else
      match nodeByAddr s p with
      | some j => walkRoute s k j (i :: seen)
      | none => none

/-- The path to a node, first hop first: itself when direct (R243, R259). -/
def routeTo (s : State) (i : Nat) : Option (List Nat) :=
  if isDirect s i then some [i] else walkRoute s 16 i []

/-- The plan entries on which a node may meet the device. -/
def nodeChannels (s : State) (i : Nat) : List Nat :=
  let n := node s i
  if n.grand then (List.range 128).filter (bit n.map.toNat) else [panChan s n.pan]

/-- The longest frame of every channel of a node (R221). -/
def nodeLimit (s : State) (i : Nat) : Nat :=
  (nodeChannels s i).foldl (fun m c => min m (frameLimit (planAt s c).pers (planAt s c).phy)) 2047

/-- Octets of a downlink frame: header, security header, reply body or route header, payload, MIC. -/
def downLen (hops len : Nat) (mic16 : Bool) : Nat :=
  13 + (if hops = 1 then 4 else 1 + 3 * hops) + len + (if mic16 then 16 else 8)

/-- NODE_SEND in the node states of R267: dormant needs WAKE and a wake-up receiver. -/
def sendWrong (n : Node) (wake : Bool) : Bool :=
  match n.st with
  | .active | .drifting | .searching => false
  | .dormant => !(wake && hasWake n)
  | _ => true

/-- Why a downlink to a node ends at once: reason and status of R262; reason 255 for the pending
limit (R237) and for a spent counter (R454). -/
def downRefusal (s : State) (i len : Nat) (mic16 : Bool) : Option (Nat × Nat) :=
  if pendingLimit s ≤ (node s i).downs.length then some (255, 3)
  else if keySpent (node s i) then some (255, 7)
  else
    match routeTo s i with
    | none => some (3, 7)
    | some path =>
      match path with
      | f :: _ => if nodeLimit s f < downLen path.length len mic16 then some (4, 2) else none
      | [] => some (3, 7)

/-- A downlink joins its node's pending downlinks; a dormant node is woken first (R262). -/
def addDown (i : Nat) (d : Downlink) (s : State) : State :=
  let s1 := modMesh (fun m => { m with items := m.items + 1 }) s
  let s2 := modNode i (fun n => { n with downs := n.downs ++ [{ d with id := s.mesh.items }] }) s1
  if (node s i).st = .dormant ∧ d.wake = true then sendOverture i s2 else s2

/-- The owning Stagehand takes a packet for a node as a NODE_SEND (R277). -/
def deliverPacket (i : Nat) (ip : List Byte) (s : State) : State :=
  let n := node s i
  let payload := (0x41 : Byte) :: ip
  if sendWrong n false || (downRefusal s i payload.length false).isSome then fwdFailed s
  else
    addDown i { id := 0, cmd := none, dest := i, payload := payload, ack := false, wake := false
                coexPri := false, mic16 := false, tries := 3
                expiry := s.proc.procCue + BitVec.ofNat 32 (cfgU s recFwd 10 2) } s

/-- The node belongs to the association that a PAN result names (R275, R277); a node freed in this cue
is left to its owner (R302). -/
def inAssociation (n : Node) (param : Nat) : Bool :=
  !isAlloc n || (if param = 8 then n.grand else !n.grand && n.pan == param)

/-- A packet for a result of kind 1 (R277). -/
def toNode (g : Ingress) (param : Nat) (ip : List Byte) (s : State) : State :=
  match lookupIid s (BitVec.ofNat 64 (beNat (slice ip 32 8))) with
  | none => fwdDrop s
  | some i =>
    if !inAssociation (node s i) param then fwdDrop s
    else if owner i = g.engine then deliverPacket i ip s
    else post g.engine (owner i) (.row (.forwardedPacket ⟨i, ip⟩)) true s

/-- An Ethernet II frame from the own MAC address (R275). -/
def ethFrame (s : State) (dst ip : List Byte) : List Byte :=
  dst ++ (List.range 6).map (cfgByte s recFwd) ++ [0x86, 0xDD] ++ ip

/-- A packet for a result of kind 3 (R275, R276, R304). -/
def toEth (g : Ingress) (hop : Nat) (whole ip : List Byte) (s : State) : State :=
  let o := 16 + 8 * hop
  if 1500 < ip.length then divert g 4 whole s
  else if !bit (cfgU s recFwd (o + 6) 1) 0 then divert g 5 whole s
  else outEth0 g.engine (ethFrame s ((List.range 6).map fun k => cfgByte s recFwd (o + k)) (hopLess ip)) s

/-- An IPv6 packet goes to look-up (R274 to R277); `whole` is the input as a host ring gets it. -/
def routeIp (g : Ingress) (whole ip : List Byte) (s : State) : State :=
  match lpmLookup s (BitVec.ofNat 128 (beNat (slice ip 24 16))) g.context with
  | none => fwdDrop s
  | some x =>
    match x.kind with
    | 0 => fwdDrop s
    | 2 => toRing g x.param 0 whole s
    | k =>
      if byteAt ip 7 ≤ 1 then divert g 3 whole (countReg 0x31024 1 s)
      else if k = 1 then toNode g x.param (hopLess ip) s
      else toEth g x.param whole ip s

/-- A mesh payload (R273). -/
def forwardMesh (g : Ingress) (payload : List Byte) (s : State) : State :=
  match payload with
  | b :: ip => if b = 0x41 then routeIp g payload ip s else divert g 1 payload s
  | [] => divert g 1 payload s

/-- The ingress context of a node (R274). -/
def nodeContext (n : Node) : Nat := if n.grand then 8 else n.pan

/-- The ingress of a frame that a node of this device sent. -/
def meshIngress (s : State) (i : Nat) (rx : Reception) : Ingress :=
  { engine := owner i, source := 0, node := some i, arrival := rx.arrival, context := nodeContext (node s i)
    rssi := rx.rssi, line := rx.line }

/-! ### ETH0 -/

/-- The ingress of an ETH0 frame (R274, R384). -/
def ethIngress (stamp : Stamp) : Ingress :=
  { engine := 9, source := 1, node := none, arrival := stamp, context := 0x100, rssi := -32768, line := 255 }

/-- Prompter 1 classifies an ETH0 frame (R273). -/
def forwardEth (stamp : Stamp) (f : List Byte) (s : State) : State :=
  let g := ethIngress stamp
  let dst := slice f 0 6
  let own := dst == (List.range 6).map (cfgByte s recFwd)
  let v6 := beNat (slice f 12 2) == 0x86DD
  let multi := bit (byteAt f 0) 0
  if v6 && (own || beNat (slice f 0 2) == 0x3333) then routeIp g f (f.drop 14) s
  else if !own && !multi then fwdDrop s
  else divert g 2 f s

/-- Meaning of FORWARDED_PACKET: the owning Stagehand takes a posted packet (R277). -/
def execForwardedPacket (x : FwdPacket) (s : State) : Host.Outcome State Fault Refusal :=
  .next (takeItem (owner x.node) 10 (.row (.forwardedPacket x)) (deliverPacket x.node x.packet) s)

end Sys2Proof.Machine
end

