-- ==== Sys2Proof/Machine/Wire.lean ====
section
/-! DEFINITION. PTP messages as octets (R331): the frames of the two mappings. The message formats are
PRESUMED from IEEE 1588, which the manual names and does not repeat. -/

namespace Sys2Proof.Machine

/-- The own clockIdentity (R331). -/
def ownClock (s : State) : Nat :=
  let m (i : Nat) := (cfgByte s recFwd i).toNat
  [m 0, m 1, m 2, 0xFF, 0xFE, m 3, m 4, m 5].foldl (fun a b => 256 * a + b) 0

/-- messageType of a kind. -/
def ptpType (k : PtpKind) : Nat :=
  match k with
  | .sync => 0
  | .pdelayReq => 2
  | .pdelayResp => 3
  | .followUp => 8
  | .delayResp => 9
  | .pdelayRespFollowUp => 10
  | .announce => 11

/-- An event message; UDP port 319, and 320 for the others. -/
def ptpIsEvent (t : Nat) : Bool := decide (t < 4)

/-- `n` big-endian octets of a signed number. -/
def beI (n : Nat) (v : Int) : List Byte := (leI n v).reverse

/-- The common header and body of a message of type `t`. -/
def ptpBody (t domain flags : Nat) (corr : Int) (source seqId : Nat) (log : Int) (rest : List Byte) : List Byte :=
  be 1 t ++ [0x12] ++ be 2 (34 + rest.length) ++ be 1 domain ++ [0] ++ be 2 flags ++ beI 8 corr ++
    be 4 0 ++ be 8 source ++ be 2 1 ++ be 2 seqId ++ [0] ++ beI 1 log ++ rest

/-- UDP over IPv6 in front of a message; link-local peer delay, else global (R331). -/
def ptpUdp (peer : Bool) (t : Nat) (m : List Byte) : List Byte :=
  let port := if ptpIsEvent t then 319 else 320
  [0x60, 0, 0, 0] ++ be 2 (m.length + 8) ++ [17, if peer then 1 else 64] ++ be 16 0 ++
    (if peer then [0xFF, 0x02] ++ be 13 0 ++ [0x6B] else [0xFF, 0x0E] ++ be 12 0 ++ [0x01, 0x81]) ++
    be 2 port ++ be 2 port ++ be 2 (m.length + 8) ++ be 2 0 ++ m

/-- A message in its Ethernet frame, in the mapping of the time record (R331). -/
def ptpEther (s : State) (peer : Bool) (t : Nat) (m : List Byte) : List Byte :=
  let mac := (List.range 6).map (cfgByte s recFwd)
  if bit (cfgU s recTime 0 2) 2 then
    (if peer then [0x33, 0x33, 0, 0, 0, 0x6B] else [0x33, 0x33, 0, 0, 1, 0x81]) ++ mac ++ [0x86, 0xDD] ++
      ptpUdp peer t m
  else
    (if peer then [0x01, 0x80, 0xC2, 0, 0, 0x0E] else [0x01, 0x1B, 0x19, 0, 0, 0]) ++ mac ++ [0x88, 0xF7] ++ m

/-- A message the device sends (R331, R333). -/
def ptpSend (s : State) (peer : Bool) (t seqId : Nat) (corr : Int) (rest : List Byte) : List Byte :=
  ptpEther s peer t (ptpBody t (cfgU s recTime 2 1) 0 corr (ownClock s) seqId 0x7F rest)

/-- The part after the common header of a received message. -/
def ptpRest (k : PtpKind) (m : Ptp) : List Byte :=
  let ts := be 6 m.seconds ++ be 4 m.nanos
  match k with
  | .sync | .followUp => ts
  | .pdelayReq => ts ++ be 10 0
  | .delayResp | .pdelayResp | .pdelayRespFollowUp => ts ++ be 8 m.req.toNat ++ be 2 1
  | .announce =>
    ts ++ beI 2 m.utc ++ [0] ++ be 1 m.prio1 ++ be 1 m.clkClass ++ be 1 m.accuracy ++ be 2 m.variance ++
      be 1 m.prio2 ++ be 8 m.grand.toNat ++ be 2 m.steps ++ [0]

/-- The octets of a received message. -/
def ptpReceived (s : State) (k : PtpKind) (m : Ptp) : List Byte :=
  let peer := match k with
    | .pdelayReq | .pdelayResp | .pdelayRespFollowUp => true
    | _ => false
  let flags := 512 * ofBool m.twoStep + ofBool m.leap61 + 2 * ofBool m.leap59 + 4 * ofBool m.utcValid
  ptpEther s peer (ptpType k) (ptpBody (ptpType k) m.domain flags m.corr m.source.toNat m.seqId m.logIntv (ptpRest k m))

/-- The PTP message a frame of the record carries in the mapping of the time record, as octets (R332). -/
def ptpPart (s : State) (f : List Byte) : Option (List Byte) :=
  if bit (cfgU s recTime 0 2) 2 then
    if beNat (slice f 12 2) = 0x86DD ∧ byteAt f 20 = 17 ∧
        (beNat (slice f 56 2) = 319 ∨ beNat (slice f 56 2) = 320) ∧
        (slice f 38 16 = [0xFF, 0x02] ++ be 13 0 ++ [0x6B] ∨ slice f 38 16 = [0xFF, 0x0E] ++ be 12 0 ++ [0x01, 0x81])
    then some (f.drop 62) else none
  else if beNat (slice f 12 2) = 0x88F7 ∧
      (slice f 0 6 = [0x01, 0x1B, 0x19, 0, 0, 0] ∨ slice f 0 6 = [0x01, 0x80, 0xC2, 0, 0, 0x0E])
  then some (f.drop 14) else none

/-- The fields of a message. -/
def ptpFields (stamp : Stamp) (b : List Byte) : Ptp :=
  { domain := byteAt b 4, seqId := beNat (slice b 30 2), source := BitVec.ofNat 64 (beNat (slice b 20 8))
    stamp := stamp, seconds := beNat (slice b 34 6), nanos := beNat (slice b 40 4)
    corr := signed 64 (beNat (slice b 8 8)), twoStep := bit (byteAt b 6) 1, logIntv := signed 8 (byteAt b 33)
    prio1 := byteAt b 47, clkClass := byteAt b 48, accuracy := byteAt b 49, variance := beNat (slice b 50 2)
    prio2 := byteAt b 52, grand := BitVec.ofNat 64 (beNat (slice b 53 8)), steps := beNat (slice b 61 2)
    utc := signed 16 (beNat (slice b 44 2)), utcValid := bit (byteAt b 7) 2, leap61 := bit (byteAt b 7) 0
    leap59 := bit (byteAt b 7) 1, req := BitVec.ofNat 64 (beNat (slice b 44 8)) }

/-- The command row of an ETH0 frame of a record: PTP for the Stage Manager, every other frame for
Prompter 1 (R332). -/
def ethRow (s : State) (stamp : Stamp) (f : List Byte) : Instr :=
  match ptpPart s f with
  | none => .eth0Frame stamp f
  | some b =>
    let m := ptpFields stamp b
    match byteAt b 0 % 16 with
    | 0 => .sync m
    | 2 => .pdelayReq m
    | 3 => .pdelayResp m
    | 8 => .followUp m
    | 9 => .delayResp m
    | 10 => .pdelayRespFollowUp m
    | 11 => .announce m
    | _ => .eth0Frame stamp f

end Sys2Proof.Machine
end

