-- ==== Sys2Proof/Machine/Ptp.lean ====
section
/-! DEFINITION. Backhaul time: the PTP client, its servo and the TB2 state table (R331 to R340). -/

namespace Sys2Proof.Machine

/-! ### Arrival -/

/-- An ETH0 frame that ends in the present cue is a completed input for the next Intake (R38); one of an
earlier cue is taken by its engine as a frame of the record. An Understudy's and a replaying unit's own frames are
dropped (R69, R480). -/
def arrived (stamp : Stamp) (body : List Byte) (it : Item) (take : State → State) (s : State) : State :=
  if s.proc.processing && (isUnderstudy s || inReplay s || decide (0 ≤ sdiff64 stamp s.proc.procStart))
  then input 8 0 (le 8 stamp.toNat ++ body) it s
  else take s

/-! ### Conversions -/

/-- A PTP timestamp with a correction in 2^-16 ns, in TB2 ticks, to the nearest tick (R334). -/
def ptpTicks (sec nano : Nat) (corr : Int) : Word64 :=
  BitVec.ofInt 64 ((sec : Int) * 102400000000 +
    roundDiv ((nano : Int) * 67108864 + corr * 1024) 655360)

/-- TB2's value at a stamp, with the parameters in effect there (R314). -/
def tb2At (s : State) (t : Stamp) : Word64 := tbOldValue (tbAt s.time.tb2 t) t

/-- A receive stamp less the ingress latency (R333). -/
def ingress (s : State) (t : Stamp) : Stamp := t - BitVec.ofInt 64 (nsToTicks (cfgS s recTime 24 4))

/-- The egress stamp of a message launched at a stamp (R333). -/
def egress (s : State) (t : Stamp) : Stamp := t + BitVec.ofInt 64 (nsToTicks (cfgS s recTime 28 4))

/-- A threshold of the time record, in ns, as tenths of ticks × 1,024: `x` ticks exceed `ns`. -/
def exceeds (x : Int) (ns : Nat) : Bool := decide (ns * 1024 < 10 * x.natAbs)

/-! ### States -/

/-- A PTP event of the Stage Manager. -/
def ptpEvent (code p1 : Nat) (s : State) : State := emit 10 code p1 0 0 0 s

/-- Entry to HOLDOVER: r2 = i (R337). -/
def enterHoldover (reroute lost : Bool) (s : State) : State :=
  let s1 := decide_ 2 (.rate s.time.ptp.i) s
  modPtp (fun p => { p with
    st := .holdover, reroute := reroute, lost := lost, traceable := true, holdCue := s.proc.procCue
    run := [], good := 0, deviating := 0 }) s1

/-- ACQUIRING. -/
def ptpAcquire (p : PtpC) : PtpC :=
  { p with st := .acquiring, reroute := false, lost := false, traceable := false, good := 0, deviating := 0
           run := [] }

/-- The master is lost: holdover with its event (reason 1) (R337); in the cue of a holdover by re-route the second
reason follows (R348), in any other HOLDOVER nothing happens (R9). -/
def masterLost (s : State) : State :=
  match s.time.ptp.st with
  | .acquiring | .locked => ptpEvent 0x5006 1 (enterHoldover false true s)
  | .holdover =>
    if s.time.ptp.lost || s.time.ptp.holdCue != s.proc.procCue then s else ptpEvent 0x5006 1 (modPtp (fun p => { p with lost := true }) s)
  | _ => s

/-- The master is back after a loss (R337, R348): a re-route still waits for its stable run. -/
def masterBack (s : State) : State :=
  let p := s.time.ptp
  if p.st = .holdover ∧ p.lost = true then
    if p.reroute then modPtp (fun p => { p with lost := false, run := [] }) s else modPtp ptpAcquire s
  else s

/-! ### Master selection -/

/-- An Announce as the default algorithm compares it: the grandmaster's attributes, then steps removed
and the sender. -/
def bmcKey (m : Ptp) : List Nat :=
  [m.prio1, m.clkClass, m.accuracy, m.variance, m.prio2, m.grand.toNat, m.steps, m.source.toNat]

/-- Lexicographic order of keys. -/
def keyLt (a b : List Nat) : Bool :=
  match a, b with
  | x :: r, y :: q => decide (x < y) || (x == y && keyLt r q)
  | _, _ => false

/-- The best qualified master. -/
def bestMaster (l : List (Ptp × Bool)) : Option Ptp :=
  (l.filter (·.2)).foldl (fun b x =>
    match b with
    | none => some x.1
    | some y => if keyLt (bmcKey x.1) (bmcKey y) then some x.1 else some y) none

/-- Ticks of `k` intervals of `2^log` seconds. -/
def logTicks (k : Nat) (log : Int) : Nat :=
  if 0 ≤ log then k * 102400000000 * 2 ^ log.toNat else k * 102400000000 / 2 ^ (-log).toNat

/-- The foreign masters after an Announce: at most 4; a master is qualified by a second Announce within
four intervals, and one not heard for four intervals is left out. -/
def foreignMasters (m : Ptp) (l : List (Ptp × Bool)) : List (Ptp × Bool) :=
  let near (x : Ptp) := decide (sdiff64 m.stamp x.stamp ≤ (logTicks 4 x.logIntv : Int))
  let old := l.find? fun x => x.1.source == m.source
  let rest := l.filter fun x => x.1.source != m.source && near x.1
  let q := match old with
    | some x => near x.1
    | none => false
  (if 4 ≤ rest.length then rest else rest ++ [(m, q)])

/-- UTC fields of the selected master (R350). -/
def utcOf (m : Ptp) : BitVec 19 :=
  BitVec.ofNat 19 ((m.utc % 65536).toNat + 65536 * ofBool m.utcValid + 131072 * ofBool m.leap61 +
    262144 * ofBool m.leap59)

/-- A master is selected (R337). -/
def selectMaster (m : Ptp) (s : State) : State :=
  let p := s.time.ptp
  let s1 := modPtp (fun p => { p with utc := utcOf m }) s
  if p.master = some m.source then masterBack s1
  else
    let s2 := modPtp (fun p => { p with
      master := some m.source, mpd := none, sync := none, syncAt := none, dreq := none, pdel := none, dnext := none, minLog := -4 }) s1
    match p.st with
    | .listening => modPtp ptpAcquire s2
    | .acquiring | .locked => ptpEvent 0x5008 0 (modPtp ptpAcquire s2)
    | .holdover => masterBack s2
    | .disabled => s2

/-- An Announce feeds master selection (R331). -/
def takeAnnounce (m : Ptp) (s : State) : State :=
  if m.source.toNat = ownClock s ∨ 255 ≤ m.steps then s
  else
    let s1 := modPtp (fun p => { p with masters := foreignMasters m p.masters }) s
    match bestMaster s1.time.ptp.masters with
    | some b => selectMaster b s1
    | none => s1

/-! ### Exchanges -/

/-- The filtered delay after an accepted exchange (R335). -/
def filterDelay (old : Option Int) (raw : Int) : Int :=
  match old with
  | none => raw
  | some m => m + (raw - m).tdiv 16

/-- The servo of R336: new integrator and rate. -/
def servo (s : State) (o : Int) (log : Int) : Int × Int :=
  let u := clampI (-2147483648) 2147483647 ((o * 2 ^ 40).tdiv (logTicks 1 log))
  let i := s.time.ptp.i - u / 2 ^ cfgU s recTime 7 1
  (i, clampI (-549755814) 549755814 (i - u / 2 ^ cfgU s recTime 6 1))

/-- An accepted exchange in ACQUIRING or LOCKED: the servo, a step, or progress to LOCKED (R336, R337). -/
def acceptExchange (o log : Int) (s : State) : State :=
  let (i, r) := servo s o log
  let s1 := decide_ 2 (.rate r) (modPtp (fun p => { p with i := i, deviating := 0, offset := o }) s)
  if exceeds o (cfgU s recTime 8 4) then modPtp ptpAcquire (stepBase 2 2 (-o) s1)
  else if s.time.ptp.st = .acquiring then
    let g := if exceeds o (cfgU s recTime 12 4) then 0 else s.time.ptp.good + 1
    if 4 ≤ g then
      ptpEvent 0x5005 0 (modPtp (fun p => { p with st := .locked, traceable := true, good := 0 }) s1)
    else modPtp (fun p => { p with good := g }) s1
  else s1

/-- A deviating exchange is discarded and counted; the second in a row is a re-route (R337). -/
def deviate (o : Int) (s : State) : State :=
  let s1 := modPtp (fun p => { p with
    discarded := p.discarded + 1, deviating := p.deviating + 1, good := 0, offset := o }) s
  if 2 ≤ s1.time.ptp.deviating then ptpEvent 0x5006 0 (enterHoldover true false s1) else s1

/-- The mean of a run. -/
def meanOf (l : List Int) : Int := l.sum.tdiv l.length

/-- An exchange in HOLDOVER for a re-route: runs of stable exchanges (R338). -/
def holdoverExchange (raw : Int) (diff : Int) (s : State) : State :=
  let p := s.time.ptp
  let run := match p.run.head? with
    | some f => if exceeds (raw - f) (cfgU s recTime 16 4) then [raw] else p.run ++ [raw]
    | none => [raw]
  if p.reroute && !p.lost && decide (cfgU s recTime 5 1 ≤ run.length) then
    let m := meanOf run
    let o := diff - (m + p.asym)
    let s1 := modPtp (fun p => { ptpAcquire p with mpd := some m, offset := o }) s
    let s2 := if exceeds o (cfgU s recTime 8 4) then stepBase 2 3 (-o) s1 else s1
    ptpEvent 0x5007 0 s2
  else modPtp (fun p => { p with run := run }) s

/-- A completed exchange: raw delay, t2 - t1, and the Sync interval (R335 to R338). -/
def exchange (raw diff log : Int) (s : State) : State :=
  let p := s.time.ptp
  match p.st with
  | .acquiring | .locked =>
    match p.mpd with
    | some m =>
      if exceeds (raw - m) (cfgU s recTime 16 4) then deviate (diff - (m + p.asym)) s
      else
        let m1 := filterDelay p.mpd raw
        acceptExchange (diff - (m1 + p.asym)) log (modPtp (fun p => { p with mpd := some m1 }) s)
    | none => acceptExchange (diff - (raw + p.asym)) log (modPtp (fun p => { p with mpd := some raw }) s)
  | .holdover => holdoverExchange raw diff s
  | _ => s

/-- t2 - t1 of the latest complete Sync. -/
def syncDiff (s : State) (w : SyncWait) : Option Int :=
  w.t1.map fun o => sdiff64 (tb2At s w.t2) (ptpTicks o.sec o.nano (o.corr + w.corr))

/-! ### Messages -/

/-- The message comes from the selected master. -/
def fromMaster (s : State) (m : Ptp) : Bool := s.time.ptp.master == some m.source

/-- A Sync (R335); a one-step Sync carries its own origin timestamp. -/
def takeSync (m : Ptp) (s : State) : State :=
  if !fromMaster s m then s
  else
    masterBack (modPtp (fun p => { p with syncAt := some (m.stamp, m.logIntv), sync := some {
      seqId := m.seqId, t2 := ingress s m.stamp, corr := m.corr, logIntv := m.logIntv, cue := s.proc.procCue
      t1 := if m.twoStep then none else some ⟨m.seconds, m.nanos, 0⟩ } }) s)

/-- A Follow_Up joins its Sync (R335). -/
def takeFollowUp (m : Ptp) (s : State) : State :=
  match s.time.ptp.sync with
  | some w =>
    if fromMaster s m && w.seqId == m.seqId && w.t1.isNone then
      modPtp (fun p => { p with sync := some { w with t1 := some ⟨m.seconds, m.nanos, m.corr⟩ } }) s
    else s
  | none => s

/-- A Delay_Resp completes an end-to-end exchange (R335). -/
def takeDelayResp (m : Ptp) (s : State) : State :=
  match s.time.ptp.dreq, s.time.ptp.sync with
  | some (q, t3), some w =>
    if bit (cfgU s recTime 0 2) 1 || !fromMaster s m || q != m.seqId || m.req.toNat != ownClock s then s
    else
      match syncDiff s w, w.t1 with
      | some d, some o =>
        let t4 := ptpTicks m.seconds m.nanos (-m.corr)
        let t1 := ptpTicks o.sec o.nano (o.corr + w.corr)
        let raw := (sdiff64 (tb2At s w.t2) (tb2At s t3) + sdiff64 t4 t1).tdiv 2
        exchange raw d w.logIntv (modPtp (fun p => { p with dreq := none, minLog := m.logIntv }) s)
      | _, _ => s
  | _, _ => s

/-- A peer delay measured completes an exchange with the latest Sync (R335). -/
def peerExchange (raw : Int) (s : State) : State :=
  let s1 := modPtp (fun p => { p with peerD := some raw, dreq := none, pdel := none }) s
  match s.time.ptp.sync with
  | some w =>
    match syncDiff s w with
    | some d => exchange raw d w.logIntv s1
    | none => s1
  | none => s1

/-- The peer delay of t1 to t4 (R335): ((t4 - t1) - (t3 - t2) - corrections) / 2. -/
def peerDelay (s : State) (t1 t4 : Stamp) (t2 t3 : Word64) : Int :=
  (sdiff64 (tb2At s t4) (tb2At s t1) - sdiff64 t3 t2).tdiv 2

/-- A Pdelay_Resp (R335): one-step carries the turnaround in its correction. -/
def takePdelayResp (m : Ptp) (s : State) : State :=
  match s.time.ptp.dreq with
  | some (q, t1) =>
    if !bit (cfgU s recTime 0 2) 1 || q != m.seqId || m.req.toNat != ownClock s then s
    else if m.twoStep then
      modPtp (fun p => { p with pdel := some ⟨m.seqId, ingress s m.stamp, ⟨m.seconds, m.nanos, 0⟩, m.corr⟩ }) s
    else
      peerExchange (peerDelay s t1 (ingress s m.stamp) 0 (ptpTicks 0 0 m.corr)) s
  | none => s

/-- A Pdelay_Resp_Follow_Up (R335). -/
def takePdelayFollow (m : Ptp) (s : State) : State :=
  match s.time.ptp.dreq, s.time.ptp.pdel with
  | some (q, t1), some w =>
    if q != m.seqId || w.seqId != m.seqId || m.req.toNat != ownClock s then s
    else
      peerExchange (peerDelay s t1 w.t4 (ptpTicks w.t2.sec w.t2.nano 0)
        (ptpTicks m.seconds m.nanos (m.corr + w.corr))) s
  | _, _ => s

/-- A Pdelay_Req is answered by a one-step Pdelay_Resp, launched at the next cue start + 200 µs (R331,
R333). -/
def answerPdelay (m : Ptp) (s : State) : State :=
  let t := egress s (plus (nextStart s) (200 * usTicks))
  let turn : Int := sdiff64 t (ingress s m.stamp) * 655360 / 1024
  outEth0 10 (ptpSend s true 3 m.seqId (m.corr + turn) (be 10 0 ++ be 8 m.source.toNat ++ be 2 1)) s

/-- A PTP message as the Stage Manager takes it: with PTP off it is left, and one of another domain is
dropped and counted (R331, R332, R348). -/
def ptpTake (m : Ptp) (eff : State → State) (s : State) : State :=
  if !ptpEn s then s
  else if m.domain ≠ cfgU s recTime 2 1 then modPtp (fun p => { p with dropped := p.dropped + 1 }) s
  else eff s

/-- A PTP message arrives, or is taken from the record at its cost (R38, R51). -/
def ptpRow (cost : Nat) (kind : PtpKind) (it : Item) (m : Ptp) (eff : State → State) (s : State) :
    Host.Outcome State Fault Refusal :=
  .next (arrived m.stamp (ptpReceived s kind m) it
    (takeItem 10 cost it (ptpTake m eff)) s)

/-- Meaning of SYNC. -/
def execSync (m : Ptp) (s : State) : Host.Outcome State Fault Refusal :=
  ptpRow 40 .sync (.row (.sync m)) m (takeSync m) s

/-- Meaning of FOLLOW_UP. -/
def execFollowUp (m : Ptp) (s : State) : Host.Outcome State Fault Refusal :=
  ptpRow 10 .followUp (.row (.followUp m)) m (takeFollowUp m) s

/-- Meaning of DELAY_RESP. -/
def execDelayResp (m : Ptp) (s : State) : Host.Outcome State Fault Refusal :=
  ptpRow 10 .delayResp (.row (.delayResp m)) m (takeDelayResp m) s

/-- Meaning of PDELAY_REQ. -/
def execPdelayReq (m : Ptp) (s : State) : Host.Outcome State Fault Refusal :=
  ptpRow 40 .pdelayReq (.row (.pdelayReq m)) m (answerPdelay m) s

/-- Meaning of PDELAY_RESP. -/
def execPdelayResp (m : Ptp) (s : State) : Host.Outcome State Fault Refusal :=
  ptpRow 40 .pdelayResp (.row (.pdelayResp m)) m (takePdelayResp m) s

/-- Meaning of PDELAY_RESP_FOLLOW_UP. -/
def execPdelayRespFollowUp (m : Ptp) (s : State) : Host.Outcome State Fault Refusal :=
  ptpRow 10 .pdelayRespFollowUp (.row (.pdelayRespFollowUp m)) m (takePdelayFollow m) s

/-- Meaning of ANNOUNCE. -/
def execAnnounce (m : Ptp) (s : State) : Host.Outcome State Fault Refusal :=
  ptpRow 10 .announce (.row (.announce m)) m (takeAnnounce m) s

/-- A PTP message of a supported kind: its cost and effect (R51, R331). -/
def ptpKind (i : Instr) : Option (Nat × Ptp × (State → State)) :=
  match i with
  | .sync m => some (40, m, takeSync m)
  | .followUp m => some (10, m, takeFollowUp m)
  | .delayResp m => some (10, m, takeDelayResp m)
  | .pdelayReq m => some (40, m, answerPdelay m)
  | .pdelayResp m => some (40, m, takePdelayResp m)
  | .pdelayRespFollowUp m => some (10, m, takePdelayFollow m)
  | .announce m => some (10, m, takeAnnounce m)
  | _ => none

/-- An ETH0 frame of the record: the Stage Manager takes every frame of the PTP mapping, and drops and
counts one it does not support; Prompter 1 takes the others (R331, R332). -/
def takeEth (stamp : Stamp) (f : List Byte) (s : State) : State :=
  let it : Item := .row (.eth0Frame stamp f)
  if (ptpPart s f).isNone then takeItem 9 10 it (forwardEth stamp f) s
  else
    match ptpKind (ethRow s stamp f) with
    | some (cost, m, eff) => takeItem 10 cost it (ptpTake m eff) s
    | none => takeItem 10 10 it (modPtp fun p => { p with dropped := p.dropped + 1 }) s

/-- Meaning of ETH0_FRAME (R38, R273, R332). -/
def execEth0Frame (stamp : Stamp) (bytes : List Byte) (s : State) : Host.Outcome State Fault Refusal :=
  .next (arrived stamp bytes (.row (.eth0Frame stamp bytes)) (takeEth stamp bytes) s)

/-! ### Timers -/

/-- `n` ticks lie between a stamp and the start of the cue being processed. -/
def passed (s : State) (t : Stamp) (n : Nat) : Bool := decide ((n : Int) ≤ sdiff64 s.proc.procStart t)

/-- The selected master has sent no Announce for the timeout of the time record (R337, R349). -/
def announceOver (s : State) : Bool :=
  match s.time.ptp.masters.find? fun x => s.time.ptp.master == some x.1.source with
  | some x => passed s x.1.stamp (logTicks (cfgU s recTime 4 1) x.1.logIntv)
  | none => true

/-- The Announce receipt timeout: no master is selected any more, and TB2 holds over (R337). -/
def announceTimeout (s : State) : State :=
  if announceOver s then modPtp (fun p => { p with masters := [], master := none }) (masterLost s) else s

/-- No Sync for 3 Sync intervals (R337); the interval is that of the last Sync. DESIGN CHOICE: of a master that has
sent none yet no interval is known, and the command ends the wait. -/
def syncOver (s : State) : Bool :=
  match s.time.ptp.syncAt with
  | some (t, log) => passed s t (logTicks 3 log)
  | none => true

/-- The Syncs of the selected master have ended (R337). -/
def syncLost (s : State) : State :=
  match s.time.ptp.st with
  | .acquiring | .locked => if syncOver s then masterLost s else s
  | _ => s

/-- A Sync without its Follow_Up within 1 s is discarded (R335). -/
def discardSync (s : State) : State :=
  match s.time.ptp.sync with
  | some w =>
    if w.t1.isNone && passed s w.t2 102400000000 then modPtp (fun p => { p with sync := none }) s else s
  | none => s

/-- The holdover limit of the time record has passed (R337). -/
def limitOver (s : State) : Bool :=
  decide ((cfgU s recTime 20 4 : Int) ≤ sdiff32 s.proc.procCue s.time.ptp.holdCue)

/-- The holdover limit is reached: TRACEABLE cleared, with its event (R337, R339). -/
def holdoverEnds (s : State) : State :=
  let p := s.time.ptp
  if p.st = .holdover ∧ p.traceable = true ∧ limitOver s = true then
    ptpEvent 0x5009 0 (modPtp (fun p => { p with traceable := false }) s)
  else s

/-- Meaning of ANNOUNCE_RECEIPT_TIMEOUT. -/
def execAnnounceReceiptTimeout (s : State) : Host.Outcome State Fault Refusal :=
  .next (takeItem 10 10 (.row .announceReceiptTimeout) announceTimeout s)

/-- Meaning of SYNC_TIMEOUT. -/
def execSyncTimeout (s : State) : Host.Outcome State Fault Refusal :=
  .next (takeItem 10 10 (.row .syncTimeout) syncLost s)

/-- Meaning of SYNC_PAIR_DISCARD. -/
def execSyncPairDiscard (s : State) : Host.Outcome State Fault Refusal :=
  .next (takeItem 10 10 (.row .syncPairDiscard) discardSync s)

/-- Meaning of HOLDOVER_LIMIT. -/
def execHoldoverLimit (s : State) : Host.Outcome State Fault Refusal :=
  .next (takeItem 10 10 (.row .holdoverLimit) holdoverEnds s)

/-- The Stage Manager's request of this cue: a Delay_Req, or a Pdelay_Req with P2P, at most one per
interval, the master's minimum counting when longer (R331, R333, R349). -/
def ptpRequest (s : State) : State :=
  let p := s.time.ptp
  let p2p := bit (cfgU s recTime 0 2) 1
  let wants := match p.st with
    | .acquiring | .locked | .holdover => p.master.isSome && (p2p || p.sync.isSome)
    | .listening => p2p
    | .disabled => false
  let due := match p.dnext with
    | none => true
    | some d => decide (0 ≤ sdiff64 s.proc.procStart d)
  if ptpEn s && wants && due then
    let t := egress s (plus (nextStart s) (200 * usTicks))
    let log := max (cfgS s recTime 3 1) p.minLog
    outEth0 10 (ptpSend s p2p (if p2p then 2 else 1) p.dseq 0 (be 10 0 ++ (if p2p then be 10 0 else [])))
      (modPtp (fun p => { p with
        dreq := some (p.dseq, t), dseq := (p.dseq + 1) % 65536
        dnext := some (plus s.proc.procStart (logTicks 1 log)) }) s)
  else s

/-- Retention entered: r2 = i and HOLDOVER, from any state but DISABLED (R337); a HOLDOVER under way keeps its limit
and TRACEABLE (R339). DESIGN CHOICE: the reason is that the master is lost, so its return ends it. -/
def ptpRetention (s : State) : State :=
  let p := s.time.ptp
  if p.st = .disabled then s
  else
    let s1 := enterHoldover p.reroute true s
    if p.st = .holdover then modPtp (fun q => { q with traceable := p.traceable, holdCue := p.holdCue }) s1 else s1

/-- Time at a processing start (R313, R575): the bases, TB2's client, mains timing and the pulse programs, which the
engines keep, begin again. -/
def ptpReset (s : State) : State :=
  modTime (fun t => { t with
    tb1 := {}, tb2 := {}, tb3 := {}, ptp := {}, mains := {}
    pins := smMapAll {} t.pins fun _ p => { p with prog := none, next := none } }) s

end Sys2Proof.Machine
end

