-- ==== Sys2Proof/Machine/Book.lean ====
section
/-! DEFINITION. The Prompt Book (chapter 02): canonical order (R39, R40), the record format (R45), its
limit (R43), the book hash (R60), and the reading of a record in replay (R69, R480). -/

namespace Sys2Proof.Machine

/-! ### Order and format -/

/-- Canonical order: class, source, then per-source sequence by signed difference (R39, R40). -/
def entryBefore (a b : Input) : Bool :=
  decide (a.cls < b.cls) || (a.cls == b.cls && (decide (a.src < b.src) ||
    (a.src == b.src && decide (sdiff32 a.seq b.seq < 0))))

/-- Entries in canonical order (R39). -/
def canonical (l : List Input) : List Input := sortBy entryBefore l

/-- An entry: its 16-byte header and its body, padded to a multiple of 8 bytes (R45). -/
def entryBytes (x : Input) : List Byte :=
  le 1 x.cls ++ le 1 x.src ++ le 1 (ofBool x.carried) ++ le 1 0 ++ le 4 x.seq.toNat ++
    le 4 x.body.length ++ le 4 x.arrival.toNat ++ padMul 8 x.body

/-- The 32-byte header of a record (R45). -/
def recordHeader (flags : Nat) (cue : CueNo) (len n : Nat) (start : Stamp) (hash : Word64) : List Byte :=
  le 2 1 ++ le 2 flags ++ le 4 cue.toNat ++ le 4 len ++ le 4 n ++ le 8 start.toNat ++ le 8 hash.toNat

/-- The largest record, in bytes: 288 KiB (R43). -/
abbrev recordMax : Nat := 294912

/-- Entries in canonical order divided into those latched and those carried: once an entry of class 8
or 9 would take the record over its limit, it and every later one of these classes are carried (R43). -/
def fitEntries (len : Nat) (full : Bool) (l : List Input) : List Input × List Input :=
  match l with
  | [] => ([], [])
  | x :: r =>
    let n := (entryBytes x).length
    if decide (8 ≤ x.cls) && (full || decide (recordMax < len + n)) then
      let y := fitEntries len true r
      (y.1, { x with carried := true } :: y.2)
    else
      let y := fitEntries (len + n) full r
      (x :: y.1, y.2)

/-- The Cue entry of a record (R39, R41). -/
def cueEntry (cue last : CueNo) (start : Stamp) : Input :=
  ⟨0, 0, 0, cue - 1, false, le 4 cue.toNat ++ le 4 last.toNat ++ le 8 start.toNat, .message 16⟩

/-- The TRNG draw of a record (R39, R41). -/
def drawEntry (cue : CueNo) (draw : List Byte) : Input :=
  ⟨1, 0, 0, cue - 1, false, padTo 32 (draw.take 32), .message 32⟩

/-- The bytes of a record after its header. -/
def recordBody (l : List Input) : List Byte := l.flatMap entryBytes

/-- The book hash after a record: its book-hash field and its GAP and REPLAYED bits count as zero
(R60). -/
def bookHashAfter (h : Word64) (cue : CueNo) (start : Stamp) (l : List Input) : Word64 :=
  let body := recordBody l
  chainAll h (words64 (recordHeader 0 cue (32 + body.length) l.length start 0 ++ body))

/-- A record with its bytes and its book hash, after the records whose hash is `h` (R45). -/
def makeRecord (h : Word64) (cue : CueNo) (start : Stamp) (last : CueNo) (draw : List Byte)
    (replayed : Bool) (l : List Input) : Latched :=
  let body := recordBody l
  let hash := bookHashAfter h cue start l
  { cue := cue, start := start, last := last, draw := draw, entries := l, replayed := replayed
    hash := hash
    bytes := recordHeader (2 * ofBool replayed) cue (32 + body.length) l.length start hash ++ body }

/-- The bytes of a record as the export buffer takes them, with GAP when records before it were lost
(R45, R68). -/
def exportBytes (gap : Bool) (bytes : List Byte) : List Byte :=
  setAt bytes 2 (BitVec.ofNat 8 (byteAt bytes 2 + ofBool gap))

/-! ### What a latched entry asks of the engines -/

/-- A latched submission entry read as the operand of its command (R359). -/
def subOf (ring : Nat) (accept : CueNo) (aside partner : Bool) (b : List Byte) : Sub where
  ring := ring
  flags := BitVec.ofNat 16 (uAt b 2 2)
  length := uAt b 4 4
  tag := BitVec.ofNat 64 (uAt b 8 8)
  bufAddr := BitVec.ofNat 64 (uAt b 16 8)
  bufLen := uAt b 24 4
  target := BitVec.ofNat 32 (uAt b 28 4)
  params := slice b 32 32
  data := b.drop 64
  accept := accept
  aside := aside
  partner := partner

/-- What the Box Office finds in a staged bundle that reached the device through its rings: its bytes
are not in the book (R44), so every finding is an open value. -/
def openBundle (n : Nat) : BundleInfo :=
  let v (k m : Nat) : Nat := (Config.openWord (4 + k) n).toNat % m
  { version := v 1 (2 ^ 32), rclass := v 2 (2 ^ 32)
    versions := (List.range 6).map fun k => v (3 + k) 65536
    requires := (List.range 6).map fun k => (List.range 6).map fun j => v (16 + 6 * k + j) 65536
    kinds := (List.range 6).map fun i => v (90 + i) 256
    image := {
      magicOk := v 52 2 == 1, keyOk := v 53 2 == 1, keySlot := v 13 4, revoke := BitVec.ofNat 4 (v 12 16)
      sigOk := v 54 2 == 1, secVersion := v 11 65, hashesOk := v 55 2 == 1
      steppings := (List.range 6).map fun k => v (80 + k) 256 } }

/-- The failing count of a SELFTEST_RUN that reached the device through its rings: an open value. -/
def openFails (n : Nat) : Nat := (Config.openWord 60 n).toNat % 2 ^ 32

/-- The row of a latched command (R376). -/
def commandRow (op : Nat) (c : Sub) : Instr :=
  let n := 64 * c.accept.toNat + c.ring
  match op with
  | 0x0001 => .nop c
  | 0x0010 => .configApply c
  | 0x0011 => .configRead c
  | 0x0020 => .nodeSend c
  | 0x0021 => .floodSend c
  | 0x0022 => .rawTx c
  | 0x0023 => .overtureSend c
  | 0x0024 => .rxPost c
  | 0x0030 => .nodeAdmit c
  | 0x0031 => .nodeEvict c
  | 0x0032 => .nodeQuery c
  | 0x0040 => .tableRead c
  | 0x0041 => .tableWrite c
  | 0x0042 => .tableUnlock c
  | 0x0050 => .scheduleSet c
  | 0x0060 => .timeSet c
  | 0x0061 => .pulseProgram c
  | 0x0070 => .captureSpectrum c
  | 0x0080 => .imageStage c
  | 0x0081 => .imageVerify c (openBundle n)
  | 0x0082 => .imageActivate c
  | 0x0083 => .imageConfirm c
  | 0x0084 => .tourStart c
  | 0x0090 => .roleRequest c
  | 0x00A0 => .callboardRead c
  | 0x00B0 => .selftestRun c (openFails n)
  | 0x00C0 => .keyInstall c
  | _ => .reservedOpcode (BitVec.ofNat 16 op) c

/-- An update-end entry (R537). -/
def updEndOf (ring : Nat) (b : List Byte) : UpdEnd :=
  ⟨ring, uAt b 0 2, byteAt b 2, byteAt b 3, uAt b 4 4, BitVec.ofNat 64 (uAt b 8 8)⟩

/-- The 16-byte body of an update-end entry (R537). -/
def updEndBytes (u : UpdEnd) : List Byte :=
  le 2 u.opcode ++ le 1 u.outcome ++ le 1 u.step ++ le 4 u.bytes ++ le 8 u.tag.toNat

/-- The entry brings a block of the Tour in progress, of which it bears the ring and the tag: no
TOUR_START carries data of its own (R44, R555). -/
def isTourBlock (s : State) (op : Nat) (c : Sub) : Bool :=
  op == 0x0084 && (!c.data.isEmpty || fetchFailed c) &&
    s.upd.tour.any fun t => t.sub.ring == c.ring && t.sub.tag == c.tag

/-- The row of a class 9 entry latched in the record of cue `cue` (R39, R44, R537). -/
def hostRow (s : State) (ring : Nat) (seq : Word32) (cue : CueNo) (partner : Bool) (b : List Byte) : Instr :=
  if b.length < 64 then .updateEnd (updEndOf ring b)
  else
    let c := { subOf ring cue false partner b with seq := seq }
    if isTourBlock s (uAt b 0 2) c then
      let base := (s.upd.tour.map fun t => t.sub.bufAddr).getD 0
      .tourBlock ((c.bufAddr - base).toNat / 4096) (!fetchFailed c) c.data
    else commandRow (uAt b 0 2) c

/-! ### Reading the bodies of a record -/

/-- A pin-capture body (R318). -/
def capOf (i : Nat) (b : List Byte) : PinCap :=
  ⟨i, BitVec.ofNat 64 (uAt b 0 8), bit (byteAt b 8) 0, BitVec.ofNat 8 (byteAt b 9), uAt b 10 2⟩

/-- A transmit-end body (R169). -/
def txEndOf (c : Chain) (b : List Byte) : TxEnd :=
  ⟨c, BitVec.ofNat 32 (uAt b 0 4), byteAt b 4, BitVec.ofNat 8 (byteAt b 5), sAt b 6 2,
    BitVec.ofNat 64 (uAt b 8 8), BitVec.ofNat 64 (uAt b 16 8), BitVec.ofNat 32 (uAt b 24 4)⟩

/-- A module-event body (R579). -/
def moduleOf (b : List Byte) : ModuleEv := ⟨byteAt b 0, byteAt b 1, slice b 4 32⟩

/-- The 36-byte body of a module event (R579). -/
def moduleBytes (x : ModuleEv) : List Byte :=
  le 1 x.kind ++ le 1 x.addr ++ le 2 0 ++ padTo 32 (x.desc.take 32)

/-- A reception body (R155, R158). -/
def receptionOf (b : List Byte) : Reception :=
  let ext := 8 * byteAt b 43
  { outcome := byteAt b 0, status := byteAt b 1, flags := BitVec.ofNat 16 (uAt b 2 2), line := byteAt b 4
    port := byteAt b 5, pers := BitVec.ofNat 8 (byteAt b 6), gain := byteAt b 7
    arrival := BitVec.ofNat 64 (uAt b 8 8), endStamp := BitVec.ofNat 64 (uAt b 16 8)
    windowId := BitVec.ofNat 32 (uAt b 24 4), offset := sAt b 28 4, rssi := sAt b 32 2, snr := sAt b 34 2
    floor := sAt b 36 2, phyInfo := BitVec.ofNat 16 (uAt b 40 2), displaced := byteAt b 42
    dispRssi := sAt b 44 2
    ext := (slice b 48 ext).map BitVec.toNat
    psdu := slice b (48 + ext) (uAt b 38 2) }

/-- The message of an engine that waits for the Intake which a record's entry names (R47). -/
def ownMessage (s : State) (src : Nat) (q : Word32) : Option Input :=
  s.proc.inputs.find? fun x => x.cls == 2 && x.src == src && x.seq == q

/-- What an entry of a record asks of the engines, read from its body (R39). DESIGN CHOICE: R39 gives partner events
of the pair partner and of the Director or role wires (class 3, sources 0 and 1) no body and says nowhere what makes
one; the model forms none and an entry read back asks nothing. -/
def entryItem (s : State) (cue : CueNo) (partner : Bool) (x : Input) : Item :=
  match x.cls with
  | 2 => ((ownMessage s x.src x.seq).map (·.item)).getD (.message x.body.length)
  | 3 => if x.src = 2 then .row (.moduleEvent (moduleOf x.body)) else .message x.body.length
  | 4 => .row (.pinCapture (capOf x.src x.body))
  | 5 => .row (.transmitEndEntry (txEndOf (chainOf x.src) x.body))
  | 7 => .row (rxInstr (receptionOf x.body))
  | 8 => .row (ethRow s (BitVec.ofNat 64 (uAt x.body 0 8)) (x.body.drop 8))
  | 9 => .row (hostRow s x.src x.seq cue partner x.body)
  | _ => .message x.body.length

/-- `n` entries read from the bytes after a record's header (R45). -/
def readEntries (n : Nat) (b : List Byte) : List Input :=
  match n with
  | 0 => []
  | m + 1 =>
    let len := uAt b 8 4
    ⟨byteAt b 0, byteAt b 1, BitVec.ofNat 32 (uAt b 4 4), BitVec.ofNat 32 (uAt b 12 4), bit (byteAt b 2) 0,
      slice b 16 len, .message len⟩ :: readEntries m (b.drop (16 + 8 * ceilDiv len 8))

/-- The bytes hold one whole record of format 0x0001 (R45, R69). -/
def recordWhole (b : List Byte) : Bool :=
  decide (32 ≤ b.length) && uAt b 0 2 == 1 && decide (32 ≤ uAt b 8 4) && decide (uAt b 8 4 ≤ b.length)

/-- A record read back, in place of live inputs (R69, R480). -/
def recordRead (s : State) (partner : Bool) (b : List Byte) : Latched :=
  let cue := BitVec.ofNat 32 (uAt b 4 4)
  let l := readEntries (uAt b 12 4) (b.drop 32)
  let l := l.map fun x => { x with item := entryItem s cue partner x }
  let body (k : Nat) : List Byte := ((l.find? fun x => x.cls == k).map (·.body)).getD []
  makeRecord s.proc.bookHash cue (BitVec.ofNat 64 (uAt b 16 8)) (BitVec.ofNat 32 (uAt (body 0) 4 4)) (body 1)
    true l

/-- The per-source sequences after a record read back: each source goes on behind its last entry
(R40). -/
def seqsAfter (l : List Input) (m : SMap Word32) : SMap Word32 :=
  l.foldl (fun m x =>
    if x.cls = 3 ∨ x.cls = 4 ∨ x.cls = 7 ∨ x.cls = 8 ∨ x.cls = 9
    then smSet 0 m (256 * x.cls + x.src) (x.seq + 1) else m) m

end Sys2Proof.Machine
end

