-- ==== Sys2Proof/Machine/CfgCmd.lean ====
section
/-! DEFINITION. CONFIG_APPLY and CONFIG_READ (R379, R380), and the effect of a waiting record at its
cue (R33, R349, R380). -/

namespace Sys2Proof.Machine

/-- The cue of effect of a record of type `t` applied in the cue being processed: the next cue start, or
the next Scene boundary; a change of the Scene length waits for a boundary under the longer length (R33,
R270, R349, R432, R468). -/
def cueOfEffect (s : State) (t : Nat) (b : List Byte) : CueNo :=
  let k := s.proc.sceneLog2
  match t with
  | 1 => nextBoundary (max k (uAt b 58 1)) s.proc.procCue
  | 2 | 4 => nextBoundary k s.proc.procCue
  | _ => s.proc.procCue + 1

/-- The generation that a CONFIG_APPLY of type `t` compares: a waiting record has the newest (R380). -/
def presentGen (s : State) (t : Nat) : Nat :=
  match (cfgOf s t).wait with
  | some w => w.2.1
  | none => (cfgOf s t).gen

/-- A channel plan or router ID that differs from the record in effect (R270). -/
def planChanged (s : State) (b : List Byte) : Bool :=
  uAt b 0 2 != routerId s || uAt b 56 1 != planEntries s ||
    slice b 704 2048 != (List.range 2048).map fun i => cfgByte s recMesh (704 + i)

/-- The further cases of WRONG_STATE (R270, R380, R382), for a record that is itself in order. -/
def applyWrong (c : Sub) (s : State) : Bool :=
  let t := pU c 32 2
  let g := pU c 36 4
  recOk (isMember s) t c.data && ((g != 0xFFFFFFFF && g != presentGen s t) || s.upd.roll.isSome ||
    (t == recMesh && planChanged s c.data && !(allocated s).isEmpty))

/-- The record waits for its cue of effect; one that waited is replaced (R380). -/
def applyAct (e : Nat) (c : Sub) (s : State) : State :=
  let t := pU c 32 2
  let g := (presentGen s t + 1) % 2 ^ 32
  let at_ := cueOfEffect s t c.data
  reply e 0x0010 stOk c (le 4 g ++ le 4 at_.toNat) []
    { s with cfgs := smMod {} s.cfgs t fun r => { r with wait := some (c.data, g, at_) } }

/-- CONFIG_APPLY (R379, R380). -/
def cmdConfigApply : CmdSpec where
  op := 0x0010
  engine := byPrompter0
  use := .read
  aside := false
  static := fun c => decide (1 ≤ pU c 32 2) && decide (pU c 32 2 ≤ 6) && pU c 34 2 == 1 && pZero c 40 63 &&
    c.length == recLen (pU c 32 2)
  wrong := applyWrong
  check := fun c s => if recOk (isMember s) (pU c 32 2) c.data then none else some stBadParam
  cost := fun c _ => 200 + blocksOf 64 (recLen (pU c 32 2))
  act := applyAct

/-- Meaning of CONFIG_APPLY. -/
def execConfigApply (c : Sub) (s : State) : Host.Outcome State Fault Refusal :=
  .next (runCmd cmdConfigApply (.row (.configApply c)) c s)

/-- The record a CONFIG_READ writes, with its generation (R380). -/
def readRecord (s : State) (t : Nat) (waiting : Bool) : List Byte × Nat :=
  match waiting, (cfgOf s t).wait with
  | true, some w => (w.1, w.2.1)
  | _, _ => (cfgBytes s t, (cfgOf s t).gen)

/-- CONFIG_READ (R380). -/
def cmdConfigRead : CmdSpec where
  op := 0x0011
  engine := byPrompter0
  use := .written
  aside := true
  static := fun c => decide (1 ≤ pU c 32 2) && decide (pU c 32 2 ≤ 6) && decide (pU c 34 2 ≤ 1) && pZero c 36 63
  wrong := neverWrong
  check := fun c _ => if c.bufLen < recLen (pU c 32 2) then some stBadParam else none
  cost := cost10
  act := fun e c s =>
    let r := readRecord s (pU c 32 2) (pU c 34 2 == 1)
    reply e 0x0011 stOk c (le 4 r.2 ++ le 4 r.1.length) r.1 s

/-- Meaning of CONFIG_READ. -/
def execConfigRead (c : Sub) (s : State) : Host.Outcome State Fault Refusal :=
  .next (runCmd cmdConfigRead (.row (.configRead c)) c s)

/-! ### Effect -/

/-- The PTP client returns to LISTENING, with nothing heard (R349). -/
def ptpListen (p : PtpC) : PtpC :=
  { p with st := .listening, reroute := false, lost := false, traceable := false, mpd := none
           deviating := 0, good := 0, run := [], sync := none, syncAt := none, dreq := none, pdel := none
           masters := [], master := none }

/-- TB2's state after a change of the time record's flags (R337, R349). -/
def ptpFlags (old new : Nat) (p : PtpC) : PtpC :=
  if !bit new 0 then { p with st := .disabled, reroute := false, lost := false, traceable := false }
  else if !bit old 0 then ptpListen p
  else if bits old 2 1 != bits new 2 1 then ptpListen p
  else p

/-- A waiting record takes effect. -/
def takeRecord (t : Nat) (b : List Byte) (g : Nat) (s : State) : State :=
  let old := cfgU s recTime 0 2
  let s1 : State := { s with cfgs := smSet {} s.cfgs t { bytes := b, gen := g } }
  if t = recMesh then modProc (fun p => { p with sceneLog2 := uAt b 58 1 }) s1
  else if t = recTime then
    let s2 := modPtp (ptpFlags old (uAt b 0 2)) s1
    if bit (uAt b 0 2) 4 then s2 else modTime (fun t => { t with mains := { t.mains with cross := [], cross0 := [] } }) s2
  else s1

/-- The records whose cue of effect has come, at the start of the cue being processed (R380). -/
def takeRecords (s : State) : State :=
  [1, 2, 3, 4, 5, 6].foldl (fun s t =>
    match (cfgOf s t).wait with
    | some w => if sdiff32 s.proc.procCue w.2.2 < 0 then s else takeRecord t w.1 w.2.1 s
    | none => s) s

end Sys2Proof.Machine
end

