-- ==== Sys2Proof/Machine/Links.lean ====
section
/-! DEFINITION. The Ethernet links (R399, R616, R617): frames handed to a link that is down are discarded at
the MAC and counted; the session and the frame counter of the pair link (R475). -/

namespace Sys2Proof.Machine

/-- A frame handed to ETH0 (R399). -/
def sendEth0 (frame : List Byte) (s : State) : State :=
  if s.pwr.eth0Up then { s with wire0 := s.wire0 ++ [frame] } else countReg rPadEth0Drops 1 s

/-- The root check: the first 4 octets of AES-128(ROOT, 0^128), little-endian; 0 while ROOT is not programmed (R438, R469). -/
def rootCheck (s : State) : Word32 :=
  match s.sec.fuses.root with
  | some _ => BitVec.ofNat 32 (leNat ((aesEnc (rootKey s) (List.replicate 16 0)).take 4))
  | none => 0

/-! ### The octets of a pair frame -/

/-- The digest record's 32 bytes (R58). -/
def digestBytes (d : Digest) : List Byte :=
  le 4 d.cue.toNat ++ le 4 d.flags.toNat ++ le 8 d.state.toNat ++ le 8 d.out.toNat ++ le 8 d.book.toNat

/-- Type and plain payload of a pair frame (R476). DESIGN CHOICE (R476 refers the TIME payload to R485, which gives
none): t1, t2 and t3 of R484, 8 octets each, those not yet known 0. -/
def pairBody (m : PairMsg) : Nat × List Byte :=
  match m with
  | .hello h => (1, le 8 h.session.toNat ++ le 4 h.root.toNat ++ le 4 h.fwId.toNat ++ le 2 h.router ++ le 1 h.role ++ le 1 0)
  | .record c i n b => (2, le 4 c.toNat ++ le 2 i ++ le 2 n ++ b)
  | .ack c => (3, le 4 c.toNat)
  | .nak c i => (4, le 4 c.toNat ++ le 2 i)
  | .digest d => (5, digestBytes d)
  | .time t1 t2 t3 => (6, le 8 t1.toNat ++ le 8 t2.toNat ++ le 8 t3.toNat)
  | .resync => (7, le 4 0)
  | .sweep r o l _ => (8, le 1 r ++ le 1 0 ++ le 2 l.length ++ le 4 o ++ l.flatMap fun w => le 8 w.toNat)
  | .forward l => (9, l.flatMap fun w => le 1 w.region ++ le 1 0 ++ le 2 0 ++ le 4 w.offset ++ le 8 w.word.toNat)

/-- The 16-octet pair header (R474). -/
def pairHeader (f : PairFrame) : List Byte :=
  let b := pairBody f.msg
  le 1 b.1 ++ le 1 0 ++ le 2 b.2.length ++ le 4 f.counter.toNat ++ le 8 f.session.toNat

/-- K_pair (R475). -/
def kPair (s : State) : List Byte := (sha256 (rootKey s ++ ascii "CLOTOS-PAIR")).take 16

/-- The 13-octet nonce of a pair frame (R475). -/
def pairNonce (f : PairFrame) : List Byte := le 8 f.session.toNat ++ be 4 f.counter.toNat ++ [0x50]

/-- The MIC of a pair frame: security level 7, 16 octets (R475). -/
def pairMic (f : PairFrame) (s : State) : List Byte :=
  ccmMic 16 (kPair s) (pairNonce f) (pairHeader f) (pairBody f.msg).2

/-- The octets of a pair frame on ETH1 (R474, R475). -/
def pairOctets (f : PairFrame) (s : State) : List Byte :=
  List.replicate 6 0xFF ++ [0x02, 0, 0, 0, 0, 0] ++ be 2 0x88B5 ++ pairHeader f ++
    ccmCrypt (kPair s) (pairNonce f) (pairBody f.msg).2 ++ pairMic f s

/-! ### Sending -/

/-- The unit's HELLO (R476): its firmware set id is the replay class that runs (R535). -/
def helloOf (s : State) : Hello where
  session := s.pair.session
  root := rootCheck s
  fwId := w32 s.upd.rclass
  router := routerId s
  role := s.pair.role
  counter := s.pair.txCtr
  mic := []

/-- One pair frame handed to ETH1 takes the next frame counter (R399, R475). -/
def putPair (m : PairMsg) (s : State) : State :=
  let s1 := if s.pwr.eth1Up then { s with wire1 := s.wire1 ++ [⟨s.pair.session, s.pair.txCtr, m⟩] }
    else countReg rPadEth1Drops 1 s
  modPair (fun p => { p with txCtr := p.txCtr + 1 }) s1

/-- A HELLO handed to ETH1. -/
def sendHello (s : State) : State :=
  putPair (.hello (helloOf s)) (modPair (fun p => { p with lastHello := s.proc.cueNow }) s)

/-- A new session: a session value of its own, the counter at 0, and a HELLO as its first frame (R475). -/
def newSession (v : BitVec 64) (s : State) : State :=
  sendHello (modPair (fun p => { p with session := v, txCtr := 0 }) s)

/-- A pair frame handed to ETH1; the frame with the last counter ends its session, and a new one opens (R475). The
new session value is a draw from the TRNG: a free value. -/
def sendPair (m : PairMsg) (s : State) : State :=
  let s1 := putPair m s
  if s.pair.txCtr = 0xFFFFFFFF then
    let (n, s2) := fresh s1
    newSession (Config.openWord 63 n) s2
  else s1

/-- Pair frames handed to ETH1 in order. -/
def sendPairs (l : List PairMsg) (s : State) : State := l.foldl (fun s m => sendPair m s) s

end Sys2Proof.Machine
end

