-- ==== Sys2Proof/Machine/Restart.lean ====
section
/-! DEFINITION. Stopping and restarting processing (R576), the completions of a stop (R623), and the
reset record (R573). -/

namespace Sys2Proof.Machine

/-- Every outstanding command completes at the stop: FLUSHED on a Solo unit, NOT_LEAD on a pair
member; the entries lie outside any Publish (R623). -/
def flushOutstanding (s : State) : State :=
  let st := if isMember s then stNotLead else stFlushed
  s.hif.outstanding.foldl (fun s x =>
    let ok := epochOk s x.2
    let s1 := completeWrite x.2 st [] [] s.proc.cueNow false s
    if ok then vecSignal (cqVec s x.2.ring) s1 else s1) s

/-- A Retention request that a stop of processing overtakes is refused (R568, R583): REQ shows the mode again. -/
def refuseRetention (s : State) : State :=
  if s.pwr.retReq.isSome && s.pwr.mode != .retention then
    emitLocal 0xB00E 14 0 0 0 0 (setRBit rPwrMode 4 (setRBits rPwrMode 1 0 (if s.pwr.mode = .quiet then 1 else 0)
      (modPwr (fun p => { p with retReq := none }) s)))
  else s

/-- Processing stops now: both chains are cut, a demoted Lead's at the stamp of R493; nothing held for release is written, what waited in
processing is dropped, outstanding commands complete, and what is being fetched is given up (R576,
R622, R623). -/
def stopNow (s : State) : State :=
  let s1 := if s.pair.demoting then s else cutChains s.time.tb0 s
  let s2 := modProc (fun p => { p with
    processing := false, stopAt := s.time.tb0, inputs := [], outs := [], held := []
    lag := 0 }) s1
  let s3 := modPair (fun p => { p with holdOuts := [], covered := false }) s2
  let inFlight (q : Nat) : Nat := (sq s q).flight
  modHif (fun h => { h with
    sq := smMapAll {} h.sq (fun _ q => { q with flight := 0 })
    cq := smMapAll {} h.cq fun q r => { r with outst := r.outst - inFlight q } })
    (flushOutstanding s3)

/-- The reset record of R573, written by the keep domain. -/
def resetRecord (cause trigger : Nat) (s : State) : State :=
  emitLocal 0xB001 13 cause s.pwr.count trigger 0 s

/-- A processing restart: processing stops if it still runs, and every engine takes its core test
(R576). -/
def restartNow (trigger : Nat) (s : State) : State :=
  let s0 := refuseRetention s
  let s1 := if s0.proc.processing then stopNow s0 else s0
  let s2 := resetRecord 9 trigger (modPwr (fun p => { p with cause := 9 }) s1)
  let s3 := (List.range 12).foldl (fun s e => modEng e (fun g => { g with paused := true, resume := false }) s) s2
  modPwr (fun p => { p with restartReq := none, restarting := true, coreTests := List.range 12 }) s3

/-- A processing restart taken at the next cue start (R576); the first request stands. -/
def restartNext (trigger : Nat) (s : State) : State :=
  if s.proc.processing && s.pwr.restartReq.isNone then
    modPwr (fun p => { p with restartReq := some trigger }) (refuseRetention s)
  else s

/-- Meaning of PROCESSING_RESTART: the stop of R576, once for each restart. -/
def execProcessingRestart (trigger : Fin 7) (s : State) : Host.Outcome State Fault Refusal :=
  .next (if s.pwr.restarting then s else restartNow trigger.val s)

/-- Meaning of RESTART (R572, R576): SYS_CTL.RESTART, taken at the next cue start. -/
def execRestart (s : State) : Host.Outcome State Fault Refusal := .next (restartNext 4 s)

end Sys2Proof.Machine
end

