-- ==== Sys2Proof/Machine/Tables.lean ====
section
/-! DEFINITION. The learned tables (chapter 07): the address table (R278 to R282), learned attachments
(R283 to R286), the LPM memory (R287 to R292), the map store (R140, R141) and the host's access to them
(R293 to R300). -/

namespace Sys2Proof.Machine

/-! ### Housekeeping budget -/

/-- Engine `e` may take a Housekeeping item of this cost (R53). -/
def hkFits (s : State) (e cost : Nat) : Bool :=
  let g := eng s e
  decide (cost ≤ g.hkLeft) && !g.paused && !g.retired && !rollPaused s e

/-- Engine `e` charges a Housekeeping item. -/
def hkCharge (e cost : Nat) (s : State) : State :=
  modEng e (fun g => { g with hkLeft := g.hkLeft - cost }) s

/-- The table, or the partition of it, is locked (R299). -/
def isLocked (s : State) (table part : Nat) : Bool :=
  s.mesh.locks.any fun l => l.table == table && l.part == part

/-! ### Address table -/

/-- Free places among a list of places. -/
def freePlace (s : State) (p : Nat) (l : List Nat) : Option Nat :=
  l.find? fun i => (addrSlot s p i).isNone

/-- The place for a key in a partition (R279): the emptier of its buckets, then the stash. -/
def placeKey (s : State) (p : Nat) (iid : Bool) (k : BitVec 64) : Option Nat :=
  let b := buckets iid k
  let slots (x : Nat) := (List.range 6).map (6 * x + ·)
  let used (x : Nat) := ((slots x).filter fun i => (addrSlot s p i).isSome).length
  let first := if used b.2 < used b.1 then slots b.2 else slots b.1
  match freePlace s p first with
  | some i => some i
  | none => freePlace s p ((List.range 64).map (24576 + ·))

/-- The write count of an address partition raised by one (R291). -/
def addrCount (p : Nat) (s : State) : State :=
  modMesh (fun m => { m with addrWrites := smMod 0 m.addrWrites p fun v => (v + 1) % 2 ^ 32 }) s

/-- A key written at a place with the generation of its write (R291). -/
def putKey (p i node : Nat) (iid : Bool) (k : BitVec 64) (s : State) : State :=
  let s := addrCount p s
  let g := smGet 0 s.mesh.addrWrites p % 256
  modMesh (fun m => { m with addr := smSet none m.addr (partSlots * p + i) (some ⟨node, iid, k, g⟩) }) s

/-- The slot at a place cleared. -/
def clearKey (p i : Nat) (s : State) : State :=
  modMesh (fun m => { m with addr := smSet none m.addr (partSlots * p + i) none }) (addrCount p s)

/-- The place of a node's key of a kind. -/
def nodeKeyPlace (s : State) (node : Nat) (iid : Bool) : Option Nat :=
  let p := node % 8
  (s.mesh.addr.find? fun e => e.1 / partSlots == p && e.2.any fun v => v.node == node && v.iid == iid).map
    fun e => e.1 % partSlots

/-- The key of a node removed. -/
def removeKey (node : Nat) (iid : Bool) (s : State) : State :=
  match nodeKeyPlace s node iid with
  | some i => clearKey (node % 8) i s
  | none => s

/-- The IID in a context is left to its Stagehand to write (R18, R279). -/
def askIid (node : Nat) (k : Option (BitVec 64)) (s : State) : State :=
  modMesh (fun m => { m with ctxOps := m.ctxOps ++ [.iid node k] }) s

/-- An IID key placed for a node, replacing its old one; none when no place is free (R296, R298). -/
def insertIid (node : Nat) (k : BitVec 64) (s : State) : Option State :=
  let p := node % 8
  let set (s : State) := askIid node (some k) s
  match nodeKeyPlace s node true with
  | some i =>
    if slotIs true k (addrSlot s p i) then some (set (putKey p i node true k s))
    else (placeKey s p true k).map fun j => set (putKey p j node true k (clearKey p i s))
  | none => (placeKey s p true k).map fun j => set (putKey p j node true k s)

/-- An IID key of a node deleted; an absent key counts as applied (R297). -/
def deleteIid (node : Nat) (k : BitVec 64) (s : State) : State :=
  match nodeKeyPlace s node true with
  | some i =>
    if slotIs true k (addrSlot s (node % 8) i) then
      askIid node none (clearKey (node % 8) i s)
    else s
  | none => s

/-- The address-key-unplaceable record (R282, R298). -/
def unplaceable (iid : Bool) (node : Nat) (k : BitVec 64) (s : State) : State :=
  emit 8 0x4003 (node % 8) (buckets iid k).1 (buckets iid k).2 0 s

/-- Entries of a TABLE_WRITE. -/
def twCount (c : Sub) : Nat := pU c 36 2

/-- The completion of a TABLE_WRITE: entries applied, write count (R297). -/
def twDone (e status applied count : Nat) (c : Sub) (s : State) : State :=
  finish e 0x0041 status c (le 2 applied ++ le 4 count) [] s

/-- Entry `k` of a TABLE_WRITE of the address table: node index, key (R293). -/
def twAddr (c : Sub) (k : Nat) : Nat × BitVec 64 :=
  (uAt c.data (16 * k + 8) 4, BitVec.ofNat 64 (uAt c.data (16 * k) 8))

/-- The partition on which an operation of the address table waits. -/
def opPart (o : TabOp) : Nat :=
  match o with
  | .addKey n _ _ => n % 8
  | .delKey n _ _ => n % 8
  | .write c k => (twAddr c k).1 % 8

/-- The partitions that the rest of an operation touches. -/
def opParts (o : TabOp) : List Nat :=
  match o with
  | .addKey n _ _ => [n % 8]
  | .delKey n _ _ => [n % 8]
  | .write c k => (List.range (twCount c - k)).map fun j => (twAddr c (k + j)).1 % 8

/-- One item of the address table applied: what is left of the operation, and the state. -/
def applyAddr (o : TabOp) (s : State) : Option TabOp × State :=
  match o with
  | .addKey n iid k =>
    (none, match placeKey s (n % 8) iid k with
      | some i => putKey (n % 8) i n iid k s
      | none => s)
  | .delKey n iid _ => (none, removeKey n iid s)
  | .write c k =>
    let x := twAddr c k
    let count (s : State) := smGet 0 s.mesh.addrWrites (x.1 % 8)
    let r := if pU c 33 1 = 1 then some (deleteIid x.1 x.2 s) else insertIid x.1 x.2 s
    match r with
    | none => (none, unplaceable true x.1 x.2 (twDone 8 stNoResource k (count s) c s))
    | some s1 =>
      if k + 1 < twCount c then (some (.write c (k + 1)), s1)
      else (none, twDone 8 stOk (k + 1) (count s1) c s1)

/-- Prompter 0 applies its waiting operations in order; those of a locked partition, and what follows
them in it, wait (R281, R299). Each item costs 10 (R51). -/
def hkAddrLoop (fuel : Nat) (todo kept : List TabOp) (held : List Nat) (s : State) : State :=
  let keep (l : List TabOp) := modMesh (fun m => { m with ops := l }) s
  match fuel with
  | 0 => keep (kept ++ todo)
  | f + 1 =>
    match todo with
    | [] => keep kept
    | o :: rest =>
      if isLocked s 0 (opPart o) || held.contains (opPart o) then
        hkAddrLoop f rest (kept ++ [o]) (held ++ opParts o) s
      else if !hkFits s 8 10 then keep (kept ++ todo)
      else
        let (next, s1) := applyAddr o (hkCharge 8 10 s)
        hkAddrLoop f (next.toList ++ rest) kept held s1

/-- Items of a list of waiting operations. -/
def opItems (l : List TabOp) : Nat :=
  (l.map fun o => match o with
    | .write c k => twCount c - k + 1
    | _ => 1).sum

/-- Address table work of Housekeeping. -/
def hkAddr (s : State) : State := hkAddrLoop (opItems s.mesh.ops + 1) s.mesh.ops [] [] s

/-- The address table as the waiting operations will leave it (R282). -/
def addrAhead (s : State) : State :=
  let s1 := modEng 8 (fun g => { g with hkLeft := 10 * (opItems s.mesh.ops + 1), paused := false
                                        retired := false }) s
  hkAddr (modMesh (fun m => { m with locks := [] }) s1)

/-- The EUI-64 key of a new node can be placed, counting what waits (R282). -/
def canPlace (s : State) (node : Nat) (k : BitVec 64) : Bool :=
  (placeKey (addrAhead s) (node % 8) false k).isSome

/-! ### Learned attachments -/

/-- The write count of an attachment partition raised by one (R291). -/
def attCount (p : Nat) (s : State) : State :=
  modMesh (fun m => { m with attWrites := smMod 0 m.attWrites p fun v => (v + 1) % 2 ^ 32 }) s

/-- The 16-byte block of a learned attachment (R283). -/
def attBlock (n : Node) : List Byte :=
  le 3 n.parent.toNat ++ le 1 n.pQuality ++ le 1 n.hops ++ le 1 (n.port % 4 + 128 * ofBool n.heard) ++
    le 1 n.line ++ le 1 n.quality ++ le 4 n.repCue.toNat ++ le 1 n.moves ++ le 1 n.gen ++
    le 2 (n.moveScene % 65536)

/-- The flap event of a node, at most once per Scene (R285). -/
def flap (x : Learn) (old : Node) (s : State) : State :=
  let scene := sceneOf s s.proc.procCue
  let n := node s x.node
  if n.flapScene = some scene ∨ n.moves < cfgU s recFwd 9 1 then s
  else
    countReg 0x31030 1 (emit (owner x.node) 0x4001 x.node (old.port + 256 * old.line) (x.port + 256 * x.line)
      scene (modNode x.node (fun n => { n with flapScene := some scene }) s))

/-- One reception teaches its node's attachment (R284). -/
def learnOne (x : Learn) (s : State) : State :=
  let old := node s x.node
  let scene := sceneOf s s.proc.procCue
  let p := x.node % 8
  let moved := old.heard && (old.port != x.port || old.line != x.line)
  let s := attCount p s
  let g := smGet 0 s.mesh.attWrites p % 256
  let base := if old.moveScene = scene % 65536 then old.moves else 0
  let s1 := modNode x.node (fun n =>
    let n1 := { n with port := x.port, line := x.line, quality := x.quality, heard := true, gen := g }
    let n2 := if moved then { n1 with moves := min 255 (base + 1), moveScene := scene % 65536 } else n1
    match x.report with
    | some (parent, q, hops) =>
      { n2 with parent := parent, pQuality := q, hops := hops, repCue := s.proc.procCue }
    | none => n2) s
  if moved then flap x old s1 else s1

/-- The receptions of a cue teach in canonical order; a locked partition skips them (R284, R299). -/
def hkLearnLoop (todo kept : List Learn) (s : State) : State :=
  match todo with
  | [] => modMesh (fun m => { m with learns := kept }) s
  | x :: rest =>
    if !isAlloc (node s x.node) then hkLearnLoop rest kept s
    else if isLocked s 1 (x.node % 8) then hkLearnLoop rest kept (countReg 0x3102C 1 s)
    else if hkFits s (owner x.node) 10 && !kept.any (fun k => owner k.node == owner x.node) then
      hkLearnLoop rest kept (learnOne x (hkCharge (owner x.node) 10 s))
    else hkLearnLoop rest (kept ++ [x]) s

/-- Learning of Housekeeping. -/
def hkLearn (s : State) : State := hkLearnLoop s.mesh.learns [] s

/-! ### LPM memory -/

/-- Group of an entry, in the order of R287. -/
def lpmRank (x : Lpm) : Nat := 2 * (128 - x.len) + (if x.ctx = 0xFFFF then 1 else 0)

/-- Valid entries with their slots, ascending. -/
def lpmEntries (s : State) : List (Nat × Lpm) :=
  s.mesh.lpm.filterMap fun e => e.2.map fun x => (e.1, x)

/-- The key of R288. -/
def sameKey (a b : Lpm) : Bool := a.pfx == b.pfx && a.len == b.len && a.ctx == b.ctx

/-- An entry written at a slot, counted, with its generation (R291). -/
def lpmPut (i : Nat) (x : Lpm) (s : State) : State :=
  modMesh (fun m => { m with
    lpmWrites := (m.lpmWrites + 1) % 2 ^ 32
    lpm := smSet none m.lpm i (some { x with gen := (m.lpmWrites + 1) % 256 }) }) s

/-- A slot cleared. -/
def lpmClear (i : Nat) (s : State) : State :=
  modMesh (fun m => { m with lpm := smSet none m.lpm i none }) s

/-- An entry deleted, counted (R288, R291). -/
def lpmDelete (i : Nat) (s : State) : State :=
  modMesh (fun m => { m with lpmWrites := (m.lpmWrites + 1) % 2 ^ 32 }) (lpmClear i s)

/-- An entry moved: written at its new slot, then the old slot cleared; a move down is counted
(R289, R294); the live register counts beside the engine's own count (R46). -/
def lpmMove (a b : Nat) (s : State) : State :=
  match smGet none s.mesh.lpm a with
  | none => s
  | some x =>
    let s1 := lpmClear a (lpmPut b x s)
    if b < a then setReg rFwdLpmDown (reg s1 rFwdLpmDown + 1) (modMesh (fun m => { m with lpmDown := m.lpmDown + 1 }) s1)
    else s1

/-- The first invalid slot from `i`, at most `k` slots on. -/
def lpmHoleUp (s : State) (i k : Nat) : Option Nat :=
  match k with
  | 0 => none
  | k + 1 => if i < 8192 then (if (smGet none s.mesh.lpm i).isNone then some i else lpmHoleUp s (i + 1) k) else none

/-- The nearest invalid slot below `i`. -/
def lpmHoleDown (s : State) (i : Nat) : Option Nat :=
  match i with
  | 0 => none
  | k + 1 => if (smGet none s.mesh.lpm k).isNone then some k else lpmHoleDown s k

/-- The next item of an insertion or rewrite: its cost, whether it writes the entry, and its effect; none
when the memory is full (R288 to R290, R292). -/
def lpmPlan (s : State) (x : Lpm) : Option (Nat × Bool × (State → State)) :=
  let es := lpmEntries s
  let r := lpmRank x
  match es.find? fun e => sameKey e.2 x with
  | some e => some (10, true, lpmPut e.1 x)
  | none =>
    if 8192 ≤ es.length then none
    else
      let low := es.filter fun e => decide (lpmRank e.2 ≤ r)
      let next := match low.getLast? with
        | some e => e.1 + 1
        | none => 0
      match lpmHoleUp s next 8192 with
      | some f =>
        if f = next then some (10, true, lpmPut f x)
        else
          let q := (smGet none s.mesh.lpm (f - 1)).map lpmRank
          match es.find? fun e => some (lpmRank e.2) == q with
          | some e => some (6, false, lpmMove e.1 f)
          | none => none
      | none =>
        let first := match es.find? fun e => decide (r ≤ lpmRank e.2) with
          | some e => e.1
          | none => 8192
        match lpmHoleDown s first with
        | some h =>
          if h + 1 = first then some (10, true, lpmPut h x)
          else
            let q := (smGet none s.mesh.lpm (h + 1)).map lpmRank
            match (es.filter fun e => some (lpmRank e.2) == q).getLast? with
            | some e => some (6, false, lpmMove e.1 h)
            | none => none
        | none => (lpmHoleUp s 0 8192).map fun h => (10, true, lpmPut h x)

/-- Entry `k` of a TABLE_WRITE of the LPM (R295). -/
def twLpm (c : Sub) (k : Nat) : Lpm :=
  let o := 32 * k
  { pfx := BitVec.ofNat 128 (beNat (slice c.data o 16)), ctx := uAt c.data (o + 16) 2
    len := uAt c.data (o + 18) 1, kind := uAt c.data (o + 19) 1, param := uAt c.data (o + 20) 2, gen := 0 }

/-- The operation at the front of Prompter 1's list moves to its next entry, or completes (R297). -/
def lpmAdvance (c : Sub) (k : Nat) (rest : List TabOp) (s : State) : State :=
  if k + 1 < twCount c then modMesh (fun m => { m with lpmOps := .write c (k + 1) :: rest }) s
  else twDone 9 stOk (k + 1) s.mesh.lpmWrites c (modMesh (fun m => { m with lpmOps := rest }) s)

/-- Prompter 1 relocates and writes LPM entries, item by item within its budget (R289, R290). -/
def hkLpmLoop (fuel : Nat) (s : State) : State :=
  match fuel with
  | 0 => s
  | f + 1 =>
    match s.mesh.lpmOps with
    | .write c k :: rest =>
      let x := twLpm c k
      if pU c 33 1 = 1 then
        if hkFits s 9 10 then
          let s1 := hkCharge 9 10 s
          let s2 := match (lpmEntries s1).find? fun e => sameKey e.2 x with
            | some e => lpmDelete e.1 s1
            | none => s1
          hkLpmLoop f (lpmAdvance c k rest s2)
        else s
      else
        match lpmPlan s x with
        | none =>
          hkLpmLoop f (twDone 9 stNoResource k s.mesh.lpmWrites c (modMesh (fun m => { m with lpmOps := rest }) s))
        | some (cost, last, g) =>
          if hkFits s 9 cost then
            let s1 := g (hkCharge 9 cost s)
            hkLpmLoop f (if last then lpmAdvance c k rest s1 else s1)
          else s
    | _ :: rest => hkLpmLoop f (modMesh (fun m => { m with lpmOps := rest }) s)
    | [] => s

/-- LPM work of Housekeeping; a locked LPM is left alone (R299). -/
def hkLpm (s : State) : State := if isLocked s 2 0 then s else hkLpmLoop 1024 s

/-! ### Map store -/

/-- Entry `id` of the map store; entry 0 is fixed (R140). -/
def mapEnt (s : State) (id : Nat) : MapEnt :=
  if id = 0 then { valid := true, codes := map0, check := mapCheck map0 } else smGet {} s.mesh.maps id

/-- The entry a map is found in, or the free entry it would take (R141). -/
def mapPlace (s : State) (codes : List Nat) : Option Nat :=
  if codes = map0 then some 0
  else
    match s.mesh.maps.find? fun e => e.2.valid && e.2.codes == codes with
    | some e => some e.1
    | none => (List.range 4096).find? fun i =>
        let e := mapEnt s i
        i != 0 && !e.valid && (e.codes.isEmpty || decide (e.freed + 2 ≤ sceneOf s s.proc.procCue))

/-- A map for a node written or found; its offer is then owed (R141, R144). DESIGN CHOICE (R141 and R144 say nothing of
a full store): with no entry free the request ends without a record, and the Stagehand builds a map again in a later
Scene. -/
def allocMap (i : Nat) (codes : List Nat) (s : State) : State :=
  match mapPlace s codes with
  | none => s
  | some id =>
    let s1 := if (mapEnt s id).valid then s else modMesh (fun m => { m with
        mapWrites := m.mapWrites + 1
        maps := smSet {} m.maps id { valid := true, codes := codes, check := mapCheck codes
                                     gen := (m.mapWrites + 1) % 256 } }) s
    modMesh (fun m => { m with ctxOps := m.ctxOps ++ [.offer i id codes] }) s1

/-- An entry whose count fell to 0 is marked invalid (R141). -/
def dropMap (s : State) (id : Nat) : State :=
  if (mapEnt s id).links = 0 ∧ id ≠ 0 then
    modMesh (fun m => { m with maps := smMod {} m.maps id fun e => { e with
      valid := false, freed := sceneOf s s.proc.procCue } }) s
  else s

/-- Maps passed to the Prompter, 10 units each; those that do not fit wait (R53). -/
def hkMapLoop (todo : List (Nat × List Nat)) (s : State) : State :=
  match todo with
  | [] => modMesh (fun m => { m with mapReqs := [] }) s
  | x :: rest =>
    if hkFits s 8 10 then hkMapLoop rest (allocMap x.1 x.2 (hkCharge 8 10 s))
    else modMesh (fun m => { m with mapReqs := todo }) s

/-- Entries freed, 10 units each; those that do not fit wait (R53). -/
def hkDropLoop (todo : List Nat) (s : State) : State :=
  match todo with
  | [] => modMesh (fun m => { m with mapDrops := [] }) s
  | x :: rest =>
    if hkFits s 8 10 then hkDropLoop rest (dropMap (hkCharge 8 10 s) x)
    else modMesh (fun m => { m with mapDrops := todo }) s


/-- A Stagehand leaves a link to be counted against an entry, or taken from one (R141, R143). -/
def linkMap (id : Nat) (up : Bool) (s : State) : State :=
  if id = 0 then s else modMesh (fun m => { m with mapLinks := m.mapLinks ++ [(id, up)] }) s

/-- A link counted against an entry, or taken from one, by the Prompter (R141). -/
def countLink (id : Nat) (up : Bool) (s : State) : State :=
    let s1 := modMesh (fun m => { m with maps := smMod {} m.maps id fun e => { e with
      links := if up then e.links + 1 else e.links - 1 } }) s
    if !up && (mapEnt s1 id).links == 0 then modMesh (fun m => { m with mapDrops := m.mapDrops ++ [id] }) s1
    else s1

/-- Links counted, 10 units each; those that do not fit wait (R53). -/
def hkLinkLoop (todo : List (Nat × Bool)) (s : State) : State :=
  match todo with
  | [] => modMesh (fun m => { m with mapLinks := [] }) s
  | x :: rest =>
    if hkFits s 8 10 then hkLinkLoop rest (countLink x.1 x.2 (hkCharge 8 10 s))
    else modMesh (fun m => { m with mapLinks := todo }) s

/-- Map store work of Housekeeping, in order. -/
def hkMaps (s : State) : State :=
  let s1 := hkLinkLoop s.mesh.mapLinks s
  let s2 := if s1.mesh.mapLinks.isEmpty then hkDropLoop s1.mesh.mapDrops s1 else s1
  if s2.mesh.mapLinks.isEmpty && s2.mesh.mapDrops.isEmpty then hkMapLoop s2.mesh.mapReqs s2 else s2

/-- Prompter 0 takes a map; one that is not legal is installed nowhere (R134). -/
def takeMap (i : Nat) (codes : List Nat) (s : State) : State :=
  if mapLegal codes then modMesh (fun m => { m with mapReqs := m.mapReqs ++ [(i, codes)] }) s else s

/-- Meaning of MAP_ALLOCATION: Prompter 0 takes a map that a Stagehand built; the store is written in
Housekeeping (R141, R144). -/
def execMapAllocation (i : Nat) (codes : List Nat) (s : State) : Host.Outcome State Fault Refusal :=
  .next (takeItem 8 10 (.row (.mapAllocation i codes)) (takeMap i codes) s)

/-! ### TABLE_READ -/

/-- Slots and entry size of a table (R293). -/
def tableSize (t : Nat) : Nat × Nat :=
  match t with
  | 0 => (24640, 16)
  | 1 => (16384, 24)
  | 2 => (8192, 32)
  | _ => (4096, 48)

/-- The bytes of an LPM entry (R295). -/
def lpmBytes (x : Lpm) (slot : Nat) : List Byte :=
  be 16 x.pfx.toNat ++ le 2 x.ctx ++ le 1 x.len ++ le 1 x.kind ++ le 2 x.param ++ le 1 x.gen ++ le 1 1 ++
    le 2 slot ++ le 6 0

/-- The entry of a table at a slot, as TABLE_READ writes it; none when not valid (R293). -/
def tableEntry (s : State) (t p i : Nat) : Option (List Byte) :=
  match t with
  | 0 => (addrSlot s p i).map fun x =>
      le 8 x.key.toNat ++ le 4 x.node ++ le 1 (ofBool x.iid) ++ le 1 x.gen ++ le 2 i
  | 1 =>
    let j := 8 * i + p
    if isAlloc (node s j) then some (le 4 j ++ le 4 0 ++ attBlock (node s j)) else none
  | 2 => (smGet none s.mesh.lpm i).map fun x => lpmBytes x i
  | _ =>
    let e := mapEnt s i
    if e.valid then some (le 1 1 ++ le 1 e.check.toNat ++ le 2 e.links ++ codeBytes e.codes ++ le 1 e.gen ++
      le 4 e.freed)
    else none

/-- The write count of a table or partition (R291, R294). -/
def tableCount (s : State) (t p : Nat) : Nat :=
  match t with
  | 0 => smGet 0 s.mesh.addrWrites p
  | 1 => smGet 0 s.mesh.attWrites p
  | 2 => s.mesh.lpmWrites
  | _ => s.mesh.mapWrites

/-- The Prompter that serves a table (R293). -/
def tableEngine (c : Sub) (_ : State) : Nat := if pU c 32 1 = 2 then 9 else 8

/-- TABLE_READ's action (R293, R294, R299). -/
def tableRead (e : Nat) (c : Sub) (s : State) : State :=
  let t := pU c 32 1
  let p := pU c 34 1
  let es := (List.range (pU c 40 2)).filterMap fun i => tableEntry s t p (pU c 36 4 + i)
  let down := if t = 2 then s.mesh.lpmDown % 65536 else 0
  let s1 := finish e 0x0040 stOk c (le 2 es.length ++ le 2 down ++ le 4 (tableCount s t p)) es.flatten s
  if bit (pU c 33 1) 0 then modMesh (fun m => { m with locks := m.locks ++ [⟨t, p, s.proc.procCue⟩] }) s1 else s1

/-- TABLE_READ (R293, R294, R299, R300). -/
def cmdTableRead : CmdSpec where
  op := 0x0040
  engine := tableEngine
  use := .written
  aside := false
  static := fun c =>
    let t := pU c 32 1
    decide (t ≤ 3) && decide (pU c 33 1 ≤ 1) && pZero c 35 35 && pZero c 42 63 &&
      decide (pU c 34 1 ≤ (if t ≤ 1 then 7 else 0))
  wrong := fun c s => bit (pU c 33 1) 0 && isLocked s (pU c 32 1) (pU c 34 1)
  check := fun c _ =>
    let t := pU c 32 1
    let n := pU c 40 2
    if n = 0 ∨ 4096 < n ∨ (tableSize t).1 < pU c 36 4 + n ∨ c.bufLen < n * (tableSize t).2 ∨
        (t = 3 ∧ bit (pU c 33 1) 0 = true)
    then some stBadParam else none
  cost := fun c _ => 50 + pU c 40 2
  act := tableRead

/-- Meaning of TABLE_READ. -/
def execTableRead (c : Sub) (s : State) : Host.Outcome State Fault Refusal :=
  .next (runCmd cmdTableRead (.row (.tableRead c)) c s)

/-! ### TABLE_WRITE -/

/-- A result kind and parameter (R275). -/
def kindOk (kind param : Nat) : Bool :=
  match kind with
  | 0 => param == 0
  | 1 => decide (param ≤ 8)
  | 2 => decide (param ≤ 63)
  | 3 => decide (param ≤ 15)
  | _ => false

/-- Entry `k` of a write of the LPM is valid (R295, R296). -/
def twLpmOk (c : Sub) (k : Nat) : Bool :=
  let x := twLpm c k
  decide (x.len ≤ 128) && x.pfx.toNat % 2 ^ (128 - x.len) == 0 &&
    (decide (x.ctx ≤ 8) || x.ctx == 0x100 || x.ctx == 0xFFFF) && kindOk x.kind x.param &&
    zeroAt c.data (32 * k + 26) 6

/-- The node index is allocated as Prompter 0 knows it: in a context, or by a change it has asked for (R18). -/
def allocKnown (s : State) (i : Nat) : Bool :=
  s.mesh.ctxOps.foldl (fun b o =>
    match o with
    | .place j _ => b || j == i
    | .free j => b && j != i
    | _ => b) (isAlloc (node s i))

/-- Entry `k` of a write of the address table is valid (R296). -/
def twAddrOk (s : State) (c : Sub) (k : Nat) : Bool :=
  let kind := uAt c.data (16 * k + 12) 1
  decide (kind ≤ 1) && (kind == 0 || allocKnown s (twAddr c k).1)

/-- A TABLE_WRITE names an EUI-64 key (R296). -/
def twEui (c : Sub) : Bool := (List.range (twCount c)).any fun k => uAt c.data (16 * k + 12) 1 == 0

/-- The owner's checks of a TABLE_WRITE (R296). -/
def twCheck (c : Sub) (s : State) : Option Nat :=
  let t := pU c 32 1
  let n := twCount c
  if t = 1 ∨ t = 3 then some stDenied
  else if n = 0 ∨ 256 < n ∨ c.length ≠ n * (if t = 2 then 32 else 16) then some stBadParam
  else if t = 2 then (if (List.range n).all (twLpmOk c) then none else some stBadParam)
  else if !(List.range n).all (twAddrOk s c) then some stBadParam
  else if twEui c then some stDenied
  else none

/-- A write to a locked LPM or a locked address partition (R300). -/
def twLocked (c : Sub) (s : State) : Bool :=
  if pU c 32 1 = 2 then isLocked s 2 0
  else pU c 32 1 == 0 && (List.range (min 256 (twCount c))).any fun k => isLocked s 0 ((twAddr c k).1 % 8)

/-- TABLE_WRITE's action: its entries wait for Housekeeping (R297). -/
def tableWrite (_ : Nat) (c : Sub) (s : State) : State :=
  if pU c 32 1 = 2 then modMesh (fun m => { m with lpmOps := m.lpmOps ++ [.write c 0] }) s
  else modMesh (fun m => { m with ops := m.ops ++ [.write c 0] }) s

/-- TABLE_WRITE (R296, R297). -/
def cmdTableWrite : CmdSpec where
  op := 0x0041
  engine := tableEngine
  use := .read
  aside := false
  static := fun c =>
    decide (pU c 32 1 ≤ 3) && decide (pU c 33 1 ≤ 1) && pZero c 34 35 && pZero c 38 63
  wrong := twLocked
  check := twCheck
  cost := fun c _ => 50 + twCount c
  act := tableWrite

/-- Meaning of TABLE_WRITE. -/
def execTableWrite (c : Sub) (s : State) : Host.Outcome State Fault Refusal :=
  .next (runCmd cmdTableWrite (.row (.tableWrite c)) c s)

/-! ### Locks -/

/-- TABLE_UNLOCK's action: the lock goes at the end of this cue's Housekeeping (R300). -/
def tableUnlock (e : Nat) (c : Sub) (s : State) : State :=
  match s.mesh.locks.find? fun l => l.table == pU c 32 1 && l.part == pU c 34 1 with
  | some l => finish e 0x0042 stOk c (le 4 l.cue.toNat) []
      (modMesh (fun m => { m with unlocks := m.unlocks ++ [l] }) s)
  | none => s

/-- TABLE_UNLOCK (R300). -/
def cmdTableUnlock : CmdSpec where
  op := 0x0042
  engine := tableEngine
  use := .none
  aside := false
  static := fun c =>
    decide (pU c 32 1 ≤ 3) && pZero c 33 33 && pZero c 35 63 &&
      decide (pU c 34 1 ≤ (if pU c 32 1 ≤ 1 then 7 else 0))
  wrong := fun c s => !isLocked s (pU c 32 1) (pU c 34 1)
  check := noCheck
  cost := cost10
  act := tableUnlock

/-- Meaning of TABLE_UNLOCK. -/
def execTableUnlock (c : Sub) (s : State) : Host.Outcome State Fault Refusal :=
  .next (runCmd cmdTableUnlock (.row (.tableUnlock c)) c s)

/-- The Prompter of a locked table. -/
def lockEngine (l : Lock) : Nat := if l.table = 2 then 9 else 8

/-- The lock has stood to the end of the Housekeeping of cue a+3 (R299). -/
def lockOver (s : State) (l : Lock) : Bool := decide (3 ≤ sdiff32 s.proc.procCue l.cue)

/-- Locks that TABLE_UNLOCK released go (R300). -/
def releaseLocks (s : State) : State :=
  modMesh (fun m => { m with locks := m.locks.filter fun l => !m.unlocks.contains l, unlocks := [] }) s

/-- Locks that run out leave their record (R299, R300). -/
def expireLocks (s : State) : State :=
  let gone := s.mesh.locks.filter (lockOver s)
  let s1 := modMesh (fun m => { m with locks := m.locks.filter fun l => !lockOver s l }) s
  gone.foldl (fun s l => emit (lockEngine l) 0x4002 0 0 0 0 s) s1

/-- The end of a Housekeeping: released locks go, then those that run out. -/
def hkLocks (s : State) : State := expireLocks (releaseLocks s)

/-- Meaning of LOCK_EXPIRY: at the end of the Housekeeping of cue a+3 (R299). -/
def execLockExpiry (s : State) : Host.Outcome State Fault Refusal :=
  .next (if s.proc.hkDone then expireLocks s else s)

end Sys2Proof.Machine
end

