-- ==== Sys2Proof/Machine/Contacts.lean ====
section
/-! DEFINITION. Node contexts and contacts: allocation and freeing (R234, R235, R254, R264), acceptance of
secured frames (R220, R452, R453, R466), what a contact teaches (R144, R174, R242, R284, R327), pending
downlinks (R229, R237, R262) and the answer to an uplink (R228, R250). -/

namespace Sys2Proof.Machine

/-! ### Allocation and freeing -/

/-- Present Scene of processing. -/
def nowScene (s : State) : Nat := sceneOf s s.proc.procCue

/-- The key is held back until the second Scene boundary after it was freed (R234). -/
def heldBack (l : List (Nat × Nat)) (k : Nat) : Bool := l.any fun x => x.1 == k

/-- A Scene boundary has passed: what was freed two Scenes ago may be allocated again (R234). -/
def ageFreed (s : State) : State :=
  let age (l : List (Nat × Nat)) : List (Nat × Nat) := (l.map fun x => (x.1, x.2 - 1)).filter fun x => x.2 != 0
  modMesh (fun m => { m with freed := age m.freed, freedShort := age m.freedShort }) s

/-- The Stagehand with the fewest allocated nodes, the lowest number on a tie (R234). -/
def fewestOwner (s : State) : Nat :=
  let l := allocated s
  let cnt (e : Nat) := (l.filter fun i => i % 8 == e).length
  (List.range 8).foldl (fun b e => if cnt e < cnt b then e else b) 0

/-- The lowest free index from `i` in steps of 8, at most `k` tries (R234). -/
def freeIndex (s : State) (i k : Nat) : Option Nat :=
  match k with
  | 0 => none
  | k + 1 => if !isAlloc (node s i) && !heldBack s.mesh.freed i then some i else freeIndex s (i + 8) k

/-- The lowest free short address of a PAN from `a`, at most `k` tries (R234). -/
def freeShort (s : State) (p a k : Nat) : Option Nat :=
  match k with
  | 0 => none
  | k + 1 =>
    if (nodeByAddr s (addrCompact p a)).isNone && !heldBack s.mesh.freedShort (65536 * p + a) then some a
    else freeShort s p (a + 1) k

/-- Why no node of this kind can be admitted, not counting the context that its join would free first: status of
R231 (R21, R234, R235). -/
def admitRefusalBut (s : State) (skip : Option Nat) (grand : Bool) (pan : Nat) : Option Nat :=
  let mine (i : Nat) : Bool := skip == some i
  let inPan (i : Nat) : Bool := !(node s i).grand && (node s i).pan == pan
  let l := (allocated s).filter fun i => !mine i
  if 131072 ≤ l.length then some 1
  else if !grand && (!panOn s pan || decide (panCapacity s pan ≤ (l.filter inPan).length)) then some 2
  else none

/-- Why no node of this kind can be admitted: status of R231 (R21, R234). -/
def admitRefusal (s : State) (grand : Bool) (pan : Nat) : Option Nat := admitRefusalBut s none grand pan

/-- The context of a joined node (R234, R239, R242, R444, R455). -/
def joinContext (i : Nat) (r : JoinRes) (s : State) : State :=
  let wrapped := wrapLink s i r.kLink
  modNode i (fun n => { n with
    st := .joining, stCue := s.proc.procCue, caps := r.req.caps, ppm := r.req.ppm
    wrapped := wrapped, devCtr := 0, win := 0, bits := 0, keySeq := 0, keyed := true
    mic16 := bit (cfgU s recSec 0 2) 1, grpOwed := s.sec.keys.pendKey.isSome
    hop := if n.grand then 5 + 2 * (i / 8 % 8) else 0
    intv := if n.grand then cfgU s recMesh 28 2 else 0
    lat := if n.grand then cfgU s recMesh 30 2 else 0
    sup := if n.grand then cfgU s recMesh 32 2 else 0
    map := if n.grand then BitVec.ofNat 128 (cfgU s recMesh 36 16) else 0 }) s

/-- The first anchor of a node (R242). -/
def setAnchor (i : Nat) (a : Stamp) (s : State) : State :=
  modNode i (fun n => { n with event := 0, nextWin := 0, arrival := a }) s

/-- The contexts as Prompter 0 knows them: as they stand, with what it has decided in this cue. -/
def ctxView (s : State) : State :=
  s.mesh.ctxOps.foldl (fun s o =>
    match o with
    | .place i n => modNode i (fun _ => n) s
    | .join i r => joinContext i r s
    | .anchor i a => setAnchor i a s
    | .free i => modNode i (fun _ => {}) s
    | .offer _ _ _ => s
    | .iid _ _ => s
    | .down _ _ _ => s) s

/-- A change of a context is left to its Stagehand (R18). -/
def askCtx (o : CtxOp) (s : State) : State := modMesh (fun m => { m with ctxOps := m.ctxOps ++ [o] }) s

/-- A new context: index, short address, key reserved; the status of R231 when refused, with the state
after the refusal's record (R234, R278, R282). -/
def allocNode (eui : BitVec 64) (grand : Bool) (pan : Nat) (st : NodeSt) (byAdmit : Bool) (s : State) :
    (Nat ⊕ Nat) × State :=
  let v := ctxView s
  match admitRefusal v grand pan with
  | some k => (.inl k, s)
  | none =>
    match freeIndex v (fewestOwner v) 16384, (if grand then some 0 else freeShort v pan 1 0xFFFD) with
    | some i, some a =>
      if !canPlace s i eui then (.inl 1, unplaceable false i eui s)
      else
        let s1 := askCtx (.place i { st := st, grand := grand, pan := pan, short := a, eui := eui, byAdmit := byAdmit
                                     stCue := s.proc.procCue, lastCue := s.proc.procCue }) s
        (.inr i, modMesh (fun m => { m with ops := m.ops ++ [.addKey i false eui] }) s1)
    | none, _ => (.inl 1, s)
    | _, none => (.inl 2, s)

/-- The result of a NODE_SEND: reason and cue of the last transmission (R262). -/
def sendResult (reason : Nat) (d : Downlink) : List Byte := le 1 reason ++ [0, 0, 0] ++ le 4 d.lastTx.toNat

/-- A downlink ends: its command completes, or a failed delivery is counted (R262, R277). -/
def endDown (e reason status : Nat) (d : Downlink) (s : State) : State :=
  match d.cmd with
  | some c => finish e 0x0020 status c (sendResult reason d) [] s
  | none => if reason = 0 then s else fwdFailed s

/-- A downlink of a node ends and leaves its pending downlinks. -/
def closeDown (i : Nat) (reason status : Nat) (d : Downlink) (s : State) : State :=
  endDown (owner i) reason status d
    (modNode i (fun n => { n with downs := n.downs.filter fun x => x.id != d.id }) s)

/-- The keys, index and short address of a context are given back (R234, R278). -/
def freeKeys (i : Nat) (s : State) : State :=
  let n := node s i
  modMesh (fun m => { m with
    ops := m.ops ++ [.delKey i false n.eui, .delKey i true 0]
    freed := m.freed.filter (fun x => x.1 != i) ++ [(i, 2)]
    freedShort := if n.grand then m.freedShort else m.freedShort ++ [(65536 * n.pan + n.short, 2)] }) s

/-- A context is cleared: pending commands end FLUSHED, a pending eviction with a status (R235, R254, R264). -/
def clearContext (evict : Nat) (i : Nat) (s : State) : State :=
  let n := node s i
  let e := owner i
  let s1 := n.downs.foldl (fun s d => endDown e 6 stFlushed d s) s
  let s2 := match n.upd with
    | some u => match u.cmd with
      | some c => done e 0x0050 stFlushed c s1
      | none => s1
    | none => s1
  let s3 := match n.leave with
    | some (_, some c, _) => done e 0x0031 evict c s2
    | _ => s2
  modNode i (fun _ => {}) (linkMap n.mapId false s3)

/-- A context is freed by its Stagehand; an eviction completes (R254, R264). -/
def freeNode (i : Nat) (s : State) : State := clearContext stOk i (freeKeys i s)

/-- Node-arrived and node-departed events (R236, R248, R620). -/
def nodeEvent (code i p4 : Nat) (s : State) : State :=
  let e := (node s i).eui.toNat
  emit (owner i) code i (e % 2 ^ 32) (e / 2 ^ 32) p4 s

/-- The node enters a state. -/
def setSt (i : Nat) (st : NodeSt) (s : State) : State :=
  modNode i (fun n => { n with st := st, stCue := s.proc.procCue }) s

/-! ### Acceptance of secured frames -/

/-- A frame dropped under R220. -/
def macDrop (s : State) : State := countReg 0x30034 1 s

/-- The replay window of R453: the window after an accepted counter; none when it is rejected. -/
def replayTake (h b c : Word32) : Option (Word32 × Word32) :=
  let hi := h.toNat
  let ci := c.toNat
  if hi < ci then some (c, if 32 ≤ ci - hi then 1 else (b <<< (ci - hi)) ||| 1)
  else if hi - ci < 32 ∧ b.getLsbD (hi - ci) = false then some (h, b ||| BitVec.ofNat 32 (2 ^ (hi - ci)))
  else none

/-- Why a secured frame fails (R452). -/
inductive SecFail where
  | keySeq
  | replay
  | mic
  | duplicate
  deriving DecidableEq, Repr

/-- A security failure of a node counted, with the alarm of R466 once per Scene. -/
def secFailure (i : Nat) (k : SecFail) (s : State) : State :=
  if k = .duplicate then countReg 0x33114 1 s
  else
    let s1 := match k with
      | .mic => countReg 0x33110 1 s
      | .replay => countReg 0x33114 1 s
      | _ => s
    let s2 := modNode i (fun n => { n with
      failures := min 65535 (n.failures + 1)
      micFails := n.micFails + ofBool (k == .mic)
      replays := n.replays + ofBool (k == .replay)
      badSeqs := n.badSeqs + ofBool (k == .keySeq) }) s1
    let n := node s2 i
    if !n.alarmed && decide (cfgU s recSec 4 2 ≤ n.failures) then
      emit (owner i) 0x8002 i n.micFails n.replays n.badSeqs (modNode i (fun n => { n with alarmed := true }) s2)
    else s2

/-- The key and source of a frame from node `i` (R449 to R452); none when its key sequence names no key
held. -/
def nodeKey (s : State) (i : Nat) (f : Frame) : Option (List Byte × List Byte) :=
  if f.group then (groupKeyBySeq s f.keySeq).map fun g => (groupKeyOf s g, groupSource (groupOrigin f))
  else if (node s i).keyed && (node s i).keySeq == f.keySeq then some (linkKey s i, linkSource (node s i).eui)
  else none

/-- The plain body of a frame from node `i` and its replay window, or the failure, in the order of R452. -/
def openFrom (s : State) (i : Nat) (f : Frame) : (List Byte × Word32 × Word32) ⊕ SecFail :=
  let n := node s i
  let c := BitVec.ofNat 32 f.ctr
  match nodeKey s i f with
  | none => .inr .keySeq
  | some (k, src) =>
    match replayTake n.win n.bits c with
    | none => .inr (if n.seen.contains c then .duplicate else .replay)
    | some (h, b) =>
      match openFrame k src f with
      | none => .inr .mic
      | some plain => .inl (plain, h, b)

/-- An accepted uplink (R452): its node, frame, elements, payload, reception, and the window it was heard
in. -/
structure Uplink where
  i       : Nat
  f       : Frame
  es      : List (Nat × List Byte)
  payload : List Byte
  rx      : Reception
  win     : Option WinEnt
  deriving DecidableEq, Repr

/-- The planned window of a reception of node `i` (R242). -/
def winOf (s : State) (rx : Reception) : Option WinEnt :=
  if rx.windowId = noWindow then none else s.mesh.wins.find? fun w => w.id == rx.windowId && w.line == rx.line

/-- A window's outcome has been taken; unless it was missed it is judged when the Work of the cue has
seen every contact (R244, R268). -/
def dropWin (rx : Reception) (s : State) : State :=
  match winOf s rx with
  | none => s
  | some w => modMesh (fun m => { m with
      wins := m.wins.erase w
      judge := if rx.outcome = 2 then m.judge else m.judge ++ [w] }) s

/-- The counter of an accepted frame taken into the replay window (R453). -/
def takeCounter (i : Nat) (f : Frame) (h b : Word32) (s : State) : State :=
  modNode i (fun n => { n with win := h, bits := b, seen := n.seen ++ [BitVec.ofNat 32 f.ctr] }) s

/-- The element carries no reserved encoding (R142, R219, R220). -/
def elemOk (e : Nat × List Byte) : Bool :=
  match e.1 with
  | 1 => decide (uAt e.2 1 2 < 4096) &&
      ((byteAt e.2 0 == 0 && e.2.length == 43) || (byteAt e.2 0 == 1 && e.2.length == 4))
  | 2 => e.2.length == 5 && addrOk (uAt e.2 0 3)
  | _ => true

/-- The payload is one that the frame type has (R216): a Reply its body with a code, a Control frame none. -/
def payloadOk (typ : Nat) (p : List Byte) : Bool :=
  match typ with
  | 2 => decide (4 ≤ p.length) && decide (byteAt p 1 ≤ 1)
  | 8 => p.isEmpty
  | _ => true

/-- The secured frame of a reception checked (R220, R452): the uplink, or none with the drop counted. -/
def acceptUplink (rx : Reception) (s : State) : Option Uplink × State :=
  match parseFrame (rxFrame rx) with
  | none => (none, macDrop s)
  | some f =>
    match nodeByAddr s (uplinkNode f) with
    | none => (none, macDrop s)
    | some i =>
      if !f.sec || f.dir || f.router != routerId s then (none, macDrop s)
      else
        match openFrom s i f with
        | .inr k => (none, macDrop (secFailure i k s))
        | .inl (plain, h, b) =>
          match splitBody f plain with
          | none => (none, macDrop (takeCounter i f h b s))
          | some (es, p) =>
            if es.all elemOk && payloadOk f.typ p then (some ⟨i, f, es, p, rx, winOf s rx⟩, takeCounter i f h b s)
            else (none, macDrop (takeCounter i f h b s))

/-- The owner of the node a reception names, the owner of Stagehand work by line otherwise. -/
def rxOwner (s : State) (rx : Reception) : Nat :=
  match parseFrame (rxFrame rx) with
  | some f =>
    match nodeByAddr s (uplinkNode f) with
    | some i => owner i
    | none => 0
  | none => 0

/-- Work units of a reception (R51). -/
def rxCost (s : State) (rx : Reception) : Nat :=
  match parseFrame (rxFrame rx) with
  | some f =>
    if f.sec && (nodeByAddr s (uplinkNode f)).isSome then 60 + 2 * blocksOf 16 f.body.length else 20
  | none => 20

/-! ### What a contact teaches -/

/-- The event of a contact outside a window: the one with the nearest anchor (R242). -/
def eventNear (n : Node) (t : Stamp) : Word32 :=
  if n.intv = 0 then n.event
  else eventAt n (plus t (eventTicks 1 n.intv / 2))

/-- The event of a contact (R242). -/
def contactEvent (u : Uplink) (n : Node) : Word32 :=
  match u.win with
  | some w => if w.node = u.i then w.event else eventNear n u.rx.arrival
  | none => eventNear n u.rx.arrival

/-- A schedule update whose event came before its first element was sent ends its command (R266). -/
def updateLapsed (i : Nat) (e : Word32) (s : State) : State :=
  match (node s i).upd with
  | some u =>
    match u.cmd with
    | some c => if 0 ≤ sdiff32 e u.event then done (owner i) 0x0050 stTimeout c s else s
    | none => s
  | none => s

/-- A contact re-anchors the context and ends its misses (R242, R254). -/
def reanchor (u : Uplink) (s : State) : State :=
  let e := contactEvent u (node s u.i)
  modNode u.i (fun n =>
    { takeUpdate e n with
      event := e, arrival := u.rx.arrival, misses := 0, lastCue := s.proc.procCue
      nextWin := if n.st == .dormant || decide (sdiff32 n.nextWin e ≤ 0) then e + 1 else n.nextWin })
    (updateLapsed u.i e s)

/-- The reception may teach offset and delay (R174). -/
def rxMeasures (rx : Reception) : Bool :=
  rx.status == 0 && !rx.flags.getLsbD 0 && decide (1000 ≤ rx.snr) && decide (20 ≤ rx.psdu.length)

/-- The offset ratio m of R174 for a reception on a plan entry. -/
def offsetRatio (offset : Int) (nco : Nat) : Int :=
  let den := (nco : Int) * 6400000000
  (2 * offset * 2 ^ 68 + den) / (2 * max 1 den)

/-- The learned offset ratio (R174). -/
def learnRho (u : Uplink) (s : State) : State :=
  if !rxMeasures u.rx then s
  else
    let m := offsetRatio u.rx.offset (ncoOf (planAt s (uplinkChannel s u.i u.f.typ u.win)).carrier)
    modNode u.i (fun n => { n with
      rho := if n.rhoSet then n.rho + Int.tdiv (m - n.rho) 4 else m
      rhoSet := true }) s

/-- The delay sample m of R327 of an uplink against the end of the last frame to the node. -/
def delaySample (u : Uplink) (s : State) : Option Int :=
  let n := node s u.i
  n.frameEnd.map fun e =>
    let pe := planAt s (uplinkChannel s u.i u.f.typ u.win)
    let x : Int := (1000 * usTicks + syncTime pe.pers pe.phy / 3 : Nat)
    (sdiff64 u.rx.arrival e - (x - (x * n.rho + 2 ^ 39) / 2 ^ 40)) / 2

/-- The uplink is the answer to the last device frame (R229): its delay sample lies in the range of R327. -/
def isAnswer (u : Uplink) (s : State) : Bool :=
  match delaySample u s with
  | some m => decide (-(usTicks : Int) ≤ m) && decide (m ≤ 50 * (usTicks : Int))
  | none => false

/-- The delay estimate (R327). -/
def learnDelay (u : Uplink) (s : State) : State :=
  if (u.f.typ = 1 ∨ u.f.typ = 2) ∧ rxMeasures u.rx = true ∧ isAnswer u s = true then
    match delaySample u s with
    | some m => modNode u.i (fun n => { n with delay := some (match n.delay with
        | some d => d + Int.tdiv (m - d) 8
        | none => m) }) s
    | none => s
  else s

/-- The parent report of a frame (R219). -/
def parentReport (es : List (Nat × List Byte)) : Option (BitVec 24 × Nat × Nat) :=
  (es.find? fun e => e.1 == 2 && e.2.length == 5).map fun e =>
    (BitVec.ofNat 24 (uAt e.2 0 3), byteAt e.2 3, byteAt e.2 4)

/-- An accepted secured reception is queued for learning (R284). -/
def queueLearn (i : Nat) (rx : Reception) (es : List (Nat × List Byte)) (s : State) : State :=
  modMesh (fun m => { m with learns := m.learns ++
    [⟨i, rx.port, rx.line, (clampI 0 255 (rx.snr / 50)).toNat, parentReport es⟩] }) s

/-! ### Bit-loading maps -/

/-- Thresholds of R144 by code, in 0.25 dB. -/
def mapThreshold (c : Nat) : Nat := [0, 28, 40, 64, 88, 112].getD c 0

/-- The code of a subcarrier (R144 step 1). -/
def mapCode (snr margin : Nat) : Nat :=
  (List.range 6).foldl (fun b c => if c ≠ 0 ∧ mapThreshold c + margin ≤ snr then c else b) 0

/-- The subcarrier with the least value of `f` among those that hold `p`; the lowest on a tie. -/
def leastSub (l : List (Nat × Nat)) (p : Nat × Nat → Bool) (f : Nat × Nat → Int) : Option Nat :=
  ((List.range l.length).foldl (fun (best : Option (Nat × Int)) d =>
    let x := l.getD d (0, 0)
    if !p x then best
    else
      match best with
      | some (_, v) => if f x < v then some (d, f x) else best
      | none => some (d, f x)) none).map Prod.fst

/-- Step 2 of R144: lower the subcarrier least above its threshold while the sum exceeds 600. -/
def lowerMap (fuel margin : Nat) (l : List (Nat × Nat)) : List (Nat × Nat) :=
  match fuel with
  | 0 => l
  | k + 1 =>
    if mapSum (l.map Prod.snd) ≤ 600 then l
    else
      match leastSub l (fun x => x.2 != 0) (fun x => (x.1 : Int) - margin - mapThreshold x.2) with
      | some d => lowerMap k margin (setAt l d ((l.getD d (0, 0)).1, (l.getD d (0, 0)).2 - 1))
      | none => l

/-- The map of R144 for the subcarrier SNRs of an extension. -/
def buildMap (ext : List Nat) (margin : Nat) : List Nat :=
  let l1 := lowerMap 520 margin (ext.map fun v => (v, mapCode v margin))
  let l2 := if mapSum (l1.map Prod.snd) % 2 = 0 then l1
    else
      match leastSub l1 (fun x => x.2 == 1) (fun x => (x.1 : Int)) with
      | some d => setAt l1 d ((l1.getD d (0, 0)).1, 0)
      | none => l1
  let codes := l2.map Prod.snd
  if mapSum codes < 24 then map0 else codes

/-- A receive map built at most once per Scene and passed to Prompter 0 when it differs (R144). -/
def considerMap (u : Uplink) (s : State) : State :=
  let n := node s u.i
  if phyOf u.rx.pers.toNat != .lofdm || u.rx.status != 0 || u.rx.ext.isEmpty || n.mapCue == some (nowScene s) then s
  else
    let codes := buildMap u.rx.ext (4 * cfgU s recMesh 20 1)
    let s1 := modNode u.i (fun n => { n with mapCue := some (nowScene s) }) s
    if codes = (mapEnt s n.mapId).codes then s1
    else post (owner u.i) 8 (.row (.mapAllocation u.i codes)) false s1

/-- A map element of a node (R134, R142, R143). DESIGN CHOICE (the manual gives no outcome): an offer whose map check
is not that of its codes is ignored without a record. -/
def mapElement (i : Nat) (b : List Byte) (s : State) : State :=
  let id := uAt b 1 2 % 4096
  let chk := byteAt b 3
  let n := node s i
  if byteAt b 0 = 0 ∧ b.length = 43 then
    let codes := mapCodes (b.drop 4)
    if !mapLegal codes then emit (owner i) 0x4004 0 0 0 0 s
    else if (mapCheck codes).toNat ≠ chk then s
    else modNode i (fun n => { n with txNew := some (id, codes) }) s
  else if byteAt b 0 = 1 ∧ b.length = 4 then
    let e := mapEnt s id
    if e.valid && e.check.toNat == chk && id != n.mapId then
      modNode i (fun n => { n with mapId := id }) (linkMap n.mapId false (linkMap id true s))
    else s
  else s

/-! ### Pending downlinks -/

/-- A downlink waits for the Reply of node `i` to its hop frame. -/
def awaitsHop (i : Nat) (d : Downlink) : Bool := d.sent && !d.acked && d.hop == i

/-- The uplink is a Reply with a code to the frame of a downlink (R216). -/
def repliesTo (u : Uplink) (d : Downlink) (code : Nat) : Bool :=
  u.f.typ == 2 && byteAt u.payload 0 == d.seqNo && byteAt u.payload 1 == code

/-- A hop Reply for a downlink: to its hop frame (R229, R262). -/
def hopReply (u : Uplink) (d : Downlink) (ans : Bool) : Bool :=
  awaitsHop u.i d && (repliesTo u d 0 || (u.f.typ == 1 && ans))

/-- A Reply of the destination, relayed for a routed frame (R262). -/
def endReply (u : Uplink) (d : Downlink) : Bool :=
  d.acked && d.dest == u.i && repliesTo u d 0

/-- A pending downlink of node `i` changed. -/
def modDown (i id : Nat) (f : Downlink → Downlink) (s : State) : State :=
  modNode i (fun n => { n with downs := n.downs.map fun x => if x.id = id then f x else x }) s

/-- A change of a pending downlink by its own Stagehand; a frame that goes on air uses an attempt (R262). -/
def applyDown (i id : Nat) (k : DownOp) (s : State) : State :=
  match (node s i).downs.find? fun d => d.id == id with
  | none => s
  | some d =>
    match k with
    | .sent hop seq => modDown i id (fun x => { x with
        sent := true, hop := hop, seqNo := seq, tries := x.tries - 1, frameEnd := none, nums := none, wait := none }) s
    | .onAir c e => modDown i id (fun x => { x with lastTx := c, frameEnd := some e }) s
    | .acked => modDown i id (fun x => { x with acked := true }) s
    | .retry w => modDown i id (fun x => { x with
        sent := false, wait := w, tries := if w.isSome then x.tries + 1 else x.tries }) s
    | .close reason st => closeDown i reason st d s

/-- Engine `e` changes a pending downlink: at once when the node is its own, else through its Stagehand (R18). -/
def onDown (e i id : Nat) (k : DownOp) (s : State) : State :=
  if owner i = e then applyDown i id k s else askCtx (.down i id k) s

/-- What an uplink does to one downlink (R216, R262): completed, acknowledged at its hop, or to be sent again, after
a RETRY not before its retry after. DEDUCED: a RETRY is a node Reply, so the attempt counts against no retry. -/
def settleDown (u : Uplink) (ans : Bool) (s : State) (d : Downlink) : State :=
  let on (k : DownOp) : State := onDown (owner u.i) d.dest d.id k s
  if endReply u d then on (.close 0 stOk)
  else if hopReply u d ans then (if !d.ack || d.dest == u.i then on (.close 0 stOk) else on .acked)
  else if awaitsHop u.i d && repliesTo u d 1 then
    on (.retry (some (s.proc.procCue + BitVec.ofNat 32 (uAt u.payload 2 2))))
  else if awaitsHop u.i d && d.frameEnd.isSome then (if d.tries = 0 then on (.close 1 stTimeout) else on (.retry none))
  else s

/-- Every pending downlink, oldest first. -/
def allDowns (s : State) : List Downlink :=
  sortBy (fun a b => decide (a.id < b.id)) ((allocated s).flatMap fun i => (node s i).downs)

/-- An uplink settles the downlinks that wait on it (R262). -/
def settleDowns (u : Uplink) (s : State) : State :=
  (allDowns s).foldl (settleDown u (isAnswer u s)) s

/-- The downlink may be sent in this cue. -/
def maySend (s : State) (d : Downlink) : Bool :=
  !d.sent && !d.acked && decide (0 < d.tries) && d.wait.all (fun w => decide (0 ≤ sdiff32 s.proc.procCue w)) &&
    !s.mesh.ctxOps.any fun o => match o with
      | .down i id _ => i == d.dest && id == d.id
      | _ => false

/-- Downlinks that may be sent at a contact of node `i`: its own, and those whose route starts with it, once their
Stagehand has numbered them. -/
def readyDowns (s : State) (i : Nat) : List Downlink :=
  (allDowns s).filter fun d => maySend s d && (d.dest == i || d.nums.isSome) &&
    (match routeTo s d.dest with
      | some (f :: _) => f == i
      | _ => false)

/-- A routed downlink takes a sequence and a counter of its node for its next sending (R215, R450). -/
def numberDown (i : Nat) (d : Downlink) (s : State) : State :=
  let (q, s1) := nextSeq (owner i) s
  let c := (node s i).devCtr
  let s2 := modDown i d.id (fun x => { x with nums := some (q, c) }) (modNode i (fun n => { n with devCtr := c + 1 }) s1)
  if c = 0xFFFFFFFE then emit (owner i) 0x8003 i 0 0 0 s2 else s2

/-- Routed downlinks that are to be numbered. -/
def unnumbered (s : State) : List Downlink :=
  (allDowns s).filter fun d => maySend s d && d.nums.isNone && !keySpent (node s d.dest) &&
    (match routeTo s d.dest with
      | some (f :: _) => f != d.dest
      | _ => false)

/-- Stagehands number their routed downlinks in Housekeeping, 10 units each (R53). -/
def hkNumber (s : State) : State :=
  (unnumbered s).foldl (fun s d =>
    let e := owner d.dest
    if hkFits s e 10 && !keySpent (node s d.dest) then numberDown d.dest d (hkCharge e 10 s) else s) s

/-- A change of a context as its Stagehand writes it (R18). -/
def applyCtx (o : CtxOp) (s : State) : State :=
  match o with
  | .place i n => modNode i (fun _ => n) s
  | .join i r => if isAlloc (node s i) then joinContext i r s else s
  | .anchor i a => if isAlloc (node s i) then setAnchor i a s else s
  | .offer i id codes =>
    if isAlloc (node s i) then modNode i (fun n => { n with offer := some id, mapCodes := codes }) s else s
  | .free i => clearContext stFlushed i s
  | .iid i k => if isAlloc (node s i) then modNode i (fun n => { n with iid := k }) s else s
  | .down i id k => applyDown i id k s

/-- The node of a change. -/
def ctxNode (o : CtxOp) : Nat :=
  match o with
  | .place i _ => i
  | .join i _ => i
  | .anchor i _ => i
  | .offer i _ _ => i
  | .free i => i
  | .iid i _ => i
  | .down i _ _ => i

/-- Changes of contexts written in Housekeeping, 10 units each to the node's Stagehand; those that do not fit and
every later one of the same Stagehand wait (R53). -/
def hkCtxLoop (todo : List CtxOp) (late : List CtxOp) (s : State) : State :=
  match todo with
  | [] => modMesh (fun m => { m with ctxOps := late }) s
  | o :: rest =>
    let e := owner (ctxNode o)
    if (late.any fun x => owner (ctxNode x) == e) || !hkFits s e 10 then hkCtxLoop rest (late ++ [o]) s
    else hkCtxLoop rest late (applyCtx o (hkCharge e 10 s))

/-- The Stagehands write their contexts and number their routed downlinks (R18). -/
def hkContexts (s : State) : State := hkNumber (hkCtxLoop s.mesh.ctxOps [] s)

/-- The reply body (R216). -/
def replyBody (seq code retry : Nat) : List Byte := le 1 seq ++ le 1 code ++ le 2 retry

/-! ### Answers -/

/-- The first frame to a Grand node at a contact carries a due time element (R325, R328). -/
def timeElement (s : State) (i chan : Nat) (start : Stamp) : List (Nat × List Byte) :=
  let n := node s i
  if timeElementDue s n then [(8, timeBody s n (timeInstant s chan start))] else []

/-- A time element was sent to a node. -/
def timeSentTo (i : Nat) (s : State) : State :=
  modNode i (fun n => { n with
    timeDue := false, timeSent := some (s.proc.procCue, s.time.tb1.steps, n.delay.getD 0) }) s

/-- A frame to node `i` with its due elements, left out when they would make it too long (R221); `heard` is the sync
point of the uplink that it answers (R240). -/
def sendWith (i chan : Nat) (heard start : Stamp) (coex : Bool) (f : Frame) (payload : List Byte) (use : TxUse)
    (s : State) : State :=
  let te := timeElement s i chan start
  let es := dueElements s i heard ++ te
  let eb := elemBytes es
  let pe := planAt s chan
  let fits := decide (13 + (hopBytes f).length + eb.length + payload.length + (if f.mic16 then 16 else 8) ≤
    frameLimit pe.pers pe.phy) && !es.isEmpty
  let body := if fits then eb ++ payload else payload
  let s1 := sendTo i chan start coex { f with ie := fits, body := body } use (fits && !te.isEmpty) s
  if !fits then s1
  else
    let s2 := elementsSent s i s1
    if te.isEmpty then s2 else timeSentTo i s2

/-- The answer carries a downlink of the node itself: a Reply with its payload (R237, R262). -/
def sendDirect (i chan : Nat) (heard start : Stamp) (seq : Nat) (d : Downlink) (more : Bool) (s : State) : State :=
  let pe := planAt s chan
  if frameLimit pe.pers pe.phy < downLen 1 d.payload.length d.mic16 then closeDown i 4 stBadParam d s
  else
    let f := { blankFrame 2 (nodeAddr s i) with ackReq := true, more := more, mic16 := d.mic16 }
    sendWith i chan heard start d.coexPri f (replyBody seq 0 0 ++ d.payload) (.down i d.id)
      (onDown (owner i) i d.id (.sent i (nextSeq (owner i) s).1) s)

/-- The answer carries a routed downlink: a Data frame with its route header, secured for its destination under the
numbers its Stagehand gave it; an L-OFDM frame uses the map of the node that receives it (R143, R217, R259, R260). -/
def sendRouted (i chan : Nat) (start : Stamp) (d : Downlink) (path : List Nat) (more : Bool) (s : State) :
    State :=
  let pe := planAt s chan
  if frameLimit pe.pers pe.phy < downLen path.length d.payload.length d.mic16 then
    onDown (owner i) d.dest d.id (.close 4 stBadParam) s
  else
    match d.nums with
    | none => s
    | some (q, c) =>
      let n := node s d.dest
      let h := node s i
      let f := { blankFrame 1 (nodeAddr s i) with
        sec := true, ackReq := true, more := more, mic16 := d.mic16, seq := q, router := routerId s
        keySeq := n.keySeq, ctr := c.toNat, route := some (0, path.map (nodeAddr s)), body := d.payload }
      let bytes := frameBytes (sealFrame (linkKey s d.dest) (linkSource n.eui) f)
      sendReq (owner i) (planReq s (owner i) chan start h.rho d.coexPri h.txMap
        (if h.txCodes.isEmpty then map0 else h.txCodes) bytes) (.down d.dest d.id) none
        (onDown (owner i) d.dest d.id (.sent i q) s)

/-- The link field and route header of an answer: the node itself, or for a relayed uplink the relay that sent it,
and the addresses back to the origin (R215, R217). -/
def backTo (u : Uplink) (s : State) : Nat × Option (Nat × List Nat) :=
  match u.f.route with
  | some (_, l) =>
    match l.reverse with
    | a :: b :: r => (a, some (0, a :: b :: r))
    | _ => (nodeAddr s u.i, none)
  | none => (nodeAddr s u.i, none)

/-- A plain Reply, or a Control frame for due elements alone (R216, R237, R254, R458). -/
def sendPlain (u : Uplink) (chan : Nat) (start : Stamp) (more : Bool) (s : State) : State :=
  let n := node s u.i
  let due := !(dueElements s u.i start).isEmpty || n.timeDue
  let leave := n.leave.isSome
  let use : TxUse := if leave then .leave u.i else if more then .reply u.i else .other
  if u.f.ackReq || more then
    let f := { blankFrame 2 (backTo u s).1 with
      ackReq := leave, more := more, mic16 := n.mic16, route := (backTo u s).2 }
    sendWith u.i chan u.rx.arrival start false f (replyBody u.f.seq 0 0) use s
  else if due then
    sendWith u.i chan u.rx.arrival start false
      { blankFrame 8 (backTo u s).1 with ackReq := leave, mic16 := n.mic16, route := (backTo u s).2 } [] use s
  else s

/-- The answer to an accepted uplink of a node that was met as expected (R228, R229, R237, R262). -/
def answerUplink (u : Uplink) (s : State) : State :=
  let i := u.i
  let chan := uplinkChannel s i u.f.typ u.win
  let start := answerStart s u.rx
  let l := readyDowns s i
  let more := decide (2 ≤ l.length)
  match l with
  | d :: _ =>
    if sendBlocked s i chan start (downLen 1 d.payload.length d.mic16) then s
    else if d.dest = i then sendDirect i chan u.rx.arrival start u.f.seq d more s
    else if u.f.ackReq then sendPlain u chan start true s
    else
      match routeTo s d.dest with
      | some path => sendRouted i chan start d path more s
      | none => s
  | [] => if sendBlocked s i chan start 64 then s else sendPlain u chan start false s

/-- Answers of one contact are at most 8 (R229): an answer that is sent counts, and the count starts again with an
uplink that does not answer a device frame. -/
def withinExchange (u : Uplink) (answer : State → State) (s : State) : State :=
  let k := if isAnswer u s then (node s u.i).answers else 0
  let count (n : Nat) (s : State) : State := modNode u.i (fun x => { x with answers := n }) s
  if 8 ≤ k then s
  else
    let t := answer s
    count (if t.mesh.items = s.mesh.items then k else k + 1) t

/-! ### The elements and the whole of an uplink -/

/-- Fields of a node's Tour progress (R556). -/
def tourField (n : Node) (k : Nat) : Nat := n.tour.getD k 0

/-- The node belongs to Tour `id` (R556). -/
def inTour (id : Nat) (n : Node) : Bool := !n.tour.isEmpty && tourField n 0 == id && tourField n 1 != 0

/-- A report of node `i`, as its Stagehand takes it (R556): the progress in its context, and the report posted to
Stagehand 0. One for a finished Tour, and one of a node that is not targeted or complete already, is dropped (R558). -/
def noteReport (x : TourRep) (s : State) : State :=
  match s.upd.tour with
  | none => s
  | some t =>
    let n := node s x.node
    if t.ending.isSome || x.tour != t.id || !inTour t.id n || tourField n 1 == 3 then s
    else
      let st := if x.complete then 3 else if x.refused || x.hashFail then 4 else 2
      post (owner x.node) 0 (.row (.tourReport x)) false
        (modNode x.node (fun n => { n with tour := [t.id, st, x.first, x.held, t.round, 0] }) s)

/-- A Tour report (R553, R556). -/
def tourElement (i : Nat) (b : List Byte) (s : State) : State :=
  if b.length ≠ 16 then s
  else
    let fl := byteAt b 1
    noteReport { node := i, tour := byteAt b 0, complete := bit fl 0, refused := bit fl 1, hashFail := bit fl 2
                 first := uAt b 2 2, held := uAt b 4 2, map := BitVec.ofNat 64 (uAt b 8 8) } s

/-- The elements of an accepted frame that change the context at once (R142, R556). -/
def takeElement (i : Nat) (s : State) (e : Nat × List Byte) : State :=
  match e.1 with
  | 1 => mapElement i e.2 s
  | 0x12 => tourElement i e.2 s
  | _ => s

/-- The state of R254 after a contact, with its event; the formerly dormant node arrives again. -/
def contactState (i : Nat) (s : State) : State :=
  match (node s i).st with
  | .joining => nodeEvent 0x3001 i 0 (setSt i .active s)
  | .drifting => setSt i .active s
  | .searching => setSt i .active s
  | .dormant => nodeEvent 0x3001 i 1 (setSt i .active s)
  | _ => s

/-- The node acknowledges its leave (R254). -/
def leaveAcked (u : Uplink) (s : State) : Bool :=
  (node s u.i).leaveSent && (u.f.typ == 2 || (u.f.typ == 1 && isAnswer u s))

/-- An accepted uplink: contact, learning, elements, downlinks, then the answer (R228, R242, R250, R254). -/
def contact (u : Uplink) (forward : State → State) (s : State) : State :=
  let was := (node s u.i).st
  let s1 := queueLearn u.i u.rx u.es (considerMap u (learnDelay u (learnRho u s)))
  let leaving := leaveAcked u s1
  let s2 := u.es.foldl (takeElement u.i) (settleDowns u s1)
  let s3 := contactState u.i (reanchor u s2)
  let s4 := forward s3
  if leaving then freeNode u.i s4
  else if u.f.typ = 7 ∨ was = .searching ∨ was = .dormant then
    withinExchange u (fun s =>
      extraBeacon u.i (uplinkChannel s u.i u.f.typ u.win) (!(readyDowns s u.i).isEmpty) u.rx s) s4
  else withinExchange u (answerUplink u) s4

end Sys2Proof.Machine
end

