-- ==== Sys2Proof/Machine/Join.lean ====
section
/-! DEFINITION. Audition and join (R230 to R236, R442 to R446), node admission and eviction (R264), and the
timers of node states (R238, R247, R248, R254, R262). -/

namespace Sys2Proof.Machine

/-! ### While a waiting record changes the plan -/

/-- Router ID, plan entries and used plan bytes of a mesh access record. -/
def planIdentity (b : Nat → Byte) : List Byte :=
  let n := (b 56).toNat
  [b 0, b 1, b 56] ++ (List.range (16 * n)).map fun i => b (704 + i)

/-- A waiting record changes the router ID or the channel plan: no node index is allocated (R270). -/
def allocBlocked (s : State) : Bool :=
  match (cfgOf s recMesh).wait with
  | some (b, _, _) => planIdentity (fun i => b.getD i 0) != planIdentity (cfgByte s recMesh)
  | none => false

/-! ### Randomness -/

/-- The next output of engine `e` in this cue (R440). -/
def drawOut (e : Nat) (s : State) : List Byte × State :=
  (sha256 (s.proc.draw ++ be 4 s.proc.procCue.toNat ++ be 1 e ++ be 4 (eng s e).draws),
    modEng e (fun g => { g with draws := g.draws + 1 }) s)

/-- An ECDSA signature of the Box Office, with new nonces until r and s are not 0 (R440). -/
def boxSign (tries d : Nat) (hash : List Byte) (s : State) : List Byte × State :=
  match tries with
  | 0 => (List.replicate 64 0, s)
  | k + 1 =>
    let (a, s1) := drawOut 11 s
    let (b, s2) := drawOut 11 s1
    match ecdsaSign (beNat (a ++ b) % (n256 - 1) + 1) d hash with
    | some sig => (sig, s2)
    | none => boxSign k d hash s2

/-- The router's private scalar d_R; 0 while no router key is installed. -/
def routerScalar (s : State) : Nat := beNat ((keyUnwrap (kInst s) s.sec.keys.priv).getD [])

/-! ### Audition -/

/-- Kind codes of R230 and R231. -/
def kindCode (grand : Bool) : Nat := if grand then 2 else 1

/-- A frame that Prompter 0 sends without security to a node that has not joined (R216, R228): on the plan entry of
the uplink's window, or the channel of its frame type; one too long for the channel is not sent (R221). -/
def prompterSend (fixed : Nat) (rx : Reception) (f : Frame) (s : State) : State :=
  let chan := ((winOf s rx).map (·.chan)).getD fixed
  let (q, s1) := nextSeq 8 s
  let b := frameBytes { f with router := routerId s, seq := q }
  let r := planReq s 8 chan (answerStart s rx) 0 false 0 map0 b
  if frameLimit (planAt s chan).pers (planAt s chan).phy < b.length ∨ inKeepOut s chan r.start (airTicks r) = true then s
  else sendReq 8 r .other none s1

/-- Retry after of R232. -/
def retryAfter (s : State) : Nat := 4 + 2 * s.mesh.joins

/-- An unsecured uplink for this router (R220): the frame, its elements and its payload of `n` octets. -/
def plainUplink (s : State) (typ n : Nat) (anyRouter : Bool) (rx : Reception) :
    Option (Frame × List (Nat × List Byte) × List Byte) :=
  match parseFrame (rxFrame rx) with
  | none => none
  | some f =>
    if f.typ != typ || f.sec || f.dir || !(f.router == routerId s || (anyRouter && f.router == 0xFFFF)) then none
    else
      match splitBody f f.body with
      | some (es, p) => if p.length = n then some (f, es, p) else none
      | none => none

/-- No field of an audition request is reserved (R230). -/
def auditOk (b : List Byte) : Bool :=
  uAt b 8 2 < 32 && byteAt b 10 < 32 && byteAt b 10 % 4 != 3 && decide (1 ≤ byteAt b 11) &&
    decide (byteAt b 11 ≤ 200) && zeroAt b 14 2

/-- The answer to an audition (R231): status, kind offered, PAN; a context that the join would free first (R235) takes
no place. -/
def auditAnswer (s : State) (b : List Byte) : Nat × Bool × Nat :=
  let w := byteAt b 10
  let mains := bit (byteAt b 8) 0
  let held := match nodeByEui s (BitVec.ofNat 64 (uAt b 0 8)) with
    | some i => (node s i).byAdmit
    | none => false
  let grand := if w % 4 = 0 then mains && grandOn s else w % 4 == 2
  let pan := if w % 4 = 0 then roomyPan s else some (w / 4 % 8)
  if joinPolicy s = 2 then (4, grand, 0)
  else if joinPolicy s = 1 ∧ held = false then (3, grand, 0)
  else if uAt b 12 2 ≠ planCheck s then (5, grand, 0)
  else if grand && !grandOn s then ((engineOpen 3 s).toNat % 256, grand, 0)
  else if held then (0, grand, (pan.getD 0))
  else
    match admitRefusalBut s (nodeByEui s (BitVec.ofNat 64 (uAt b 0 8))) grand (pan.getD 0) with
    | some k => (k, grand, 0)
    | none => if grand then (0, true, 0) else match pan with
      | some p => (0, false, p)
      | none => (2, false, 0)

/-- Prompter 0 answers an audition request (R231). -/
def audition (rx : Reception) (s : State) : State :=
  match plainUplink s 3 16 true rx with
  | none => macDrop s
  | some (_, _, b) =>
    if !auditOk b then macDrop s
    else if allocBlocked s then s
    else
      let (st, grand, pan) := auditAnswer (ctxView s) b
      let ok := st == 0
      let a : Audit := { eui := BitVec.ofNat 64 (uAt b 0 8), caps := BitVec.ofNat 16 (uAt b 8 2), ppm := byteAt b 11
                         wanted := BitVec.ofNat 8 (byteAt b 10), grand := grand, pan := pan }
      let body := slice b 0 8 ++ le 1 st ++ le 1 (kindCode grand) ++ le 1 pan ++
        le 1 (joinChan s) ++ le 2 (retryAfter s) ++ le 2 0
      let s1 := modMesh (fun m => { m with
        fresh := m.fresh + 1
        audits := m.audits.filter (fun x => x.eui != a.eui) ++ (if ok then [a] else []) }) s
      prompterSend (auditionChan s) rx { blankFrame 4 addrNone with body := body } s1

/-- Meaning of AUDITION_REQUEST. -/
def execAuditionRequest (rx : Reception) (s : State) : Host.Outcome State Fault Refusal :=
  .next (takeItem 8 120 (.row (.auditionRequest rx)) (fun s => dropWin rx (audition rx s)) s)

/-! ### Join request -/

/-- A Reply with code RETRY to a join frame (R216, R232). -/
def joinRetry (rx : Reception) (f : Frame) (s : State) : State :=
  prompterSend (joinChan s) rx { blankFrame 2 addrNone with body := replyBody f.seq 1 (retryAfter s) } s

/-- The offer of a join request (R442). -/
def offerOf (es : List (Nat × List Byte)) : Option (List Byte) :=
  (es.find? fun e => e.1 == 6 && e.2.length == 148 && byteAt e.2 0 == 0 && decide (byteAt e.2 1 ≤ 3)).map Prod.snd

/-- The result of a completed join is dropped, and the old context of its EUI-64 is freed (R235): its keys are given
back now, its Stagehand clears it. -/
def replaceContext (eui : BitVec 64) (s : State) : State :=
  let s1 := modMesh (fun m => { m with results := m.results.filter fun r => r.1 != eui }) s
  let v := ctxView s1
  match nodeByEui v eui with
  | some i =>
    if (node v i).st = .admitted then s1
    else
      let keys := (freeKeys i v).mesh
      emit 8 0x300A 0 0 0 0 (askCtx (.free i) (modMesh (fun m => { m with
        ops := keys.ops, freed := keys.freed, freedShort := keys.freedShort }) s1))
  | none => s1

/-- The audition that a join request rests on (R230 to R232, R235): the one remembered, or the context that its EUI-64
holds, whose kind and PAN it then asks for again. -/
def auditFor (s : State) (eui : BitVec 64) : Option Audit :=
  match s.mesh.audits.find? fun a => a.eui == eui with
  | some a => some a
  | none =>
    let v := ctxView s
    match nodeByEui v eui with
    | some i =>
      let n := node v i
      if n.st = .admitted then none
      else some { eui := eui, caps := n.caps, ppm := n.ppm, grand := n.grand, pan := n.pan
                  wanted := BitVec.ofNat 8 (kindCode n.grand + 4 * n.pan) }
    | none => none

/-- A new join is passed to the Box Office (R232, R446). -/
def startJoin (a : Audit) (offer : List Byte) (s : State) : State :=
  let j : JoinReq := { eui := a.eui, grand := a.grand, pan := a.pan, caps := a.caps, ppm := a.ppm, wanted := a.wanted
                       slot := byteAt offer 1, nonceN := slice offer 4 16, pubKey := slice offer 20 64
                       credSig := slice offer 84 64, offer := offer }
  post 8 11 (.row (.joinHandoff j)) false (modMesh (fun m => { m with
    joins := m.joins + 1, pendingJoin := m.pendingJoin ++ [a.eui] }) (replaceContext a.eui s))

/-- Start of the cue `c` as processing knows it. -/
def cueStartOf (s : State) (c : CueNo) : Stamp := s.proc.procStart + BitVec.ofInt 64 (sdiff32 c s.proc.procCue * cueTicks)

/-- Anchor slots taken by other nodes of the Stagehand in the cue that starts at `t` (R242). -/
def anchorSlotsTaken (s : State) (i : Nat) (t : Stamp) : List Nat :=
  (allocated s).filterMap fun j =>
    let n := node s j
    if j = i ∨ owner j ≠ owner i ∨ n.grand = false ∨ n.intv = 0 then none
    else
      let a := anchorOf n (eventAt n (plus t (cueTicks - 1)))
      if 0 ≤ sdiff64 a t then some ((sdiff64 a t).toNat / (250 * usTicks) - 1) else none

/-- The first anchor of a node (R242), from cue `c`, at most `k` cues on. -/
def firstAnchor (s : State) (i : Nat) (c : CueNo) (k : Nat) : Stamp :=
  let t := cueStartOf s c
  match k with
  | 0 => plus t (250 * usTicks)
  | k + 1 =>
    match (List.range (cfgU s recMesh 21 1)).find? fun j => !(anchorSlotsTaken s i t).contains j with
    | some j => plus t (250 * usTicks * (j + 1))
    | none => firstAnchor s i (c + 1) k

/-- The elements of an accepted join response that its sending fixes: schedule and wake (R233, R240, R242). -/
def joinElements (i : Nat) (rx : Reception) (s : State) : List (Nat × List Byte) :=
  let n := node s i
  let w := wakeOf s n
  (if n.grand then
    [(3, scheduleBody n.event (ticksToUs (sdiff64 n.arrival rx.arrival)) n.intv n.lat n.sup n.hop false n.map)]
  else []) ++
  (if hasWake n then [(4, le 4 w.1 ++ le 2 (wakeGroup i) ++ le 1 (cfgU s recMesh 12 1) ++ le 1 w.2)] else [])

/-- A poll of a completed join is answered with the join response (R232, R233). -/
def joinResponse (rx : Reception) (status i : Nat) (stored : List Byte) (s : State) : State :=
  if status ≠ 0 then
    prompterSend (joinChan s) rx { blankFrame 6 addrNone with
      body := le 1 status ++ le 1 i ++ le 2 (retryAfter s) ++ le 3 addrNone ++ le 1 0 } s
  else
    let v := ctxView s
    let s0 := if (node v i).grand then askCtx (.anchor i (firstAnchor v i (s.proc.procCue + 8) 65536)) s else s
    let s1 := ctxView s0
    let n := node s1 i
    let rescue := if n.grand then cfgU s recMesh 26 1 else cfgU s recMesh (66 + 16 * n.pan) 1
    let key := stored.take 104
    let es := [(5, key), (6, stored.drop 104)] ++ joinElements i rx s1
    prompterSend (joinChan s) rx { blankFrame 6 addrNone with
      ie := true
      body := elemBytes es ++ (le 1 0 ++ le 1 (kindCode n.grand) ++ le 2 (retryAfter s) ++ le 3 (nodeAddr s1 i) ++
        le 1 rescue) } s0

/-- A stored answer still holds: a refusal, or an acceptance while its node is joining (R236). -/
def resultHolds (s : State) (r : BitVec 64 × Nat × Nat × List Byte) : Bool :=
  r.2.1 != 0 || ((node s r.2.2.1).st == .joining && (node s r.2.2.1).eui == r.1)

/-- A poll (R232). -/
def joinPoll (rx : Reception) (f : Frame) (eui : BitVec 64) (s : State) : State :=
  match s.mesh.results.find? fun r => r.1 == eui && resultHolds s r with
  | some (_, status, i, stored) => joinResponse rx status i stored s
  | none => joinRetry rx f s

/-- Prompter 0 takes a join request (R232, R235): with no audition and no context of its EUI-64 to rest on it is
answered and nothing more. -/
def joinRequest (rx : Reception) (s : State) : State :=
  match plainUplink s 5 16 false rx with
  | none => macDrop s
  | some (f, es, b) =>
    let eui := BitVec.ofNat 64 (uAt b 0 8)
    if !(zeroAt b 10 6 && decide (uAt b 8 2 ≤ 1)) then macDrop s
    else if allocBlocked s then s
    else if bit (byteAt b 8) 0 then joinPoll rx f eui s
    else
      match auditFor s eui, offerOf es with
      | _, none => macDrop s
      | none, some _ => joinRetry rx f s
      | some a, some o => joinRetry rx f (if s.mesh.pendingJoin.contains eui then s else startJoin a o s)

/-- Meaning of JOIN_REQUEST. -/
def execJoinRequest (rx : Reception) (s : State) : Host.Outcome State Fault Refusal :=
  .next (takeItem 8 400 (.row (.joinRequest rx)) (fun s => dropWin rx (joinRequest rx s)) s)

/-! ### The Box Office's part -/

/-- The credential passes up to its signature (R443). -/
def credSlotOk (s : State) (j : JoinReq) : Bool :=
  s.sec.fuses.root.isSome && !(smGet [] s.sec.keys.issuers j.slot).isEmpty && bit (cfgU s recSec 2 1) j.slot &&
    (ecPoint j.pubKey).isSome

/-- The credential's signature verifies (R443). -/
def credSigOk (s : State) (j : JoinReq) : Bool :=
  ecdsaOk (smGet [] s.sec.keys.issuers j.slot) (sha256 (be 8 j.eui.toNat ++ j.pubKey)) j.credSig

/-- The current group key and its sequence; the zeros of the key store while none is current (R439). -/
def groupNow (s : State) : List Byte × Nat :=
  match s.sec.keys.cur with
  | some g => (groupKeyOf s g, g.seq)
  | none => (List.replicate 16 0, 0)

/-- A join refused with CREDENTIAL (R437, R443). -/
def joinRefused (j : JoinReq) : JoinRes :=
  { req := j, accepted := false, kLink := [], keyCheck := [], wrapped := [], nonceR := [], keySeq := 0 }

/-- The keys of an accepted credential (R444). -/
def joinKeys (s : State) (j : JoinReq) (nr : List Byte) : JoinRes :=
  let z := (ecBytes (ecMul (routerScalar s) (ecPoint j.pubKey))).take 32
  let k := (sha256 (z ++ j.nonceN ++ nr ++ be 8 j.eui.toNat ++ be 2 (routerId s))).take 16
  { req := j, accepted := true, kLink := k, keyCheck := (sha256 (k ++ [0x4B, 0x43])).take 8
    wrapped := aesEnc k (groupNow s).1, nonceR := nr, keySeq := (groupNow s).2 }

/-- The shared secret and the keys of a join (R444), handed back to Prompter 0. -/
def boxKeys (j : JoinReq) (s : State) : State :=
  let (o, s1) := drawOut 11 s
  post 11 8 (.row (.joinResult (joinKeys s j (o.take 16)))) false s1

/-- The Box Office performs a join (R443, R444, R446, R466): the shared secret is an item of its own (R51). -/
def boxJoin (j : JoinReq) (s : State) : State :=
  if credSlotOk s j && credSigOk s j then takeItem 11 1200 (.ecdh j) (boxKeys j) s
  else
    let s1 := countReg 0x33118 1 s
    let s2 := emit 11 0x8001 (j.eui.toNat % 2 ^ 32) (j.eui.toNat / 2 ^ 32) j.slot 0 s1
    post 11 8 (.row (.joinResult (joinRefused j))) false s2

/-- Work units of the verification of a join (R446, R51): a credential refused before its signature is checked
costs 10. -/
def boxJoinCost (s : State) (j : JoinReq) : Nat := if credSlotOk s j then 2600 else 10

/-- Meaning of JOIN_HANDOFF. -/
def execJoinHandoff (j : JoinReq) (s : State) : Host.Outcome State Fault Refusal :=
  .next (takeItem 11 (boxJoinCost s j) (.row (.joinHandoff j)) (boxJoin j) s)

/-- The ticket body (R445), signed by the router key. -/
def ticketBody (s : State) (i : Nat) (r : JoinRes) : List Byte × State :=
  let n := node s i
  let head := [0x01] ++ le 1 r.keySeq ++ le 2 (routerId s) ++ be 8 n.eui.toNat ++ le 3 (nodeAddr s i) ++
    le 1 (ofBool n.grand) ++ r.nonceR ++ (sha256 r.req.offer).take 8
  let (sig, s1) := boxSign 8 (routerScalar s) (sha256 head) s
  (head ++ sig, s1)

/-- The ticket of a joined node is signed and handed back (R445, R446). DESIGN CHOICE: the ticket names the address
that Prompter 0 allocates (R234), so its signature is a Box Office item after the allocation, by a further message each
way. -/
def boxTicket (i : Nat) (r : JoinRes) (s : State) : State :=
  let (t, s1) := ticketBody s i r
  post 11 8 (.ticketed i r t) false s1

/-- The key agreement answer (R442). -/
def answerBody (r : JoinRes) : List Byte := [1] ++ le 1 r.keySeq ++ [0, 0] ++ r.keyCheck ++ r.wrapped

/-- A node index given to a join: the admitted context of its EUI-64, or a new one (R234, R254). -/
def joinIndex (r : JoinRes) (s : State) : (Nat ⊕ Nat) × State :=
  let v := ctxView s
  match nodeByEui v r.req.eui with
  | some i => if (node v i).st = .admitted then (.inr i, s)
    else allocNode r.req.eui r.req.grand r.req.pan .joining false (replaceContext r.req.eui s)
  | none => allocNode r.req.eui r.req.grand r.req.pan .joining false s

/-- An answer kept for the poll of a node, in place of an earlier one; answers that hold no more go. -/
def keepResult (eui : BitVec 64) (status i : Nat) (stored : List Byte) (s : State) : State :=
  modMesh (fun m => { m with
    results := m.results.filter (fun y => y.1 != eui && resultHolds s y) ++ [(eui, status, i, stored)]
    audits := m.audits.filter fun a => a.eui != eui }) s

/-- A join is no longer with the Box Office (R232). -/
def joinBack (eui : BitVec 64) (s : State) : State :=
  modMesh (fun m => { m with joins := m.joins - 1, pendingJoin := m.pendingJoin.erase eui }) s

/-- Prompter 0 takes back the ticket: the join is complete (R232, R446), unless its node is joining no more. -/
def joinDone (i : Nat) (r : JoinRes) (t : List Byte) (s : State) : State :=
  let s1 := joinBack r.req.eui s
  if (node s i).st = .joining ∧ (node s i).eui = r.req.eui then keepResult r.req.eui 0 i (t ++ answerBody r) s1 else s1

/-- Prompter 0 takes back the Box Office's result and allocates (R234, R270). -/
def joinTakeBack (r : JoinRes) (s : State) : State :=
  let eui := r.req.eui
  let kind := kindCode r.req.grand
  if allocBlocked s then joinBack eui s
  else if !r.accepted then keepResult eui 6 kind [] (joinBack eui s)
  else
    let v := ctxView s
    let limit := match nodeByEui v eui with
      | some _ => none
      | none => admitRefusal v r.req.grand r.req.pan
    match joinIndex r s with
    | (.inl k, s2) =>
      let s3 := countReg 0x30030 1 (joinBack eui s2)
      let s4 := if limit.isSome then
          emit 8 0x3003 (eui.toNat % 2 ^ 32) (eui.toNat / 2 ^ 32) k r.req.wanted.toNat s3 else s3
      keepResult eui k kind [] s4
    | (.inr i, s2) => post 8 11 (.ticket i r) false (askCtx (.join i r) s2)

/-- Meaning of JOIN_RESULT. -/
def execJoinResult (r : JoinRes) (s : State) : Host.Outcome State Fault Refusal :=
  .next (takeItem 8 10 (.row (.joinResult r)) (joinTakeBack r) s)

/-! ### Admission and eviction -/

/-- NODE_ADMIT's action (R264, R282). -/
def nodeAdmit (e : Nat) (c : Sub) (s : State) : State :=
  match allocNode (BitVec.ofNat 64 (pU c 32 8)) (pU c 40 1 == 1) (pU c 41 1) .admitted true s with
  | (.inl _, s1) =>
    replySt e 0x0030 stNoResource c (if (admitRefusal (ctxView s) (pU c 40 1 == 1) (pU c 41 1)).isSome then s1
      else countReg 0x30030 1 s1)
  | (.inr i, s1) => finish e 0x0030 stOk c (le 4 i) [] s1

/-- NODE_ADMIT (R264, R267, R270). -/
def cmdNodeAdmit : CmdSpec where
  op := 0x0030
  engine := byPrompter0
  use := .none
  aside := false
  static := fun c => decide (pU c 40 1 ≤ 1) && decide (pU c 41 1 ≤ 7) && pZero c 42 63
  wrong := fun c s => (nodeByEui (ctxView s) (BitVec.ofNat 64 (pU c 32 8))).isSome || allocBlocked s
  check := noCheck
  cost := cost10
  act := nodeAdmit

/-- Meaning of NODE_ADMIT. -/
def execNodeAdmit (c : Sub) (s : State) : Host.Outcome State Fault Refusal :=
  .next (runCmd cmdNodeAdmit (.row (.nodeAdmit c)) c s)

/-- The node a command names at offset 32. -/
def cmdNode (c : Sub) : Nat := pU c 32 4 % 2 ^ 17

/-- The Stagehand of the node a command names. -/
def byOwner (c : Sub) (_ : State) : Nat := owner (cmdNode c)

/-- Pending commands of a node end with FLUSHED (R264). -/
def flushNode (i : Nat) (s : State) : State :=
  let n := node s i
  let s1 := n.downs.foldl (fun s d => closeDown i 6 stFlushed d s) s
  match n.upd with
  | some u => match u.cmd with
    | some c => done (owner i) 0x0050 stFlushed c (modNode i (fun n => { n with upd := none }) s1)
    | none => s1
  | none => s1

/-- NODE_EVICT's action (R254, R264). -/
def nodeEvict (e : Nat) (c : Sub) (s : State) : State :=
  let i := cmdNode c
  if bit (pU c 37 1) 0 then
    modNode i (fun n => { n with
      st := .leaving, stCue := s.proc.procCue, leaveSent := false
      leave := some (pU c 36 1, some c, s.proc.procCue + BitVec.ofNat 32 (cfgU s recFwd 10 2)) }) (flushNode i s)
  else done e 0x0031 stOk c (freeNode i s)

/-- NODE_EVICT (R264, R267). -/
def cmdNodeEvict : CmdSpec where
  op := 0x0031
  engine := byOwner
  use := .none
  aside := false
  static := fun c => decide (pU c 32 4 < 2 ^ 17) && decide (pU c 37 1 ≤ 1) && pZero c 38 63
  wrong := fun c s => (node s (cmdNode c)).st == .free || (node s (cmdNode c)).st == .leaving
  check := noCheck
  cost := cost10
  act := nodeEvict

/-- Meaning of NODE_EVICT. -/
def execNodeEvict (c : Sub) (s : State) : Host.Outcome State Fault Refusal :=
  .next (runCmd cmdNodeEvict (.row (.nodeEvict c)) c s)

/-! ### Timers -/

/-- The supervision time of a node in cues (R238, R248). -/
def supervisionOf (s : State) (n : Node) : Nat := if n.grand then n.sup else panSupervision s n.pan

/-- The node has been without contact beyond its supervision time (R238, R248). -/
def supervisionDue (s : State) (i : Nat) : Bool :=
  let n := node s i
  (n.st == .active || n.st == .drifting || n.st == .searching) &&
    decide ((supervisionOf s n : Int) < sdiff32 s.proc.procCue n.lastCue)

/-- A supervision check that is due (R248). -/
def superviseNode (i : Nat) (s : State) : State :=
  if supervisionDue s i then nodeEvent 0x3002 i (node s i).lastCue.toNat (setSt i .dormant s) else s

/-- Meaning of SUPERVISION_TIMEOUT. -/
def execSupervisionTimeout (i : Nat) (s : State) : Host.Outcome State Fault Refusal :=
  .next (takeItem (owner i) 4 (.row (.supervisionTimeout i)) (superviseNode i) s)

/-- A joining node without a secured uplink within the join timeout (R236). -/
def joinTimeoutDue (s : State) (i : Nat) : Bool :=
  (node s i).st == .joining && decide ((cfgU s recMesh 22 2 : Int) < sdiff32 s.proc.procCue (node s i).stCue)

/-- The join timeout (R236, R254). -/
def timeOutJoin (i : Nat) (s : State) : State :=
  if !joinTimeoutDue s i then s
  else
    let n := node s i
    if n.byAdmit then setSt i .admitted s else freeNode i s

/-- Meaning of JOIN_TIMEOUT. -/
def execJoinTimeout (i : Nat) (s : State) : Host.Outcome State Fault Refusal :=
  .next (takeItem (owner i) 10 (.row (.joinTimeout i)) (timeOutJoin i) s)

/-- A node dormant for the dormant limit (R248). -/
def dormantDue (s : State) (i : Nat) : Bool :=
  let l := cfgU s recMesh 18 2
  (node s i).st == .dormant && l != 0 &&
    decide ((l * 2 ^ s.proc.sceneLog2 : Nat) ≤ sdiff32 s.proc.procCue (node s i).stCue)

/-- The dormant limit (R248). -/
def limitDormant (i : Nat) (s : State) : State := if dormantDue s i then freeNode i s else s

/-- Meaning of DORMANT_LIMIT. -/
def execDormantLimit (i : Nat) (s : State) : Host.Outcome State Fault Refusal :=
  .next (takeItem (owner i) 10 (.row (.dormantLimit i)) (limitDormant i) s)

/-- An Overture to a searching node is to be repeated (R247). -/
def overtureDue (s : State) (i : Nat) : Bool :=
  let n := node s i
  n.st == .searching && hasWake n && decide ((overtureRetryCues s : Int) ≤ sdiff32 s.proc.procCue n.ovCue)

/-- The repeated Overture (R247). -/
def repeatOverture (i : Nat) (s : State) : State := if overtureDue s i then sendOverture i s else s

/-- Meaning of OVERTURE_RETRY. -/
def execOvertureRetry (i : Nat) (s : State) : Host.Outcome State Fault Refusal :=
  .next (takeItem (owner i) 10 (.row (.overtureRetry i)) (repeatOverture i) s)

/-- A hold has run out. -/
def holdOver (s : State) (c : CueNo) : Bool := decide (0 < sdiff32 s.proc.procCue c)

/-- The hold of a pending downlink expires (R262). -/
def expireHold (i id : Nat) (s : State) : State :=
  match (node s i).downs.find? fun d => d.id == id with
  | some d => if holdOver s d.expiry then closeDown i 2 stTimeout d s else s
  | none => s

/-- Meaning of HOLD_EXPIRY. -/
def execHoldExpiry (i : Nat) (id : Nat) (s : State) : Host.Outcome State Fault Refusal :=
  .next (takeItem (owner i) 10 (.row (.holdExpiry i id)) (expireHold i id) s)

/-- The hold of a leaving node expires (R254). -/
def expireLeave (i : Nat) (s : State) : State :=
  match (node s i).leave with
  | some (_, _, c) => if (node s i).st == .leaving && holdOver s c then freeNode i s else s
  | none => s

/-- Meaning of LEAVE_HOLD_EXPIRY. -/
def execLeaveHoldExpiry (i : Nat) (s : State) : Host.Outcome State Fault Refusal :=
  .next (takeItem (owner i) 10 (.row (.leaveHoldExpiry i)) (expireLeave i) s)

end Sys2Proof.Machine
end

