-- ==== Sys2Proof/Machine/Sec.lean ====
section
/-! DEFINITION. The Box Office (chapter 11): KEY_INSTALL and the group keys (R439, R456 to R458), root
programming (R437), the TRNG (R441), and debug unlock (R464). -/

namespace Sys2Proof.Machine

/-! ### Key store -/

/-- The key store as the next cue start will find it (R439). -/
def keysNext (s : State) : Keys := s.sec.keyNext.getD s.sec.keys

/-- A change of the key store, taking effect at the next cue start (R439). -/
def keyChange (f : Keys → Keys) (s : State) : State :=
  modSec (fun x => { x with keyNext := some (f (keysNext s)) }) s

/-- The new key store at a cue start (R439): the group counter goes on unless the current key changed,
which sets it to 0 (R454). A first group key becomes current here, with its record (R458, R466). -/
def takeKeys (s : State) : State :=
  match s.sec.keyNext with
  | none => s
  | some k =>
    let k1 := if k.cur = s.sec.keys.cur then { k with ctr := s.sec.keys.ctr } else { k with ctr := 0 }
    let s1 := modSec (fun x => { x with keys := k1, keyNext := none }) s
    match s.sec.keys.cur, k.cur with
    | none, some g => emit 11 0x8005 g.seq k.curScene 0 0 s1
    | _, _ => s1

/-- The Scene of number `sc` has begun, Scene numbers counted modulo their range. -/
def sceneBegun (s : State) (sc : Nat) : Bool :=
  let range := 2 ^ (32 - s.proc.sceneLog2)
  decide (2 * ((sceneOf s s.proc.procCue + range - sc % range) % range) < range)

/-- A pending group key whose Scene has begun becomes current at a cue start, before the beacons of the cue are built;
the old previous key is erased (R458, R467). -/
def turnGroupKey (s : State) : State :=
  match s.sec.keys.pendKey with
  | some (g, sc) =>
    if sceneBegun s sc then
      emit 11 0x8005 g.seq sc 0 0 (modSec (fun x => { x with keys := { x.keys with
        prev := x.keys.cur, cur := some g, pendKey := none, ctr := 0, curScene := sc } }) s)
    else s
  | none => s

/-- The Scene number at which a group key installed now becomes current (R458). -/
def groupScene (s : State) (lead : Nat) : Nat :=
  (ceilDiv s.proc.procCue.toNat (2 ^ s.proc.sceneLog2) + lead) % 2 ^ (32 - s.proc.sceneLog2)

/-- Blob length of a kind (R456). -/
def blobLen (k : Nat) : Nat :=
  match k with
  | 1 => 40
  | 2 => 64
  | _ => 24

/-- The unwrapped blob of kinds 1 and 3; none when its integrity check fails (R456). -/
def blobKey (c : Sub) (s : State) : Option (List Byte) := keyUnwrap (kInst s) c.data

/-- The blob itself is BAD_PARAM (R457): a point not on P-256, or a scalar outside 1 to n - 1. -/
def blobBad (c : Sub) (s : State) : Bool :=
  match pU c 32 1 with
  | 1 =>
    s.sec.fuses.root.isSome &&
      match blobKey c s with
      | some d => beNat d == 0 || decide (n256 ≤ beNat d)
      | none => false
  | 2 => (ecPoint c.data).isNone
  | _ => false

/-- A group key was installed in this cue already (R467). -/
def groupTouched (s : State) : Bool :=
  match s.sec.keyNext with
  | some k => k.cur != s.sec.keys.cur || k.pendKey != s.sec.keys.pendKey
  | none => false

/-- WRONG_STATE of KEY_INSTALL, for a blob that is itself in order (R457, R467). -/
def keyWrong (c : Sub) (s : State) : Bool :=
  let k := keysNext s
  !blobBad c s && (s.sec.fuses.root.isNone || (pU c 32 1 == 3 && (k.pendKey.isSome || groupTouched s ||
    match k.cur with
    | some g => pU c 34 1 != (g.seq + 1) % 32
    | none => false)))

/-- The own checks of KEY_INSTALL (R457). -/
def keyCheckSt (c : Sub) (s : State) : Option Nat :=
  if blobBad c s then some stBadParam
  else if pU c 32 1 ≠ 2 ∧ (blobKey c s).isNone then some stDenied
  else none

/-- A group key installed (R457, R458): when none is current it becomes current as the change takes effect (R439),
else it is pending; every node is owed it. -/
def installGroup (c : Sub) (s : State) : Nat × State :=
  let g : GroupKey := ⟨c.data, pU c 34 1⟩
  let owe (s : State) : State := { s with mesh := { s.mesh with
    nodes := smMapAll {} s.mesh.nodes fun _ n => if isAlloc n then { n with grpOwed := true } else n } }
  match (keysNext s).cur with
  | none =>
    let sc := sceneOf s (s.proc.procCue + 1)
    (sc, owe (keyChange (fun k => { k with cur := some g, curScene := sc }) s))
  | some _ =>
    let sc := groupScene s (pU c 35 1)
    (sc, owe (keyChange (fun k => { k with pendKey := some (g, sc) }) s))

/-- KEY_INSTALL's action (R457, R466). -/
def keyAct (e : Nat) (c : Sub) (s : State) : State :=
  let kind := pU c 32 1
  let (res, scene, s1) :=
    match kind with
    | 1 =>
      let pub := ecBytes (ecMul (beNat ((blobKey c s).getD [])) g256)
      ((sha256 pub).take 8, 0, keyChange (fun k => { k with priv := c.data, pub := pub }) s)
    | 2 => ((sha256 c.data).take 8, 0,
        keyChange (fun k => { k with issuers := smSet [] k.issuers (pU c 33 1) c.data }) s)
    | _ => let x := installGroup c s; (le 4 x.1 ++ le 4 0, x.1, x.2)
  finish e 0x00C0 stOk c res []
    (emit e 0x8004 kind (if kind = 3 then pU c 34 1 else pU c 33 1) (leNat (res.take 4)) scene s1)

/-- KEY_INSTALL (R456, R457). -/
def cmdKeyInstall : CmdSpec where
  op := 0x00C0
  engine := byBox
  use := .read
  aside := false
  static := fun c =>
    let k := pU c 32 1
    decide (1 ≤ k) && decide (k ≤ 3) && c.length == blobLen k && pZero c 36 63 &&
      (if k = 2 then decide (pU c 33 1 ≤ 3) else pU c 33 1 == 0) &&
      (if k = 3 then decide (pU c 34 1 ≤ 31) && decide (1 ≤ pU c 35 1) else pZero c 34 35)
  wrong := keyWrong
  check := keyCheckSt
  cost := fun c _ => if pU c 32 1 = 1 then 1200 else 10
  act := keyAct

/-- Meaning of KEY_INSTALL. -/
def execKeyInstall (c : Sub) (s : State) : Host.Outcome State Fault Refusal :=
  .next (runCmd cmdKeyInstall (.row (.keyInstall c)) c s)

/-! ### Root programming -/

/-- A refused PROGRAM (R437, R620). -/
def rootRefused (why : Nat) (s : State) : State :=
  emitLocal 0x8009 193 why 0 0 0 (modSec (fun x => { x with rootRef := true }) s)

/-- The 16 octets of BOX_ROOT_KEY_0 to 3 (R469). -/
def rootOctets (s : State) : List Byte := (List.range 4).flatMap fun i => le 4 (smGet 0 s.sec.rootKey i).toNat

/-- A write of 1 to PROGRAM (R437). -/
def programRoot (s : State) : State :=
  if s.sec.fuses.root.isSome then rootRefused 0 s
  else if s.proc.processing then rootRefused 1 s
  else modSec (fun x => { x with fuses := { x.fuses with root := some (rootOctets s) }, fusing := true }) s

/-- Meaning of ROOT_PROGRAM. -/
def execRootProgram (s : State) : Host.Outcome State Fault Refusal := .next (programRoot s)

/-- Meaning of ROOT_FUSING_COMPLETE (R437): the key registers read 0. -/
def execRootFusingComplete (s : State) : Host.Outcome State Fault Refusal :=
  .next (if s.sec.fusing then modSec (fun x => { x with fusing := false, rootKey := [] }) s else s)

/-! ### TRNG -/

/-- The TRNG event (R441, R466): test failed, outcome of the self-test, reserve left. -/
def trngRecord (test outcome : Nat) (s : State) : State :=
  emitLocal 0x8006 192 test outcome s.sec.reserve 0 s

/-- TRNG_HEALTH_FAIL (R441): refilling stops and the restart self-test begins. -/
def failTrng (test : Nat) (s : State) : State :=
  trngRecord test 0 (modSec (fun x => { x with trngOk := false, trngTest := true }) s)

/-- TRNG_RESTART_END (R425, R441). -/
def endTrngTest (pass : Bool) (s : State) : State :=
  if !s.sec.trngTest then s
  else
    let s1 := modSec (fun x => { x with trngTest := false, trngOk := pass }) s
    let s2 := testOutcome 5 0 pass (if pass then 0 else 1) s1
    if pass then s2
    else
      let s3 := modWings (fun w => { w with lasting := true }) s2
      if s3.pair.role = 1 then s3 else restartNext 6 s3

/-- Meaning of TRNG_HEALTH_FAIL. -/
def execTrngHealthFail (test : Nat) (s : State) : Host.Outcome State Fault Refusal := .next (failTrng test s)

/-- Meaning of TRNG_RESTART_END. -/
def execTrngRestartEnd (pass : Bool) (s : State) : Host.Outcome State Fault Refusal := .next (endTrngTest pass s)

/-- An Intake takes a draw; the reserve of 256 refills while the health tests pass (R441). -/
def takeDraw (s : State) : State :=
  modSec (fun x => { x with reserve := if x.trngOk then 256 else x.reserve - 1 }) s

/-! ### Debug unlock -/

/-- A debug attempt: its event, and REFUSED when it failed (R464, R466). -/
def debugAttempt (ok : Bool) (s : State) : State :=
  emitLocal 0x8008 195 (if ok then 0 else 1) s.sec.fuses.dbg.toNat 0 0
    (if ok then s else modSec (fun x => { x with dbgRef := true }) s)

/-- NEW_CHAL (R464): a fresh challenge while processing does not run. -/
def newChallenge (draw : List Byte) (s : State) : State :=
  if s.proc.processing then debugAttempt false s
  else modSec (fun x => { x with chal := (padTo 32 draw).take 32, chalUsed := false }) s

/-- The octets of response words `lo` to `lo + n - 1`. -/
def respOctets (s : State) (lo n : Nat) : List Byte :=
  (List.range n).flatMap fun i => le 4 (smGet 0 s.sec.resp (lo + i)).toNat

/-- SYS_ID (R27). -/
def sysId (s : State) : Nat := 0x00104100 + 2 ^ 24 * s.sec.fuses.grade.toNat

/-- The response verifies (R464). -/
def unlockOk (s : State) : Bool :=
  let pub := respOctets s 0 16
  !s.proc.processing && s.sec.fuses.dbg == 1 && !s.sec.chalUsed && sha256 pub == s.sec.fuses.dbgHash &&
    ecdsaOk pub (sha256 (s.sec.chal ++ le 4 (sysId s))) (respOctets s 16 16)

/-- UNLOCK (R463 to R465): each challenge serves one. -/
def tryUnlock (s : State) : State :=
  let ok := unlockOk s
  debugAttempt ok (modSec (fun x => { x with chalUsed := true, jtag := x.jtag || ok }) s)

/-- Meaning of NEW_CHAL. -/
def execNewChal (draw : List Byte) (s : State) : Host.Outcome State Fault Refusal := .next (newChallenge draw s)

/-- Meaning of UNLOCK. -/
def execUnlock (s : State) : Host.Outcome State Fault Refusal := .next (tryUnlock s)

end Sys2Proof.Machine
end

