-- ==== Sys2Proof/Machine/Intake.lean ====
section
/-! DEFINITION. Intake: a record is latched at its cue start (R35, R38 to R43), live or read back (R69,
R480), and its cue begins when the cue before it has ended (R35). -/

namespace Sys2Proof.Machine

/-- A cue number of the unit as its records bear it (R485). -/
def bookCue (s : State) (c : CueNo) : CueNo :=
  if s.pair.fixedD then c + BitVec.ofInt 32 s.pair.k else c

/-! ### Records to the partner -/

/-- The RECORD frames of a record: segments of 8,184 octets (R476, R478). -/
def recordFrames (cue : CueNo) (bytes : List Byte) : List PairMsg :=
  let l := chunks 8184 bytes
  l.mapIdx fun i b => .record cue i l.length b

/-- The newest records that the Prompt Book buffer of 896 KiB still holds (R36, R405, R478). -/
def bufferKept (l : List (CueNo × List Byte)) : List (CueNo × List Byte) :=
  (l.reverse.foldl (fun (acc : List (CueNo × List Byte) × Nat) r =>
    let n := acc.2 + r.2.length
    if n ≤ 917504 then (r :: acc.1, n) else (acc.1, 917504 + 1)) ([], 0)).1

/-- The Lead hands a latched record to the pair link (R478). -/
def sendRecord (r : Latched) (s : State) : State :=
  if s.pair.role = 1 then
    modPair (fun p => { p with sentRecs := bufferKept (p.sentRecs ++ [(r.cue, r.bytes)]) })
      (sendPairs (recordFrames r.cue r.bytes) s)
  else s

/-! ### Latching -/

/-- The cue of acceptance of a carried command is the cue whose Intake latches it (R43, R361). -/
def noteAccept (cue : CueNo) (s : State) (x : Input) : State :=
  if x.cls = 9 ∧ x.carried = true ∧ 64 ≤ x.body.length then
    let tag := BitVec.ofNat 64 (uAt x.body 8 8)
    let hit (o : Nat × Sub) : Bool := o.2.ring == x.src && o.2.tag == tag && o.2.accept == x.arrival + 1
    let fix (o : Nat × Sub) : Nat × Sub := if hit o then (o.1, { o.2 with accept := cue }) else o
    modHif (fun h => { h with outstanding := h.outstanding.map fix }) s
  else s

/-- The last cue before the record of cue `cue`: the cue of the record before it; the first record of
processing counts no cue as skipped (R39). -/
def lastBefore (s : State) (cue : CueNo) : CueNo :=
  if s.proc.first then cue - 1
  else ((s.proc.latched.getLast?).map (·.cue)).getD s.proc.procCue

/-- The inputs that completed in the cue before are latched into the record of the present cue
(R35, R38, R39, R41, R43). -/
def latchLive (s : State) : State :=
  let cue := bookCue s s.proc.cueNow
  let start := recStamp s s.proc.cueStart
  let last := lastBefore s cue
  let y := fitEntries 112 false (canonical s.proc.inputs)
  let l := y.1.map fun x =>
    let x := { x with arrival := bookCue s x.arrival }
    if x.cls = 9 then { x with item := entryItem s cue false x } else x
  let r := makeRecord s.proc.bookHash cue start last s.proc.nextDraw false
    (cueEntry cue last start :: drawEntry cue s.proc.nextDraw :: l)
  let s1 := l.foldl (noteAccept cue) s
  let s2 := modProc (fun p => { p with
    latched := p.latched ++ [r], inputs := y.2, bookHash := r.hash, first := false }) s1
  let waits := (y.2.filter fun x => x.cls == 9).map fun x => (entryBytes x).length
  sendRecord r (takeDraw (modHif (fun h => { h with fetchedBytes := waits.sum }) s2))

/-- A record read back is latched in place of live inputs (R69, R480); what the unit's own engines
posted and the record names is its own (R47). -/
def latchRead (partner : Bool) (bytes : List Byte) (s : State) : State :=
  let r := recordRead s partner bytes
  modProc (fun p => { p with
    latched := p.latched ++ [r]
    inputs := p.inputs.filter fun x => x.cls == 2 && !r.entries.any fun y => y.cls == 2 && y.src == x.src && y.seq == x.seq
    seqs := seqsAfter r.entries p.seqs
    bookHash := r.hash, first := false }) s

/-! ### The start of a cue's processing -/

/-- Work budget of an engine (R50). -/
def workBudget (e : Nat) : Nat :=
  if e < 8 then 10000 else if e < 10 then 8000 else if e = 10 then 3000 else 6000

/-- Housekeeping budget of an engine (R50). -/
def hkBudget (e : Nat) : Nat :=
  if e < 8 then 2000 else if e < 10 then 2400 else if e = 10 then 600 else 0

/-- Backlog limit of an engine (R50). -/
def backlogLimit (e : Nat) : Nat :=
  if e < 8 then 40000 else if e < 10 then 32000 else if e = 10 then 12000 else 24000

/-- Every engine has its budgets of the cue (R50). -/
def resetBudgets (s : State) : State :=
  (List.range 12).foldl (fun s e => modEng e (fun g => { g with
    left := workBudget e, hkLeft := hkBudget e, blocked := false, draws := 0, dropWait := 0, dropBuf := 0 }) s) s

/-- The transmit ends of the record correct the ledgers (R199). -/
def correctLedgers (s : State) : State :=
  let s1 := s.proc.record.foldl (fun s x =>
    match x.item with
    | .row (.transmitEndEntry t) => ledgerCorrect t s
    | _ => s) s
  [Chain.a, Chain.b].foldl (fun s c => modTx c (fun x => { x with
    ledger := ledgerTrim s.proc.procCue x.ledger }) s) s1

/-- The derived bases take their changes, and the pulse programs follow them; a step of TB2 restarts the mains window
(R311, R320, R345). -/
def takeTime (s : State) : State :=
  let s1 := takeTimeChanges s
  pulsesCue (if !s1.time.mains.cross.isEmpty && s1.time.tb2.steps != s.time.tb2.steps
    then mainsRestart 2 0 s1 else s1)

/-- The commands of the record are noted for the tag table (R496). -/
def noteTags (s : State) : State :=
  s.proc.record.foldl (fun s x =>
    if x.cls = 9 ∧ 64 ≤ x.body.length then
      let c := subOf x.src s.proc.procCue false false x.body
      if isTourBlock s (uAt x.body 0 2) c then s else tagNote c s
    else s) s

/-- The cue of the oldest latched record begins: the record is the engines' (R46), budgets are full,
and what takes effect at a cue start takes effect (R311, R380, R439). -/
def beginCue (s : State) : State :=
  match s.proc.latched with
  | [] => s
  | r :: rest =>
    let s1 := modProc (fun p => { p with
      latched := rest, procCue := r.cue, procStart := r.start, lastCue := r.last, draw := r.draw
      record := r.entries, recBytes := r.bytes, replayed := r.replayed, phase := .intake
      hkDone := false, itemCue := r.cue }) s
    let s2 := modMesh (fun m => { m with nodes := smMapAll {} m.nodes fun _ n => { n with seen := [] } })
      (resetBudgets s1)
    noteTags (turnGroupKey (takeKeys (takeTime (takeRecords (correctLedgers s2)))))

/-- The processing lag (R36): records latched whose Housekeeping has not ended, less one. -/
def lagOf (s : State) : Nat := s.proc.latched.length + ofBool (!s.proc.hkDone) - 1

/-- The next latched record begins, when the cue before it has ended (R35). -/
def beginNext (s : State) : State :=
  let s1 := if s.proc.hkDone then beginCue s else s
  modProc (fun p => { p with lag := min 3 (lagOf s1) }) s1

end Sys2Proof.Machine
end

