-- ==== Sys2Proof/Machine/Rx.lean ====
section
/-! DEFINITION. The receive ports and the chorus lines (chapter 03): port gain (R77 to R90) with the inverse
that the lines apply (R83), blanking (R91 to R93), line set-up (R98), listening windows (R102 to R105), the
intervals of the Spotlight (R106, R115), and the receptions' entries (R155). -/

namespace Sys2Proof.Machine

/-! ### Ports, lines and receptions -/

/-- A register of a port's block (R113). -/
def rxfReg (p off : Nat) : Nat := 0x20100 + 0x40 * p + off

/-- A register of a line's Chorus block (R114). -/
def chrReg (n off : Nat) : Nat := 0x22000 + 0x20 * n + off

/-- A register of a line's Demodulator block (R164). -/
def demReg (n off : Nat) : Nat := 0x24000 + 0x10 * n + off

/-- Event source of a port (R392). -/
def portSource (p : Nat) : Nat := 16 + p

/-- Event source of a line with its demodulator (R392). -/
def lineSource (n : Nat) : Nat := 32 + n

/-- The port is enabled and in service; in book replay the device operates no port (R69). -/
def portOn (s : State) (p : Nat) : Bool :=
  rbit s (rxfReg p 0) 0 && !(port s p).oos && !(port s p).quietOff && !inReplay s &&
    (s.pwr.mode == .full || s.pwr.mode == .quiet)

/-- The port is blanked (R92, R93). -/
def isBlanked (x : Port) : Bool := x.blankA || x.blankB

/-- No port: what a line in scheduled mode draws from with no window taken (R102). -/
abbrev noPort : Nat := 4

/-- The port a line draws from (R17, R102). -/
def linePort (l : Line) : Nat :=
  match l.serving with
  | some w => w.port
  | none => if l.scheduled then noPort else l.port

/-- The line has a port, a bandwidth code and an NCO word: in scheduled mode only those of a window (R102). -/
def lineTuned (l : Line) : Bool := l.serving.isSome || !l.scheduled

/-- The bandwidth code a line uses. -/
def lineBw (l : Line) : Nat :=
  match l.serving with
  | some w => w.bw
  | none => l.bw

/-- The personality a line uses (R102, R165); none in scheduled mode without a window. -/
def linePers (l : Line) : Nat :=
  match l.serving with
  | some w => w.pers.toNat
  | none => if l.scheduled then 0 else l.pers.toNat

/-- The NCO word a line uses. -/
def lineNco (l : Line) : Nat :=
  match l.serving with
  | some w => w.nco.toNat
  | none => l.nco.toNat

/-- Detectors of a line in reception, detecting or frozen. -/
def busyDets (l : Line) : List Nat := smKeys (l.dets.filter fun d => d.2.st != .idle)

/-- The line holds a reception in progress. -/
def lineBusy (l : Line) : Bool := !(busyDets l).isEmpty

/-- The line holds a frozen reception (R80, R131). -/
def lineFrozen (l : Line) : Bool := l.dets.any fun d => d.2.st == .frozen

/-- The lines that draw from a port. -/
def linesOf (s : State) (p : Nat) : List Nat :=
  smKeys (s.lines.filter fun l => l.2.en && linePort l.2 == p)

/-- The detector runs on the line: 0 for a standard PHY or L-OFDM, SF - 7 for FRC (R131). -/
def detRuns (l : Line) (d : Nat) : Bool :=
  let p := linePers l
  match phyOf p with
  | .none => false
  | .frc => if p % 16 = 7 then bit l.sfMask.toNat d else p % 16 == d
  | _ => d == 0

/-- The personality a reception of detector `d` reports (R155). -/
def detPers (l : Line) (d : Nat) : Nat :=
  let p := linePers l
  if phyOf p = .frc then p / 16 * 16 + d else p

/-- Full scale at the RFIN ball of a port's gain code, from the calibrated table of its band filter, 0.01 dBm (R77). -/
def fullScale (s : State) (p g : Nat) : Int := Config.gainCal (calTables s (port s p).cal) p (rbits s (rxfReg p 0) 2 1) g

/-- A power relative to the full scale of the line's port, in 0.01 dBm at the ball (R77). -/
def lineDbm (s : State) (l : Line) (v : Int) : Int := v + fullScale s (linePort l) (port s (linePort l)).gain

/-- Every reception in progress on the port gains metadata flags (R14, R84, R87, R92). -/
def markPort (p : Nat) (fl : BitVec 16) (s : State) : State :=
  { s with lines := smMapAll {} s.lines fun _ l =>
      if l.en && linePort l == p then
        { l with dets := smMapAll {} l.dets fun _ d =>
            if d.st = .idle then d else { d with flags := d.flags ||| fl } }
      else l }

/-! ### Reception entries -/

/-- A class 7 entry: its source is the line (R39). -/
def rxInput (r : Reception) (s : State) : State := input 7 r.line (rxBytes r) (.row (rxInstr r)) s

/-- The offset field of an entry without sync: the manual states none. -/
def openOffset (t : Stamp) : Int := ((Config.openWord 1 t.toNat).setWidth 32).toInt

/-- F of a window in which nothing was detected: R155 gives the field, and R149 no measurement of it. -/
def openFloor (t : Stamp) : Int := ((Config.openWord 76 t.toNat).setWidth 16).toInt

/-- The reception of a detector as an entry, with an outcome, status and PSDU; without sync its
arrival is the stamp at which the entry completed (R154). -/
def rxOf (s : State) (n d outcome status : Nat) (offset : Int) (psdu : List Byte) (t : Stamp)
     : Reception :=
  let l := line s n
  let x := det s n d
  let synced := x.st == .frozen
  { outcome := outcome, status := status
    flags := if x.ext.isEmpty then x.flags else x.flags ||| 0x20
    line := n, port := linePort l, pers := BitVec.ofNat 8 (detPers l d)
    gain := if synced then x.gain else (port s (linePort l)).gain
    arrival := if synced then x.arrival else recStamp s t
    endStamp := recStamp s t
    windowId := match l.serving with
      | some w => w.id
      | none => noWindow
    offset := if synced then offset else openOffset t
    rssi := if synced then x.rssi else -32768
    snr := if synced then x.snr else -32768
    floor := x.floor
    phyInfo := if synced then x.phyInfo else BitVec.ofNat 16 (syncInfo (linePers l) d false false)
    displaced := x.displaced
    dispRssi := x.dispRssi
    ext := x.ext
    psdu := psdu }

/-- The entry of a window without a frame: no sync (1) or missed (2) (R104, R154, R155). DESIGN CHOICE: R155
says of gain 'at sync' and of end 'the last sample of the reception', and gives no value for an entry without
either; the entry carries the port's gain code and the stamp of its completion. -/
def windowEntry (s : State) (n outcome : Nat) (w : Window) (t : Stamp) : Reception :=
  { outcome := outcome, status := 0, flags := 0, line := n, port := w.port, pers := w.pers
    gain := (port s w.port).gain, arrival := recStamp s t, endStamp := recStamp s t, windowId := w.id
    offset := openOffset t, rssi := -32768, snr := -32768, floor := openFloor t, phyInfo := 0
    displaced := 0, dispRssi := -32768, ext := [], psdu := [] }

/-- A missed outcome for a window of line `n` (R104). -/
def missWindow (n : Nat) (t : Stamp) (s : State) (w : Window) : State :=
  rxInput (windowEntry s n 2 w t) s

/-- The window being served is complete. -/
def endWindow (n : Nat) (s : State) : State :=
  modLine n (fun l => { l with serving := none, ready := false, retuning := false }) s

/-- The window being served ends without a frame (R104). -/
def noSync (n : Nat) (t : Stamp) (s : State) : State :=
  match (line s n).serving with
  | some w => rxInput (windowEntry s n 1 w t) (endWindow n s)
  | none => s

/-- A detector at rest: its main AGC keeps the gain it had (R100). -/
def restDet (x : Det) : Det := { ({} : Det) with agc := x.agc }

/-- A count field of DEM_LINE_CNT raised by 1, saturating (R165). -/
def demCount (n lo : Nat) (s : State) : State :=
  setRBits (demReg n 0xC) (lo + 15) lo (satAdd 0xFFFF (rbits s (demReg n 0xC) (lo + 15) lo) 1) s

/-- A detection that ended without passing the header check is counted (R145, R165). -/
def falseDet (n : Nat) (s : State) : State := demCount n 0 s

/-- After a reception of a line in a window ended without an entry: a window past its end, with
nothing in progress, yields no sync (R104). -/
def settleWindow (n : Nat) (t : Stamp) (s : State) : State :=
  let l := line s n
  if l.serving.isSome && !l.ready && !l.retuning && !lineBusy l then noSync n t s else s

/-- A reception in progress ends with status ABORTED and the sample-loss flag (R145); an entry results
in a window, or in fixed mode once its header check has passed (R147); without it the detection was false (R165). -/
def abortDet (n : Nat) (t : Stamp) (s : State) (d : Nat) : State :=
  let l := line s n
  let x := det s n d
  if x.st = .idle then s
  else
    let s1 := modDet n d (fun x => { x with flags := x.flags ||| 4 }) s
    let s2 := if l.serving.isSome || x.header then rxInput (rxOf s1 n d 0 2 x.offset [] t) s1 else s1
    let s3 := if x.header then s2 else falseDet n s2
    modDet n d restDet (if l.serving.isSome then endWindow n s3 else s3)

/-- Every reception in progress of a line ends so. -/
def abortLine (t : Stamp) (s : State) (n : Nat) : State :=
  (busyDets (line s n)).foldl (abortDet n t) s

/-- Each window of a line not yet completed, for which `p` holds, yields a missed outcome (R105). -/
def missWindows (p : Window → Bool) (t : Stamp) (s : State) (n : Nat) : State :=
  let l := line s n
  let s1 := match l.serving with
    | some w => if p w && !lineBusy l then missWindow n t (endWindow n s) w else s
    | none => s
  (l.queue.filter p).foldl (missWindow n t) (modLine n (fun l => { l with queue := l.queue.filter (!p ·) }) s1)

/-! ### Gain -/

/-- Gain-disturbed flag. -/
abbrev fGain : BitVec 16 := 1
/-- Blanked flag. -/
abbrev fBlank : BitVec 16 := 2
/-- Sample-loss flag. -/
abbrev fLoss : BitVec 16 := 4

/-- The wanted change of the gain loop (R79, R85): P in 0.01 dBFS, C clipped samples. -/
def wantedGain (s : State) (p : Nat) (pw : Int) (c : Nat) (hold : Bool) : Int :=
  let g : Int := (port s p).gain
  let ctl := reg s (rxfReg p 0)
  let cfg := reg s (rxfReg p 4)
  let target : Int := -(100 * (fieldOf cfg 7 0 : Int))
  let hyst : Int := 100 * fieldOf cfg 11 8
  let d := pw - target
  let want : Int :=
    if bit ctl.toNat 3 then (fieldOf ctl 13 8 : Int) - g
    else if 0 < c then -2
    else if hyst < d then -(min ((d + 99) / 100) (fieldOf cfg 19 16))
    else if hyst < -d then min ((-d) / 100) (fieldOf cfg 15 12)
    else 0
  let want := if 0 < want ∧ hold = true then 0 else want
  clampI 0 60 (g + want) - g

/-! ### Spotlight intervals -/

/-- The settings with which the interval of cue `c` begins on a port (R107, R115). -/
def spotSet (s : State) (p : Nat) (c : CueNo) : Spot :=
  let v := c.toNat % (rbits s (0x23000 + 0x40 * p) 1 0 + 1)
  { view := v, centre := (reg s (0x23010 + 0x40 * p + 8 * v)).toNat
    span := rbits s (0x23014 + 0x40 * p + 8 * v) 3 0, cue := c
    gains := [(port s p).gain], blank := isBlanked (port s p) }

/-- The interval of cue `c` begins on a port, unless it has. -/
def spotOpen (c : CueNo) (s : State) (p : Nat) : State :=
  if (port s p).spot.cue = c then s
  else modPort p (fun x => { x with spotDone := some x.spot, spot := spotSet s p c }) s

/-- The intervals under way at TB0: that of the next cue from 960 µs after cue start (R106). -/
def spotRoll (s : State) : State :=
  if later64 (plus s.proc.cueStart (960 * usTicks)) s.time.tb0 then s
  else (List.range 4).foldl (spotOpen (s.proc.cueNow + 1)) s

/-- What falls in a port's interval is noted. -/
def spotNote (p : Nat) (f : Spot → Spot) (s : State) : State :=
  modPort p (fun x => { x with spot := f x.spot }) (spotRoll s)

/-- The settings of the interval that begins 40 µs before the next cue start, taken at a cue start by every port
whose interval has not begun (R115). -/
def spotCue (s : State) : State := (List.range 4).foldl (spotOpen s.proc.cueNow) s

/-! ### Gain steps -/

/-- A gain step lands: every line on the port applies the inverse of the calibrated step (R83), and the port's
Spotlight interval goes on at the new code (R106). -/
def stepGain (p g : Nat) (s : State) : State :=
  if (port s p).gain = g then s
  else
    let d := fullScale s p g - fullScale s p (port s p).gain
    let s1 := modPort p (fun x => { x with gain := g })
      (spotNote p (fun i => { i with gains := i.gains ++ [g] }) s)
    { s1 with lines := smMapAll {} s1.lines fun _ l =>
        if l.en && linePort l == p then { l with inv := l.inv + d } else l }

/-- A change of gain applied at a cue start; nothing stays pending (R81). -/
def applyGain (p : Nat) (want : Int) (s : State) : State :=
  modPort p (fun x => { x with pend := 0, pendRun := 0 })
    (stepGain p (((port s p).gain : Int) + want).toNat s)

/-- A forced step (R84). -/
def forceGain (p : Nat) (want : Int) (s : State) : State :=
  let g := (port s p).gain
  emitLocal 0x1003 (portSource p) g ((g : Int) + want).toNat 0 0
    (setRBit (rxfReg p 0x1C) 2 (markPort p fGain (applyGain p want s)))

/-- A wanted change stays pending, and the cue start counts toward the run of R84. -/
def keepPending (p : Nat) (want : Int) (s : State) : State :=
  modPort p (fun x => { x with pend := want, pendRun := x.pendRun + 1 }) s

/-- The gain loop of a port that serves, at a cue start (R79 to R85, R88, R94); `hold` holds while the loop may not
raise g. A blank leaves a pending change pending; so does a cue with too few samples. -/
def gainLoop (p : Nat) (m : Option PortMeas) (hold : Bool) (s : State) : State :=
  let x := port s p
  let qual := m.any (·.qual)
  let decides := rbit s (rxfReg p 0) 3 || qual
  let want := if decides then wantedGain s p ((m.map (·.p)).getD 0) ((m.map (·.c)).getD 0) hold else x.pend
  let limit := 16 * rbits s (rxfReg p 4) 31 20
  if isBlanked x then (if x.pend = 0 then s else keepPending p x.pend s)
  else if want = 0 then modPort p (fun x => { x with pend := 0, pendRun := 0 }) s
  else if hold && decide (0 < want) then keepPending p want s
  else if decides && x.window then applyGain p want s
  else if limit ≠ 0 ∧ limit ≤ x.pendRun then forceGain p want s
  else keepPending p want s

/-- GAIN_DECISION (R78 to R89): what a port takes from the cue before, whether it serves or not, and its gain loop. -/
def gainDecision (m : Option PortMeas) (s : State) (p : Nat) : State :=
  let x := port s p
  let on := portOn s p
  let frozen := (linesOf s p).any fun n => lineFrozen (line s n)
  let hold := if x.ovlCue then rbits s (rxfReg p 8) 23 16 else x.holdLeft
  let s1 := modPort p (fun x => { x with
    window := on && !frozen && !isBlanked x
    cal := if on && !frozen && !isBlanked x then (rolledTables 6 s).or x.cal else x.cal
    holdLeft := hold - 1, ovlCue := false
    satLast := x.satCue, satCue := false
    mean := if on && m.any (·.qual) then BitVec.ofInt 16 ((m.map (·.p)).getD 0) else 0x8000
    clips := if on then min 0xFFFF ((m.map (·.c)).getD 0) else 0 }) s
  if on then gainLoop p m (decide (0 < hold)) s1 else s1

/-- Every port at a cue start. -/
def gainDecisions (meas : List PortMeas) (s : State) : State :=
  (List.range 4).foldl (fun s p => gainDecision (meas.find? fun m => m.port == p) s p) s

/-- OVERLOAD_STEP (R87 to R89): a block's clip count is judged. -/
def overload (p clips : Nat) (s : State) : State :=
  let cfg := reg s (rxfReg p 8)
  let x := port s p
  if !portOn s p || isBlanked x || !bit cfg.toNat 0 || decide (clips ≤ fieldOf cfg 15 8) then s
  else if x.gain = 0 then
    let s1 := modPort p (fun x => { x with satCue := true }) s
    if x.satCue || x.satLast then s1
    else emitLocal 0x1002 (portSource p) 0 0 0 0 (setRBit (rxfReg p 0x1C) 1 s1)
  else
    let s1 := countReg (rxfReg p 0x18) 1 (markPort p fGain
      (modPort p (fun x => { x with ovlCue := true })
        (stepGain p (x.gain - 6) (spotNote p (fun i => { i with ovl := true }) s))))
    emitLocal 0x1001 (portSource p) p x.gain (x.gain - 6) (reg s1 (rxfReg p 0x18)).toNat
      (setRBit (rxfReg p 0x1C) 0 s1)

/-- PORT_ENABLE (R86, R90): the gain code starts at MAN_GAIN, and a port taken out of service serves again. -/
def enablePort (p : Nat) (s : State) : State :=
  if rbit s (rxfReg p 0) 0 then s
  else
    let g := rbits s (rxfReg p 0) 13 8
    modPort p (fun x => { x with gain := g, pend := 0, pendRun := 0, oos := false })
      (spotNote p (fun i => { i with gains := [g] }) (setRBit (rxfReg p 0) 0 s))

/-- A capture of the port that has begun loses its port (R112). -/
def captureLost (p : Nat) (s : State) : State :=
  modHif (fun h => { h with capture := h.capture.map fun c =>
    if c.gain.isSome && byteAt c.sub.params 0 == p then { c with dead := true } else c }) s

/-- The receptions of a port end and its windows are missed (R90, R105); a capture ends (R112). -/
def silencePort (p : Nat) (t : Stamp) (s : State) : State :=
  let ns := smKeys (s.lines.filter fun l => l.2.en)
  let s1 := (ns.filter fun n => linePort (line s n) == p).foldl (abortLine t) s
  captureLost p (ns.foldl (missWindows (fun w => w.port == p) t) s1)

/-- PORT_DISABLE (R90, R94). -/
def disablePort (p : Nat) (t : Stamp) (s : State) : State :=
  if rbit s (rxfReg p 0) 0 then
    modPort p (fun x => { x with pend := 0, pendRun := 0 })
      (silencePort p t (setRBits (rxfReg p 0) 0 0 0 s))
  else s

/-- PORT_FORCE (R85): only in manual mode. -/
def forcePort (p : Nat) (s : State) : State :=
  if rbit s (rxfReg p 0) 3 && portOn s p then
    markPort p fGain (modPort p (fun x => { x with pend := 0, pendRun := 0 })
      (stepGain p (rbits s (rxfReg p 0) 13 8) s))
  else s

/-! ### Blanking -/

/-- A port's blank flag of a chain. -/
def setBlank (c : Chain) (on : Bool) (p : Nat) (s : State) : State :=
  modPort p (fun x =>
    match c with
    | .a => { x with blankA := on }
    | .b => { x with blankB := on }) s

/-- A chain's blank for the request of a sequence begins on the ports its map names, with the tail that RXF_BLANK_GUARD gives then (R91 to
R93). -/
def blankBegin (c : Chain) (q : Word32) (s : State) : State :=
  let m := rbits s 0x20000 (if c = .a then 3 else 7) (if c = .a then 0 else 4)
  let ps := (List.range 4).filter (bit m)
  ps.foldl (fun s p => markPort p fBlank (setBlank c true p (spotNote p (fun i => { i with blank := true }) s)))
    (modTx c (fun x => { x with
      blank := true, blankOf := some q, blankPorts := BitVec.ofNat 4 m, blankPost := rbits s 0x20004 15 8
      blankFrom := none }) s)

/-- A chain's blank ends (R91); a port still blanked by the other chain stays so (R93). -/
def blankEnd (c : Chain) (s : State) : State :=
  (List.range 4).foldl (fun s p => setBlank c false p (spotRoll s))
    (modTx c (fun x => { x with blank := false, blankOf := none, blankPorts := 0, blankFrom := none }) s)

/-- BLANK_BEGIN (R91): not before S - PRE of a request of the chain that has not launched. -/
def blankBegins (c : Chain) (t : Stamp) (s : State) : State :=
  match leadReached s (tx s c) (rbits s 0x20004 7 0) t (fun r => (tx s c).blankOf == some r.seq) with
  | some r => blankBegin c r.seq s
  | none => s

/-- BLANK_END (R91, R93): not before the tail has passed after the end of the falling curtain or the decision not
to send, as computed when the blank began. -/
def blankEnds (c : Chain) (t : Stamp) (s : State) : State :=
  let x := tx s c
  match x.blankFrom with
  | some e => if x.blank && !later64 (plus e (x.blankPost * usTicks)) t then blankEnd c s else s
  | none => s

/-! ### Lines -/

/-- Band filter of a port in Hz (R76). -/
def bandRange (s : State) (p : Nat) : Nat × Nat :=
  match rbits s (rxfReg p 0) 2 1 with
  | 1 => (150000000, 1000000000)
  | 2 => (2300000000, 2600000000)
  | _ => (150000000, 2700000000)

/-- The passband lies wholly inside the port's band filter (R97); frequencies in units of 2^-32 Hz. -/
def inBand (s : State) (p bw nco : Nat) : Bool :=
  let f := nco * 6400000000
  let h := passband bw * 2 ^ 31
  let r := bandRange s p
  decide (r.1 * 2 ^ 32 + h ≤ f) && decide (f + h ≤ r.2 * 2 ^ 32)

/-- The judgement of R97 for a line as it stands; a line in scheduled mode is judged on its windows only. -/
def judgeBand (s : State) (n : Nat) : State :=
  let l := line s n
  let bad := l.en && lineTuned l && !inBand s (linePort l) (lineBw l) (lineNco l)
  let s1 := modLine n (fun l => { l with outOfBand := bad }) s
  if bad && !l.outOfBand then
    emitLocal 0x1005 (lineSource n) 0 0 0 0 (setRBit (rxfReg (linePort l) 0x1C) 4 s1)
  else s1

/-- The personality requires another bandwidth code (R117). -/
def bwWrong (pers bw : Nat) : Bool :=
  match bwOf pers with
  | some b => b != bw
  | none => false

/-- The judgement of R117 for a line as it stands: the pair of personality and code that it uses. -/
def judgeBw (s : State) (n : Nat) : State :=
  let l := line s n
  let bad := l.en && lineTuned l && bwWrong (linePers l) (lineBw l)
  let s1 := modLine n (fun l => { l with mismatch := bad }) s
  if bad && !l.mismatch then emitLocal 0x1006 (lineSource n) 0 0 0 0 s1 else s1

/-- The line with the settings its shadows hold (R98, R165). -/
def shadowLine (s : State) (n : Nat) (l : Line) : Line :=
  let ctl := reg s (chrReg n 0)
  let dem := reg s (demReg n 0)
  let frc := reg s (demReg n 4)
  { l with
    en := bit ctl.toNat 0, scheduled := bit ctl.toNat 1, port := fieldOf ctl 3 2, bw := fieldOf ctl 7 4
    nco := reg s (chrReg n 4), agc := rbits s (chrReg n 8) 4 0
    pers := BitVec.ofNat 8 (fieldOf dem 7 0), captThr := fieldOf dem 11 8, watchEn := bit dem.toNat 12
    detLevel := fieldOf dem 18 16, tag := BitVec.ofNat 8 (fieldOf frc 7 0), preMin := fieldOf frc 13 8
    sfMask := BitVec.ofNat 6 (fieldOf frc 21 16), pending := false, force := false, inv := 0 }

/-- The line takes its shadows (R97, R98, R105). -/
def takeShadows (t : Stamp) (n : Nat) (s : State) : State :=
  let ctl := reg s (chrReg n 0)
  let stays := bit ctl.toNat 0 && bit ctl.toNat 1
  let s1 := if stays then s else missWindows (fun _ => true) t s n
  judgeBw (judgeBand (modLine n (shadowLine s1 n) s1) n) n

/-- SHADOW_TAKE (R98): a line takes its shadows at a cue start, by FORCE at once, by COMMIT when it
holds no reception in progress. -/
def shadowTake (s : State) (n : Nat) : State :=
  let l := line s n
  let t := s.proc.cueStart
  if l.force then takeShadows t n (abortLine t s n)
  else if l.pending && !lineBusy l then takeShadows t n s
  else s

/-- A line without a reception takes the Chorus tables of a rolling activation at a cue start (R543). -/
def lineTables (s : State) (n : Nat) : State :=
  if lineBusy (line s n) then s
  else modLine n (fun l => { l with tables := (rolledTables 5 s).or l.tables }) s

/-- The shadows and tables of every line at a cue start. -/
def shadowTakes (s : State) : State :=
  let s1 := (smKeys s.lines).foldl shadowTake s
  if s1.upd.running.isNone then s1 else (List.range 96).foldl lineTables s1

/-! ### Listening windows -/

/-- Decimation of a bandwidth code from 6.4 GS/s (R96). -/
def decimation (bw : Nat) : Nat :=
  [512000, 256000, 128000, 64000, 32000, 25600, 16000, 12800, 8000, 6400, 5000, 4000, 2500, 2000,
    1600, 1280].getD bw 1280

/-- Ticks from the retune time of a window to its start (R103). -/
def retuneTicks (bw : Nat) : Nat := 4 * usTicks + 48 * 16 * decimation bw

/-- The retune time of a window on the unit's own TB0 (R103). -/
def retuneTime (s : State) (w : Window) : Stamp := minus (ownStamp s w.start) (retuneTicks w.bw)

/-- A window entry is missed when Publish writes it (R103, R105, R117). The previous entry of R103 is the last
that joined the queue, whatever has become of it. -/
def missedAtWrite (s : State) (l : Line) (w : Window) : Bool :=
  let r := retuneTime s w
  !l.en || !l.scheduled || decide (16 ≤ l.queue.length) || later64 s.time.tb0 r ||
    (l.lastEnd.any fun e => later64 (ownStamp s e) r) || bwWrong w.pers.toNat w.bw ||
    (phyOf w.pers.toNat == .frc && w.pers.toNat % 16 == 7)

/-- Publish writes a window entry to a line's queue (R102, R103). -/
def writeWindow (n : Nat) (w : Window) (s : State) : State :=
  if missedAtWrite s (line s n) w then missWindow n s.time.tb0 s w
  else modLine n (fun l => { l with queue := l.queue ++ [w], lastEnd := some w.endStamp }) s

/-- LINE_RETUNE (R97, R103, R117): at its retune time the line begins to retune for its next window, which is
missed when the line holds a reception in progress. -/
def lineRetune (n : Nat) (t : Stamp) (s : State) : State :=
  let l := line s n
  match l.queue with
  | [] => s
  | w :: rest =>
    if later64 (retuneTime s w) t then s
    else
      let s1 := modLine n (fun l => { l with queue := rest }) s
      if lineBusy l then missWindow n t s1 w
      else
        let s2 := modLine n (fun l => { l with
          serving := some w, retuning := true, ready := false, inv := 0 }) (noSync n t s1)
        judgeBw (judgeBand s2 n) n

/-- WINDOW_START (R102): from its start stamp the line is ready to detect. -/
def windowStart (n : Nat) (t : Stamp) (s : State) : State :=
  modLine n (fun l =>
    if l.retuning && l.serving.any (fun w => !later64 (ownStamp s w.start) t) then
      { l with retuning := false, ready := true }
    else l) s

/-- WINDOW_END (R104): after its end no new detection starts; with none in progress the window yields no sync. -/
def windowEnd (n : Nat) (t : Stamp) (s : State) : State :=
  let l := line s n
  if l.serving.any fun w => !later64 (ownStamp s w.endStamp) t then
    settleWindow n t (modLine n (fun l => { l with ready := false, retuning := false }) s)
  else s

/-! ### Sample blocks -/

/-- First stamp of the sample block that holds a stamp (R627). -/
def blockStart (t : Stamp) : Stamp := t - BitVec.ofNat 64 (t.toNat % 16384)

/-- SAMPLE_BLOCK_CRC_FAIL (R14, R627): the 1,024 samples of the block from its first stamp are replaced by zeros. -/
def sampleLoss (p : Nat) (t : Stamp) (s : State) : State :=
  if portOn s p then
    emitLocal 0x1004 (portSource p) 0 0 0 0 (setRBit (rxfReg p 0x1C) 3 (markPort p fLoss
      (modPort p (fun x => { x with lost := some (blockStart t) })
        (spotNote p (fun i => { i with loss := true }) s))))
  else s

/-- A port is taken out of service (R16, R90). -/
def portOut (p : Nat) (t : Stamp) (s : State) : State :=
  modPort p (fun x => { x with oos := true, pend := 0, pendRun := 0 }) (silencePort p t s)

/-! ### Meanings -/

/-- Meaning of PORT_ENABLE. -/
def execPortEnable (p : Fin 4) (s : State) : Host.Outcome State Fault Refusal := .next (enablePort p.val s)

/-- Meaning of PORT_DISABLE. -/
def execPortDisable (p : Fin 4) (s : State) : Host.Outcome State Fault Refusal :=
  .next (disablePort p.val s.time.tb0 s)

/-- Meaning of PORT_FORCE. -/
def execPortForce (p : Fin 4) (s : State) : Host.Outcome State Fault Refusal := .next (forcePort p.val s)

/-- Meaning of LINE_COMMIT (R98). -/
def execLineCommit (n : Fin 96) (s : State) : Host.Outcome State Fault Refusal :=
  .next (modLine n.val (fun l => { l with pending := true }) s)

/-- Meaning of LINE_FORCE (R98). -/
def execLineForce (n : Fin 96) (s : State) : Host.Outcome State Fault Refusal :=
  .next (modLine n.val (fun l => { l with force := true }) s)

/-- Meaning of OVERLOAD_STEP. -/
def execOverloadStep (p : Fin 4) (clips : Nat) (t : Stamp) (s : State) :
    Host.Outcome State Fault Refusal := .next (overload p.val clips (atTime t s))

/-- Meaning of BLANK_BEGIN. -/
def execBlankBegin (c : Chain) (t : Stamp) (s : State) : Host.Outcome State Fault Refusal :=
  .next (blankBegins c t (atTime t s))

/-- Meaning of BLANK_END. -/
def execBlankEnd (c : Chain) (t : Stamp) (s : State) : Host.Outcome State Fault Refusal :=
  .next (blankEnds c t (atTime t s))

/-- Meaning of LINE_RETUNE. -/
def execLineRetune (n : Fin 96) (t : Stamp) (s : State) : Host.Outcome State Fault Refusal :=
  .next (lineRetune n.val t (atTime t s))

/-- Meaning of WINDOW_START. -/
def execWindowStart (n : Fin 96) (t : Stamp) (s : State) : Host.Outcome State Fault Refusal :=
  .next (windowStart n.val t (atTime t s))

/-- Meaning of WINDOW_END. -/
def execWindowEnd (n : Fin 96) (t : Stamp) (s : State) : Host.Outcome State Fault Refusal :=
  .next (windowEnd n.val t (atTime t s))

/-- Meaning of SAMPLE_BLOCK_CRC_FAIL: the stamp is that of the block's first sample. -/
def execSampleBlockCrcFail (b : BlockFail) (s : State) : Host.Outcome State Fault Refusal :=
  .next (sampleLoss b.port.val b.first (atTime (plus b.first 16384) s))

end Sys2Proof.Machine
end

