-- ==== Sys2Proof/Machine/Lanes.lean ====
section
/-! DEFINITION. The die-to-die link (R13, R15, R16): which lane carries whose traffic, the lane that stands by as the
spare, the pattern test of a lane, and what a second lasting fault takes out of service. -/

namespace Sys2Proof.Machine

/-- Index of a lane in class 2 (R429). -/
def laneIndex (down : Bool) (lane : Nat) : Nat := if down then 33 + lane else lane

/-- Event source of a direction of the die-to-die link (R392). -/
def laneSource (down : Bool) : Nat := if down then 21 else 20

/-- Lanes of a direction, the spare last (R13). -/
def laneCount (down : Bool) : Nat := if down then 5 else 33

/-- The lane that carries the traffic of data lane `n` of a direction. -/
def laneOfSlot (s : State) (down : Bool) (n : Nat) : Nat :=
  match smGet 0 s.wings.laneMap (64 * ofBool down + n) with
  | 0 => n
  | k + 1 => k

/-- The data lane whose traffic a lane carries, if any. -/
def slotOfLane (s : State) (down : Bool) (lane : Nat) : Option Nat :=
  (List.range (laneCount down - 1)).find? fun n => laneOfSlot s down n == lane

/-- The lane of a direction that stands by as the spare. -/
def spareLane (s : State) (down : Bool) : Option Nat := if down then s.wings.spareDown else s.wings.spareUp

/-- The spare of a direction set. -/
def setSpare (down : Bool) (l : Option Nat) (s : State) : State :=
  modWings (fun w => if down then { w with spareDown := l } else { w with spareUp := l }) s

/-- The traffic of a lane moves to the spare lane of its direction, when one stands by (R15). -/
def moveTraffic (down : Bool) (lane : Nat) (s : State) : State :=
  match slotOfLane s down lane, spareLane s down with
  | some n, some k =>
    if k = lane then s
    else setSpare down none (modWings (fun w => { w with
      laneMap := smSet 0 w.laneMap (64 * ofBool down + n) (if k = n then 0 else k + 1) }) s)
  | _, _ => s

/-- LANE_ERROR (R15): the traffic moves to the spare lane and the pattern test of the failing lane begins. -/
def laneFails (down : Bool) (lane : Nat) (s : State) : State :=
  let s1 := moveTraffic down lane s
  let s2 := if spareLane s1 down = some lane then setSpare down none s1 else s1
  emitLocal 0x1007 (laneSource down) 0 0 0 0
    (modWings (fun w => { w with laneTest := if w.laneTest.contains (down, lane) then w.laneTest
      else w.laneTest ++ [(down, lane)] }) s2)

/-- A data lane has failed with the spare already in service (R16): the port that it serves, or a chain, goes out of
service. -/
def laneLost (down : Bool) (n : Nat) (s : State) : State :=
  if down then outOfService (if Config.laneTxb n then .b else .a) s.time.tb0 s
  else portOut (n / 8) s.time.tb0 s

/-- LANE_PATTERN_TEST_END (R15, R16). A lane that passes stands by as the spare, unless it still carries traffic; one
that fails keeps no traffic: it moves to the spare, or its port or chain is lost. -/
def laneTested (down : Bool) (lane : Nat) (pass : Bool) (s : State) : State :=
  if s.wings.laneTest.contains (down, lane) then
    let s1 := modWings (fun w => { w with laneTest := w.laneTest.filter (· != (down, lane)) }) s
    let s2 := testOutcome 2 (laneIndex down lane) pass (if pass then 0 else 1) s1
    if pass then
      if (slotOfLane s2 down lane).isSome then s2 else setSpare down (some lane) s2
    else
      let s3 := moveTraffic down lane (modWings (fun w => { w with laneBad := w.laneBad ++ [(down, lane)] }) s2)
      match slotOfLane s3 down lane with
      | some n => laneLost down n s3
      | none => s3
  else s

/-- The lanes at the boot of a device with lasting faults: the first faulty lane's traffic is on the spare, and a
second takes its port out of service; the chains' faults stand in settings item 0x01 (R16, R550). -/
def bootLanes (bad : List (Bool × Nat)) (s : State) : State :=
  bad.foldl (fun s l =>
    let s1 := moveTraffic l.1 l.2 s
    let s2 := if spareLane s1 l.1 = some l.2 then setSpare l.1 none s1 else s1
    match l.1, slotOfLane s2 l.1 l.2 with
    | false, some n => modPort (n / 8) (fun x => { x with oos := true }) s2
    | _, _ => s2)
    (modWings (fun w => { w with
      laneBad := bad, laneTest := [], laneMap := [], spareUp := some 32, spareDown := some 4 }) s)

/-- A lane whose self-test passed serves again (R430): as the spare when its direction has none. -/
def returnLane (down : Bool) (lane : Nat) (s : State) : State :=
  let s1 := modWings (fun w => { w with laneBad := w.laneBad.filter (· != (down, lane)) }) s
  if (slotOfLane s1 down lane).isNone && (spareLane s1 down).isNone then setSpare down (some lane) s1 else s1

/-- Meaning of LANE_ERROR. -/
def execLaneError (down : Bool) (lane : Nat) (s : State) : Host.Outcome State Fault Refusal :=
  if lane < laneCount down then .next (laneFails down lane s) else .fault .noSuchUnit

/-- Meaning of LANE_PATTERN_TEST_END. -/
def execLanePatternTestEnd (down : Bool) (lane : Nat) (pass : Bool) (s : State) :
    Host.Outcome State Fault Refusal :=
  if lane < laneCount down then .next (laneTested down lane pass s) else .fault .noSuchUnit

end Sys2Proof.Machine
end

