-- ==== Sys2Proof/Machine/Integrity.lean ====
section
/-! DEFINITION. The Wings and fault handling (chapter 10): corrections, poisoned words, march tests,
bank repair, engine exceptions and SELFTEST_RUN. -/

namespace Sys2Proof.Machine

/-! ### Errors of the Wings -/

/-- The byte address of a word (R404); a spare bank shows the address it serves (R433). -/
def wingsAddr (s : State) (b row w : Nat) : Nat :=
  let vb := if b = 96 then s.wings.map0.getD 0 else if b = 97 then s.wings.map1.getD 0 else b
  vb * 2 ^ 18 + row * 2 ^ 7 + w * 8

/-- WNG_ERR_ADDR and WNG_ERR_INFO latch an error (R412, R413, R433). -/
def latchError (f : EccFault) (s : State) : State :=
  let info := f.bank % 128 + 2 ^ 7 * (f.row % 2048) + 2 ^ 18 * (f.word % 16) +
    2 ^ 22 * (if f.uncorr then 0 else f.bit % 128) + 2 ^ 29 * ofBool f.uncorr + 2 ^ 30 * ofBool f.portB
  setReg rWngErrInfo (w32 info) (setReg rWngErrAddr (w32 (wingsAddr s f.bank f.row f.word)) s)

/-- The bank is being migrated (R420). -/
def migrating (s : State) (b : Nat) : Bool := s.wings.migr.any fun m => m.bank == b

/-- A march test of the row is planned for the next Housekeeping; errors of one row join one test
(R423, R424). -/
def planMarch (b row cells : Nat) (s : State) : State :=
  if migrating s b then s
  else
    modWings (fun w => { w with
      march := if w.march.any (fun m => m.1 == b && m.2.1 == row) then
        w.march.map fun m => if m.1 == b && m.2.1 == row then (b, row, max m.2.2 cells) else m
      else w.march ++ [(b, row, cells)] }) s

/-- An engine exception (R426): FAULTED, the exception record, the engine takes no items, and its
core test starts; a current or lagging Understudy becomes stale (R471). -/
def raiseException (e : Nat) (s : State) : State :=
  let s1 := modProc (fun p => { p with faulted := true }) s
  let s2 := modEng e (fun g => { g with paused := true, blocked := true, resume := false }) s1
  let s3 := if s2.pair.role = 2 ∨ s2.pair.role = 3 then modPair (fun p => { p with role := 4 }) s2 else s2
  emitLocal 0x7005 e 0 0 0 0 s3

/-- The record whose segments the pair-link sender was reading is not sent, nor held for a NAK (R414, R478). -/
def loseRecord (s : State) : State :=
  match s.pair.sentRecs.getLast? with
  | none => s
  | some r =>
    let of (f : PairFrame) : Bool := match f.msg with
      | .record c _ _ _ => c == r.1
      | _ => false
    modPair (fun p => { p with sentRecs := p.sentRecs.dropLast })
      { s with wire1 := s.wire1.filter fun m => !of m }

/-- A chain read a poisoned word of the frame that it was to launch: the request ends with FLUSHED (R414). -/
def flushFrame (c : Chain) (s : State) : State :=
  let x := tx s c
  match x.cur, x.queue with
  | some r, _ => if curtainUp x then s else dropCur c r 14 s.time.tb0 s
  | none, r :: rest => decideNot r 14 0 s.time.tb0 (modTx c (fun x => { x with queue := rest }) s)
  | none, [] => s

/-- What the reader of a poisoned word does (R414). The poisoned attribute of a write into host memory and of a BAR4
completion is the link's. -/
def poisonedRead (r : Reader) (s : State) : State :=
  match r with
  | .engine e => raiseException e s
  | .queue h => discardPacket h s
  | .chain c => flushFrame c s
  | .pairLink => loseRecord s
  | .hostDma => s
  | .bar4 => s
  | .scrubber => s

/-- One error found on an access (R412, R413, R414). -/
def eccError (f : EccFault) (s : State) : State :=
  let s1 := latchError f s
  if f.uncorr then
    let s2 := planMarch f.bank f.row f.cells
      (emitLocal 0x7002 (unitSource 0 f.bank) f.bank f.row f.word 0 (countReg rWngUncorr 1 s1))
    let s3 := modWings (fun w => { w with
      poison := if w.poison.contains (f.bank, f.row, f.word) then w.poison
      else w.poison ++ [(f.bank, f.row, f.word)] }) s2
    poisonedRead f.reader s3
  else
    planMarch f.bank f.row f.cells
      (emitLocal 0x7001 (unitSource 0 f.bank) f.bank f.row f.word f.bit
        (modWings (fun w => { w with corrs := w.corrs ++ [(f.bank, f.row, s.proc.cueNow)] })
          (countReg rWngCorr 1 s1)))

/-- Corrections of a row within the last 1,024 cues (R416). -/
def rowCorrections (s : State) (b row : Nat) : Nat :=
  (s.wings.corrs.filter fun c => c.1 == b && c.2.1 == row &&
    decide (sdiff32 s.proc.cueNow c.2.2 < 1024)).length

/-- The lowest free spare bank (R420). -/
def freeSpare (s : State) : Option Nat :=
  if bankState s 96 = 3 then some 96 else if bankState s 97 = 3 then some 97 else none

/-- The spare bank replaces `b`, migrating from the next Housekeeping (R420); one migration runs at a time, as
WNG_SPARE_MAP.STEP has it, and the next waits (DEDUCED). -/
def assignSpare (b sp : Nat) (s : State) : State :=
  let vb := if b = 96 then s.wings.map0.getD 0 else if b = 97 then s.wings.map1.getD 0 else b
  modWings (fun w => { w with
    banks := smSet 0 w.banks sp 0
    map0 := if sp = 96 then some vb else w.map0
    map1 := if sp = 97 then some vb else w.map1
    migr := if w.migr.isNone then some ⟨b, sp, 0⟩ else w.migr
    waitMigr := if w.migr.isNone then w.waitMigr else w.waitMigr ++ [b] }) s

/-- A bank has failed: a spare replaces it, or it stays in service under ECC, faulted, and the
unrepaired-fault event is raised (R420, R422). -/
def bankFails (b : Nat) (s : State) : State :=
  if migrating s b || s.wings.waitMigr.contains b then s
  else
    match (if bit (cfgU s recInteg 0 2) 1 then freeSpare s else none) with
    | some sp => assignSpare b sp s
    | none =>
      emitLocal 0x7007 (unitSource 0 b) b 0 0 0
        (modWings (fun w => { w with banks := smSet 0 w.banks b 1 }) s)

/-- The march test of a row ends (R416, R423, R424, R425). -/
def marchTest (b row cells : Nat) (s : State) : State :=
  let tooMany := decide (cfgU s recInteg 4 2 < rowCorrections s b row)
  let s1 := testOutcome 0 b (cells == 0 && !tooMany) cells s
  if cells = 0 ∧ tooMany = false then s1 else bankFails b s1

/-- The march tests planned for this Housekeeping (R423). -/
def marchTests (s : State) : State :=
  let l := s.wings.march
  l.foldl (fun s m => marchTest m.1 m.2.1 m.2.2 s) (modWings (fun w => { w with march := [] }) s)

/-- Rows of every bank that the scrubber reads in a Housekeeping (R415, R418). -/
def scrubCount (s : State) : Nat :=
  if 0 < s.wings.wakeRows then cfgU s recInteg 3 1 else cfgU s recInteg 2 1

/-- The scrubber moves on by its rows (R415, R418). -/
def scrub (s : State) : State :=
  let n := scrubCount s
  let r := s.wings.scrubRow + n
  let s1 := modWings (fun w => { w with
    scrubRow := r % 2048
    wakeRows := w.wakeRows - n
    corrs := w.corrs.filter fun c => decide (sdiff32 s.proc.cueNow c.2.2 < 1024) }) s
  if r < 2048 then s1
  else setRBits rWngStatus 31 16 (satAdd 0xFFFF (rbits s rWngStatus 31 16) 1) s1

/-- A Housekeeping's copies of a migration: 1,024 words of 32,768 (R420). -/
def migrate (s : State) : State :=
  modWings (fun w => { w with migr := w.migr.map fun m => { m with step := min 32 (m.step + 1) } }) s

/-- BANK_SWAP (R420): at the cue start after the last copy the spare takes every access to the bank,
which is retired, and holds its poisoned words as poisoned (R414); a spare so replaced serves no more (R422). The next
bank that waits begins its migration. -/
def bankSwap (s : State) : State :=
  match s.wings.migr with
  | some m =>
    if m.step < 32 then s
    else
      let moved := (s.wings.poison.filter fun p => p.1 == m.bank).map fun p => (m.spare, p.2)
      let s1 := modWings (fun w => { w with
        banks := smSet 0 w.banks m.bank 2, migr := none
        map0 := if m.bank = 96 then none else w.map0
        map1 := if m.bank = 97 then none else w.map1
        poison := (w.poison.filter fun p => p.1 != m.spare && p.1 != m.bank) ++ moved }) s
      let s2 := emitLocal 0x7006 (unitSource 0 m.bank) m.bank m.spare 0 0 s1
      match s2.wings.waitMigr with
      | [] => s2
      | b :: rest => modWings (fun w => { w with
          waitMigr := rest
          migr := some ⟨b, if m.spare = 96 then 97 else 96, 0⟩ }) s2
  | none => s

/-! ### Engine exceptions -/

/-- Meaning of ENGINE_EXCEPTION (R426). -/
def execEngineException (e : Fin 12) (s : State) : Host.Outcome State Fault Refusal :=
  .next (if s.proc.processing then raiseException e.val s else s)

/-- The core test of an engine ends while processing runs (R426, R427, R505). -/
def liveCoreTest (e : Nat) (pass : Bool) (checks : Nat) (s : State) : State :=
  let s1 := testOutcome 4 e pass checks s
  if pass then
    let s2 := modEng e (fun g => { g with resume := true }) s1
    if (s.pair.role = 0 ∧ bit (cfgU s recInteg 0 2) 0 = true) ∨ isUnderstudy s = true then
      restartNext 1 s2
    else s2
  else
    let s2 := modEng e (fun g => { g with retired := true }) s1
    if s.pair.role = 1 then restartNext 1 s2 else restartNow 1 s2

/-- The core test of an engine ends during a restart or a start (R574, R576): a failed test leaves the unit stopped,
with the processing-stopped record. DEDUCED: R576 says so of a restart; at a start it is the same. -/
def restartCoreTest (e : Nat) (pass : Bool) (checks : Nat) (s : State) : State :=
  let s1 := modPwr (fun p => { p with coreTests := p.coreTests.filter (· != e) })
    (testOutcome 4 e pass checks s)
  if pass then modEng e (fun g => { g with paused := false, retired := false, blocked := false }) s1
  else
    emitLocal 0xB004 14 0 0 0 0
      (modProc (fun p => { p with stopped := true }) (modEng e (fun g => { g with retired := true }) s1))

/-! ### SELFTEST_RUN -/

/-- Number of units of a class (R429). -/
def classUnits (cls : Nat) : Nat := [98, 256, 38, 2, 12].getD cls 0

/-- The lane of an index of class 2: direction and lane (R429). -/
def laneOf (ix : Nat) : Bool × Nat := if ix < 33 then (false, ix) else (true, ix - 33)

/-- The unit is in service (R430). -/
def unitInService (s : State) (cls ix : Nat) : Bool :=
  match cls with
  | 0 => bankState s ix == 0
  | 1 => !(hwq s ix).quarantined
  | 2 => !s.wings.laneBad.contains (laneOf ix)
  | 3 => (tx s (chainOf ix)).st != .outOfService
  | _ => !(eng s ix).retired

/-- A unit that passed returns to service (R430): a retired bank becomes a free spare. -/
def returnUnit (cls ix : Nat) (s : State) : State :=
  match cls with
  | 0 => modWings (fun w => { w with
      banks := smSet 0 w.banks ix (if smGet 0 w.banks ix = 2 then 3 else if smGet 0 w.banks ix = 1 then 0
        else smGet 0 w.banks ix) }) s
  | 1 => modHwq ix (fun q => { q with quarantined := false }) s
  | 2 => returnLane (laneOf ix).1 (laneOf ix).2 s
  | 3 => modTx (chainOf ix) (fun x => { x with
      st := if x.st = .outOfService then .off else x.st }) s
  | _ => modEng ix (fun g => { g with retired := false }) s

/-- The completion of a SELFTEST_RUN whose test has ended (R430). -/
def selftestReply (c : Sub) (fails : Nat) (s : State) : State :=
  reply 9 0x00B0 stOk c
    (le 1 (if fails = 0 then 0 else 1) ++ le 1 (pU c 32 1) ++ le 2 (pU c 34 2) ++ le 4 fails) [] s

/-- A test of SELFTEST_RUN ends (R425, R430): the outcome is recorded, a unit that passes with RETURN returns, a bank
in service that fails is one whose march test failed (R420). -/
def selftestEnds (c : Sub) (fails : Nat) (s : State) : State :=
  let cls := pU c 32 1
  let ix := pU c 34 2
  let s1 := testOutcome cls ix (fails == 0) fails s
  selftestReply c fails
    (if fails = 0 ∧ bit (pU c 33 1) 0 = true then returnUnit cls ix s1
    else if fails ≠ 0 ∧ cls = 0 ∧ bankState s ix = 0 then bankFails ix s1
    else s1)

/-- Housekeepings of the row sweep of a bank: 16 of 2,048 rows in each (R430). -/
abbrev sweepHks : Nat := 128

/-- What SELFTEST_RUN starts (R430): the row sweep of a bank, or the core test of an engine in service. DESIGN CHOICE:
a bank out of service is swept at the same pace, and any other test ends in the step of its command. -/
def selftestStarts (c : Sub) (fails : Nat) (s : State) : State :=
  let wait (n : Nat) (s : State) : State := modHif (fun h => { h with selfTests := h.selfTests ++ [(c, fails, n)] }) s
  if pU c 32 1 = 0 then wait sweepHks s
  else if pU c 32 1 = 4 ∧ (eng s (pU c 34 2)).retired = false then
    wait 0 (modEng (pU c 34 2) (fun g => { g with paused := true, blocked := true, resume := false }) s)
  else selftestEnds c fails s

/-- The row sweeps of a Housekeeping (R430). -/
def sweepBanks (s : State) : State :=
  let l := s.hif.selfTests
  let next (x : Sub × Nat × Nat) : Sub × Nat × Nat := (x.1, x.2.1, x.2.2 - 1)
  (l.filter fun x => x.2.2 == 1).foldl (fun s x => selftestEnds x.1 x.2.1 s)
    (modHif (fun h => { h with selfTests := (l.filter fun x => x.2.2 != 1).map next }) s)

/-- A SELFTEST_RUN waits for the core test of engine `e`. -/
def selfTesting (e : Nat) (x : Sub × Nat × Nat) : Bool := pU x.1 32 1 == 4 && pU x.1 34 2 == e

/-- The core test that a SELFTEST_RUN started ends (R425, R426, R430). -/
def selfCoreTest (e : Nat) (pass : Bool) (checks : Nat) (s : State) : State :=
  let l := s.hif.selfTests.filter (selfTesting e)
  let s1 := modHif (fun h => { h with selfTests := h.selfTests.filter fun x => !selfTesting e x }) s
  let s2 := l.foldl (fun s x => selftestReply x.1 (if pass then 0 else max 1 checks) s) s1
  if pass then modEng e (fun g => { g with resume := true }) (testOutcome 4 e true checks s2)
  else liveCoreTest e false checks s2

/-- Meaning of CORE_TEST_END (R426, R430, R576). -/
def execCoreTestEnd (e : Fin 12) (pass : Bool) (checks : Nat) (s : State) :
    Host.Outcome State Fault Refusal :=
  .next (
    if (s.pwr.restarting || (s.pwr.rom && !s.pwr.bootDone)) && s.pwr.coreTests.contains e.val then restartCoreTest e.val pass checks s
    else if s.proc.processing && (eng s e.val).paused then
      if s.hif.selfTests.any (selfTesting e.val) then selfCoreTest e.val pass checks s
      else liveCoreTest e.val pass checks s
    else s)

/-- SELFTEST_RUN (R429, R430); `fails` is the failing count of the test. -/
def cmdSelftest (fails : Nat) : CmdSpec where
  op := 0x00B0
  engine := byPrompter1
  use := .none
  aside := true
  static := fun c => decide (pU c 32 1 ≤ 4) && decide (pU c 33 1 ≤ 1) && pZero c 36 63
  wrong := fun c s => !isUnderstudy s && decide (pU c 34 2 < classUnits (pU c 32 1)) &&
    unitInService s (pU c 32 1) (pU c 34 2)
  check := fun c s =>
    if classUnits (pU c 32 1) ≤ pU c 34 2 then some stBadParam
    else if isUnderstudy s && (pU c 32 1 == 1 || pU c 32 1 == 2 || pU c 32 1 == 3) &&
      unitInService s (pU c 32 1) (pU c 34 2) then some stDenied
    else none
  cost := cost10
  act := fun _ c s => selftestStarts c fails s

/-- Meaning of SELFTEST_RUN, served aside in every role (R381, R430). -/
def execSelftestRun (c : Sub) (fails : Nat) (s : State) : Host.Outcome State Fault Refusal :=
  .next (if s.proc.processing then
    runCmd (cmdSelftest fails) (.row (.selftestRun c fails)) { c with aside := true } s else s)

end Sys2Proof.Machine
end

