-- ==== Sys2Proof/Machine/Power.lean ====
section
/-! DEFINITION. Power modes, resets, watchdogs and temperatures (chapter 15), and the clocks (R565). -/

namespace Sys2Proof.Machine

/-- Event source of the Power block (R392). -/
abbrev powerSource : Nat := 14
/-- Event source of the Clocks block (R392). -/
abbrev clockSource : Nat := 15

/-- The mode-changed record (R587). -/
def modeRecord (s : State) : State := emitLocal 0xB002 powerSource 0 0 0 0 s

/-- The main rails are on. -/
def isPowered (s : State) : Bool :=
  match s.pwr.mode with
  | .off => false
  | .keepOnly => false
  | _ => true

/-! ### Flash: selector and settings copies -/

/-- The valid selector record with the highest sequence (R530, R532). -/
def selHi (u : Upd) : Option Selector :=
  match u.sel0, u.sel1 with
  | some a, some b => some (if 0 < sdiff32 b.seq a.seq then b else a)
  | some a, none => some a
  | none, b => b

/-- The selector record that decides; none valid reads as slot A, CONFIRMED (R532). -/
def selNow (u : Upd) : Selector := (selHi u).getD ⟨0, 0, false, 0, 0, 0, 0⟩

/-- The copy that holds the highest valid sequence is copy 1 (R531). -/
def hiIsOne (a b : Option Word32) : Bool :=
  match a, b with
  | some x, some y => decide (0 < sdiff32 y x)
  | none, some _ => true
  | _, _ => false

/-- A selector write goes to the copy that does not hold the highest valid sequence, with a sequence one
above it (R531). -/
def writeSel (f : Selector → Selector) (u : Upd) : Upd :=
  let r := f (selNow u)
  let r := { r with seq := match selHi u with
                             | some x => x.seq + 1
                             | none => 1 }
  if hiIsOne (u.sel0.map (·.seq)) (u.sel1.map (·.seq)) then { u with sel0 := some r, selBusy := some false }
  else if u.sel0.isNone then { u with sel0 := some r, selBusy := some false }
  else { u with sel1 := some r, selBusy := some true }

/-- The valid settings copy with the highest sequence (R550). -/
def settingsHi (u : Upd) : Option Settings :=
  match u.set0, u.set1 with
  | some a, some b => some (if 0 < sdiff32 b.seq a.seq then b else a)
  | some a, none => some a
  | none, b => b

/-- A settings write, by the rule of the selector copies (R531, R550). -/
def writeSettings (f : Settings → Settings) (u : Upd) : Upd :=
  let old := (settingsHi u).getD ⟨0, none, none, [], [], 0, [], [], 0, []⟩
  let r := f old
  let r := { r with seq := old.seq + 1 }
  if hiIsOne (u.set0.map (·.seq)) (u.set1.map (·.seq)) then { u with set0 := some r, setBusy := some false }
  else if u.set0.isNone then { u with set0 := some r, setBusy := some false }
  else { u with set1 := some r, setBusy := some true }

/-! ### A loss of power during a flash write -/

/-- Which of what is written in the present cue the loss of power cuts: bit 0 the selector, bit 1 the settings, bit 2 the
last journal record, and above them how far a blow of fuses came. The manual does not say how long a write lasts.
DESIGN CHOICE: a write may be under way until the cue in which it began has ended. -/
def cutBits (n : Nat) : Word64 := Config.openWord 102 n

/-- A copy whose write is cut fails its check; the other copy is untouched (R531). -/
def cutCopies (b : Word64) (u : Upd) : Upd :=
  let u1 := match b.getLsbD 0, u.selBusy with
    | true, some true => { u with sel1 := none }
    | true, some false => { u with sel0 := none }
    | _, _ => u
  match b.getLsbD 1, u.setBusy with
  | true, some true => { u1 with set1 := none }
  | true, some false => { u1 with set0 := none }
  | _, _ => u1

/-- A blow of fuses that the loss of power ends part way: a count between the old value and the new (R461). -/
def cutFuses (b : Word64) (f : Fuses) (v : Nat) (r : BitVec 4) : Fuses :=
  { f with
    secVer := f.secVer + (b.toNat / 8) % (v - f.secVer + 1)
    revoke := f.revoke ||| (r &&& (b >>> 16).setWidth 4) }

/-- A record whose journal write is cut counts as lost, with its record (R518). -/
def cutJournal (b : Word64) (s : State) : State :=
  if s.board.copied = true ∧ b.getLsbD 2 = true then
    let q := s.board.jnlSeq - 1
    emitLocal 0x0003 224 q.toNat 1 0 0 (modBoard (fun x => { x with
      copied := false, jnl := smSet none x.jnl (q.toNat % 262144) none, lost := satAdd 0xFFFFFFFF x.lost 1 }) s)
  else s

/-- Security version and revoked slots that the confirmed manifest names (R461): those of the set booted, or of the set
that a rolling activation brought. -/
def confirmImage (u : Upd) : Nat × BitVec 4 :=
  if (selNow u).slot = u.slot then (u.bootSec, u.bootRevoke)
  else
    let b := u.bundle.getD (openBundle u.version)
    (b.image.secVersion, b.image.revoke)

/-- Power is lost: the writes and the blow that it cuts (R461, R518, R531, R583). -/
def cutWrites (s : State) : State :=
  let x := fresh s
  let b := cutBits x.1
  let s1 := modUpd (cutCopies b) x.2
  let s2 := if s.upd.confirming.isSome then
      modSec (fun y => { y with fuses := cutFuses b y.fuses (confirmImage s.upd).1 (confirmImage s.upd).2 }) s1
    else s1
  cutJournal b s2
/-! ### What a reset leaves -/

/-- Bank states under a replacement map (R420, R421): a replaced bank is retired, a spare in use is in
service, and a spare that the other replaced is retired too. -/
def mapBanks (m0 m1 : Option Nat) : SMap Nat :=
  let b0 := smSet 0 ([] : SMap Nat) 96 (if m0.isNone then 3 else if m0 = m1 then 2 else 0)
  let b1 := smSet 0 b0 97 (if m1.isSome then 0 else 3)
  let b2 := match m0 with
    | some b => smSet 0 b1 b 2
    | none => b1
  match m1 with
  | some b => smSet 0 b2 b 2
  | none => b2

/-- What the keep domain, the fuses, the boot flash and the host hold, and everything else at its reset
(R561, R572). -/
def keepDomain (m : Power) (s : State) : State :=
  { State.reset with
    pending := s.pending
    regs := s.regs.filter fun x => decide (0x200000 ≤ x.1)
    proc := { cueNow := s.proc.cueNow, cueStart := s.proc.cueStart, stopAt := s.time.tb0 }
    time := { tb0 := s.time.tb0 }
    hif := { hostMem := s.hif.hostMem }
    wings := { banks := mapBanks s.wings.map0 s.wings.map1, map0 := s.wings.map0, map1 := s.wings.map1 }
    sec := { fuses := s.sec.fuses, drawn := s.sec.drawn }
    pair := { leadIn := s.pair.leadIn }
    board := { s.board with
      erasing := none, paused := false, snapDue := false, copied := false
      ahead := match s.board.erasing with
        | some n => some ((n + 31) % 32)
        | none => s.board.ahead }
    upd := { sel0 := s.upd.sel0, sel1 := s.upd.sel1, set0 := s.upd.set0, set1 := s.upd.set1 }
    pwr := { mode := m, vin := s.pwr.vin, vkeep := s.pwr.vkeep, tPit := s.pwr.tPit, tStage := s.pwr.tStage
             cause := s.pwr.cause, count := s.pwr.count, inhibit := s.pwr.inhibit
             clocks := s.pwr.clocks } }

/-- A main start (R572, R574): Start-up, cause 1. -/
def startMain (s : State) : State :=
  let s1 := keepDomain .startup s
  modeRecord (resetRecord 1 0 (modPwr (fun p => { p with cause := 1, clocks := 0 }) s1))

/-- A system reset with a cause (R572, R573); without the main rails it reaches nothing. -/
def systemReset (cause : Nat) (s : State) : State :=
  if isPowered s then
    let s1 := modPwr (fun p => { p with
      cause := cause, count := satAdd 0xFFFF p.count 1, vioStuck := s.pwr.vioStuck }) (keepDomain .startup s)
    resetRecord cause 0 (if s.pwr.vioStuck then setRBit rPwrSupply 4 s1 else s1)
  else s

/-- The registers that a boot restart reaches: Chorus, demodulators, chains, the engines' blocks and the
Host interface block (R572, R611). -/
def bootReaches (o : Nat) : Bool :=
  (decide (0x22000 ≤ o) && decide (o < 0x28000)) || (decide (0x30000 ≤ o) && decide (o < 0x50000))

/-- A boot restart (R572, R574): the ROM runs; the PCIe link, the pads and the keep domain stay. -/
def bootRestart (s : State) : State :=
  if isPowered s then
    let k := keepDomain .startup s
    let s1 : State := { k with
      regs := s.regs.filter fun x => !bootReaches x.1
      ports := s.ports
      time := { s.time with ptp := {}, mains := {} }
      wings := s.wings
      wire0 := s.wire0
      wire1 := s.wire1
      pwr := { k.pwr with
        cause := 8, hot := s.pwr.hot, warned := s.pwr.warned, feid := s.pwr.feid
        eth0Up := s.pwr.eth0Up, eth1Up := s.pwr.eth1Up, speed0 := s.pwr.speed0
        clocks := s.pwr.clocks } }
    resetRecord 8 0 s1
  else s

/-- The main rails go off: processing stops, the Wings are lost, the keep domain goes on and leaves the
record (R566). -/
def loseMain (code : Nat) (s : State) : State :=
  let s0 := cutWrites s
  let s1 := if s0.proc.processing then stopNow s0 else s0
  emitLocal code powerSource 0 0 0 0 (keepDomain .keepOnly s1)

/-- Both die temperatures allow the main start (R566). -/
def coolEnough (a b : Int) : Bool := decide (a < 100) && decide (b < 100)

/-- The main start of a device in Keep-only with VIN good, once it is cool (R566). -/
def tryMainStart (a b : Int) (s : State) : State :=
  let s1 := modPwr (fun p => { p with tPit := a, tStage := b }) s
  if s1.pwr.mode = .keepOnly ∧ s1.pwr.vin = true ∧ coolEnough a b = true then startMain s1 else s1

/-- VKEEP becomes good in Off (R520, R566): everything at its reset; flash, fuses and the host keep
theirs. -/
def keepStart (s : State) : State :=
  if s.pwr.mode = .off then
    { State.reset with
      pending := s.pending
      hif := { hostMem := s.hif.hostMem }
      sec := { fuses := s.sec.fuses, drawn := s.sec.drawn }
      board := { State.reset.board with jnl := s.board.jnl }
      upd := { sel0 := s.upd.sel0, sel1 := s.upd.sel1, set0 := s.upd.set0, set1 := s.upd.set1 } }
  else s

/-- VKEEP is lost (R566): everything is lost. -/
def loseKeep (s0 : State) : State :=
  let s := cutWrites s0
  { State.reset with
    pending := s.pending
    hif := { hostMem := s.hif.hostMem }
    sec := { fuses := s.sec.fuses, drawn := s.sec.drawn }
    board := { jnl := s.board.jnl }
    upd := { sel0 := s.upd.sel0, sel1 := s.upd.sel1, set0 := s.upd.set0, set1 := s.upd.set1 }
    pwr := { mode := .off, vkeep := false } }

/-- Meaning of VKEEP_GOOD. -/
def execVkeepGood (s : State) : Host.Outcome State Fault Refusal := .next (keepStart s)

/-- Meaning of VKEEP_LOST. -/
def execVkeepLost (s : State) : Host.Outcome State Fault Refusal := .next (loseKeep s)

/-- Meaning of VIN_GOOD (R566, R574): without VKEEP the device does not start (R561). -/
def execVinGood (tPit : Int) (tStage : Int) (s : State) : Host.Outcome State Fault Refusal :=
  .next (if s.pwr.mode = .off then s
    else tryMainStart tPit tStage (modPwr (fun p => { p with vin := true }) s))

/-- Meaning of MAIN_START_ON_COOLING (R566). -/
def execMainStartOnCooling (tPit : Int) (tStage : Int) (s : State) : Host.Outcome State Fault Refusal :=
  .next (if s.pwr.mode = .keepOnly then tryMainStart tPit tStage s else s)

/-- Meaning of VIN_LOST (R566). -/
def execVinLost (s : State) : Host.Outcome State Fault Refusal :=
  .next (if s.pwr.mode = .off ∨ s.pwr.vin = false then s
    else modPwr (fun p => { p with vin := false }) (loseMain 0xB003 s))

/-- Meaning of RAIL_FAULT (R563). -/
def execRailFault (_rail : Fin 7) (s : State) : Host.Outcome State Fault Refusal := .next (systemReset 6 s)

/-- Meaning of VIO_FAULT (R563, R596): one found while the banks are sensed, before the ROM runs, stays set until a main
start senses again (R610). -/
def execVioFault (_bankB : Bool) (s : State) : Host.Outcome State Fault Refusal :=
  .next (if isPowered s then
    let sensing := s.pwr.mode == .startup && !s.pwr.rom
    emitLocal 0xB00F powerSource 0 0 0 0 (setRBit rPwrSupply 4
      (modPwr (fun p => { p with vioStuck := p.vioStuck || sensing }) s))
  else s)

/-- Meaning of RST_N (R572). -/
def execRstN (s : State) : Host.Outcome State Fault Refusal := .next (systemReset 2 s)

/-- Meaning of SYSTEM_RESET (R572). -/
def execSystemReset (s : State) : Host.Outcome State Fault Refusal := .next (systemReset 3 s)

/-- Meaning of REBOOT (R572). -/
def execReboot (s : State) : Host.Outcome State Fault Refusal := .next (bootRestart s)

/-- Meaning of TRST_N (R572): only the test access port. -/
def execTrstN (s : State) : Host.Outcome State Fault Refusal :=
  .next (modSec (fun x => { x with tapReset := true }) s)

/-! ### Watchdogs -/

/-- The watchdog record, which names the watchdog: 0 boot, 1 keep, 2 host (R581). -/
def watchdogRecord (n : Nat) (s : State) : State := emitLocal 0xB009 13 n 0 0 0 s

/-- Meaning of BOOT_WATCHDOG (R581): stopped by BOOT_DONE and by recovery. -/
def execBootWatchdog (s : State) : Host.Outcome State Fault Refusal :=
  .next (if s.pwr.rom && !s.pwr.bootDone && !s.hif.recovery && !s.pwr.recImage then
    systemReset 5 (watchdogRecord 0 s) else s)

/-- Meaning of KEEP_WATCHDOG (R581): 8 cues of processing without an ended Housekeeping. -/
def execKeepWatchdog (s : State) : Host.Outcome State Fault Refusal :=
  .next (if s.proc.processing && decide (8 ≤ s.pwr.keepWd) then systemReset 4 (watchdogRecord 1 s) else s)

/-- Meaning of HOST_WATCHDOG (R581). -/
def execHostWatchdog (s : State) : Host.Outcome State Fault Refusal :=
  let t := rbits s rSysWdt 15 0
  .next (if t ≠ 0 ∧ t ≤ s.pwr.hostWd then
    let s1 := watchdogRecord 2 (setRBit rSysWdt 18 (modPwr (fun p => { p with hostWd := 0 }) s))
    if rbit s rSysWdt 16 then restartNext 5 s1 else s1
  else s)

/-- KICK written: the host watchdog's count restarts (R581). -/
def kickHost (s : State) : State := modPwr (fun p => { p with hostWd := 0 }) s

/-- Meaning of KICK. -/
def execKick (s : State) : Host.Outcome State Fault Refusal := .next (kickHost s)

/-! ### Temperature -/

/-- TEMPERATURE_READ (R582): the two die temperatures of the cue, and what the higher of them does. -/
def readTemps (a b : Int) (s : State) : State :=
  let t := max a b
  let w : Int := rbits s rPwrTherm 7 0
  let s := modPwr (fun p => { p with tPit := a, tStage := b }) s
  let s1 :=
    if w ≤ t ∧ s.pwr.warned = false then
      emitLocal 0xB005 powerSource 0 0 0 0 (setRBit rPwrTherm 8 (modPwr (fun p => { p with warned := true }) s))
    else if t < w then modPwr (fun p => { p with warned := false }) s
    else s
  let s2 :=
    if 115 ≤ t ∧ s1.pwr.hot = false then
      emitLocal 0xB006 powerSource 0 0 0 0
        (cutChains s1.time.tb0 (modPwr (fun p => { p with hot := true }) s1))
    else if t < 108 then modPwr (fun p => { p with hot := false }) s1
    else s1
  if 125 ≤ t then modPwr (fun p => { p with cause := 7 }) (loseMain 0xB007 s2) else s2

/-! ### Quiet and Full -/

/-- Of the enabled lines only the lowest-numbered QUIET_LINES run in Quiet mode; a reception of another
ends with ABORTED, and a port without a running line is off (R567). -/
def quietSet (s : State) : State :=
  let on := smKeys (s.lines.filter fun l => l.2.en)
  let k := rbits s rPwrMode 11 5
  let off := on.drop k
  let newly := off.filter fun n => !(line s n).quietOff
  let s1 := newly.foldl (fun s n =>
    missWindows (fun _ => true) s.time.tb0 (abortLine s.time.tb0 s n) n) s
  let s2 := on.foldl (fun s n => modLine n (fun l => { l with quietOff := off.contains n }) s) s1
  (List.range 4).foldl (fun s p =>
    let used := (on.take k).any fun n => linePort (line s n) == p
    modPort p (fun x => { x with quietOff := !used }) s) s2

/-- Every line and port runs again in Full mode. -/
def quietClear (s : State) : State :=
  { s with
    lines := smMapAll {} s.lines fun _ l => { l with quietOff := false }
    ports := smMapAll {} s.ports fun _ p => { p with quietOff := false } }

/-- A request for Quiet or Full takes effect at a cue start (R566, R567, R583). -/
def takeMode (s : State) : State :=
  match s.pwr.quietReq with
  | some true =>
    let s1 := disableChain .b s.time.tb0 (disableChain .a s.time.tb0 s)
    quietSet (modeRecord (modPwr (fun p => { p with mode := .quiet, quietReq := none }) s1))
  | some false =>
    quietClear (modeRecord (modPwr (fun p => { p with mode := .full, quietReq := none }) s))
  | none => if s.pwr.mode = .quiet then quietSet s else s

/-- REQ Quiet (R566): from Full, at the next cue start. -/
def askQuiet (s : State) : State :=
  let s1 := setRBits rPwrMode 1 0 1 s
  if s.pwr.mode = .full then modPwr (fun p => { p with quietReq := some true }) s1
  else if s.pwr.mode = .quiet then modPwr (fun p => { p with quietReq := none }) s1
  else s1

/-- REQ Full (R566, R570): from Quiet at the next cue start; in Retention it asks for the wake. -/
def askFull (s : State) : State :=
  let s1 := setRBits rPwrMode 1 0 0 s
  if s.pwr.mode = .quiet then modPwr (fun p => { p with quietReq := some false }) s1
  else if s.pwr.mode = .full then modPwr (fun p => { p with quietReq := none }) s1
  else if s.pwr.mode = .retention then modPwr (fun p => { p with doorFull := true }) s1
  else s1

/-- Meaning of REQ_QUIET. -/
def execReqQuiet (s : State) : Host.Outcome State Fault Refusal := .next (askQuiet s)

/-- Meaning of REQ_FULL. -/
def execReqFull (s : State) : Host.Outcome State Fault Refusal := .next (askFull s)

/-! ### Retention -/

/-- The conditions of R568, and no processing restart is due (R583). -/
def retentionOk (s : State) : Bool :=
  s.proc.processing && (s.pwr.mode == .full || s.pwr.mode == .quiet) && s.pair.mode == 0 &&
    (List.range 64).all (fun q => !sqEn s q) && s.hif.outstanding.isEmpty && s.hif.capture.isNone &&
    s.pwr.restartReq.isNone && s.pwr.retReq.isNone

/-- REQ Retention (R566, R568): from Full and Quiet it is accepted, or refused with its record; in another mode,
and once one is accepted, REQ takes the value (R6) and nothing else happens (R9). A request between a wake and the
cue that resumes processing counts for that cue. -/
def askRetention (s : State) : State :=
  if (s.pwr.mode ≠ .full ∧ s.pwr.mode ≠ .quiet) ∨ s.pwr.retReq.isSome = true then setRBits rPwrMode 1 0 2 s
  else if retentionOk s then
    modPwr (fun p => { p with retReq := some ((p.wakeIn.map (· - 1)).getD s.proc.cueNow) }) (setRBits rPwrMode 1 0 2 s)
  else emitLocal 0xB00E powerSource 0 0 0 0 (setRBit rPwrMode 4 s)

/-- Meaning of REQ_RETENTION. -/
def execReqRetention (s : State) : Host.Outcome State Fault Refusal := .next (askRetention s)

/-- The start of cue n+1 of a Retention accepted in cue n: both chains are cut, the ports disabled and the
endpoint taken down (R569). -/
def suspend (s : State) : State :=
  if s.pwr.retReq = some (s.proc.cueNow - 1) ∧ s.pwr.mode ≠ .retention ∧ s.pwr.wakeIn = none then
    let t := s.time.tb0
    resetEndpoint ((List.range 4).foldl (fun s p => disablePort p t s) (cutChains t s))
  else s

/-- RETENTION_ENTRY (R417, R569): after the Housekeeping of cue n+1. -/
def enterRetention (s : State) : State :=
  if s.pwr.retReq = some (s.proc.procCue - 1) ∧ s.pwr.mode ≠ .retention then
    modeRecord (stopPins (ptpRetention (modPwr (fun p => { p with mode := .retention, quietReq := none }) s)))
  else s

/-- The wake of R570 is due: the wake cue has come with WAKE_EN, or the stage door asked for Full; REF is
there (R583). -/
def wakeDue (s : State) : Bool :=
  s.pwr.mode == .retention && !s.pwr.clocks.getLsbD 0 &&
    ((rbit s rPwrMode 12 && decide (0 ≤ sdiff32 s.proc.cueNow (reg s rPwrWakeCue))) || s.pwr.doorFull)

/-- RETENTION_WAKE (R418, R570): processing resumes at the second cue start after the wake. -/
def wake (s : State) : State :=
  if wakeDue s then
    let s1 := modWings (fun w => { w with wakeRows := 2048 }) (setRBits rPwrMode 1 0 0 s)
    modeRecord (quietClear (modPwr (fun p => { p with
      mode := .full, doorFull := false, retReq := none, wakeIn := some (s.proc.cueNow + 2) }) s1))
  else s

/-- Meaning of RETENTION_WAKE. -/
def execRetentionWake (t : Stamp) (s : State) : Host.Outcome State Fault Refusal := .next (wake (atTime t s))

/-! ### Clocks -/

/-- The domain is REF or has a PLL (R564, R565). -/
def hasPll (d : Nat) : Bool := decide (d ≤ 5) || (decide (8 ≤ d) && decide (d ≤ 11))

/-- CLOCK_LOST (R565): the event bit and the record; processing stops at once and both chains are cut. -/
def loseClock (d : Nat) (s : State) : State :=
  if isPowered s then
    let s1 := emitLocal 0xB008 clockSource 0 0 0 0 (setRBit rClkEvents d s)
    if hasPll d then
      let s2 := modPwr (fun p => { p with clocks := p.clocks ||| BitVec.ofNat 14 (2 ^ d) }) s1
      if s.pwr.mode = .retention then s2
      else if s2.proc.processing then stopNow (refuseRetention s2)
      else cutChains s2.time.tb0 s2
    else s1
  else s

/-- Meaning of CLOCK_LOST. -/
def execClockLost (domain : Fin 14) (t : Stamp) (s : State) : Host.Outcome State Fault Refusal :=
  .next (loseClock domain.val (atTime t s))

/-- CLOCK_RECOVERED (R565): a processing restart, where processing ran; in Retention the wake may come. -/
def clocksBack (s : State) : State :=
  if s.pwr.clocks = 0 then s
  else
    let s1 := modPwr (fun p => { p with clocks := 0 }) s
    if (s.pwr.mode = .full ∨ s.pwr.mode = .quiet) ∧ s.pwr.restarting = false then restartNow 3 s1 else s1

/-- Meaning of CLOCK_RECOVERED. -/
def execClockRecovered (t : Stamp) (s : State) : Host.Outcome State Fault Refusal :=
  .next (clocksBack (atTime t s))

end Sys2Proof.Machine
end

