-- ==== Sys2Proof/Machine/Update.lean ====
section
/-! DEFINITION. Firmware update (chapter 14): the image commands and their update-end entries (R537 to R539,
R544 to R546), rolling activation (R540 to R543) and the settings (R550, R551). -/

namespace Sys2Proof.Machine

/-! ### Shared -/

/-- The update state that a command acts on: the unit's own, or that of the image commands of a partner's
record, which touch neither this unit's flash nor its fuses (R544). -/
def updOf (partner : Bool) (s : State) : Upd := if partner then s.updP else s.upd

/-- The state with that update state changed. -/
def modUpdOf (partner : Bool) (f : Upd → Upd) (s : State) : State :=
  if partner then { s with updP := f s.updP } else modUpd f s

/-- Event source of secure boot (R392, R466). -/
abbrev bootSource : Nat := 194

/-- The secure-boot event (R462, R466): the reason, the key slot, the security version, and the image: the
slot, or 2 for a recovery image. -/
def secureBoot (reason key sec image : Nat) (s : State) : State :=
  emitLocal 0x8007 bootSource reason key sec image s

/-- A selector record before a change; without a valid one it names the running set (R532). -/
def selBase (u : Upd) (r : Selector) : Selector :=
  if (selHi u).isSome then r else { r with version := u.version, rclass := u.rclass }

/-- A TRIAL record stands: a trial boot is in progress (R382, R558). -/
def onTrial (u : Upd) : Bool := (selNow u).trial

/-- Outcome byte of a history item: complete, stopped, confirmed, reverted (R550 names the field only). -/
def historyCode (k : Nat) : Nat := (Config.openWord 66 k).toNat % 256

/-- An activation, confirmation or revert joins the history of the last 16, and settings item 0x03 is
written (R550). -/
def noteHistory (version : Nat) (cue : CueNo) (k : Nat) (u : Upd) : Upd :=
  let l := (u.history ++ [(version, cue, historyCode k)])
  let l := l.drop (l.length - 16)
  writeSettings (fun x => { x with fmtHist := Config.settingsFormat 3 u.version, history := l })
    { u with history := l }

/-- The engine takes no part in the choice: image commands have reserved parameters (R538 to R540, R546). -/
def noParams (c : Sub) : Bool := pZero c 32 63

/-! ### IMAGE_STAGE -/

/-- IMAGE_STAGE's action (R538): staged length 0, and the write of the other slot begins. -/
def imageStage (_e : Nat) (c : Sub) (s : State) : State :=
  modUpdOf c.partner (fun u =>
    { writeSel (fun r => { selBase u r with staged := 0 }) u with
      verified := false, bundle := none, staging := some c, stageHit := false }) s

/-- IMAGE_STAGE (R382, R538). -/
def cmdImageStage : CmdSpec where
  op := 0x0080
  engine := byPrompter0
  use := .image
  aside := true
  static := noParams
  wrong := fun c s =>
    let u := updOf c.partner s
    u.staging.isSome || u.roll.isSome || onTrial u
  check := noCheck
  cost := cost10
  act := imageStage

/-- Meaning of IMAGE_STAGE. -/
def execImageStage (c : Sub) (s : State) : Host.Outcome State Fault Refusal :=
  .next (runCmd cmdImageStage (.row (.imageStage c)) c s)

/-- IMAGE_STAGE completes with the outcome of its flash operation (R538). -/
def endStage (c : Sub) (x : UpdEnd) (s : State) : State :=
  if x.outcome = 0 then
    let s1 := modUpdOf c.partner (fun u =>
      { writeSel (fun r => { selBase u r with staged := c.length }) u with staging := none }) s
    reply 8 0x0080 stOk c (le 4 x.bytes) []
      (if c.aside then emitLocal 0xA001 8 0 0 0 0 s1 else emit 8 0xA001 0 0 0 0 s1)
  else replySt 8 0x0080 stIntegrity c (modUpdOf c.partner (fun u => { u with staging := none }) s)

/-! ### IMAGE_VERIFY -/

/-- A running component: its kind, its version and its requirements (R534, R536). -/
abbrev Component : Type := Nat × Nat × List Nat

/-- Component of kind `k` of a bundle. -/
def componentOf (b : BundleInfo) (k : Nat) : Component :=
  (k, b.versions.getD (k - 1) 0, b.requires.getD (k - 1) [])

/-- The components that an activation brings, with the step that brings each (R536). -/
def stepKinds : List (Nat × Nat) :=
  [(1, 1), (2, 2), (3, 3), (4, 3), (5, 4), (6, 4), (7, 4), (8, 4), (9, 4), (10, 4), (11, 4), (12, 4), (13, 5), (13, 6)]

/-- State `i` of R536: the running set with steps 1 to `i` done. -/
def stateSet (old new : BundleInfo) (i : Nat) : List Component :=
  stepKinds.map fun x => if x.1 ≤ i then componentOf new x.2 else componentOf old x.2

/-- The kind of a component whose requirement fails in a set (R536). -/
def failingKind (l : List Component) : Option Nat :=
  let bad (c : Component) : Bool :=
    l.any fun o => decide (o.2.1 < c.2.2.getD (o.1 - 1) 0)
  (l.find? bad).map (·.1)

/-- The first of states 0 to 13 that is not consistent, with the kind (R539). -/
def firstInconsistent (old new : BundleInfo) : Option (Nat × Nat) :=
  ((List.range 14).filterMap fun i => (failingKind (stateSet old new i)).map fun k => (i, k)).head?

/-- The running set: what a rolling activation brought, else the set booted. -/
def runningSet (u : Upd) : BundleInfo := u.running.getD (openBundle u.version)

/-- IMAGE_VERIFY's action (R539). -/
def imageVerify (b : BundleInfo) (_e : Nat) (c : Sub) (s : State) : State :=
  modUpdOf c.partner (fun u => { u with verifying := some (c, b) }) s

/-- IMAGE_VERIFY (R382, R539). -/
def cmdImageVerify (b : BundleInfo) : CmdSpec where
  op := 0x0081
  engine := byBox
  use := .none
  aside := true
  static := noParams
  wrong := fun c s => (selNow (updOf c.partner s)).staged == 0 || (updOf c.partner s).verifying.isSome
  check := noCheck
  cost := cost10
  act := imageVerify b

/-- Meaning of IMAGE_VERIFY. -/
def execImageVerify (c : Sub) (b : BundleInfo) (s : State) : Host.Outcome State Fault Refusal :=
  .next (runCmd (cmdImageVerify b) (.row (.imageVerify c b)) c s)

/-- The verdict of a verification (R28, R460, R462): 0, or the first reason, in the order of the codes, that applies.
DESIGN CHOICE (R462 gives the codes, not which is told when several apply). -/
def imageReason (s : State) (x : ImageIn) : Nat :=
  if !x.magicOk then 1
  else if !x.keyOk then 2
  else if s.sec.fuses.revoke.getLsbD x.keySlot || x.revoke.getLsbD x.keySlot then 3
  else if !x.sigOk then 4
  else if x.secVersion < s.sec.fuses.secVer then 5
  else if !x.hashesOk then 6
  else if x.steppings.any (· != sysId s / 65536 % 256) then 7
  else 0

/-- What a verification tells: the reason, the first inconsistent state or 0xFF, and the kind (R539). -/
def verifyResult (u : Upd) (b : BundleInfo) (reason : Nat) : Bool × List Byte :=
  match firstInconsistent (runningSet u) b with
  | some (i, k) => (false, le 1 reason ++ le 1 i ++ le 1 k)
  | none => (reason == 0 && (List.range 6).all fun k => b.kinds.count (k + 1) == 1, le 1 reason ++ le 1 0xFF ++ le 1 0)

/-- IMAGE_VERIFY completes with the outcome of its hash operation (R537, R539). DESIGN CHOICE (R539 names no status for a
flash error): INTEGRITY, as R538 gives it for IMAGE_STAGE. -/
def endVerify (c : Sub) (b : BundleInfo) (x : UpdEnd) (s : State) : State :=
  let s0 := modUpdOf c.partner (fun u => { u with verifying := none }) s
  if 8 ≤ x.outcome then replySt 11 0x0081 stIntegrity c s0
  else
    let y := verifyResult (updOf c.partner s) b x.outcome
    let s1 := modUpdOf c.partner (fun u => { u with
      verified := y.1, bundle := if y.1 then some b else none }) s0
    let s2 := if c.aside then emitLocal 0xA002 11 0 0 0 0 s1 else emit 11 0xA002 0 0 0 0 s1
    reply 11 0x0081 (if y.1 then stOk else stDenied) c (if y.1 then [] else y.2) [] s2

/-! ### IMAGE_ACTIVATE -/

/-- The TRIAL record of an activation, for the other slot (R540, R545). DEDUCED: its staged length is 0, since the slot
that is then the other one holds no staged bundle. -/
def trialRecord (b : BundleInfo) (u : Upd) : Upd :=
  writeSel (fun r => { r with
    slot := 1 - r.slot, trial := true, trials := 0, staged := 0, version := b.version, rclass := b.rclass }) u

/-- Processing stops, and the ROM runs (R533, R545); a pair member comes back as a stale Understudy. -/
def stopAndBoot (s : State) : State :=
  modPair (fun p => { p with demoting := s.proc.processing && s.pair.mode == 1 })
    (bootRestart (if s.proc.processing then stopNow s else s))

/-- IMAGE_ACTIVATE's action: it rolls, or, served aside, restarts the unit (R533, R540, R545). -/
def imageActivate (e : Nat) (c : Sub) (s : State) : State :=
  let u := updOf c.partner s
  let b := u.bundle.getD (openBundle u.version)
  if c.aside then
    stopAndBoot (reply e 0x0082 stOk c (le 4 b.version ++ le 4 0) []
      (modUpd (fun u => noteHistory b.version s.proc.cueNow 0 (trialRecord b u)) s))
  else
    emit e 0xA003 0 0 0 0 (modUpdOf c.partner (fun u =>
      { trialRecord b u with
        lastStep := 0
        roll := some { cue := s.proc.procCue, sub := some c, step := 0, version := b.version, rclass := b.rclass
                       ends := [], old := selBase u (selNow u) } }) s)

/-- IMAGE_ACTIVATE (R382, R540). -/
def cmdImageActivate : CmdSpec where
  op := 0x0082
  engine := byPrompter0
  use := .none
  aside := true
  static := noParams
  wrong := fun c s => !(updOf c.partner s).verified || (updOf c.partner s).roll.isSome
  check := noCheck
  cost := cost10
  act := imageActivate

/-- Meaning of IMAGE_ACTIVATE. -/
def execImageActivate (c : Sub) (s : State) : Host.Outcome State Fault Refusal :=
  .next (runCmd cmdImageActivate (.row (.imageActivate c)) c s)

/-- The activation stops at a step (R542): a CONFIRMED record for the slot that ran before. -/
def stopRoll (partner : Bool) (step : Nat) (s : State) : State :=
  match (updOf partner s).roll with
  | none => s
  | some r =>
    let s1 := modUpdOf partner (fun u =>
      noteHistory r.version s.proc.procCue 1
        { writeSel (fun _ => { r.old with trial := false, trials := 0 }) u with roll := none }) s
    let s2 := emit 8 0xA005 0 0 0 0 s1
    match r.sub with
    | some c => finish 8 0x0082 stIntegrity c (le 1 step) [] s2
    | none => s2

/-- The last step (R540): the activation is complete. From here each line, port and chain takes the new tables when
R543 lets it: `lineTables`, `portTables`, `startRetune`. -/
def completeRoll (partner : Bool) (r : Roll) (s : State) : State :=
  let s1 := modUpdOf partner (fun u =>
    noteHistory r.version s.proc.procCue 0
      { u with roll := none, lastStep := 13, version := r.version, rclass := r.rclass, running := u.bundle }) s
  let s2 := emit 8 0xA006 0 0 0 0 (emit 8 0xA004 0 0 0 0 s1)
  match r.sub with
  | some c => finish 8 0x0082 stOk c (le 4 r.version ++ le 4 (r.cue + 189).toNat) [] s2
  | none => s2

/-- The pause of the next step has ended (R540); step 13 has none. -/
def stepDue (s : State) (r : Roll) : Bool :=
  if r.step = 12 then decide (189 ≤ rollCues s r)
  else decide (((stepWindow (r.step + 1)).2 : Int) + 1 ≤ rollCues s r)

/-- The engine of the next step switches at the end of its pause, or the activation stops (R541, R542). The
pauses that a new Lead takes over have no entries to wait for (R558). -/
def switchNext (partner : Bool) (s : State) : State :=
  match (updOf partner s).roll with
  | none => s
  | some r =>
    if !stepDue s r then s
    else if r.step = 12 then completeRoll partner r s
    else if r.ends.any (fun x => x.1 == r.step + 1 && x.2 == 0) || (partner && isLive s) then
      let s1 := modUpdOf partner (fun u => { u with
        lastStep := r.step + 1, roll := some { r with step := r.step + 1 } }) s
      let s2 := if partner then s1 else modEng (stepEngine (r.step + 1)) (fun g => { g with switched := true }) s1
      emit 8 0xA004 0 0 0 0 s2
    else stopRoll partner (r.step + 1) s

/-- Every step whose pause has ended, in order: at most 13. -/
def switchSteps (n : Nat) (partner : Bool) (s : State) : State :=
  match n with
  | 0 => s
  | m + 1 => switchSteps m partner (switchNext partner s)

/-- STEP_SWITCH (R541). -/
def takeSwitches (s : State) : State := switchSteps 13 true (switchSteps 13 false s)

/-- Meaning of STEP_SWITCH. -/
def execStepSwitch (s : State) : Host.Outcome State Fault Refusal :=
  .next (if s.proc.processing then takeSwitches s else s)

/-- The load of a step ended (R541, R542). -/
def endLoad (c : Sub) (x : UpdEnd) (s : State) : State :=
  if x.outcome = 0 then
    modUpdOf c.partner (fun u => { u with roll := u.roll.map fun r => { r with ends := r.ends ++ [(x.step, 0)] } }) s
  else stopRoll c.partner x.step s

/-! ### IMAGE_CONFIRM -/

/-- SEC_VERSION and VKEY_REVOKE after the blow of R461. -/
def blownFuses (x : Nat × BitVec 4) (f : Fuses) : Fuses :=
  { f with secVer := max f.secVer x.1, revoke := f.revoke ||| x.2 }

/-- IMAGE_CONFIRM's action (R461, R546): the CONFIRMED record, and the blow begins. -/
def imageConfirm (_e : Nat) (c : Sub) (s : State) : State :=
  modUpdOf c.partner (fun u =>
    noteHistory (selNow u).version s.proc.procCue 2
      { writeSel (fun r => { r with trial := false, trials := 0 }) u with confirming := some c }) s

/-- IMAGE_CONFIRM (R382, R546). -/
def cmdImageConfirm : CmdSpec where
  op := 0x0083
  engine := byPrompter0
  use := .none
  aside := true
  static := noParams
  wrong := fun c s => !onTrial (updOf c.partner s)
  check := noCheck
  cost := cost10
  act := imageConfirm

/-- Meaning of IMAGE_CONFIRM. -/
def execImageConfirm (c : Sub) (s : State) : Host.Outcome State Fault Refusal :=
  .next (runCmd cmdImageConfirm (.row (.imageConfirm c)) c s)

/-- IMAGE_CONFIRM completes once its fuses are blown (R537, R546); its result is what the entry tells of the fuses, so that
it repeats from the record (R61). -/
def endConfirm (c : Sub) (x : UpdEnd) (s : State) : State :=
  let s1 := modUpdOf c.partner (fun u => { u with confirming := none }) s
  if x.outcome = 0 then
    reply 8 0x0083 stOk c (le 2 x.bytes) []
      (if c.aside then emitLocal 0xA00A 8 0 0 0 0 s1 else emit 8 0xA00A 0 0 0 0 s1)
  else replySt 8 0x0083 stIntegrity c s1

/-! ### Update-end entries -/

/-- The command in progress whose operation an update-end entry names (R537). -/
def opOf (u : Upd) (x : UpdEnd) : Option Sub :=
  let c := match x.opcode with
    | 0x80 => u.staging
    | 0x81 => u.verifying.map Prod.fst
    | 0x82 => u.roll.bind (·.sub)
    | 0x83 => u.confirming
    | _ => none
  c.filter fun c => c.ring == x.ring && c.tag == x.tag

/-- What an operation's end brings its command (R538 to R546). -/
def endOp (c : Sub) (x : UpdEnd) (s : State) : State :=
  match x.opcode with
  | 0x80 => endStage c x s
  | 0x81 =>
    match (updOf c.partner s).verifying with
    | some y => endVerify c y.2 x s
    | none => s
  | 0x82 => endLoad c x s
  | 0x83 => endConfirm c x s
  | _ => s

/-- A latched update-end entry: the command it names completes in the Publish of its cue (R537). -/
def takeUpdEnd (x : UpdEnd) (s : State) : State :=
  match opOf s.upd x with
  | some c => if c.aside then s else endOp c x (charge (if x.opcode = 0x81 then 11 else 8) 10 s)
  | none =>
    match opOf s.updP x with
    | some c => endOp c x (charge (if x.opcode = 0x81 then 11 else 8) 10 s)
    | none => s

/-- Meaning of UPDATE_END. -/
def execUpdateEnd (u : UpdEnd) (s : State) : Host.Outcome State Fault Refusal :=
  .next (if s.proc.processing then takeUpdEnd u s else s)

/-- The outcome that the end of an operation tells: a staged image with a discarded write is incomplete (R408), a verification that read the bundle tells what the Box Office found
(R539), and a component whose compatibility record names another stepping is not started (R28). -/
def endOutcome (x : UpdEnd) (s : State) : UpdEnd :=
  if x.opcode = 0x80 ∧ x.outcome = 0 ∧ s.upd.stageHit = true then { x with outcome := 9 }
  else if x.opcode = 0x81 ∧ x.outcome < 8 then
    { x with outcome := (s.upd.verifying.map fun y => imageReason s y.2.image).getD x.outcome }
  else if x.opcode = 0x82 ∧ x.outcome = 0 then
    let kind := ((stepKinds.find? fun y => y.1 == x.step).map Prod.snd).getD 0
    { x with outcome :=
      if ((s.upd.bundle.map fun b => b.image.steppings.getD (kind - 1) 0).getD (sysId s / 65536 % 256)) =
        sysId s / 65536 % 256 then 0 else 7 }
  else x

/-- The blow of a confirmation ends (R461). DESIGN CHOICE (R537 names the entry's byte count and not what it counts here): it
holds the two octets of the result. -/
def endBlow (x : UpdEnd) (s : State) : UpdEnd × State :=
  if x.opcode = 0x83 ∧ x.outcome = 0 then
    let f := blownFuses (confirmImage s.upd) s.sec.fuses
    ({ x with bytes := f.secVer % 256 + 256 * f.revoke.toNat }, modSec (fun y => { y with fuses := f }) s)
  else (x, s)

/-- A flash or hash operation of this unit ends (R462, R537, R559): a flash error and a verification outcome
leave their records, and the entry becomes pending; a command served aside completes at once. -/
def flashEnd (x0 : UpdEnd) (s : State) : State :=
  match opOf s.upd x0 with
  | none => s
  | some c =>
    let (x, s0) := endBlow (endOutcome x0 s) s
    let s1 := if x.outcome = 8 then emitLocal 0xA010 226 0 0 0 0 s0 else s0
    let s2 := match s.upd.verifying with
      | some y =>
        if x.opcode = 0x81 ∧ x.outcome < 8 then
          secureBoot x.outcome y.2.image.keySlot y.2.image.secVersion (1 - (selNow s.upd).slot) s1
        else s1
      | none => s1
    if c.aside then endOp c x s2
    else input 9 x.ring (updEndBytes x) (.row (.updateEnd x)) s2

/-- Meaning of FLASH_OPERATION_END. -/
def execFlashOperationEnd (u : UpdEnd) (s : State) : Host.Outcome State Fault Refusal := .next (flashEnd u s)

/-! ### Settings -/

/-- Item 0x01 as the unit stands (R421, R550): the replacement map, lanes and chains with lasting faults. -/
def romItem (s : State) (x : Settings) : Settings :=
  { x with
    map0 := s.wings.map0, map1 := s.wings.map1, laneBad := s.wings.laneBad
    chains := (if s.txa.st = .outOfService then [0] else []) ++ (if s.txb.st = .outOfService then [1] else []) }

/-- A settings copy with nothing in it. -/
def noSettings : Settings := ⟨0, none, none, [], [], 0, [], [], 0, []⟩

/-- The settings written in Housekeeping (R550): item 0x01 after a change, item 0x02 at most once per 4,096
Scenes. -/
def writeItems (s : State) : State :=
  let old := (settingsHi s.upd).getD noSettings
  let s1 := if romItem s old = old then s else modUpd (writeSettings (romItem s)) s
  let n := sceneOf s s.proc.procCue
  let range := 2 ^ (32 - s.proc.sceneLog2)
  let due : Bool := match s.upd.corrScene with
    | none => true
    | some k => decide (4096 ≤ (n + range - k % range) % range)
  let now := (settingsHi s1.upd).getD noSettings
  if due && (now.corrA != s.txa.corr || now.corrB != s.txb.corr) then
    modUpd (fun u => writeSettings (fun x => { x with
      fmtCorr := Config.settingsFormat 2 u.version, corrA := s.txa.corr, corrB := s.txb.corr })
        { u with corrScene := some n }) s1
  else s1

/-- R551 at processing start: items of the format that the Stage Manager writes are kept, every other is reset
with its record; without a valid copy every item starts at its default. An item that was never written (format 0, nothing in
it) is at its default already and leaves no record. -/
def takeSettings (s : State) : State :=
  match settingsHi s.upd with
  | none =>
    emitLocal 0xA00C 10 0 0 0 0 (modUpd (fun u => { u with history := [] })
      (modTx .b (fun x => { x with corr := [] }) (modTx .a (fun x => { x with corr := [] }) s)))
  | some x =>
    let keepC := x.fmtCorr == Config.settingsFormat 2 s.upd.version || (x.fmtCorr == 0 && x.corrA.isEmpty && x.corrB.isEmpty)
    let keepH := x.fmtHist == Config.settingsFormat 3 s.upd.version || (x.fmtHist == 0 && x.history.isEmpty)
    let s1 := modTx .a (fun t => { t with corr := if keepC then x.corrA else [] }) s
    let s2 := modTx .b (fun t => { t with corr := if keepC then x.corrB else [] }) s1
    let s3 := modUpd (fun u => { u with history := if keepH then x.history else [] }) s2
    let s4 := if keepC then s3 else emitLocal 0xA00B 10 0 0 0 0 s3
    if keepH then s4 else emitLocal 0xA00B 10 0 0 0 0 s4

end Sys2Proof.Machine
end

