-- ==== Sys2Proof/Machine/Boot.lean ====
section
/-! DEFINITION. The ROM and the start of the components (R532, R533, R574), the FEID bus (R577 to R579), and the
Ethernet links (R399, R476, R617). -/

namespace Sys2Proof.Machine

/-! ### The ROM's choice -/

/-- Event source of the boot flash (R392). -/
abbrev flashSource : Nat := 226

/-- What a verification of a slot finds (R460): 0, or the reason of R462. -/
def slotReason (s : State) (v : VerifyIn) (slot : Nat) : Nat := imageReason s (if slot = 0 then v.imageA else v.imageB)

/-- Bundle version and replay class of a slot's manifest (R534). -/
def slotBundle (v : VerifyIn) (slot : Nat) : Nat × Nat :=
  if slot = 0 then (v.bundleA, v.classA) else (v.bundleB, v.classB)

/-- Key slot and security version of a slot's signature block (R459). -/
def slotKey (v : VerifyIn) (slot : Nat) : Nat × Nat :=
  if slot = 0 then (v.imageA.keySlot, v.imageA.secVersion) else (v.imageB.keySlot, v.imageB.secVersion)

/-- Key slots that a slot's manifest revokes (R459). -/
def slotRevoke (v : VerifyIn) (slot : Nat) : BitVec 4 := if slot = 0 then v.imageA.revoke else v.imageB.revoke

/-- A CONFIRMED record for a slot (R532). -/
def confirmSlot (v : VerifyIn) (slot : Nat) (clearStaged : Bool) (u : Upd) : Upd :=
  writeSel (fun r => { r with
    slot := slot, trial := false, trials := 0, staged := if clearStaged then 0 else r.staged
    version := (slotBundle v slot).1, rclass := (slotBundle v slot).2 }) u

/-- The first half of R532: the slot that the selector gives, with its writes and records. -/
def pickSlot (v : VerifyIn) (s : State) : Nat × State :=
  let r := selNow s.upd
  if !r.trial then (r.slot, s)
  else if 3 ≤ r.trials then
    (1 - r.slot, emitLocal 0xA008 flashSource 0 0 0 0
      (modUpd (fun u => noteHistory r.version s.proc.cueNow 3 (confirmSlot v (1 - r.slot) false u)) s))
  else
    (r.slot, emitLocal 0xA007 flashSource 0 0 0 0
      (modUpd (writeSel fun r => { r with trials := r.trials + 1 }) s))

/-- The secure-boot event of a slot that does not verify (R462). -/
def slotFails (v : VerifyIn) (slot : Nat) (s : State) : State :=
  secureBoot (slotReason s v slot) (slotKey v slot).1 (slotKey v slot).2 slot s

/-- Recovery (R533): RECOVERY is set and the ROM waits. -/
def enterRecovery (s : State) : State :=
  emitLocal 0xA00D flashSource 0 0 0 0 (modHif (fun h => { h with recovery := true }) s)

/-- Every line, port and chain starts with the tables of the slot that boots (R543, R574). -/
def bootTables (s : State) : State :=
  modTx .b (fun x => { x with cal := none }) (modTx .a (fun x => { x with cal := none }) { s with
    ports := smMapAll {} s.ports fun _ x => { x with cal := none }
    lines := smMapAll {} s.lines fun _ x => { x with tables := none } })

/-- The slot boots (R532, R574): the replacement map and settings item 0x01 are applied (R421), and every engine has its
core test. -/
def bootSlot (v : VerifyIn) (slot : Nat) (s : State) : State :=
  let b := slotBundle v slot
  let s1 := modUpd (fun u => { u with
    slot := slot, version := b.1, rclass := b.2, bootKey := (slotKey v slot).1, bootSec := (slotKey v slot).2
    bootRevoke := slotRevoke v slot, bootVersion := b.1, running := none })
    (modPwr (fun p => { p with coreTests := List.range 12 }) (bootTables s))
  match settingsHi s1.upd with
  | none => s1
  | some x =>
    let m0 := s1.wings.map0.or x.map0
    let m1 := s1.wings.map1.or x.map1
    let off (k : Nat) (t : Tx) : Tx := if x.chains.contains k then { t with st := .outOfService } else t
    modTx .b (off 1) (modTx .a (off 0) (bootLanes x.laneBad (modWings (fun w => { w with
      map0 := m0, map1 := m1, banks := mapBanks m0 m1 }) s1)))

/-- ROM_START (R532, R604): the slot is chosen, verified and booted, or recovery is entered. DESIGN CHOICE (the manual gives no
outcome for it): a boot block that does not verify leaves no one to verify a slot, so that recovery is entered, with its
secure-boot event, image 3. -/
def romStart (v : VerifyIn) (s : State) : State :=
  if s.pwr.mode ≠ .startup ∨ s.pwr.rom = true then s
  else if v.octal = false then enterRecovery (modPwr (fun p => { p with rom := true }) s)
  else if imageReason s v.bootBlock ≠ 0 then
    enterRecovery (secureBoot (imageReason s v.bootBlock) v.bootBlock.keySlot v.bootBlock.secVersion 3
      (modPwr (fun p => { p with rom := true }) s))
  else
    let (slot, s1) := pickSlot v (modPwr (fun p => { p with rom := true }) s)
    if slotReason s v slot = 0 then bootSlot v slot s1
    else
      let s2 := slotFails v slot s1
      if slotReason s v (1 - slot) ≠ 0 then enterRecovery (slotFails v (1 - slot) s2)
      else bootSlot v (1 - slot)
        (emitLocal 0xA009 flashSource 0 0 0 0 (modUpd (confirmSlot v (1 - slot) true) s2))

/-- Meaning of ROM_START. -/
def execRomStart (v : VerifyIn) (s : State) : Host.Outcome State Fault Refusal := .next (romStart v s)

/-! ### Modules on the FEID bus -/

/-- A descriptor is valid when its magic and check hold (R578). -/
def descOk (b : List Byte) : Bool :=
  b.length == 32 && uAt b 0 2 == 0x5A46 && uAt b 30 2 == (crc16 (b.take 30)).toNat

/-- The descriptor last held at an address; [] for none. -/
def descAt (s : State) (a : Nat) : List Byte := smGet [] s.pwr.feid a

/-- BOOT_DONE (R462, R574): the components are loaded, each with its hash checked, and every engine is tested; a component
whose hash fails is not started. -/
def finishBoot (hashesOk : Bool) (s : State) : State :=
  if s.pwr.mode ≠ .startup ∨ s.pwr.rom = false ∨ s.pwr.bootDone = true ∨ s.hif.recovery = true ∨
    s.pwr.recImage = true ∨ s.pwr.coreTests ≠ [] then s
  else
    let s1 := secureBoot (if hashesOk then 0 else 6) s.upd.bootKey s.upd.bootSec s.upd.slot s
    if hashesOk then
      modSec (fun x => { x with trngOk := true, reserve := 256 }) (modPwr (fun p => { p with bootDone := true }) s1)
    else s1

/-- Meaning of BOOT_DONE. -/
def execBootDone (hashesOk : Bool) (t : Stamp) (s : State) : Host.Outcome State Fault Refusal :=
  .next (finishBoot hashesOk (atTime t s))

/-- Event source of the FEID bus (R392). -/
abbrev feidSource : Nat := 131

/-- The bus stays stuck (R577): BUS_ERROR, and its record once per Scene. -/
def busError (s : State) : State :=
  let n := sceneOf s s.proc.cueNow
  let s1 := setRBit rSysFeid 16 s
  if s.pwr.feidErr = some n then s1
  else emitLocal 0xB00D feidSource 0 0 0 0 (modPwr (fun p => { p with feidErr := some n }) s1)

/-- A module event completes (R579): CHANGED, and a partner event of class 3, source 2. -/
def moduleHappens (x : ModuleEv) (s : State) : State :=
  input 3 2 (moduleBytes x) (.row (.moduleEvent x)) (setRBit rSysFeid (8 + x.addr) s)

/-- The scan of processing has read an address (R579). -/
def scanRead (a : Nat) (b : List Byte) (s : State) : State :=
  let set (b : List Byte) (miss : Nat) (seen : Bool) (s : State) : State :=
    modPwr (fun p => { p with
      feid := smSet [] p.feid a b, feidMiss := smSet 0 p.feidMiss a miss, feidSeen := smSet false p.feidSeen a seen
      feidDue := p.feidDue.filter (· != a) }) s
  let old := descAt s a
  if descOk b then
    if !smGet false s.pwr.feidSeen a then moduleHappens ⟨0, a, b⟩ (set b 0 true s)
    else if b ≠ old then moduleHappens ⟨2, a, b⟩ (set b 0 true s)
    else set b 0 true s
  else if old.isEmpty then set [] 0 false s
  else if 1 ≤ smGet 0 s.pwr.feidMiss a then moduleHappens ⟨1, a, List.replicate 32 0⟩ (set [] 0 false s)
  else set old 1 (smGet false s.pwr.feidSeen a) s

/-- MODULE_READ_END (R577, R579): the read of an address ends, in the boot scan or in a scan of processing; no
bytes when the bus stays stuck. -/
def moduleRead (a : Nat) (b : List Byte) (s : State) : State :=
  if !isPowered s || s.pwr.mode == .retention then s
  else
    let s1 := if b.isEmpty then busError s else s
    if s.proc.processing then (if s.pwr.feidDue.contains a then scanRead a b s1 else s1)
    else if s.pwr.rom && !s.pwr.bootDone then
      modPwr (fun p => { p with feid := smSet [] p.feid a (if descOk b then b else []) }) s1
    else s1

/-- Meaning of MODULE_READ_END. -/
def execModuleReadEnd (a : Fin 8) (bytes : List Byte) (s : State) : Host.Outcome State Fault Refusal :=
  .next (moduleRead a.val bytes s)

/-- A latched module event leaves its record, with the address and the first 12 descriptor bytes (R579). -/
def takeModule (x : ModuleEv) (s : State) : State :=
  let w (k : Nat) : Nat := uAt x.desc (4 * k) 4
  emit 10 (match x.kind with
    | 0 => 0xB00A
    | 1 => 0xB00B
    | _ => 0xB00C) x.addr (w 0) (w 1) (w 2) s

/-- Meaning of MODULE_EVENT. -/
def execModuleEvent (x : ModuleEv) (s : State) : Host.Outcome State Fault Refusal :=
  .next (takeItem 10 10 (.row (.moduleEvent x)) (takeModule x) s)

/-! ### Links -/

/-- The configuration register of a link (R616). -/
def ethCfg (eth1 : Bool) : Nat := if eth1 then rPadEth1Cfg else rPadEth0Cfg

/-- The link is up. -/
def ethUp (s : State) (eth1 : Bool) : Bool := if eth1 then s.pwr.eth1Up else s.pwr.eth0Up

/-- A link goes down (R399, R617). -/
def linkDown (eth1 : Bool) (s : State) : State :=
  if eth1 then
    modPwr (fun p => { p with eth1Up := false }) (modPair (fun p => { p with linkUp := false }) s)
  else modPwr (fun p => { p with eth0Up := false }) s

/-- A link comes up under EN; on ETH1 a member sends a HELLO (R476, R616). -/
def linkUp (eth1 : Bool) (speed : Nat) (s : State) : State :=
  if !rbit s (ethCfg eth1) 0 || !isPowered s || s.pwr.mode == .retention then s
  else if eth1 then
    let s1 := modPwr (fun p => { p with eth1Up := true }) (modPair (fun p => { p with linkUp := true }) s)
    if s.proc.processing && s.pair.mode == 1 then sendHello s1 else s1
  else modPwr (fun p => { p with eth0Up := true, speed0 := speed % 4 }) s

/-- Meaning of ETH_LINK_UP. -/
def execEthLinkUp (eth1 : Bool) (speed : Nat) (_session : BitVec 64) (s : State) :
    Host.Outcome State Fault Refusal := .next (linkUp eth1 speed s)

/-- Meaning of ETH_LINK_DOWN. -/
def execEthLinkDown (eth1 : Bool) (s : State) : Host.Outcome State Fault Refusal := .next (linkDown eth1 s)

/-- A change of EN or MODE takes the link down at once; a frame on the wire is cut and counted (R617). Whether
the last frame handed over in this cue is still on the wire is open. -/
def linkCut (eth1 : Bool) (s : State) : State :=
  if !ethUp s eth1 then s
  else
    let (n, s1) := fresh (linkDown eth1 s)
    if (Config.openWord 67 n).getLsbD 0 then
      if eth1 then
        if s.wire1.isEmpty then s1 else countReg rPadEth1Drops 1 { s1 with wire1 := s1.wire1.dropLast }
      else
        if s.wire0.isEmpty then s1 else countReg rPadEth0Drops 1 { s1 with wire0 := s1.wire0.dropLast }
    else s1

end Sys2Proof.Machine
end

