-- ==== Sys2Proof/Machine/CallBoard.lean ====
section
/-! DEFINITION. The Call Board (chapter 13): the journal and its erase-ahead (R517, R518), the scan after a
start from Off (R520), and CALLBOARD_READ (R524, R525). -/

namespace Sys2Proof.Machine

/-- Event source of the Call Board store: group 14, index 0 (R392, R620). -/
abbrev boardSource : Nat := 224

/-- What store slot `i` holds (R516). -/
def storeSlot (b : Board) (i : Nat) : Option CbSlot := smGet none b.store i

/-- The record of sequence `q`, when it is whole in the store (R516, R522). -/
def storeRec (b : Board) (q : Word32) : Option CbSlot :=
  match storeSlot b (q.toNat % 16384) with
  | some x => if x.seq = q then some x else none
  | none => none

/-! ### The journal -/

/-- The eight-word records of a journal block are erased (R517). -/
def eraseBlock (n : Nat) (m : SMap (Option CbSlot)) : SMap (Option CbSlot) :=
  m.filter fun x => x.1 / 8192 != n

/-- The erase of a block begins (R517). -/
def beginErase (n : Nat) (b : Board) : Board := { b with erasing := some n, ahead := some n, jnl := eraseBlock n b.jnl }

/-- The write point stands in a block: on its entry the block after it begins its erase, and journaling pauses while the
block itself is not erased (R517). DEDUCED: after the scan the block after the write point is erased anew, and so is a
block that the skip of R518 enters before its erase has begun. -/
def enterBlock (b : Board) : Board :=
  let n := b.jnlSeq.toNat % 262144 / 8192
  let next := (n + 1) % 32
  if b.ahead = some next then b
  else if b.erasing.isSome then { b with paused := true }
  else if b.ahead = some n ∨ b.ahead = none then beginErase next b
  else { beginErase n b with paused := true }

/-- One record copied from the store to the journal (R517). -/
def copyOne (b : Board) : Board :=
  if b.jnlSeq = b.next ∨ b.paused = true then b
  else
    let b1 := enterBlock b
    if b1.paused then b1
    else { b1 with
      jnl := smSet none b1.jnl (b1.jnlSeq.toNat % 262144) (storeRec b1 b1.jnlSeq)
      jnlSeq := b1.jnlSeq + 1 }

/-- `n` records copied, oldest first. -/
def copyMany (n : Nat) (b : Board) : Board :=
  match n with
  | 0 => b
  | m + 1 => copyMany m (copyOne b)

/-- Records that the store overwrote before they were journaled are lost to the journal: their count is
added and a journal-gap record names the first and the count; the skipped slots stay erased (R518). -/
def journalGap (s : State) : State :=
  let b := s.board
  let n := (sdiff32 b.next b.jnlSeq - 16384).toNat
  if n = 0 then s
  else
    emitLocal 0x0003 boardSource b.jnlSeq.toNat n 0 0
      (modBoard (fun b => { b with
        jnl := b.jnl.filter fun x => decide (n ≤ (x.1 + 262144 - b.jnlSeq.toNat % 262144) % 262144)
        jnlSeq := b.next - 16384, lost := satAdd 0xFFFFFFFF b.lost n }) s)

/-- JOURNAL_COPY: up to 32 records in each Housekeeping (R517), once the scan is complete. -/
def journalCopy (s : State) : State :=
  if s.board.scanned then
    let s1 := journalGap s
    modBoard (fun b => let c := copyMany 32 b; { c with copied := c.jnlSeq != b.jnlSeq }) s1
  else s

/-- Meaning of JOURNAL_ERASE_END (R517): the block is erased and paused journaling resumes. -/
def execJournalEraseEnd (s : State) : Host.Outcome State Fault Refusal :=
  .next (modBoard (fun b => { b with erasing := none, paused := false }) s)

/-! ### The scan -/

/-- The highest sequence of the journal, by signed difference; every record that the journal holds has a check that
holds (R511, R520, R523). -/
def highestSeq (b : Board) : Option Word32 :=
  (b.jnl.filterMap Prod.snd).foldl (fun h x => match h with
    | some q => some (if 0 < sdiff32 x.seq q then x.seq else q)
    | none => some x.seq) none

/-- JOURNAL_SCAN_COMPLETE (R520): the keep-restored record and then the held records, numbered behind the
highest sequence found. -/
def scanComplete (s : State) : State :=
  if s.board.scanned then s
  else
    let held := s.board.waiting
    let found := highestSeq s.board
    let first : Word32 := match found with
      | some h => h + 1
      | none => 0
    let s1 := modBoard (fun b => { b with
      scanned := true, waiting := [], next := first, jnlSeq := first }) s
    let s2 := emitLocal 0x0002 boardSource (found.getD 0xFFFFFFFF).toNat s.board.dropped 0 0 s1
    modBoard (fun b => held.foldl (fun b l => storeWords l b) b) s2

/-- Meaning of JOURNAL_SCAN_COMPLETE. -/
def execJournalScanComplete (t : Stamp) (s : State) : Host.Outcome State Fault Refusal :=
  .next (scanComplete (atTime t s))

/-! ### CALLBOARD_READ -/

/-- Records that a read can find, with true for one from the journal: whole in the store, or else valid
in the journal when the command allows it (R522 to R524). -/
def readable (b : Board) (journal : Bool) : List (CbSlot × Bool) :=
  let st := (b.store.filterMap Prod.snd).filter fun x => storeRec b x.seq == some x
  let jn := if journal then (b.jnl.filterMap Prod.snd).filter fun x => (storeRec b x.seq).isNone else []
  sortBy (fun a c => decide (sdiff32 a.1.seq c.1.seq < 0))
    (st.map (fun x => (x, false)) ++ jn.map (fun x => (x, true)))

/-- A 40-byte entry: the tag, then the record (R511, R524). -/
def cbEntry (x : CbSlot) : List Byte :=
  le 4 x.seq.toNat ++ le 2 (slotCheck x).toNat ++ le 2 0 ++ bytes32 x.words

/-- CALLBOARD_READ (R524, R525): the entries written, and the result. -/
def boardRead (b : Board) (first : Word32) (count : Nat) (journal : Bool) : List Byte × List Byte :=
  let l := readable b journal
  let newest := b.next - 1
  let start := match l.head? with
    | some x => if sdiff32 first x.1.seq < 0 then x.1.seq else first
    | none => first
  let got := (l.filter fun x => decide (0 ≤ sdiff32 x.1.seq start) && decide (sdiff32 x.1.seq newest ≤ 0)).take count
  let last := if got.length = count then (got.getLast?.map (·.1.seq)).getD newest else newest
  let gap := decide ((got.length : Int) ≠ max 0 (sdiff32 last start + 1))
  let seq0 := match got.head? with
    | some x => x.1.seq.toNat
    | none => (Config.openWord 61 first.toNat).toNat % 2 ^ 32
  (got.flatMap fun x => cbEntry x.1,
    le 4 seq0 ++ le 2 got.length ++ le 2 (ofBool (got.any (·.2)) + 2 * ofBool gap))

/-- CALLBOARD_READ (R524). -/
def cmdCallboardRead : CmdSpec where
  op := 0x00A0
  engine := byStage
  use := .written
  aside := true
  static := fun c => decide (1 ≤ pU c 36 2) && decide (pU c 36 2 ≤ 4096) && decide (pU c 38 1 ≤ 1) &&
    pZero c 39 63 && decide (40 * pU c 36 2 ≤ c.bufLen)
  wrong := neverWrong
  check := noCheck
  cost := cost10
  act := fun e c s =>
    let y := boardRead s.board (w32 (pU c 32 4)) (pU c 36 2) (bit (pU c 38 1) 0)
    reply e 0x00A0 stOk c y.2 y.1 s

/-- Meaning of CALLBOARD_READ. -/
def execCallboardRead (c : Sub) (s : State) : Host.Outcome State Fault Refusal :=
  .next (runCmd cmdCallboardRead (.row (.callboardRead c)) c s)

end Sys2Proof.Machine
end

