-- ==== Sys2Proof/Machine/Hash.lean ====
section
/-! DEFINITION. The state hash (R59, R60): the covered words with their hash addresses (R404, R405, R618). -/

namespace Sys2Proof.Machine

/-- The fields of a node context that bytes 0 to 63 and 120 to 127 hold; their layout is not given (R283). -/
def contextFields (n : Node) : List Nat :=
  [(match n.st with
    | .free => 0
    | .admitted => 1
    | .joining => 2
    | .active => 3
    | .drifting => 4
    | .searching => 5
    | .dormant => 6
    | .leaving => 7), ofBool n.grand, n.pan, n.short, n.eui.toNat, n.caps.toNat, n.ppm, ofBool n.byAdmit,
    n.lastCue.toNat, n.stCue.toNat, n.event.toNat, n.arrival.toNat, n.nextWin.toNat, n.intv, n.lat, n.sup, n.hop,
    n.map.toNat, n.misses, n.guardT, (BitVec.ofInt 64 n.rho).toNat, ofBool n.rhoSet, n.mapId, (n.iid.map BitVec.toNat).getD 0]

/-- Bytes 64 to 95 of a context (R455). -/
def keyBlock (n : Node) : List Byte :=
  padTo 16 n.wrapped ++ le 4 n.devCtr.toNat ++ le 4 n.win.toNat ++ le 4 n.bits.toNat ++ le 1 n.keySeq ++
    le 1 (ofBool n.keyed + 2 * ofBool n.mic16) ++ le 2 n.failures

/-- Bytes 112 to 119 of a context: the node's Tour progress (R556). -/
def tourBlockBytes (n : Node) : List Byte :=
  le 1 (n.tour.getD 0 0) ++ le 1 (n.tour.getD 1 0) ++ le 2 (n.tour.getD 2 0) ++ le 2 (n.tour.getD 3 0) ++
    le 1 (n.tour.getD 4 0) ++ le 1 (n.tour.getD 5 0)

/-- A 64-bit word of bytes. -/
def wordAt (b : List Byte) (i : Nat) : Word64 := BitVec.ofNat 64 (uAt b (8 * i) 8)

/-- Word `w` of a node's context (R283, R455, R556); a context never used is zero. -/
def contextWordOf (n : Node) (w : Nat) : Word64 :=
  if n = {} then 0
  else if w < 8 ∨ w = 15 then Config.contextWord (contextFields n) w
  else if w < 12 then wordAt (keyBlock n) (w - 8)
  else if w < 14 then wordAt (attBlock n) (w - 12)
  else wordAt (tourBlockBytes n) 0

/-- The words of the node contexts, with their addresses. -/
def contextTerms (s : State) : Word64 :=
  (List.range 131072).foldl (fun h i =>
    (List.range 16).foldl (fun h w => h ^^^ wordTerm (128 * i + 8 * w) (contextWordOf (node s i) w)) h) 0

/-- The words of the seen caches; the place of an entry in its cache is not given (R256). -/
def seenTerms (s : State) : Word64 :=
  (List.range 8).foldl (fun h e =>
    let f := (smGet [] s.mesh.seen e).flatMap fun x => [x.origin.toNat, x.seq.toNat, x.scene]
    (List.range 16384).foldl (fun h i =>
      h ^^^ wordTerm (0x1400000 + 0x20000 * e + 8 * i) (Config.tableWord e i f)) h) 0

/-- What the learned tables hold: the address table and the map store (R140, R279). -/
def tableFields (s : State) : List Nat :=
  s.mesh.addr.flatMap (fun x => x.1 :: (match x.2 with
    | some y => [y.node, ofBool y.iid, y.key.toNat, y.gen]
    | none => [])) ++
  s.mesh.maps.flatMap (fun x => [x.1, ofBool x.2.valid, leNat (codeBytes x.2.codes), x.2.check.toNat, x.2.gen])

/-- What the key store holds (R439). -/
def keyFields (k : Keys) : List Nat :=
  let group (x : Option GroupKey) : List Nat := match x with
    | some g => [1, leNat g.wrapped, g.seq]
    | none => [0]
  [leNat k.priv, leNat k.pub] ++ (List.range 4).map (fun i => leNat (smGet [] k.issuers i)) ++ group k.cur ++
    group k.prev ++ group (k.pendKey.map Prod.fst) ++ [(k.pendKey.map Prod.snd).getD 0, k.curScene, k.ctr.toNat]

/-- A word of the learned-table region: the tables, and at its end the 4 KiB of the key store; the layout of neither is
given (R405, R439). -/
def tableRegionWord (s : State) (i : Nat) : Word64 :=
  if i < 130560 then Config.tableWord 8 i (tableFields s) else Config.tableWord 9 (i - 130560) (keyFields s.sec.keys)

/-- The words of the learned-table region. -/
def tableTerms (s : State) : Word64 :=
  (List.range 131072).foldl (fun h i => h ^^^ wordTerm (0x1500000 + 8 * i) (tableRegionWord s i)) 0

/-- An LPM slot as it is hashed: bytes 24 to 31 taken as 0 (R618). -/
def lpmHashBytes (s : State) (i : Nat) : List Byte :=
  match smGet none s.mesh.lpm i with
  | some x => (lpmBytes x 0).take 24 ++ le 8 0
  | none => List.replicate 32 0

/-- The words of the LPM associative memory (R618). -/
def lpmTerms (s : State) : Word64 :=
  (List.range 8192).foldl (fun h i =>
    let b := lpmHashBytes s i
    (List.range 4).foldl (fun h w => h ^^^ wordTerm (0x2000000 + 32 * i + 8 * w) (wordAt b w)) h) 0

/-- The words of the configuration records in effect, and their generations (R618). -/
def recordTerms (s : State) : Word64 :=
  [1, 2, 3, 4, 5, 6].foldl (fun h t =>
    let b := cfgBytes s t
    let h1 := (List.range (ceilDiv b.length 8)).foldl (fun h w =>
      h ^^^ wordTerm (0x3000000 + 0x10000 * t + 8 * w) (wordAt b w)) h
    h1 ^^^ wordTerm (0x3000000 + 0x10000 * t + 0xFFF8) (BitVec.ofNat 64 (cfgOf s t).gen)) 0

/-- The covered word at an address of the Wings as the fields of the state give it (R404, R405). -/
def fieldWord (s : State) (a : Nat) : Option Word64 :=
  if a < 0x1000000 then some (contextWordOf (node s (a / 128)) (a / 8 % 16))
  else if 0x1400000 ≤ a ∧ a < 0x1500000 then
    let e := (a - 0x1400000) / 0x20000
    some (Config.tableWord e (a % 0x20000 / 8) ((smGet [] s.mesh.seen e).flatMap fun x => [x.origin.toNat, x.seq.toNat, x.scene]))
  else if 0x1500000 ≤ a ∧ a < 0x1600000 then some (tableRegionWord s ((a - 0x1500000) / 8))
  else none

/-- What the words that a port has written as words change in the sum: every write passes the hash path (R60, R409). -/
def wordTerms (s : State) : Word64 :=
  s.wings.words.foldl (fun h x =>
    match fieldWord s (8 * x.1), x.2 with
    | some d, some v => h ^^^ wordTerm (8 * x.1) d ^^^ wordTerm (8 * x.1) v
    | _, _ => h) 0

/-- The state hash (R60). -/
def stateHash (s : State) : Word64 :=
  contextTerms s ^^^ seenTerms s ^^^ tableTerms s ^^^ lpmTerms s ^^^ recordTerms s ^^^ wordTerms s

end Sys2Proof.Machine
end

