-- ==== Sys2Proof/Machine/Banks.lean ====
section
/-! DEFINITION. The ports of the banks (R406 to R410, R413, R414): words, atomic operations, collisions, and the BAR4
window (R354, R615). DESIGN CHOICE (the manual names no word on which the firmware set works so, nor the words that an item reads): what a port writes as
a word stands in `Wings.words`; the fields of the state that a covered word spells are changed by the items alone. -/

namespace Sys2Proof.Machine

/-! ### Words -/

/-- A spare bank that replaces another holds its contents: its migration has ended (R420). -/
def spareReady (s : State) (sp : Nat) : Bool :=
  match s.wings.migr with
  | none => true
  | some m => m.spare != sp && s.wings.waitMigr.isEmpty

/-- The physical bank that serves an address: its own, or the spare that replaced it (R404, R420). -/
def physBank (s : State) (a : Nat) : Nat :=
  let b := a / 2 ^ 18
  if s.wings.map0 = some b ∧ spareReady s 96 = true then 96
  else if s.wings.map1 = some b ∧ spareReady s 97 = true then 97
  else b

/-- Bank, row and word of an address (R404). -/
def wordPlace (s : State) (a : Nat) : Nat × Nat × Nat := (physBank s a, a / 2 ^ 7 % 2048, a / 8 % 16)

/-- The word at an address is poisoned (R413). -/
def poisonedAt (s : State) (a : Nat) : Bool := s.wings.poison.contains (wordPlace s a)

/-- An entry of the tag table (R496). -/
def tagBytes (x : TagEnt) : List Byte :=
  le 8 x.tag.toNat ++ le 1 x.ring ++ le 1 x.status ++ le 2 (ofBool x.done) ++ le 4 x.accept.toNat ++ padTo 8 (x.result.take 8) ++
    le 4 x.compl.toNat ++ le 4 0

/-- Word `i` of the tag table. DESIGN CHOICE (R496 gives an entry's bytes and no place): the entries stand from the
first one, the oldest, on; what follows them is 0. -/
def tagWord (s : State) (i : Nat) : Word64 :=
  match s.pair.tags[i / 4]? with
  | some x => wordAt (tagBytes x) (i % 4)
  | none => 0

/-- The word at an address, as corrected by ECC. A word that neither a port nor a field of the state gives is open: its
region's layout is the firmware set's. -/
def wordAtAddr (s : State) (a : Nat) : Word64 :=
  match smGet none s.wings.words (a / 8) with
  | some v => v
  | none =>
    if 0x17E0000 ≤ a then tagWord s ((a - 0x17E0000) / 8)
    else (fieldWord s a).getD (Config.openWord 77 (a / 8 + 2 ^ 22 * s.time.tb0.toNat))

/-- A full write of a word: what stood there, poisoned or not, is replaced (R413). -/
def putWord (a : Nat) (v : Word64) (s : State) : State :=
  let place := wordPlace s a
  modWings (fun w => { w with
    words := smSet none w.words (a / 8) (some v), poison := w.poison.filter (· != place) }) s

/-- A read finds a poisoned word, given by bank, row and word (R413, R414); how the march test of its row comes out is
open. -/
def findPoisoned (who : Reader) (portB : Bool) (p : Nat × Nat × Nat) (s : State) : State :=
  let x := fresh s
  eccError ⟨p.1, p.2.1, p.2.2, 0, true, portB, who, (Config.openWord 78 x.1).toNat % 1153⟩ x.2

/-- A read of an address finds a poisoned word (R413). -/
def readPoisoned (who : Reader) (portB : Bool) (a : Nat) (s : State) : State :=
  findPoisoned who portB (wordPlace s a) s

/-- The scrubber reads its rows of every bank in service, a faulted bank and a spare in use among them, and finds their
poisoned words again (R413 to R415). -/
def scrubRead (s : State) : State :=
  let hit (p : Nat × Nat × Nat) : Bool :=
    decide (bankState s p.1 ≤ 1) && decide ((p.2.1 + 2048 - s.wings.scrubRow) % 2048 < scrubCount s)
  scrub ((s.wings.poison.filter hit).foldl (fun s p => findPoisoned .scrubber true p s) s)

/-- Migration reads 1,024 words, 64 rows, and copies poisoned words as poisoned (R413, R414, R420). -/
def migrateRead (s : State) : State :=
  match s.wings.migr with
  | none => s
  | some m =>
    let hit (p : Nat × Nat × Nat) : Bool := p.1 == m.bank && p.2.1 / 64 == m.step
    migrate ((s.wings.poison.filter hit).foldl (fun s p => findPoisoned .scrubber true p s) s)

/-! ### Atomic operations -/

/-- The part of a word on which an atomic operation works (R409). -/
def getPart (p : Part) (w : Word64) : Nat :=
  match p with
  | .word => w.toNat
  | .half false => w.toNat % 2 ^ 32
  | .half true => w.toNat / 2 ^ 32

/-- The word with that part replaced, modulo 2^width. -/
def putPart (p : Part) (v : Nat) (w : Word64) : Word64 :=
  match p with
  | .word => BitVec.ofNat 64 v
  | .half false => BitVec.ofNat 64 (w.toNat / 2 ^ 32 * 2 ^ 32 + v % 2 ^ 32)
  | .half true => BitVec.ofNat 64 (w.toNat % 2 ^ 32 + v % 2 ^ 32 * 2 ^ 32)

/-- An atomic operation (R409, R410): the old value and the state after it; on a poisoned word it writes nothing and
the response is poisoned. -/
def atomicOp (f : Nat → Nat) (who : Reader) (p : Part) (a : Nat) (s : State) : Option Nat × State :=
  if poisonedAt s a then (none, readPoisoned who false a s)
  else
    let w := wordAtAddr s a
    (some (getPart p w), putWord a (putPart p (f (getPart p w)) w) s)

/-- Atomic add (R409). -/
def atomicAdd (v : Nat) (who : Reader) (p : Part) (a : Nat) (s : State) : Option Nat × State :=
  atomicOp (· + v) who p a s

/-- Atomic swap (R409). -/
def atomicSwap (v : Nat) (who : Reader) (p : Part) (a : Nat) (s : State) : Option Nat × State :=
  atomicOp (fun _ => v) who p a s

/-! ### Collisions -/

/-- What becomes of a write of port B that was discarded (R408): the queue engine retries it up to COLL_RETRIES times
and then rewinds the packet; an image being staged stays incomplete. -/
def yieldPortB (w : PortB) (s : State) : State :=
  match w with
  | .queue h tries => if cfgU s recInteg 6 1 ≤ tries then rewindPacket h true s else s
  | .image => modUpd (fun u => { u with stageHit := u.stageHit || u.staging.isSome }) s
  | .scrubber => s

/-- Both ports write a word in one cycle (R407): port A's access is performed, port B's discarded. -/
def collide (bank : Nat) (w : PortB) (s : State) : State :=
  yieldPortB w (emitLocal 0x7003 (unitSource 0 bank) 0 0 0 0 (countReg rWngCollisions 1 s))

/-! ### BAR4 -/

/-- The Wings address that a BAR4 offset shows; WINDOW 0b11 is reserved (R404, R615). -/
def bar4Addr (s : State) (off : Nat) : Option Nat :=
  let w := rbits s rHifDbgWin 1 0
  if w = 3 ∨ 0x800000 ≤ off then none else some (0x800000 * w + off)

/-- A BAR4 read as it is issued (R354, R615): the word, or a poisoned completion; 0 while BAR4 is closed. -/
def bar4Read (off : Nat) (s : State) : State :=
  let put (v : Word64) (bad : Bool) (s : State) : State := modWings (fun w => { w with bar4 := (v, bad) }) s
  match (if bar4Open s then bar4Addr s off else none) with
  | none => put 0 false s
  | some a => if poisonedAt s a then put (wordAtAddr s a) true (readPoisoned .bar4 true a s) else put (wordAtAddr s a) false s

/-! ### What happens in a phase -/

/-- One happening at a port of a bank or in a hardware queue. -/
def bankOp (o : BankOp) (s : State) : State :=
  match o with
  | .error f => eccError f s
  | .collision b w => collide b w s
  | .write a v => putWord a v s
  | .atomicAdd who a p v => (atomicAdd v.toNat who p a s).2
  | .atomicSwap who a p v => (atomicSwap v.toNat who p a s).2
  | .bar4Read off => bar4Read off s
  | .queueWord h v => queueWord h v s
  | .queueCommit h k => queueCommit h k s
  | .queueRewind h => queueRewind h s
  | .queueRead h n => queueRead h n s

/-- What happens in a phase, in order of time. -/
def bankOps (l : List BankOp) (s : State) : State := l.foldl (fun s o => bankOp o s) s

/-- Processing starts with covered state zeroed: every covered word is written (R413, R575). -/
def zeroWords (s : State) : State :=
  let covered (a : Nat) : Bool := decide (a < 0x1000000) || (decide (0x1400000 ≤ a) && decide (a < 0x1600000))
  let addr (p : Nat × Nat × Nat) : Nat := wingsAddr s p.1 p.2.1 p.2.2
  modWings (fun w => { w with
    words := w.words.filter fun x => !covered (8 * x.1)
    poison := w.poison.filter fun p => !covered (addr p) }) s

end Sys2Proof.Machine
end

