-- ==== Sys2Proof/Machine/Publish.lean ====
section
/-! DEFINITION. Publish (R57): what it writes, the output hash (R60), deliveries (R384), the posting of engine
messages (R48), the holding and release of outputs (R479), the digest (R58) and the export (R68). -/

namespace Sys2Proof.Machine

/-! ### The output hash -/

/-- The 48 bytes of a transmit request (R167). -/
def reqBytes (r : TxReq) : List Byte :=
  le 8 r.start.toNat ++ le 8 r.carrier.toNat ++ leI 4 r.offset ++ leI 2 r.power ++ le 1 r.pers.toNat ++ le 1 r.tag ++
    le 4 r.phy.toNat ++ le 2 r.length ++ le 1 r.ramps.toNat ++ le 1 r.flags.toNat ++ le 4 r.frameAddr.toNat ++
    le 4 r.seq.toNat ++ le 4 r.origin.toNat ++ le 4 0

/-- The frame bits of a request, for the output hash: the bytes at its frame address (R167). -/
def frameBits (r : TxReq) : List Byte := if bit r.flags.toNat 1 then [] else r.frame

/-- Words chained into the output hash (R60). -/
def hashOut (l : List Word64) (s : State) : State :=
  modProc (fun p => { p with outHash := chainAll p.outHash l }) s

/-- The words of a transmission (R60). -/
def txWords (r : TxReq) : List Word64 :=
  BitVec.ofNat 64 (chainIx r.chain) :: (words64 (reqBytes r) ++ words64 (frameBits r))

/-- The words of a completion: PHASE and the submission head count as zero, and so does the result of a
CALLBOARD_READ or CAPTURE_SPECTRUM (R60). -/
def compWords (op : Nat) (c : Sub) (status : Nat) (result : List Byte) (cue : CueNo) : List Word64 :=
  words64 (compBytes c status (if op = 0x00A0 ∨ op = 0x0070 then [] else result) cue 0 false false)

/-! ### Release -/

/-- Bytes written around the export buffer from an offset (R68). -/
def exportPut (base size off : Nat) (l : List Byte) (s : State) : State :=
  let i := off % size
  let a := l.take (size - i)
  let s1 := hostWrite (base + i) a s
  if a.length = l.length then s1 else hostWrite base (l.drop (size - i)) s1

/-- A record and its digest written at CUE_BUF_HEAD, or counted as lost for want of space (R68). -/
def exportWrite (record digest : List Byte) (s : State) : State :=
  let size := 2 ^ rbits s rCueBookCtl 12 8
  let head := rbits s rCueBufHead 30 0
  let tail := rbits s rCueBufTail 30 0
  let used := (head + 2 * size - tail % (2 * size)) % (2 * size)
  let l := exportBytes s.proc.gapNext record ++ digest
  if size < used + l.length then
    modProc (fun p => { p with gapNext := true }) (countReg rCueExportLost 1 s)
  else
    setReg rCueBufHead (w32 ((head + l.length) % (2 * size)))
      (modProc (fun p => { p with gapNext := false })
        (exportPut (ringBase s rCueBufAddrLo rCueBufAddrHi) size head l s))

/-- One output leaves the unit (R479): a completion with its buffer data, a transmit request to its chain's
queue, an event to the ring, an export. -/
def releaseOne (cue : CueNo) (o : Out) (s : State) : State :=
  match o with
  | .complete c _ status result data => completeWrite c status result data cue false s
  | .tx r => modTx r.chain (fun x => { x with queue := queueReq r x.queue }) s
  | .record r => evWrite r.src (recWords r) s
  | .exported b => exportWrite (b.take (b.length - 32)) (b.drop (b.length - 32)) s
  | _ => s

/-- The vectors that an output's host writes signal (R394). -/
def releaseVec (s : State) (o : Out) : List Nat :=
  match o with
  | .complete c _ _ _ _ => if epochOk s c && !c.partner then [cqVec s c.ring] else []
  | .record r => if evEn s && !evMasked s r.src then [evVec s r.src] else []
  | _ => []

/-- The outputs of a cue leave the unit, as one batch: one event-tail writeback and one message on each vector
(R365, R394). -/
def releaseBatch (cue : CueNo) (l : List Out) (s : State) : State :=
  let vecs := l.flatMap (releaseVec s)
  let s1 := l.foldl (fun s o => releaseOne cue o s) (evLost s)
  let hasEv := l.any fun o => match o with
    | .record r => !evMasked s r.src
    | _ => false
  vecSignals vecs (if hasEv then evWriteback s1 else s1)

/-- Every output held for release leaves the unit. -/
def releaseHeld (s : State) : State :=
  s.pair.holdOuts.foldl (fun s x => releaseBatch x.1 x.2 s) (modPair (fun p => { p with holdOuts := [] }) s)

/-- The outputs held up to cue `c` leave the unit: its record is acknowledged (R479). -/
def releaseUpTo (c : CueNo) (s : State) : State :=
  let out (x : CueNo × List Out) : Bool := decide (sdiff32 x.1 c ≤ 0)
  (s.pair.holdOuts.filter out).foldl (fun s x => releaseBatch x.1 x.2 s)
    (modPair (fun p => { p with holdOuts := p.holdOuts.filter fun x => !out x }) s)

/-! ### Completions and deliveries -/

/-- A completion fills its entry of the tag table (R496). -/
def tagFill (c : Sub) (status : Nat) (result : List Byte) (s : State) : State :=
  if s.pair.role = 0 then s
  else
    let f (t : TagEnt) : TagEnt :=
      if t.tag == c.tag && t.ring == c.ring && t.accept == c.accept && !t.done then
        { t with status := status, done := true, result := (padTo 8 result).take 8, compl := s.proc.procCue }
      else t
    modPair (fun p => { p with tags := p.tags.map f, tagNew := p.tagNew.map f }) s

/-- A completion as Publish writes it: the output hash takes it, and it waits for release. -/
def putComplete (c : Sub) (op status : Nat) (result data : List Byte) (s : State) : State × List Out :=
  (tagFill c status result (hashOut (compWords op c status result s.proc.procCue) s), [.complete c op status result data])

/-- The 32-byte delivery header (R384). -/
def deliveryHeader (source reason len : Nat) (node : Option Nat) (arrival : Stamp) (cue : CueNo) (context : Nat)
    (rssi : Int) (line : Nat) : List Byte :=
  le 1 source ++ le 1 reason ++ le 2 len ++ le 4 (match node with
    | some i => i % 2 ^ 17 + 2 ^ 31
    | none => 0) ++ le 8 arrival.toNat ++ le 4 cue.toNat ++ le 2 context ++ leI 2 rssi ++ le 1 line ++ le 7 0

/-- The RX_POST result: length, source, reason and node of the header (R384). -/
def deliveryResult (h : List Byte) : List Byte := slice h 2 2 ++ slice h 0 1 ++ slice h 1 1 ++ slice h 4 4

/-- A packet takes the oldest buffer of its ring's pool, or is dropped and counted (R384); a buffer posted
through a partner's record takes none here, and its drop is counted (R495). A buffer whose RX_POST does not precede
the input of cue `cue` in canonical order does not serve it (R400). The last component says that none served. -/
def putDelivery (ring : Nat) (cue : CueNo) (h packet : List Byte) (s : State) : State × List Out × Bool :=
  match (cq s ring).pool with
  | [] => (countReg (rHifRxDropped + 0x20 * ring) 1 s, [], true)
  | c :: rest =>
    if sdiff32 cue c.accept ≤ 0 then (countReg (rHifRxDropped + 0x20 * ring) 1 s, [], true) else
    let s1 := modCq ring (fun r => { r with pool := rest }) s
    let s2 := if c.partner then countReg (rHifRxDropped + 0x20 * ring) 1 s1 else s1
    let x := putComplete c 0x0024 stOk (deliveryResult h) (if c.partner then [] else h ++ packet) s2
    (x.1, x.2, false)

/-! ### Engine messages -/

/-- A message of engine `e` joins those waiting to be posted, or its packet is dropped (R48). -/
def queueMessage (e receiver : Nat) (it : Item) (packet : Bool) (s : State) : State :=
  if packet && decide (1024 ≤ (eng s e).messages.length) then
    countReg 0x31020 1 (modEng e (fun g => { g with dropWait := g.dropWait + 1 }) s)
  else modEng e (fun g => { g with messages := g.messages ++ [(receiver, it, packet)] }) s

/-- A message posted: it completes for the next Intake, whatever the role (R47). -/
def postOne (e : Nat) (it : Item) (s : State) : State :=
  let (q, s1) := takeSeq 2 e s
  modProc (fun p => { p with inputs := p.inputs ++
    [⟨2, e, q, p.cueNow, false, (Config.messageBody (e + 16 * q.toNat)).take 256, it⟩] }) s1

/-- At most 8 messages of an engine are posted in one Publish, oldest first (R48). -/
def postMessages (e : Nat) (s : State) : State :=
  let l := (eng s e).messages
  (l.take 8).foldl (fun s m => postOne e m.2.1 s) (modEng e (fun g => { g with messages := l.drop 8 }) s)

/-! ### Publish -/

/-- The order of the engines (R57). -/
def publishOrder : List Nat := [10, 11, 8, 9, 0, 1, 2, 3, 4, 5, 6, 7]

/-- The note of a request learns its chain and sequence (R171). -/
def noteSent (r : TxReq) (s : State) : State :=
  modMesh (fun m => { m with uses := m.uses.map fun u =>
    if u.item = r.item ∧ u.sent.isNone = true then { u with sent := some (r.chain, r.seq) } else u }) s

/-- Outputs wait for the partner's acknowledgement (R479). -/
def holdsOuts (s : State) : Bool := s.pair.role == 1 && s.pair.covered

/-- A transmit request as Publish writes it: numbered, hashed, judged and charged (R167, R198); while outputs
are held it reaches its queue at release (R479). -/
def putTx (r : TxReq) (s : State) : State × List Out :=
  let x := numberReq r s
  let s1 := admitReq x.1 (noteSent x.1 (hashOut (txWords x.1) x.2))
  let mine (y : TxReq) : Bool := y.seq == x.1.seq
  if holdsOuts s && (tx s1 r.chain).queue.any mine then
    (modTx r.chain (fun t => { t with queue := t.queue.filter fun y => !mine y }) s1, [.tx x.1])
  else (s1, [])

/-- A record as Publish writes it (R57, R509). -/
def putRecord (r : Rec) (s : State) : State × List Out :=
  (hashOut (words64 (bytes32 (recWords r))) (modBoard (boardWords (recWords r)) s), [.record r])

/-- A record left by the Housekeeping before is written by this Publish, and bears its cue and cue start (R509). -/
def ownCue (s : State) (r : Rec) : Rec :=
  if sdiff32 r.cue s.proc.procCue < 0 then { r with cue := s.proc.procCue, stamp := s.proc.procStart } else r

/-- One output of engine `e` written (R57); the rings that dropped a packet are gathered. DESIGN CHOICE (R69 names
the ports, the chains and the submission rings): in book replay, as on an Understudy (R480), no frame goes to ETH0. -/
def putOut (e : Nat) (o : Out) (a : State × List Out × List Nat) : State × List Out × List Nat :=
  let s := a.1
  match o with
  | .complete c op st res data => let x := putComplete c op st res data s; (x.1, a.2.1 ++ x.2, a.2.2)
  | .tx r => let x := putTx r s; (x.1, a.2.1 ++ x.2, a.2.2)
  | .record r => let x := putRecord (ownCue s r) s; (x.1, a.2.1 ++ x.2, a.2.2)
  | .deliver ring src reason nd arr cue ctx rssi ln pkt =>
    let h := deliveryHeader src reason pkt.length nd arr cue ctx rssi ln
    let x := putDelivery ring cue h pkt s
    (x.1, a.2.1 ++ x.2.1, if x.2.2 then a.2.2 ++ [ring] else a.2.2)
  | .post receiver it packet => (queueMessage e receiver it packet s, a.2)
  | .eth0 f => (if isLive s then sendEth0 f s else s, a.2)
  | .exported b => (s, a.2.1 ++ [.exported b], a.2.2)
  | .window n w => (if inReplay s then s else writeWindow n w s, a.2)

/-- A record of engine or source `src` produced by Publish itself. -/
def ownRecord (src code p1 p2 : Nat) (s : State) : Rec :=
  ⟨code, src, 0, s.proc.procCue, s.proc.procStart, w32 p1, w32 p2, 0, 0⟩

/-- The outputs of one engine, its messages posted, and its record of packets dropped on posting (R48). -/
def putEngine (e : Nat) (a : State × List Out × List Nat) : State × List Out × List Nat :=
  let mine := a.1.proc.outs.filter fun x => x.1 == e
  let b := mine.foldl (fun a x => putOut e x.2 a) a
  let s := postMessages e b.1
  let g := eng s e
  if g.dropWait = 0 ∧ g.dropBuf = 0 then (s, b.2)
  else
    let x := putRecord (ownRecord e 0x000B g.dropWait g.dropBuf s) s
    (x.1, b.2.1 ++ x.2, b.2.2)

/-- The receive-buffers-exhausted records, after the deliveries (R384). -/
def putExhausted (a : State × List Out × List Nat) : State × List Out :=
  a.2.2.dedup.foldl (fun b ring =>
    let x := putRecord (ownRecord 146 0x6005 ring (a.2.2.filter (· == ring)).length b.1) b.1
    (x.1, b.2 ++ x.2)) (a.1, a.2.1)

/-- The digest of the cue (R58, R60): the book hash is that of its record. -/
def makeDigest (s : State) : Digest where
  cue := s.proc.procCue
  flags := w32 (ofBool s.proc.faulted + 2 * ofBool (inReplay s))
  state := stateHash s
  out := s.proc.outHash
  book := BitVec.ofNat 64 (uAt s.proc.recBytes 24 8)

/-- The digest goes to the registers (R74) and to the partner (R483); in replay it leaves its record
(R69). -/
def giveDigest (d : Digest) (s : State) : State :=
  let s1 := modProc (fun p => { p with digest := d }) s
  let s2 := if s.pair.mode = 1 ∧ s.pair.role ≠ 0 then
      sendPair (.digest d) (modPair (fun p => { p with mine := (p.mine ++ [d]).drop (p.mine.length + 1 - 64) }) s1)
    else s1
  if inReplay s then
    emitLocalAt s.proc.procStart 0x0009 12 (d.state.toNat % 2 ^ 32) (d.state.toNat / 2 ^ 32) (d.out.toNat % 2 ^ 32)
      (d.out.toNat / 2 ^ 32) s2
  else s2

/-- An output is the export of a record (R68). -/
def isExport (o : Out) : Bool :=
  match o with
  | .exported _ => true
  | _ => false

/-- What leaves the unit at the end of Publish: on an Understudy the export of the record it replayed and nothing
else, on a covered Lead once the record is acknowledged, else at once (R68, R479, R480). -/
def leave (cue : CueNo) (l : List Out) (s : State) : State :=
  if isUnderstudy s then releaseBatch cue (l.filter isExport) s
  else if holdsOuts s && !(s.pair.acked.any fun c => decide (0 ≤ sdiff32 c cue)) then
    modPair (fun p => { p with holdOuts := p.holdOuts ++ [(cue, l)] }) s
  else releaseBatch cue l s

/-- PUBLISH_PHASE (R34, R57): the outputs in order, the digest and the export. -/
def publish (s : State) : State :=
  let a := publishOrder.foldl (fun a e => putEngine e a) (s, [], [])
  let b := putExhausted a
  let s1 := modProc (fun p => { p with outs := [] }) b.1
  let d := makeDigest s1
  let exp := if s1.proc.bookMode = 1 then [Out.exported (s1.proc.recBytes ++ digestBytes d)] else []
  giveDigest d (leave s.proc.procCue (b.2 ++ exp) s1)

end Sys2Proof.Machine
end

