-- ==== Sys2Proof/Machine/Pair.lean ====
section
/-! DEFINITION. Redundancy (chapter 12): the pair link and its frames (R474 to R485), the state audit, resync
(R499 to R502), votes and changes of roles (R489, R492, R493), the Director (R488 to R491), and relief and
rehearsal swaps (R503, R504). -/

namespace Sys2Proof.Machine

/-- Event source of the pair link (R392). -/
abbrev linkSource8 : Nat := 208
/-- Event source of the role wires (R392). -/
abbrev roleSource : Nat := 209
/-- Event source of the Director (R392). -/
abbrev directorSource : Nat := 210

/-! ### Frames -/

/-- The unit takes part in a pair (R465, R470). -/
def isPaired (s : State) : Bool := s.proc.processing && s.pair.mode == 1 && !s.sec.jtag

/-- A pair frame reaches the unit (R617). -/
def pairOpen (s : State) : Bool := s.pwr.eth1Up && isPaired s

/-- A pair frame dropped and counted (R475). -/
def pairDrop (s : State) : State := countReg rUndLinkErrors 1 s

/-- A pair frame other than a HELLO: its MIC, its session and its counter are checked (R475). -/
def pairTake (h : PairHdr) (m : PairMsg) (f : State → State) (s : State) : State :=
  if !pairOpen s then s
  else if h.mic == pairMic ⟨h.session, h.counter, m⟩ s && s.pair.rxSess == some h.session && decide (s.pair.rxCtr.toNat < h.counter.toNat) then
    f (modPair (fun p => { p with rxCtr := h.counter }) s)
  else pairDrop s

/-- The Understudy is stale (R471): what it holds is of no use. -/
def goStale (s : State) : State := modPair (fun p => { p with role := 4, held := [], segs := [], naks := [] }) s

/-- The partner is uncovered: what was held leaves the unit (R479). -/
def uncover (s : State) : State := modPair (fun p => { p with covered := false, partner := 4 }) (releaseHeld s)

/-! ### HELLO -/

/-- The values of two HELLOs agree (R477); a unit without a mesh access record of its own compares no router
ID. -/
def agrees (h : Hello) (s : State) : Bool :=
  h.root == rootCheck s && h.fwId == w32 s.upd.rclass &&
    (h.router == routerId s || s.pair.role == 5 || routerId s == 0 || h.role == 5 || h.router == 0)

/-- A stale Understudy asks for the pair state (R500). -/
def startResync (s : State) : State :=
  countReg rUndResyncs 1 (sendPair .resync
    (modPair (fun p => { p with role := 6, sweeping := true, swept := 0, fwd := [], held := [], segs := [] }) s))

/-- A HELLO of the present or a new session (R475, R477, R500). -/
def takeHello (h : Hello) (s : State) : State :=
  let ok := agrees h s
  let s1 := modPair (fun p => { p with
    rxSess := some h.session, rxCtr := h.counter, agree := ok
    partner := h.role, heardLead := p.heardLead || h.role == 1 }) s
  let lead := h.role == 1
  if !ok then
    let s2 := emitLocal 0x9004 linkSource8 0 0 0 0 s1
    if isUnderstudy s2 then goStale s2 else if s2.pair.covered then uncover s2 else s2
  else if isUnderstudy s1 then
    if lead && (s1.pair.role == 4 || s1.pair.role == 5) then startResync (goStale s1) else s1
  else if s1.pair.covered && h.role != 2 && h.role != 3 then uncover s1
  else s1

/-- A HELLO received (R475, R477). -/
def hearHello (h : Hello) (s : State) : State :=
  if !pairOpen s then s
  else if h.mic == pairMic ⟨h.session, h.counter, .hello h⟩ s && (s.pair.rxSess != some h.session || decide (s.pair.rxCtr.toNat < h.counter.toNat)) then takeHello h s
  else pairDrop s

/-- Meaning of HELLO. -/
def execHello (h : Hello) (s : State) : Host.Outcome State Fault Refusal := .next (hearHello h s)

/-- HELLO_DUE (R476): 64 cues after the last HELLO. -/
def helloTick (s : State) : State :=
  if isPaired s && decide (64 ≤ sdiff32 s.proc.cueNow s.pair.lastHello) then sendPair (.hello (helloOf s))
    (modPair (fun p => { p with lastHello := s.proc.cueNow }) s)
  else s

/-- Meaning of HELLO_DUE (R476). -/
def execHelloDue (s : State) : Host.Outcome State Fault Refusal := .next (helloTick s)

/-! ### RECORD, ACK and NAK -/

/-- The role of a replaying Understudy that holds `n` records (R471). -/
def replayRole (n : Nat) : Nat := if n ≤ 2 then 2 else 3

/-- A record received whole is held (R471, R478, R482); a resyncing unit keeps the newest 8 and acknowledges
none. -/
def holdRecord (cue : CueNo) (b : List Byte) (s : State) : State :=
  let l := insertBy (fun x y => decide (sdiff32 x.1 y.1 < 0)) (cue, b) s.pair.held
  if s.pair.role = 6 then modPair (fun p => { p with held := l.drop (l.length - 8) }) s
  else if 8 < l.length then goStale s
  else sendPair (.ack cue) (modPair (fun p => { p with held := l, role := replayRole l.length }) s)

/-- Segments of record `cue` that have not arrived, below `n`. -/
def missingSegs (s : State) (cue : CueNo) (n : Nat) : List (CueNo × Nat) :=
  ((List.range n).filter fun i => !s.pair.segs.any fun x => x.1 == cue && x.2.1 == i).map fun i => (cue, i)

/-- NAKs for missing segments, each at most once (R478): those before a segment that has arrived, and those of
earlier records. -/
def askMissing (cue : CueNo) (seg : Nat) (s : State) : State :=
  let older := (s.pair.segs.filter fun x => decide (sdiff32 x.1 cue < 0)).map fun x => (x.1, x.2.2.1)
  let l := (older.dedup.flatMap fun x => missingSegs s x.1 x.2) ++ missingSegs s cue seg
  let l := l.filter fun x => !s.pair.naks.contains x
  sendPairs (l.map fun x => .nak x.1 x.2) (modPair (fun p => { p with naks := p.naks ++ l }) s)

/-- A RECORD segment (R478). -/
def takeSegment (cue : CueNo) (seg total : Nat) (b : List Byte) (s : State) : State :=
  let r := s.pair.role
  let s1 := modPair (fun p => { p with lastRec := s.proc.cueNow }) s
  if !(r == 2 || r == 3 || r == 6) || s.pair.promo.isSome || decide (total ≤ seg) ||
    s.pair.held.any (fun x => x.1 == cue) then s1
  else
    let s2 := if s.pair.segs.any (fun x => x.1 == cue && x.2.1 == seg) then s1
      else modPair (fun p => { p with segs := p.segs ++ [(cue, seg, total, b)] }) s1
    let s3 := askMissing cue seg s2
    if (missingSegs s3 cue total).isEmpty then
      let mine := sortBy (fun x y => decide (x.2.1 < y.2.1)) (s3.pair.segs.filter fun x => x.1 == cue)
      let bytes := mine.flatMap fun x => x.2.2.2
      let s4 := modPair (fun p => { p with
        segs := p.segs.filter (fun x => x.1 != cue), naks := p.naks.filter fun x => x.1 != cue }) s3
      if recordWhole bytes && uAt bytes 8 4 == bytes.length then holdRecord cue bytes s4 else s4
    else s3

/-- Meaning of RECORD. -/
def execRecord (h : PairHdr) (cue : CueNo) (segment : Nat) (segments : Nat) (bytes : List Byte) (s : State) :
    Host.Outcome State Fault Refusal := .next (pairTake h (.record cue segment segments bytes) (takeSegment cue segment segments bytes) s)

/-- An ACK at the Lead (R479, R501): after a resync the first one covers the pair again. -/
def takeAck (cue : CueNo) (s : State) : State :=
  if s.pair.role ≠ 1 then s
  else
    let s1 := if s.pair.sweeping then
        modPair (fun p => { p with sweeping := false, covered := true, partner := 2 }) s
      else s
    if s1.pair.covered then
      let old := s1.pair.acked
      let new := match old with
        | some c => if sdiff32 cue c < 0 then c else cue
        | none => cue
      releaseUpTo new (modPair (fun p => { p with acked := some new }) s1)
    else s1

/-- Meaning of ACK. -/
def execAck (h : PairHdr) (cue : CueNo) (s : State) : Host.Outcome State Fault Refusal :=
  .next (pairTake h (.ack cue) (takeAck cue) s)

/-- A NAK at the Lead (R478): the segment again, while the record is in its buffer. -/
def takeNak (cue : CueNo) (seg : Nat) (s : State) : State :=
  if s.pair.role ≠ 1 then s
  else
    match s.pair.sentRecs.find? fun x => x.1 == cue with
    | some x =>
      match (recordFrames cue x.2)[seg]? with
      | some m => sendPair m s
      | none => s
    | none => s

/-- Meaning of NAK. -/
def execNak (h : PairHdr) (cue : CueNo) (segment : Nat) (s : State) : Host.Outcome State Fault Refusal :=
  .next (pairTake h (.nak cue segment) (takeNak cue segment) s)

/-- The release deadline of the oldest cue held: 1,400 µs after the start of cue n (R479). The own number of a promoted
unit's cue is its number less K (R485). -/
def releaseStamp (s : State) : Option Stamp :=
  s.pair.holdOuts.head?.map fun x =>
    let own := if s.pair.fixedD then x.1 - BitVec.ofInt 32 s.pair.k else x.1
    plus (s.proc.cueStart + BitVec.ofInt 64 (sdiff32 own s.proc.cueNow * cueTicks)) (1400 * usTicks)

/-- RELEASE_DEADLINE (R479): at a deadline that falls before the next cue start the cue's outputs leave and the partner
is stale. -/
def releaseDue (s : State) : State :=
  match releaseStamp s with
  | some t =>
    if s.pair.role = 1 ∧ s.pair.covered = true ∧ sdiff64 t (plus s.proc.cueStart cueTicks) < 0 then
      emitLocal 0x9003 linkSource8 0 0 0 0 (uncover (atTime t s))
    else s
  | none => s

/-- Meaning of RELEASE_DEADLINE. -/
def execReleaseDeadline (s : State) : Host.Outcome State Fault Refusal := .next (releaseDue s)

/-! ### Digests and audits -/

/-- One pair of digests of the same cue compared (R483). -/
def compareOne (s : State) (mine theirs : Digest) : State :=
  if mine = theirs then s
  else if isUnderstudy s then
    let s1 := emitLocal 0x9002 linkSource8 (mine.state.toNat % 2 ^ 32) (mine.state.toNat / 2 ^ 32)
      (theirs.state.toNat % 2 ^ 32) (theirs.state.toNat / 2 ^ 32) (countReg rUndMismatch 1 s)
    modPair (fun p => { p with audit := true }) (sendPair (.digest mine) (goStale s1))
  else modPair (fun p => { p with audit := true }) s

/-- The digests of cues that both units have processed are compared (R483). -/
def compareDigests (s : State) : State :=
  let both := s.pair.mine.filterMap fun m => (s.pair.theirs.find? fun t => t.cue == m.cue).map fun t => (m, t)
  let seen (d : Digest) : Bool := both.any fun x => x.1.cue == d.cue
  both.foldl (fun s x => compareOne s x.1 x.2) (modPair (fun p => { p with
    mine := p.mine.filter (fun d => !seen d), theirs := p.theirs.filter fun d => !seen d }) s)

/-- A DIGEST frame (R483). -/
def takeDigest (d : Digest) (s : State) : State :=
  let r := s.pair.role
  if r == 1 || r == 2 || r == 3 then
    compareDigests (modPair (fun p => { p with theirs := (p.theirs ++ [d]).drop (p.theirs.length + 1 - 64) }) s)
  else s

/-- Meaning of DIGEST. -/
def execDigest (h : PairHdr) (d : Digest) (s : State) : Host.Outcome State Fault Refusal :=
  .next (pairTake h (.digest d) (takeDigest d) s)

/-- STATE_AUDIT_END (R483): a transient or a lasting fault. -/
def endAudit (pass : Bool) (s : State) : State :=
  if !s.pair.audit then s
  else
    let s1 := emitLocal 0x7004 linkSource8 6 0 (if pass then 0 else 1) 0
      (countFault pass (modPair (fun p => { p with audit := false, auditBad := p.auditBad || !pass }) s))
    if pass then s1 else forceSwap s1

/-- Meaning of STATE_AUDIT_END. -/
def execStateAuditEnd (pass : Bool) (s : State) : Host.Outcome State Fault Refusal := .next (endAudit pass s)

/-! ### Time -/

/-- The straight-line fit of the samples at own cue `x` (R484), rounded down. -/
def fitAt (l : List (CueNo × Int)) (x : CueNo) : Int :=
  let base := ((l.head?).map (·.1)).getD 0
  let pts := l.map fun p => (sdiff32 p.1 base, p.2)
  let n : Int := pts.length
  let sx := (pts.map (·.1)).sum
  let sy := (pts.map (·.2)).sum
  let sxx := (pts.map fun p => p.1 * p.1).sum
  let sxy := (pts.map fun p => p.1 * p.2).sum
  let den := n * sxx - sx * sx
  if n = 0 then 0
  else if den = 0 then sy / n
  else ((sy * sxx - sx * sxy) + sdiff32 x base * (n * sxy - sx * sy)) / den

/-- A TIME frame (R484): the Lead answers at its next cue start + 500 µs; the Understudy takes a sample. -/
def takeTimeFrame (t1 t2 t3 t4 : Stamp) (s : State) : State :=
  if s.pair.role = 1 then sendPair (.time t1 t2 (plus s.proc.cueStart (cueTicks + 500 * usTicks))) s
  else if isUnderstudy s then
    let d := (sdiff64 t2 t1 + sdiff64 t3 t4) / 2
    modPair (fun p =>
      let l := p.samples ++ [(s.proc.cueNow, d)]
      let l := l.drop (l.length - 64)
      { p with samples := l, delta := fitAt l s.proc.cueNow }) s
  else s

/-- The payload of a TIME frame as it was sent: an Understudy's holds t1 alone, the Lead's t1 to t3. -/
def timeSent (t1 t2 t3 : Stamp) (s : State) : PairMsg := if s.pair.role = 1 then .time t1 0 0 else .time t1 t2 t3

/-- Meaning of TIME. -/
def execTime (h : PairHdr) (t1 : Stamp) (t2 : Stamp) (t3 : Stamp) (t4 : Stamp) (s : State) :
    Host.Outcome State Fault Refusal := .next (pairTake h (timeSent t1 t2 t3 s) (takeTimeFrame t1 t2 t3 t4) s)

/-- The Understudy's TIME frame of a cue, at cue start + 300 µs (R484). -/
def sendTime (s : State) : State :=
  if isPaired s && isUnderstudy s then sendPair (.time (plus s.proc.cueStart (300 * usTicks)) 0 0) s else s

/-! ### Resynchronisation -/

/-- RESYNC at the Lead (R500, R501): from its next cue start it streams the pair state. -/
def takeResync (s : State) : State :=
  if s.pair.role = 1 then
    countReg rUndResyncs 1 (modPair (fun p => { p with
      sweeping := true, swept := 0, partner := 6, sweepPos := some (0, 0), sweepAgain := false, fwdOut := [] }) s)
  else s

/-- Words of a region of the pair state (R500); how many regions 3 to 6 take is open. -/
def regionWords (r : Nat) : Nat :=
  match r with
  | 0 => 0x1600000 / 8
  | 1 => 16384
  | 2 => 32768
  | r => (Config.openWord 100 r).toNat % 2 ^ 20

/-- Word `i` of a region; the words of regions 3 to 6 are open, the layout of what they hold not given. -/
def regionWord (s : State) (r i : Nat) : Word64 :=
  match r with
  | 0 => wordAtAddr s (8 * i)
  | 1 => tagWord s i
  | 2 => wordAt (lpmHashBytes s (i / 4)) (i % 4)
  | r => Config.openWord 101 (r + 8 * i + 2 ^ 24 * s.time.tb0.toNat)

/-- The SWEEP frame at a place, of at most 1,023 words, and the place after it (R474, R476, R500). -/
def sweepFrame (s : State) (p : Nat × Nat) : PairMsg × (Nat × Nat) :=
  let n := min 1023 (regionWords p.1 - p.2)
  let done := decide (regionWords p.1 ≤ p.2 + n)
  (.sweep p.1 (8 * p.2) ((List.range n).map fun i => regionWord s p.1 (p.2 + i)) (done && p.1 == 6),
    if done then (p.1 + 1, 0) else (p.1, p.2 + n))

/-- The place is that of the last frame, which waits for the end of Housekeeping (R501). -/
def sweepLast (p : Nat × Nat) : Bool := decide (6 ≤ p.1) && decide (regionWords 6 ≤ p.2 + 1023)

/-- Up to `n` SWEEP frames, short of the last (R500). -/
def sendSweeps (n : Nat) (s : State) : State :=
  match n, s.pair.sweepPos with
  | 0, _ => s
  | _, none => s
  | n + 1, some p =>
    if sweepLast p then s
    else
      let x := sweepFrame s p
      sendSweeps n (modPair (fun q => { q with sweepPos := some x.2 }) (sendPair x.1 s))

/-- Frames that a cue's link time leaves free beside the RECORD frames handed over, 8,262 octet times each at most and
312,500 in a cue at 2.5 Gbit/s; never fewer than two, 16,368 octets (R500). DESIGN CHOICE: R500 gives the lower bound
alone. -/
def freeFrames (s : State) : Nat :=
  let of (f : PairFrame) : Bool := match f.msg with
    | .record _ _ _ _ => true
    | _ => false
  max 2 ((312500 - 8262 * (s.wire1.filter of).length) / 8262)

/-- Up to `n` FORWARD frames of at most 512 entries (R476, R500). -/
def sendForwards (n : Nat) (s : State) : State :=
  let l := s.pair.fwdOut
  sendPairs ((chunks 512 (l.take (512 * n))).map .forward) (modPair (fun p => { p with fwdOut := l.drop (512 * n) }) s)

/-- The stream of a cue start at the Lead (R500, R501): words changed since they were swept go first; more than 256 KiB
of them waiting abandon the sweep, and the next begins at a Scene boundary. -/
def streamPair (s : State) : State :=
  if s.pair.role ≠ 1 then s
  else if s.pair.sweepAgain then
    if isBoundary s s.proc.procCue then modPair (fun p => { p with sweepAgain := false, sweepPos := some (0, 0) }) s else s
  else if s.pair.sweepPos.isNone then s
  else if 16384 < s.pair.fwdOut.length then
    countReg rUndResyncs 1 (modPair (fun p => { p with sweepPos := none, sweepAgain := true, fwdOut := [] }) s)
  else
    let n := freeFrames s
    let f := ceilDiv s.pair.fwdOut.length 512
    sendSweeps (n - f) (sendForwards n s)

/-- The end of Housekeeping of the cue in which the last word is read ends the sweep (R501). -/
def endStream (s : State) : State :=
  match s.pair.sweepPos with
  | none => s
  | some p =>
    if s.pair.role = 1 ∧ sweepLast p = true then
      let s1 := sendForwards (ceilDiv s.pair.fwdOut.length 512) s
      modPair (fun q => { q with sweepPos := none }) (sendPair (sweepFrame s1 p).1 s1)
    else s

/-- Addresses of region 0 whose words processing may have changed between two states. -/
def touchedWords (s t : State) : List Nat :=
  let nodes := ((s.mesh.nodes.map Prod.fst) ++ t.mesh.nodes.map Prod.fst).dedup
  let seen := (List.range 8).filter fun e => smGet [] s.mesh.seen e != smGet [] t.mesh.seen e
  nodes.flatMap (fun i => (List.range 16).map fun w => 128 * i + 8 * w) ++
    ((s.wings.words.map Prod.fst) ++ t.wings.words.map Prod.fst).dedup.map (8 * ·) ++
    seen.flatMap (fun e => (List.range 16384).map fun w => 0x1400000 + 0x20000 * e + 8 * w) ++
    if tableFields s = tableFields t ∧ keyFields s.sec.keys = keyFields t.sec.keys then []
    else (List.range 131072).map fun w => 0x1500000 + 8 * w

/-- The words of the pair state that processing has changed between two states after the sweep sent them (R500). The
words of regions 3 to 6 have no layout: what changed of them goes with the end of the sweep. -/
def changedWords (p : Nat × Nat) (s t : State) : List PairWord :=
  let before (r i : Nat) : Bool := decide (r < p.1) || (r == p.1 && decide (i < p.2))
  let of (r : Nat) (l : List Nat) : List PairWord :=
    (l.filter fun i => before r i && regionWord s r i != regionWord t r i).map fun i => ⟨r, 8 * i, regionWord t r i⟩
  of 0 ((touchedWords s t).dedup.map (· / 8)) ++
    (if s.pair.tags = t.pair.tags then [] else of 1 (List.range 16384)) ++
    (if s.mesh.lpm = t.mesh.lpm then [] else of 2 (List.range 32768))

/-- After a phase of processing the Lead notes the writes that it has to forward; a newer value of a word takes the
place of one that still waits (R500). -/
def noteWrites (s t : State) : State :=
  match t.pair.sweepPos with
  | none => t
  | some p =>
    if t.pair.role ≠ 1 then t
    else
      let l := changedWords p s t
      let stale (x : PairWord) : Bool := l.any fun y => y.region == x.region && y.offset == x.offset
      modPair (fun q => { q with fwdOut := q.fwdOut.filter (fun x => !stale x) ++ l }) t

/-- Meaning of RESYNC. -/
def execResync (h : PairHdr) (s : State) : Host.Outcome State Fault Refusal := .next (pairTake h .resync takeResync s)

/-- The commands of the pair state are the partner's (R495). -/
def asPartner (s : State) : State := mapSubs (fun c => { c with partner := true }) s

/-- The deferred items of the pair state, read from the entries they come from. -/
def deferredOf (s : State) (p : PairState) (e : Nat) (cue : CueNo) : List (CueNo × Item) :=
  (p.deferred.filter fun x => x.1 == e).map fun x =>
    let r := x.2
    (cue, entryItem s cue true ⟨r.cls, r.src, r.seq, r.arrival, r.carried, r.body, .message 0⟩)

/-- The Understudy holds the Lead's state as it stood after cue `e` (R501). -/
def applyPair (p : PairState) (e : CueNo) (s : State) : State :=
  let s1 : State := { s with
    mesh := p.mesh
    sec := { s.sec with keys := p.keys, keyNext := p.keyNext }
    pair := { s.pair with
      tags := p.tags, tagNew := [], lastSwap := p.lastSwap, quiet := p.quiet
      viewLow := if p.relief then some s.proc.cueNow else none }
    cfgs := p.cfgs
    upd := { s.upd with tour := p.tour, tourId := p.images.tourId }
    updP := p.images
    time := { s.time with tb1 := p.tb1, tb2 := p.tb2, tb3 := p.tb3, ptp := p.ptp, mains := p.mains
                          pins := smMapAll {} s.time.pins fun i x => { x with prog := smGet none (p.pulses.map fun y => (y.1, some y.2)) i } }
    hif := { s.hif with cq := smMapAll {} s.hif.cq (fun i r => { r with pool := smGet [] p.pools i }), capture := p.capture }
    proc := { s.proc with
      held := p.held, bookHash := p.bookHash, outHash := p.outHash, sceneLog2 := p.scene, seqs := p.seqs
      procCue := e, procStart := p.start, lastCue := e - 1, hkDone := true, latched := [], inputs := [], outs := []
      first := false }
    txa := { s.txa with ledger := p.ledgerA, shadow := p.shadowA, seq := p.seqA }
    txb := { s.txb with ledger := p.ledgerB, shadow := p.shadowB, seq := p.seqB } }
  let pools := p.pools.foldl (fun s x => modCq x.1 (fun r => { r with pool := x.2 }) s) s1
  let s2 := p.pulses.foldl (fun s x => modPin x.1 (fun n => { n with prog := some x.2 }) s) pools
  let s3 := (List.range 12).foldl (fun s i => modEng i (fun g => { g with deferred := deferredOf s2 p i e, messages := [] }) s) s2
  asPartner s3

/-- The snapshot record of a completed resync (R502). -/
def snapshotRecord (e : CueNo) (body : List Byte) : List Byte :=
  le 2 2 ++ le 2 0 ++ le 4 e.toNat ++ le 4 (32 + body.length) ++ le 4 7 ++ le 16 0 ++ body

/-- With export, a snapshot record goes before the records replayed (R502). -/
def exportSnapshot (e : CueNo) (s : State) : State :=
  if s.proc.bookMode = 1 then
    let (n, s1) := fresh s
    exportWrite (snapshotRecord e (Config.snapshotBytes n)) [] s1
  else s

/-- The resync is complete (R501): the unit replays from record e + 1. -/
def endResync (p : PairState) (e : CueNo) (s : State) : State :=
  let s1 := applyPair p e s
  exportSnapshot e (modPair (fun q =>
    let l := q.held.filter fun x => decide (0 < sdiff32 x.1 e)
    { q with role := replayRole l.length, held := l, sweeping := false, swept := 100, fwd := [] }) s1)

/-- Progress of a sweep in per cent: its place in region 0 (R405, R508). -/
def sweptAt (region offset : Nat) : Nat := if region = 0 then min 99 (offset * 100 / 0x1600000) else 99

/-- A SWEEP frame (R500, R501). -/
def takeSweep (region offset : Nat) (words : List Word64) (last : Option PairState) (cue : CueNo) (s : State) :
    State :=
  if s.pair.role ≠ 6 then s
  else
    match last with
    | some p => endResync p cue s
    | none => modPair (fun p => { p with
        swept := sweptAt region offset
        fwd := p.fwd ++ words.mapIdx fun i w => ⟨region, offset + 8 * i, w⟩ }) s

/-- Meaning of SWEEP. -/
def execSweep (h : PairHdr) (region : Nat) (offset : Nat) (words : List Word64) (last : Option PairState)
    (cue : CueNo) (s : State) : Host.Outcome State Fault Refusal :=
  .next (pairTake h (.sweep region offset words last.isSome) (takeSweep region offset words last cue) s)

/-- A FORWARD frame (R500): newer values of words already swept. -/
def takeForward (words : List PairWord) (s : State) : State :=
  if s.pair.role = 6 then
    modPair (fun p => { p with fwd := (p.fwd.filter fun x =>
      !words.any fun w => w.region == x.region && w.offset == x.offset) ++ words }) s
  else s

/-- Meaning of FORWARD. -/
def execForward (h : PairHdr) (words : List PairWord) (s : State) : Host.Outcome State Fault Refusal :=
  .next (pairTake h (.forward words) (takeForward words) s)

/-- PAIR_LINK_LOST (R499). -/
def loseLink (s : State) : State :=
  let r := s.pair.role
  if isPaired s && (r == 2 || r == 3 || r == 6) && decide (8 ≤ sdiff32 s.proc.cueNow s.pair.lastRec) then
    emitLocal 0x9005 linkSource8 0 0 0 0 (goStale s)
  else s

/-- Meaning of PAIR_LINK_LOST. -/
def execPairLinkLost (s : State) : Host.Outcome State Fault Refusal := .next (loseLink s)

/-! ### Votes and changes of roles -/

/-- A count of UND_SWAPS raised (R508). -/
def countSwap (lo : Nat) (s : State) : State :=
  setRBits rUndSwaps (lo + 7) lo (satAdd 255 (rbits s rUndSwaps (lo + 7) lo) 1) s

/-- Cue start and number of the last record that a promoted unit replays (R485). -/
def lastReplayed (s : State) : CueNo × Stamp :=
  match (s.pair.held.getLast?).map (·.2) with
  | some b => (BitVec.ofNat 32 (uAt b 4 4), BitVec.ofNat 64 (uAt b 16 8))
  | none => (s.proc.procCue, s.proc.procStart)

/-- A vote reaches a fit Understudy (R485, R492): Δ and K are fixed, and its first live cue is set. DESIGN CHOICE (a fresh
Understudy has replayed no cue, and R485 gives its first live number by none else): that number is its own, K is 0. -/
def promote (s : State) : State :=
  let k := s.pair.held.length
  let u := s.proc.cueNow
  let live := u + 1 + BitVec.ofNat 32 (max k 2)
  let d := fitAt s.pair.samples u
  let g := plus s.proc.cueStart ((1 + max k 2) * cueTicks) + BitVec.ofInt 64 d
  let y := lastReplayed s
  let c := if s.pair.role = 5 then live else y.1 + BitVec.ofInt 32 (roundDiv (sdiff64 g y.2) cueTicks)
  let s1 := modPair (fun p => { p with
    delta := d, fixedD := true, k := sdiff32 c live, promo := some (u, k, k), leadIn := true, viewLow := none
    segs := [], naks := [] }) s
  emitLocal 0x9001 roleSource 0 0 0 0 (countSwap (if s.pair.viewLow.isSome then 8 else 0) s1)

/-- PROMOTE (R489): a rise of the lead line with a tick within 20 µs. -/
def senseRise (rise tick : Stamp) (s : State) : State :=
  let s := atTime tick s
  let voted := decide (0 ≤ sdiff64 tick rise) && decide (sdiff64 tick rise ≤ 20 * usTicks)
  let s1 := modPair (fun p => { p with leadIn := true, tickCue := if voted then some s.proc.cueNow else p.tickCue }) s
  if !isPaired s || !isUnderstudy s || !voted || s.pair.promo.isSome then s1
  else if isFit s then promote s1
  else emitLocal 0x9006 roleSource 0 0 0 0 s1

/-- Meaning of PROMOTE. -/
def execPromote (levelRise : Stamp) (tick : Stamp) (s : State) : Host.Outcome State Fault Refusal :=
  .next (senseRise levelRise tick s)

/-- DEMOTE (R489, R493): a fall of the lead line. -/
def senseFall (s : State) : State :=
  let s1 := modPair (fun p => { p with leadIn := false }) s
  if isPaired s && (s.pair.role == 1 || s.pair.promo.isSome) then
    let s2 := cutChains (plus s.proc.cueStart (2 * cueTicks)) (modPair (fun p => { p with
      role := 4, demoting := true, covered := false, holdOuts := [], promo := none, viewLow := none }) s1)
    emitLocal 0x9001 roleSource 0 0 0 0 (countSwap 24 (restartNext 2 s2))
  else s1

/-- Meaning of DEMOTE. -/
def execDemote (t : Stamp) (s : State) : Host.Outcome State Fault Refusal := .next (senseFall (atTime t s))

/-- LEAD_IN_TICK (R489): a pulse of 0.5 µs to 2 µs. -/
def senseTick (width : Nat) (s : State) : State :=
  if 500 ≤ width ∧ width ≤ 2000 then modPair (fun p => { p with tickCue := some s.proc.cueNow }) s else s

/-- Meaning of LEAD_IN_TICK. -/
def execLeadInTick (widthNs : Nat) (s : State) : Host.Outcome State Fault Refusal := .next (senseTick widthNs s)

/-- A vote is present (R489): a tick within the last 2 own cues. -/
def votePresent (s : State) : Bool :=
  match s.pair.tickCue with
  | some c => decide (sdiff32 s.proc.cueNow c < 2)
  | none => false

/-- DIRECTOR_LOST (R489): the role is kept. -/
def loseDirector (s : State) : State :=
  if isPaired s && !votePresent s then emitLocal 0x9007 roleSource 0 0 0 0 s else s

/-- Meaning of DIRECTOR_LOST. -/
def execDirectorLost (s : State) : Host.Outcome State Fault Refusal := .next (loseDirector s)

/-! ### The Director -/

/-- The unit serves as a Director (R470). -/
def isDirector (s : State) : Bool := s.proc.processing && s.pair.mode == 2

/-- A heartbeat pulse of a unit, with its view (R490): pulses the 0.5 µs filter removes are none. -/
def hearBeat (unitB : Bool) (width : Nat) (view : Bool) (s : State) : State :=
  let x : DirIn := ⟨some s.time.tb0, width, view⟩
  if !isDirector s || decide (width < 500) then s
  else if unitB then modPair (fun p => { p with dirB := x }) s else modPair (fun p => { p with dirA := x }) s

/-- Meaning of HEARTBEAT. -/
def execHeartbeat (unitB : Bool) (widthNs : Nat) (view : Bool) (t : Stamp) (s : State) :
    Host.Outcome State Fault Refusal := .next (hearBeat unitB widthNs view (atTime t s))

/-- A unit is alive: a pulse within the last 2,000 µs (R490). -/
def isAlive (s : State) (x : DirIn) : Bool :=
  match x.last with
  | some t => decide (sdiff64 s.time.tb0 t ≤ 2000 * usTicks)
  | none => false

/-- A unit is fit (R490). -/
def unitFit (s : State) (x : DirIn) : Bool := isAlive s x && x.view

/-- A unit pulses as Lead: its last pulse lasted 5 µs or more (R490). -/
def pulsesLead (x : DirIn) : Bool := x.last.isSome && decide (5000 ≤ x.width)

/-- The inputs of unit A (false) or B. -/
def dirUnit (s : State) (b : Bool) : DirIn := if b then s.pair.dirB else s.pair.dirA

/-- The state in which a unit leads. -/
def ledBy (b : Bool) : DirSt := if b then .leadB else .leadA

/-- The lead lines driven, with the tick that follows a rise (R488). -/
def driveLines (a b : Bool) (s : State) : State :=
  let up (old : Option Bool) (new : Bool) : Nat := if new && old != some true then 1 else 0
  modPair (fun p => { p with
    ticksA := p.ticksA + up p.lineA a, ticksB := p.ticksB + up p.lineB b, lineA := some a, lineB := some b }) s

/-- The Director raises a unit's line and lowers the other's. -/
def leadUnit (b : Bool) (s : State) : State :=
  modPair (fun p => { p with dir := ledBy b }) (driveLines (!b) b s)

/-- Swap to a unit (R491): the reason is recorded and a hold of 64 cues starts. -/
def swapTo (b : Bool) (reason : Nat) (s : State) : State :=
  emitLocal 0x9001 directorSource reason 0 0 0
    (modPair (fun p => { p with hold := true, lastSwap := s.proc.cueNow, reason := reason }) (leadUnit b s))

/-- The conflict event of the Director (R491). -/
def dirConflict (s : State) : State := emitLocal 0x9006 directorSource 0 0 0 0 s

/-- The state table of R491 in a LEAD state of unit `x`. -/
def decideLead (x : Bool) (s : State) : State :=
  let me := dirUnit s x
  let y := dirUnit s (!x)
  if !isAlive s me then
    if unitFit s y then swapTo (!x) 1 s
    else modPair (fun p => { p with dir := .none }) (driveLines false false s)
  else if !me.view && unitFit s y && !s.pair.hold then swapTo (!x) 2 s
  else if pulsesLead y then dirConflict s
  else s

/-- DIRECTOR_DECISION, at each Director cue start (R488, R491): a tick on each driven line, then the state
table. -/
def decideDirector (s : State) : State :=
  if !isDirector s then s
  else
    let tick (l : Option Bool) : Nat := if l.isSome then 1 else 0
    let s := modPair (fun p => { p with
      dirCues := p.dirCues + 1, ticksA := tick p.lineA, ticksB := tick p.lineB }) s
    let pref := rbit s rUndCtl 2
    match s.pair.dir with
    | .start =>
      if s.pair.dirCues < 4 then s
      else
        match pulsesLead s.pair.dirA, pulsesLead s.pair.dirB with
        | true, false => leadUnit false s
        | false, true => leadUnit true s
        | true, true => dirConflict (leadUnit pref s)
        | false, false => modPair (fun p => { p with dir := .none }) (driveLines false false s)
    | .none =>
      if unitFit s (dirUnit s pref) then leadUnit pref s
      else if unitFit s (dirUnit s (!pref)) then leadUnit (!pref) s
      else s
    | .leadA => decideLead false s
    | .leadB => decideLead true s

/-- DIRECTOR_HOLD_EXPIRY (R491). -/
def endHold (s : State) : State :=
  if s.pair.hold && decide (64 ≤ sdiff32 s.proc.cueNow s.pair.lastSwap) then modPair (fun p => { p with hold := false }) s
  else s

/-- Meaning of DIRECTOR_HOLD_EXPIRY. -/
def execDirectorHoldExpiry (s : State) : Host.Outcome State Fault Refusal := .next (endHold s)

/-! ### Relief and rehearsal -/

/-- A relief is set pending: the Lead lowers its view from the next cue start (R503). -/
def setRelief (s : State) : State := modPair (fun p => { p with viewLow := some (s.proc.cueNow + 1) }) s

/-- The result of STATUS (R503); of the partner's command the values are the partner's. -/
def roleStatus (c : Sub) (s : State) : List Byte :=
  if c.partner then le 8 (Config.openWord 68 s.proc.procCue.toNat).toNat
  else le 1 s.pair.role ++ le 1 s.pair.held.length ++
    le 2 (ofBool (votePresent s) + 2 * ofBool (s.pwr.eth1Up && s.pair.agree)) ++ leI 4 s.pair.k

/-- ROLE_REQUEST (R382, R503). -/
def cmdRoleRequest : CmdSpec where
  op := 0x0090
  engine := byStage
  use := .none
  aside := true
  static := fun c => decide (pU c 32 1 ≤ 1) && pZero c 33 63
  wrong := fun c s => s.pair.role == 0 || (c.aside && pU c 32 1 == 0)
  check := noCheck
  cost := cost10
  act := fun e c s =>
    if pU c 32 1 = 0 then replySt e 0x0090 stOk c (setRelief s)
    else reply e 0x0090 stOk c (roleStatus c s) [] s

/-- Meaning of ROLE_REQUEST. -/
def execRoleRequest (c : Sub) (s : State) : Host.Outcome State Fault Refusal :=
  .next (runCmd cmdRoleRequest (.row (.roleRequest c)) c s)

/-- RELIEF_LAPSE (R503). -/
def lapseRelief (s : State) : State :=
  match s.pair.viewLow with
  | some c =>
    if 64 ≤ sdiff32 s.proc.cueNow c then
      emitLocal 0x9008 roleSource 0 0 0 0 (modPair (fun p => { p with viewLow := none }) s)
    else s
  | none => s

/-- Meaning of RELIEF_LAPSE. -/
def execReliefLapse (s : State) : Host.Outcome State Fault Refusal := .next (lapseRelief s)

/-- A rehearsal is due (R504). -/
def rehearsalDue (s : State) : Bool :=
  let h := cfgU s recPair 0 1
  h != 0 && decide ((h * 3600000 : Int) ≤ sdiff32 s.proc.procCue s.pair.lastSwap)

/-- The Scene boundary is quiet, or counts as quiet 24 hours after the rehearsal fell due (R504). -/
def isQuietBoundary (s : State) : Bool :=
  isBoundary s s.proc.procCue &&
    ((decide (s.pair.quiet.sum ≤ cfgU s recPair 2 2) &&
      !s.proc.held.any (fun h => decide (0 < sdiff32 h.target s.proc.procCue) && decide (sdiff32 h.target s.proc.procCue ≤ 8))) ||
    decide ((cfgU s recPair 0 1 * 3600000 + 86400000 : Int) ≤ sdiff32 s.proc.procCue s.pair.lastSwap))

/-- REHEARSAL (R504): both members decide it from the records. -/
def rehearse (s : State) : State :=
  if isPaired s && rehearsalDue s && isQuietBoundary s && s.pair.viewLow.isNone then
    emit 10 0x9009 0 0 0 0 (countSwap 16 (setRelief s))
  else s

/-- Meaning of REHEARSAL. -/
def execRehearsal (s : State) : Host.Outcome State Fault Refusal := .next (rehearse s)

/-! ### The tag table -/

/-- An entry is added; a full table gives up its oldest entry with DONE, or takes none (R496). -/
def addTag (x : TagEnt) (s : State) : State :=
  let l := s.pair.tags
  if l.length < 4096 then modPair (fun p => { p with tags := l ++ [x] }) s
  else if l.any (·.done) then modPair (fun p => { p with tags := l.eraseP (·.done) ++ [x] }) s
  else emit 8 0x6006 0 0 0 0 s

/-- Tag-table entries written one item each; the first that does not fit and every later one wait for the next
Housekeeping (R53). -/
def updateTagLoop (todo : List TagEnt) (s : State) : State :=
  match todo with
  | [] => modPair (fun p => { p with tagNew := [] }) s
  | x :: rest =>
    if hkFits s 8 10 then updateTagLoop rest (addTag x (hkCharge 8 10 s))
    else modPair (fun p => { p with tagNew := todo }) s

/-- TAG_TABLE_UPDATE, in Housekeeping (R496). -/
def updateTags (s : State) : State := updateTagLoop s.pair.tagNew s

end Sys2Proof.Machine
end

