-- ==== Sys2Proof/Machine/MeshRx.lean ====
section
/-! DEFINITION. What the engines do with receptions: window outcomes and misses (R244, R247), secured
uplinks (R216, R249, R250, R272), floods (R255 to R258) and the beacons of peer routers (R251, R252). -/

namespace Sys2Proof.Machine

/-! ### Window outcomes -/

/-- A miss of a node (R247, R254). -/
def missNode (w : WinEnt) (s : State) : State :=
  let s1 := modNode w.node (fun n => { n with misses := n.misses + 1 }) s
  match (node s w.node).st with
  | .active | .drifting =>
    if w.full then
      let s2 := setSt w.node .searching s1
      if hasWake (node s w.node) then sendOverture w.node s2 else s2
    else if (node s w.node).st = .active then setSt w.node .drifting s1 else s1
  | _ => s1

/-- A window without contact is a miss when the node was due and its anchor lies after a_c (R244). -/
def judgeWin (s : State) (w : WinEnt) : State :=
  let n := node s w.node
  if !(n.grand && isReached n) then s
  else if ((connAt n w.event).2.1 + 1 : Nat) ≤ sdiff32 w.event n.event ∧
      later64 (anchorOf n w.event) n.arrival = true then missNode w s
  else s

/-- The window outcomes of the cue judged once its Work is done (R244, R268). -/
def judgeWins (s : State) : State :=
  s.mesh.judge.foldl judgeWin (modMesh (fun m => { m with judge := [] }) s)

/-- A frame of unknown map: the node of its window gets a new offer of the map its context holds (R143). -/
def offerAgain (rx : Reception) (s : State) : State :=
  match winOf s rx with
  | some w =>
    let n := node s w.node
    if n.mapCodes.isEmpty || n.mapCodes == map0 then
      modNode w.node (fun n => { n with offer := some 0, mapCodes := map0 }) s
    else
    match s.mesh.maps.find? fun e => e.2.valid && e.2.codes == n.mapCodes with
    | some e => modNode w.node (fun n => { n with offer := some e.1 }) s
    | none => s
  | none => s

/-- A reception that brings no frame the engines take: counted when a good frame is dropped (R220). -/
def takeOutcome (rx : Reception) (s : State) : State :=
  let s1 := if rx.outcome = 0 ∧ rx.status = 4 then offerAgain rx s else s
  dropWin rx (if rxGood rx then macDrop s1 else s1)

/-- The Stagehand that takes a window outcome: its node's owner, or that of the frame's sender. -/
def outcomeOwner (s : State) (rx : Reception) : Nat :=
  match winOf s rx with
  | some w => owner w.node
  | none => rxOwner s rx

/-- Meaning of WINDOW_OUTCOME. -/
def execWindowOutcome (rx : Reception) (s : State) : Host.Outcome State Fault Refusal :=
  .next (takeItem (outcomeOwner s rx) (if rxGood rx then 20 else 10) (.row (.windowOutcome rx)) (takeOutcome rx) s)

/-! ### Secured uplinks -/

/-- An uplink of a type is checked and taken as a contact (R220, R242). -/
def takeUplink (rx : Reception) (forward : Uplink → State → State) (s : State) : State :=
  match acceptUplink rx s with
  | (none, s1) => dropWin rx s1
  | (some u, s1) => dropWin rx (contact u (forward u) s1)

/-- A Data frame's payload is forwarded (R272). -/
def forwardData (u : Uplink) (s : State) : State := forwardMesh (meshIngress s u.i u.rx) u.payload s

/-- Data (R272). -/
def takeData (rx : Reception) (s : State) : State := takeUplink rx forwardData s

/-- Reply, Control and Lost request: nothing is forwarded (R216, R272). -/
def takePlain (rx : Reception) (s : State) : State := takeUplink rx (fun _ s => s) s

/-- A lost request carries a 6-octet body with one of three reasons (R249). -/
def takeLost (rx : Reception) (s : State) : State :=
  match acceptUplink rx s with
  | (none, s1) => dropWin rx s1
  | (some u, s1) => if u.payload.length = 6 ∧ byteAt u.payload 0 ≤ 2 then dropWin rx (contact u (fun s => s) s1) else dropWin rx (macDrop s1)

/-- Meaning of LOST_REQUEST. -/
def execLostRequest (rx : Reception) (s : State) : Host.Outcome State Fault Refusal :=
  .next (takeItem (rxOwner s rx) (rxCost s rx) (.row (.lostRequest rx)) (takeLost rx) s)

/-- Meaning of DATA. -/
def execData (rx : Reception) (s : State) : Host.Outcome State Fault Refusal :=
  .next (takeItem (rxOwner s rx) (rxCost s rx) (.row (.data rx)) (takeData rx) s)

/-- Meaning of REPLY. -/
def execReply (rx : Reception) (s : State) : Host.Outcome State Fault Refusal :=
  .next (takeItem (rxOwner s rx) (rxCost s rx) (.row (.reply rx)) (takePlain rx) s)

/-- Meaning of CONTROL. -/
def execControl (rx : Reception) (s : State) : Host.Outcome State Fault Refusal :=
  .next (takeItem (rxOwner s rx) (rxCost s rx) (.row (.control rx)) (takePlain rx) s)

/-! ### Floods -/

/-- The Stagehand of a flood (R255). -/
def floodOwner (s : State) (origin seq : Nat) : Nat :=
  match nodeByAddr s origin with
  | some i => owner i
  | none => if origin = addrRouter (routerId s) then 0 else seq % 8

/-- A live entry of a seen cache (R256). -/
def isSeen (s : State) (e origin seq : Nat) : Bool :=
  (smGet [] s.mesh.seen e).any fun x => x.origin.toNat == origin && x.seq.toNat == seq &&
    decide ((nowScene s % 2 ^ 24 + 2 ^ 24 - x.scene) % 2 ^ 24 ≤ cfgU s recMesh 14 1)

/-- An entry of a seen cache inserted; a full cache gives up its oldest (R256). -/
def insertSeen (e origin seq : Nat) (s : State) : State :=
  modMesh (fun m => { m with seen := smMod [] m.seen e fun l =>
    let l1 := l.filter fun x => !(x.origin.toNat == origin && x.seq.toNat == seq)
    (if 16384 ≤ l1.length then l1.drop 1 else l1) ++
      [⟨BitVec.ofNat 24 origin, BitVec.ofNat 16 seq, nowScene s % 2 ^ 24⟩] }) s

/-- The plain body of a flood frame: from a node of this device under R452, from any other originator by
its MIC alone. -/
def openFlood (s : State) (f : Frame) (origin : Nat) : (List Byte × Option (Nat × Word32 × Word32)) ⊕ (Option (Nat × SecFail)) :=
  match nodeByAddr s origin with
  | some i =>
    match openFrom s i f with
    | .inl (p, h, b) => .inl (p, some (i, h, b))
    | .inr k => .inr (some (i, k))
  | none =>
    match if f.group then groupKeyBySeq s f.keySeq else none with
    | none => .inr none
    | some g =>
      match openFrame (groupKeyOf s g) (groupSource (groupOrigin f)) f with
      | some p => .inl (p, none)
      | none => .inr none

/-- The ingress of a flood's payload (R274, R384); a router's flood has none of its own. -/
def floodIngress (s : State) (e origin : Nat) (rx : Reception) : Ingress :=
  match nodeByAddr s origin with
  | some i => { meshIngress s i rx with engine := e }
  | none =>
    { engine := e, source := 0
      node := some (if bits origin 23 22 = 0 then origin % 2 ^ 17 else (Config.openWord 2 origin).toNat % 2 ^ 17)
      arrival := rx.arrival
      context := match bits origin 23 22 with
        | 0 => 8
        | 1 => bits origin 18 16
        | _ => (Config.openWord 2 origin).toNat / 2 ^ 17 % 2 ^ 16
      rssi := rx.rssi, line := rx.line }

/-- A flood is posted to Stagehand 0 for re-sending with its TTL one less (R257). -/
def relayFlood (e : Nat) (f : Frame) (origin seq ttl : Nat) (s : State) : State :=
  if ttl = 0 ∨ floodRelay s = false ∨ origin = addrRouter (routerId s) then s
  else
    post e 0 (.row (.floodResend { origin := BitVec.ofNat 24 origin, seq := BitVec.ofNat 16 seq, ttl := ttl - 1
                                   scope := 0xFF, grand := true, sec := f.sec
                                   frame := frameBytes { f with flood := some (origin, seq, ttl - 1) } })) true s

/-- A flood frame is taken on first sight, or dropped as seen (R257). -/
def takeFlood (rx : Reception) (s : State) : State :=
  match parseFrame (rxFrame rx) with
  | none => macDrop s
  | some f =>
    match f.flood with
    | none => macDrop s
    | some (origin, seq, ttl) =>
      let e := floodOwner s origin seq
      if isSeen s e origin seq then countReg 0x30038 1 s
      else if f.typ != 1 || !f.sec || (!f.dir && f.router != routerId s) then macDrop s
      else
        match openFlood s f origin with
        | .inr none => macDrop s
        | .inr (some (i, k)) => macDrop (secFailure i k s)
        | .inl (plain, own) =>
          let s1 := match own with
            | some (i, h, b) => takeCounter i f h b s
            | none => s
          match splitBody f plain with
          | none => macDrop s1
          | some (es, p) =>
            if !es.all elemOk then macDrop s1 else
            let s2 := match own with
              | some (i, _, _) => queueLearn i rx es s1
              | none => s1
            relayFlood e f origin seq ttl
              (forwardMesh (floodIngress s2 e origin rx) p (insertSeen e origin seq s2))

/-- The Stagehand and work units of a flood frame (R51, R255). -/
def floodWork (s : State) (rx : Reception) : Nat × Nat :=
  match parseFrame (rxFrame rx) with
  | some f =>
    match f.flood with
    | some (o, q, _) =>
      (floodOwner s o q, if isSeen s (floodOwner s o q) o q then 8 else 40 + blocksOf 16 f.body.length)
    | none => (0, 20)
  | none => (0, 20)

/-- Meaning of FLOOD_FRAME. -/
def execFloodFrame (rx : Reception) (s : State) : Host.Outcome State Fault Refusal :=
  .next (takeItem (floodWork s rx).1 (floodWork s rx).2 (.row (.floodFrame rx))
    (fun s => dropWin rx (takeFlood rx s)) s)

/-! ### The flood queue -/

/-- Slot plan entry `j` is a flood entry whose scope meets a scope (R225, R258). -/
def floodEntry (s : State) (scope : BitVec 8) (grand : Bool) (j : Nat) : Bool :=
  let x := slotAt s j
  x.kind == 2 && decide (j < slotEntries s) && (x.scope &&& scope.toNat != 0 || (grand && bit x.flags 0))

/-- Flood entries that meet a scope. -/
def floodEntries (s : State) (scope : BitVec 8) (grand : Bool) : List Nat :=
  (List.range 32).filter (floodEntry s scope grand)

/-- A frame of `len` octets is within R221 on the channel of slot plan entry `j`. -/
def slotFits (s : State) (len j : Nat) : Bool :=
  let pe := planAt s (slotAt s j).channel
  decide (len ≤ frameLimit pe.pers pe.phy)

/-- A flood joins the queue of Stagehand 0 (R258). -/
def queueFlood (cmd : Option Sub) (scope : BitVec 8) (grand : Bool) (seq : BitVec 16) (frame : List Byte)
    (s : State) : State :=
  modMesh (fun m => { m with
    items := m.items + 1
    floods := m.floods ++ [{ id := m.items, cmd := cmd, scope := scope, grand := grand, seq := seq, frame := frame
                             sentIn := [], sentOk := 0, tries := [], fail := 0
                             planned := (floodEntries s scope grand).length, lastTx := 0 }] }) s

/-- Stagehand 0 takes a flood to send again; a full queue drops and counts it (R258). DEDUCED: as FLOOD_SEND, it is
not taken when it exceeds R221 on a channel of its entries. -/
def resendFlood (x : FloodFrame) (s : State) : State :=
  if 64 ≤ s.mesh.floods.length then fwdDrop s
  else if (floodEntries s x.scope x.grand).isEmpty then s
  else if !(floodEntries s x.scope x.grand).all (slotFits s x.frame.length) then fwdDrop s
  else queueFlood none x.scope x.grand x.seq x.frame s

/-- Meaning of FLOOD_RESEND. -/
def execFloodResend (x : FloodFrame) (s : State) : Host.Outcome State Fault Refusal :=
  .next (takeItem 0 10 (.row (.floodResend x)) (resendFlood x) s)

/-- Attempts of a flood in a slot entry. -/
def floodTries (x : Flood) (j : Nat) : Nat :=
  match x.tries.find? fun t => t.1 == j with
  | some t => t.2
  | none => 0

/-- A request in slot plan entry `j`'s occurrence two cues on (R225, R226, R258). -/
def slotRequest (s : State) (j : Nat) (frame : List Byte) : TxReq :=
  let x := slotAt s j
  planReq s 0 x.channel (plus s.proc.procStart (2 * cueTicks + x.offset * usTicks)) 0 false 0 map0 frame

/-- The first flood that may go in slot entry `j` (R258). -/
def nextFlood (s : State) (j : Nat) : Option Flood :=
  s.mesh.floods.find? fun x => floodEntry s x.scope x.grand j && !x.sentIn.contains j

/-- The status a transmit result gives its command (R170). -/
def txStatus (result : Nat) : Nat :=
  match result with
  | 0 => stOk
  | 1 => stTimeout
  | 2 => stTimeout
  | 3 => stNotLocked
  | 4 => stNotLocked
  | 5 => stNotLocked
  | 6 => 6
  | 7 => 6
  | 8 => stDenied
  | 9 => stDenied
  | 10 => stDenied
  | 11 => stDenied
  | 12 => stDenied
  | 13 => stNoResource
  | _ => stFlushed

/-- A flood leaves the queue once every flood entry of its scope is done with it (R258, R263). -/
def closeFlood (id : Nat) (s : State) : State :=
  match s.mesh.floods.find? fun x => x.id == id with
  | none => s
  | some x =>
    if (floodEntries s x.scope x.grand).all x.sentIn.contains then
      let s1 := modMesh (fun m => { m with floods := m.floods.filter fun y => y.id != id }) s
      match x.cmd with
      | some c => finish 0 0x0021 (txStatus x.fail) c
          (le 2 x.seq.toNat ++ le 1 x.sentOk ++ le 1 x.planned ++ le 4 x.lastTx.toNat) [] s1
      | none => s1
    else s

/-- Stagehand 0 queues a flood for an occurrence of slot entry `j`, unless it would overlap a keep-out
(R253, R258). DESIGN CHOICE: an entry whose channel a later record has made too short for the frame (R221) counts as
used up, its result FLUSHED. -/
def sendFloodIn (j : Nat) (x : Flood) (s : State) : State :=
  let r := slotRequest s j x.frame
  if !slotFits s x.frame.length j then closeFlood x.id (modMesh (fun m => { m with
    floods := m.floods.map fun y => if y.id = x.id then
      { y with sentIn := y.sentIn ++ [j], fail := if y.fail = 0 then 14 else y.fail } else y }) s)
  else if inKeepOut s r.tag r.start (airTicks r) then s
  else
    sendReq 0 r (.flood x.id j) none (modMesh (fun m => { m with floods := m.floods.map fun y =>
      if y.id = x.id then { y with tries := y.tries.filter (fun t => t.1 != j) ++ [(j, floodTries y j + 1)] }
      else y }) s)

/-- The transmit end of a flood in slot entry `j` (R258). -/
def floodSent (id j : Nat) (x : TxEnd) (s : State) : State :=
  let f (y : Flood) : Flood :=
    if y.id ≠ id then y
    else if x.result = 0 then
      { y with sentIn := y.sentIn ++ [j], sentOk := y.sentOk + 1, lastTx := cueOfStamp s x.curtain }
    else if 3 ≤ floodTries y j then
      { y with sentIn := y.sentIn ++ [j], fail := if y.fail = 0 then x.result else y.fail }
    else y
  closeFlood id (modMesh (fun m => { m with floods := m.floods.map f }) s)

/-! ### Peer routers -/

/-- The body of a beacon is well formed (R227). -/
def beaconOk (b : List Byte) : Bool := b.length == 24 && decide (byteAt b 7 < 16) && byteAt b 23 == 0

/-- The beacon body of a frame: a secured one must verify under a group key (R226, R452). -/
def beaconOf (s : State) (f : Frame) : Option (List Byte) :=
  if !f.sec then some f.body
  else
    match if f.group then groupKeyBySeq s f.keySeq else none with
    | some g => openFrame (groupKeyOf s g) (groupSource (addrRouter f.router)) f
    | none => none

/-- A peer entry as a beacon makes it (R251, R252). -/
def peerOf (s : State) (rx : Reception) (router : Nat) (b : List Byte) : Peer :=
  let k := byteAt b 4
  let air := ceilDiv ((sdiff64 rx.endStamp rx.arrival).toNat + syncTime rx.pers.toNat 0 / 3) usTicks
  { router := router, slot := byteAt b 5, present := true, last := rx.arrival
    expect := plus rx.arrival (2 ^ k * cueTicks), log2 := k, channel := byteAt b 6, planChk := uAt b 16 2
    airUs := air, misses := 0, cue := s.proc.procCue }

/-- A beacon from another router (R251, R252). -/
def takePeer (p : Peer) (s : State) : State :=
  let same (x : Peer) : Bool := x.router == p.router && x.slot == p.slot
  if s.mesh.peers.any same then
    modMesh (fun m => { m with peers := m.peers.map fun x => if same x then p else x }) s
  else if s.mesh.peers.length < 32 then
    emit 0 0x3004 0 0 0 0 (modMesh (fun m => { m with peers := m.peers ++ [p] }) s)
  else if s.mesh.peerFull = some (nowScene s) then s
  else emit 0 0x3009 0 0 0 0 (modMesh (fun m => { m with peerFull := some (nowScene s) }) s)

/-- A beacon is taken (R220, R251). DESIGN CHOICE (R251 excepts the pair partner's beacons and names nothing that tells
them apart): a member takes every beacon with the own router ID for its partner's. -/
def takeBeacon (rx : Reception) (s : State) : State :=
  match parseFrame (rxFrame rx) with
  | none => macDrop s
  | some f =>
    match (beaconOf s f).bind fun b => (splitBody f b).map Prod.snd with
    | none => macDrop s
    | some b =>
      if !beaconOk b then macDrop s
      else if f.router = routerId s then (if isMember s then s else emit 0 0x3007 0 0 0 0 s)
      else if bit (byteAt b 7) 1 then s
      else takePeer (peerOf s rx f.router b) s

/-- Meaning of BEACON. -/
def execBeacon (rx : Reception) (s : State) : Host.Outcome State Fault Refusal :=
  .next (takeItem 0 20 (.row (.beacon rx)) (fun s => dropWin rx (takeBeacon rx s)) s)

/-- The expected beacon of peer entry `i` has not come by 1 ms after its time (R252). -/
def beaconMissDue (s : State) (i : Nat) : Bool :=
  match s.mesh.peers[i]? with
  | some p => decide (1000 * (usTicks : Int) < sdiff64 s.proc.procStart p.expect)
  | none => false

/-- A missed peer beacon (R252). -/
def missBeacon (i : Nat) (s : State) : State :=
  match s.mesh.peers[i]? with
  | none => s
  | some p =>
    if !beaconMissDue s i then s
    else
      let q := { p with misses := p.misses + 1, expect := plus p.expect (2 ^ p.log2 * cueTicks)
                        present := p.present && decide (p.misses + 1 < 3) }
      let s1 := modMesh (fun m => { m with peers := m.peers.set i q }) s
      if p.present && !q.present then emit 0 0x3005 0 0 0 0 s1 else s1

/-- Meaning of PEER_BEACON_MISS. -/
def execPeerBeaconMiss (i : Nat) (s : State) : Host.Outcome State Fault Refusal :=
  .next (takeItem 0 10 (.row (.peerBeaconMiss i)) (missBeacon i) s)

/-- A peer entry without a beacon for the peer supervision time (R252). -/
def peerExpired (s : State) (i : Nat) : Bool :=
  match s.mesh.peers[i]? with
  | some p => decide ((cfgU s recMesh 16 2 : Int) ≤ sdiff32 s.proc.procCue p.cue)
  | none => false

/-- The entry is released (R252). -/
def expirePeer (i : Nat) (s : State) : State :=
  if peerExpired s i then
    emit 0 0x3006 0 0 0 0 (modMesh (fun m => { m with peers := m.peers.eraseIdx i }) s)
  else s

/-- Meaning of PEER_SUPERVISION_EXPIRY. -/
def execPeerSupervisionExpiry (i : Nat) (s : State) : Host.Outcome State Fault Refusal :=
  .next (takeItem 0 10 (.row (.peerSupervisionExpiry i)) (expirePeer i) s)

end Sys2Proof.Machine
end

