-- ==== Sys2Proof/Machine/MeshCmd.lean ====
section
/-! DEFINITION. The node commands NODE_SEND, FLOOD_SEND, NODE_QUERY and SCHEDULE_SET (R245, R261 to
R267). -/

namespace Sys2Proof.Machine

/-! ### NODE_SEND -/

/-- NODE_SEND's action (R262, R454). -/
def nodeSend (e : Nat) (c : Sub) (s : State) : State :=
  let i := cmdNode c
  let fl := pU c 36 2
  let d : Downlink := { id := 0, cmd := some c, dest := i, payload := c.data, ack := bit fl 0, wake := bit fl 1
                        coexPri := bit fl 2, mic16 := bit fl 3, tries := pU c 38 1 + 1
                        expiry := s.proc.procCue + BitVec.ofNat 32 (pU c 40 2) }
  match downRefusal s i c.data.length d.mic16 with
  | some (reason, st) =>
    if reason = 255 then replySt e 0x0020 st c s else endDown e reason st d s
  | none => addDown i d s

/-- NODE_SEND (R261, R262, R267). -/
def cmdNodeSend : CmdSpec where
  op := 0x0020
  engine := byOwner
  use := .read
  aside := false
  static := fun c => decide (pU c 32 4 < 2 ^ 17) && decide (pU c 36 2 < 16) && decide (pU c 38 1 ≤ 7) &&
    pZero c 39 39 && decide (1 ≤ pU c 40 2) && pZero c 42 63
  wrong := fun c s => sendWrong (node s (cmdNode c)) (bit (pU c 36 2) 1)
  check := noCheck
  cost := fun c _ => 60 + 2 * blocksOf 16 c.length
  act := nodeSend

/-- Meaning of NODE_SEND. -/
def execNodeSend (c : Sub) (s : State) : Host.Outcome State Fault Refusal :=
  .next (runCmd cmdNodeSend (.row (.nodeSend c)) c s)

/-! ### FLOOD_SEND -/

/-- The engine is Stagehand 0. -/
def byStagehand0 (_ : Sub) (_ : State) : Nat := 0

/-- A flood of the device (R218, R258): origin the own router, its sequence and TTL. -/
def ownFlood (s : State) (ttl : Nat) (ie : Bool) (body : List Byte) : Frame :=
  { blankFrame 1 addrBroadcast with
    router := routerId s, seq := (nextSeq 0 s).1, ie := ie, body := body
    flood := some (addrRouter (routerId s), 8 * s.mesh.floodCnt, ttl) }

/-- The sequence of an own flood is used (R258). -/
def countFlood (s : State) : State :=
  modMesh (fun m => { m with floodCnt := (m.floodCnt + 1) % 8192 }) (nextSeq 0 s).2

/-- Floods of the device can be secured (R454). -/
def canGroup (s : State) : Bool := s.sec.keys.cur.isSome && s.sec.keys.ctr != 0xFFFFFFFF

/-- The checks of FLOOD_SEND (R263). -/
def floodCheck (c : Sub) (s : State) : Option Nat :=
  let sec := bit (pU c 33 1) 1
  let es := floodEntries s (BitVec.ofNat 8 (pU c 32 1)) (bit (pU c 33 1) 0)
  let len := 14 + c.length + (if sec then 13 else 0)
  if es.any (fun j => decide (frameLimit (planAt s (slotAt s j).channel).pers (planAt s (slotAt s j).channel).phy < len))
  then some stBadParam
  else if es.isEmpty || decide (64 ≤ s.mesh.floods.length) then some stNoResource
  else if sec && !canGroup s then some stDenied
  else none

/-- FLOOD_SEND's action (R258, R263). -/
def floodSend (e : Nat) (c : Sub) (s : State) : State :=
  let f := ownFlood s (pU c 34 1) false c.data
  let seq := BitVec.ofNat 16 (8 * s.mesh.floodCnt)
  let s1 := countFlood s
  let (bytes, s2) := if bit (pU c 33 1) 1 then groupFrame e f s1 else (some (frameBytes f), s1)
  match bytes with
  | some b => queueFlood (some c) (BitVec.ofNat 8 (pU c 32 1)) (bit (pU c 33 1) 0) seq b s2
  | none => replySt e 0x0021 stDenied c s2

/-- FLOOD_SEND (R263). -/
def cmdFloodSend : CmdSpec where
  op := 0x0021
  engine := byStagehand0
  use := .read
  aside := false
  static := fun c => decide (pU c 33 1 < 4) && decide (pU c 34 1 ≤ 15) && pZero c 35 63
  wrong := neverWrong
  check := floodCheck
  cost := fun c _ => 60 + 2 * blocksOf 16 c.length
  act := floodSend

/-- Meaning of FLOOD_SEND. -/
def execFloodSend (c : Sub) (s : State) : Host.Outcome State Fault Refusal :=
  .next (runCmd cmdFloodSend (.row (.floodSend c)) c s)

/-! ### NODE_QUERY -/

/-- State codes of R265. -/
def stCode (st : NodeSt) : Nat :=
  match st with
  | .free => 0
  | .admitted => 1
  | .joining => 2
  | .active => 3
  | .drifting => 4
  | .searching => 5
  | .dormant => 6
  | .leaving => 7

/-- The 64-byte report of a node (R265). -/
def nodeReport (s : State) (i : Nat) : List Byte :=
  let n := node s i
  let a := isAlloc n
  le 4 i ++ le 1 (stCode n.st) ++ le 1 (ofBool n.grand) ++ le 1 (ofBool (a && isDirect s i)) ++
    le 1 (n.caps.toNat % 256) ++ le 8 n.eui.toNat ++ le 4 (if a then nodeAddr s i else 0) ++ le 4 n.lastCue.toNat ++
    le 4 n.event.toNat ++ le 1 (min 255 n.misses) ++ le 1 n.downs.length ++ le 1 n.hop ++ le 1 n.lat ++
    le 2 n.intv ++ le 2 n.sup ++ le 2 n.mapId ++ le 2 0 ++ leI 4 n.rho ++ le 4 (n.guardT * 10 / 1024) ++
    le 8 n.arrival.toNat ++ le 4 n.parent.toNat ++ le 4 0

/-- NODE_QUERY (R265). -/
def cmdNodeQuery : CmdSpec where
  op := 0x0032
  engine := byOwner
  use := .written
  aside := false
  static := fun c => decide (pU c 32 4 < 2 ^ 17) && pZero c 36 63
  wrong := neverWrong
  check := fun c _ => if c.bufLen < 64 then some stBadParam else none
  cost := cost10
  act := fun e c s => finish e 0x0032 stOk c [] (nodeReport s (cmdNode c)) s

/-- Meaning of NODE_QUERY. -/
def execNodeQuery (c : Sub) (s : State) : Host.Outcome State Fault Refusal :=
  .next (runCmd cmdNodeQuery (.row (.nodeQuery c)) c s)

/-! ### SCHEDULE_SET -/

/-- SCHEDULE_SET's action (R245). -/
def scheduleSet (e : Nat) (c : Sub) (s : State) : State :=
  let i := cmdNode c
  let ep := eventAt (node s i) s.proc.procStart
  let s0 := updateLapsed i ep s
  let s1 := modNode i (takeUpdate ep) s0
  let n := node s1 i
  let s2 := match n.upd with
    | some u => match u.cmd with
      | some old => done e 0x0050 stFlushed old s1
      | none => s1
    | none => s1
  modNode i (fun n => { n with upd := some {
    event := ep + BitVec.ofNat 32 (max 8 (3 * (n.lat + 1))), intv := pU c 36 2, lat := pU c 38 2
    sup := pU c 40 2
    map := if bit (pU c 42 2) 0 then BitVec.ofNat 128 (pU c 44 16) else n.map, cmd := some c } }) s2

/-- SCHEDULE_SET (R245, R266, R267). -/
def cmdScheduleSet : CmdSpec where
  op := 0x0050
  engine := byOwner
  use := .none
  aside := false
  static := fun c => decide (pU c 32 4 < 2 ^ 17) && decide (pU c 42 2 ≤ 1) && pZero c 60 63
  wrong := fun c s =>
    let n := node s (cmdNode c)
    !(n.grand && (n.st == .active || n.st == .drifting || n.st == .searching))
  check := fun c s =>
    if connOk (pU c 36 2) (pU c 38 2) (pU c 40 2) &&
        (!bit (pU c 42 2) 0 || mapOk (pU c 44 16) (planEntries s)) then none else some stBadParam
  cost := cost10
  act := scheduleSet

/-- Meaning of SCHEDULE_SET. -/
def execScheduleSet (c : Sub) (s : State) : Host.Outcome State Fault Refusal :=
  .next (runCmd cmdScheduleSet (.row (.scheduleSet c)) c s)

end Sys2Proof.Machine
end

