-- ==== Sys2Proof/Machine/Tour.lean ====
section
/-! DEFINITION. Tours: the flooded delivery of a node image (R552 to R557). -/

namespace Sys2Proof.Machine

/-- The state with the Tour in progress changed. -/
def modTour (f : Tour → Tour) (s : State) : State := modUpd (fun u => { u with tour := u.tour.map f }) s

/-- Bytes of a block of the image: 4,096, the last possibly fewer (R552). -/
def blockBytes (t : Tour) (b : Nat) : Nat := min 4096 (t.length - 4096 * b)

/-- Fragments of a block (R553). -/
def blockFrags (t : Tour) (b : Nat) : Nat := max 1 (ceilDiv (blockBytes t b) (2 ^ t.flog))

/-! ### TOUR_START -/

/-- Octets of the largest fragment frame of a Tour (R552). -/
def tourFrameLen (c : Sub) : Nat := 8 + 5 + 6 + 6 + 2 + 2 ^ pU c 34 1 + (if bit (pU c 33 1) 1 then 16 else 8)

/-- The flood entries that meet the scope of a TOUR_START. -/
def tourEntries (c : Sub) (s : State) : List Nat :=
  floodEntries s (BitVec.ofNat 8 (pU c 32 1)) (bit (pU c 33 1) 0)

/-- The checks of TOUR_START (R552). -/
def tourCheck (c : Sub) (s : State) : Option Nat :=
  let es := tourEntries c s
  if es.any (fun j =>
    decide (frameLimit (planAt s (slotAt s j).channel).pers (planAt s (slotAt s j).channel).phy < tourFrameLen c))
  then some stBadParam
  else if es.isEmpty then some stNoResource
  else none

/-- A node that a Tour targets (R552). -/
def tourTarget (c : Sub) (n : Node) : Bool :=
  (match n.st with
    | .active | .drifting | .searching | .dormant => true
    | _ => false) &&
  (if n.grand then bit (pU c 33 1) 0 else bit (pU c 32 1) n.pan) &&
  (n.caps.toNat % 32) &&& pU c 36 2 == pU c 36 2

/-- The targeted nodes (R552). -/
def tourNodes (c : Sub) (s : State) : List Nat := (allocated s).filter fun i => tourTarget c (node s i)

/-- TOUR_START's action (R552, R556): Prompter 0 passes the Tour to Stagehand 0. -/
def tourStart (e : Nat) (c : Sub) (s : State) : State :=
  let l := tourNodes c s
  if l.isEmpty then replySt e 0x0084 stOk c s
  else
    let id := s.upd.tourId % 256
    let blocks := ceilDiv c.length 4096
    let t : Tour :=
      { id := id, round := 1, scope := BitVec.ofNat 8 (pU c 32 1), grand := bit (pU c 33 1) 0
        mic16 := bit (pU c 33 1) 1, flog := pU c 34 1, ttl := pU c 35 1, caps := pU c 36 2, limit := pU c 38 1
        silent := pU c 39 1, applyAt := BitVec.ofNat 64 (pU c 40 8), hash := slice c.params 16 16
        length := c.length, blocks := blocks, need := List.range blocks, nextNeed := [], frags := []
        pos := 0, asked := 0, announce := true, sub := c, nodes := l, ending := none, taken := s.proc.procCue }
    modUpd (fun u => { u with tour := some t, tourId := (u.tourId + 1) % 256 }) s

/-- In the Housekeeping of the cue in which Prompter 0 takes a Tour, each Stagehand marks its targeted nodes waiting
(R18, R556). DESIGN CHOICE (R51 lists no item for it): it costs no units. -/
def markTour (s : State) : State :=
  match s.upd.tour with
  | none => s
  | some t =>
    if t.marked then s
    else t.nodes.foldl (fun s i =>
      if isAlloc (node s i) then modNode i (fun n => { n with tour := [t.id, 1, 0, 0, 0, 0] }) s else s)
      (modTour (fun t => { t with marked := true }) s)

/-- TOUR_START (R382, R552). -/
def cmdTourStart : CmdSpec where
  op := 0x0084
  engine := byPrompter0
  use := .image
  aside := false
  static := fun c => decide (pU c 33 1 < 4) && decide (6 ≤ pU c 34 1) && decide (pU c 34 1 ≤ 10) &&
    decide (pU c 35 1 ≤ 15) && decide (pU c 36 2 < 32) && decide (1 ≤ pU c 38 1) && decide (1 ≤ pU c 39 1) &&
    decide (pU c 39 1 ≤ 15)
  wrong := fun _ s => s.upd.tour.isSome
  check := tourCheck
  cost := cost10
  act := tourStart

/-- Meaning of TOUR_START. -/
def execTourStart (c : Sub) (s : State) : Host.Outcome State Fault Refusal :=
  .next (runCmd cmdTourStart (.row (.tourStart c)) c s)

/-- Stagehand 0 takes the Tour from Prompter 0 and asks for its first two blocks (R555). -/
def takeTour (s : State) : State :=
  modTour (fun t => if t.taken = s.proc.procCue ∨ t.asked ≠ 0 then t else { t with asked := min 2 t.need.length }) s

/-! ### Blocks -/

/-- The fragments of a block (R553, R555). -/
def fragsOf (t : Tour) (b : Nat) (bytes : List Byte) : List (Nat × Nat × List Byte) :=
  (chunks (2 ^ t.flog) bytes).mapIdx fun i d => (b, i, d)

/-- Fragments in ascending block and fragment order (R554). -/
def fragBefore (x y : Nat × Nat × List Byte) : Bool := decide (x.1 < y.1) || (x.1 == y.1 && decide (x.2.1 < y.2.1))

/-- The command's completion and the record at the end of a Tour (R557, R559). -/
def endTour (reason status : Nat) (result : List Byte) (s : State) : State :=
  match s.upd.tour with
  | none => s
  | some t =>
    emit 0 0xA00F 0 0 0 0 (finish 0 0x0084 status t.sub result []
      (modTour (fun t => { t with ending := some reason, frags := [], announce := false }) s))

/-- A fetched block is latched and its fragments are queued; a block whose fetch failed ends the Tour
(R555). -/
def takeBlock (b : Nat) (ok : Bool) (bytes : List Byte) (s : State) : State :=
  match s.upd.tour with
  | none => s
  | some t =>
    if t.ending.isSome || !(t.need.take t.asked).contains b || t.frags.any (fun x => x.1 == b) then s
    else if !ok then endTour 2 stIntegrity [] s
    else modTour (fun t => { t with frags := sortBy fragBefore (t.frags ++ fragsOf t b bytes) }) s

/-- Meaning of TOUR_BLOCK. -/
def execTourBlock (block : Nat) (ok : Bool) (bytes : List Byte) (s : State) : Host.Outcome State Fault Refusal :=
  .next (takeItem 0 10 (.row (.tourBlock block ok bytes)) (takeBlock block ok bytes) s)

/-! ### Frames -/

/-- An announce element's body (R553). -/
def announceBody (t : Tour) : List Byte :=
  le 1 t.id ++ le 1 t.round ++ le 1 t.flog ++ le 1 (ofBool t.grand) ++ le 4 t.length ++ le 2 t.blocks ++ le 2 t.caps ++
    le 8 t.applyAt.toNat ++ padTo 16 t.hash

/-- An end element's body (R553). -/
def tourEndBody (t : Tour) (reason : Nat) : List Byte := le 1 t.id ++ le 1 reason ++ le 2 0 ++ le 8 t.applyAt.toNat

/-- A fragment element's body (R553). -/
def fragmentBody (t : Tour) (b f : Nat) : List Byte := le 1 t.id ++ le 1 f ++ le 2 b

/-- The body of the next Tour frame, with the Tour after it is queued; none when nothing is to be sent (R554,
R555). -/
def nextTourFrame (t : Tour) : Option (List Byte × Option Tour) :=
  match t.ending, t.announce, t.frags with
  | some r, _, _ => some (elemBytes [(0x13, tourEndBody t r)], none)
  | none, true, _ => some (elemBytes [(0x11, announceBody t)], some { t with announce := false })
  | none, false, [] => none
  | none, false, (b, f, d) :: rest =>
    if t.need[t.pos]? ≠ some b then none
    else
      let n := blockFrags t b
      let near := f + 2 = n ∨ n = 1
      some (elemBytes [(0x10, fragmentBody t b f)] ++ d, some { t with
        frags := rest
        pos := if f + 1 = n then t.pos + 1 else t.pos
        asked := if near then min t.need.length (max t.asked (t.pos + 2)) else t.asked })

/-- Stagehand 0 queues a Tour frame in the occurrence of slot entry `j` two cues on, when the flood queue holds
no flood for it (R554); an occurrence that overlaps a keep-out is left (R253). -/
def sendTourIn (j : Nat) (s : State) : State :=
  match s.upd.tour with
  | none => s
  | some t =>
    if t.taken = s.proc.procCue ∨ floodEntry s t.scope t.grand j = false ∨ (nextFlood s j).isSome = true then s
    else
      match nextTourFrame t with
      | none => s
      | some (body, t1) =>
        let x := groupFrame 0 { ownFlood s t.ttl true body with mic16 := t.mic16 } s
        match x.1 with
        | none => s
        | some bytes =>
          let r := slotRequest s j bytes
          if inKeepOut s r.tag r.start (airTicks r) then s
          else sendReq 0 r .other none (modUpd (fun u => { u with tour := t1 }) (countFlood x.2))

/-! ### Reports and rounds -/

/-- Blocks that a report asks for again (R556). -/
def missingBlocks (t : Tour) (x : TourRep) : List Nat :=
  (List.range t.blocks).filter fun b =>
    b == x.first || (decide (x.first < b) && (decide (x.first + 65 ≤ b) || !bit x.map.toNat (b - x.first - 1)))

/-- Stagehand 0 takes a report (R556): what it misses joins the need map of the next round; one for a finished Tour is
dropped (R558). -/
def takeReport (x : TourRep) (s : State) : State :=
  match s.upd.tour with
  | none => s
  | some t =>
    if t.ending.isSome || x.tour != t.id || x.complete || x.refused || x.hashFail then s
    else modTour (fun t => { t with nextNeed := (t.nextNeed ++ missingBlocks t x).dedup }) s

/-- Meaning of TOUR_REPORT. -/
def execTourReport (x : TourRep) (s : State) : Host.Outcome State Fault Refusal :=
  .next (takeItem 0 10 (.row (.tourReport x)) (takeReport x) s)

/-- Targeted nodes in a state. -/
def tourCount (s : State) (t : Tour) (st : Nat) : Nat :=
  (t.nodes.filter fun i => inTour t.id (node s i) && tourField (node s i) 1 == st).length

/-- A waiting or receiving node that did not report in the round (R556), as its Stagehand judges it at the boundary. -/
def silentRound (t : Tour) (n : Node) : Node :=
  if inTour t.id n && (tourField n 1 == 1 || tourField n 1 == 2) && tourField n 4 != t.round then
    let k := tourField n 5 + 1
    { n with tour := [t.id, if t.silent ≤ k then 5 else tourField n 1, tourField n 2, tourField n 3, tourField n 4, k] }
  else n

/-- Every frame of the round has been queued (R557). -/
def roundSent (t : Tour) : Bool := !t.announce && t.need.length ≤ t.pos && t.asked != 0 || (!t.announce && t.need.isEmpty)

/-- TOUR_ROUND, at a Scene boundary (R557): the round ends, and the Tour ends or its next round begins. -/
def tourRound (s : State) : State :=
  match s.upd.tour with
  | none => s
  | some t =>
    if t.ending.isSome || !roundSent t then s
    else
      let s1 := t.nodes.foldl (fun s i => modNode i (silentRound t) s) s
      let complete := tourCount s1 t 3
      let live := tourCount s1 t 1 + tourCount s1 t 2
      let s2 := emit 0 0xA00E t.id t.round complete (tourCount s1 t 2) s1
      if live = 0 ∨ t.limit ≤ t.round then
        let all := complete = t.nodes.length
        endTour (if all then 0 else 1) (if all then stOk else stTimeout)
          (le 4 complete ++ le 4 (t.nodes.length - complete)) s2
      else
        modTour (fun t =>
          let need := (List.range t.blocks).filter t.nextNeed.contains
          { t with round := t.round + 1, need := need, nextNeed := [], frags := [], pos := 0
                   asked := min 2 need.length, announce := true }) s2

end Sys2Proof.Machine
end

