-- ==== Sys2Proof/Machine/Spot.lean ====
section
/-! DEFINITION. The Spotlight's summary (R106 to R109): the view, the group values, the floors, the in-band power and
the body that a port's interval gives. -/

namespace Sys2Proof.Machine

/-- The centre of a view in units of 2^-32 × 6.4 GHz, moved inside 0 Hz to 3.2 GHz (R107). -/
def viewCentre (centre m : Nat) : Nat :=
  let half := 2 ^ 30 / 2 ^ m
  if m = 0 then 2 ^ 30 else max half (min centre (2 ^ 31 - half))

/-- Ascending sort of powers. -/
def sortInt (l : List Int) : List Int := sortBy (fun a b => decide (a < b)) l

/-- The group values (R109): of 8 adjacent bins the fourth lowest. -/
def spotGroups (bins : List Int) : List Int :=
  (chunks 8 bins).map fun g => (sortInt g).getD 3 (-32768)

/-- Bins of a view whose centres lie within a line's passband; the bin that holds its centre when
there is none (R109). -/
def lineBins (bins : List Int) (c m : Nat) (l : Line) : List Int × Nat :=
  let lo : Int := (c : Int) - 2 ^ 30 / 2 ^ m      -- view start, 2^-32 × 6.4 GHz
  let f : Int := lineNco l
  let h : Int := passband (lineBw l) * 2 ^ 31 / 6400000000
  let mid (i : Nat) : Int := lo + ((2 * i + 1 : Nat) : Int) * 2 ^ 18 / 2 ^ m
  let sel := (List.range 4096).filter fun i => decide (f - h ≤ mid i) && decide (mid i ≤ f + h)
  let own := ((f - lo) * 2 ^ m / 2 ^ 19).toNat
  ((if sel.isEmpty then [own] else sel).map fun i => bins.getD i (-32768), sel.length)

/-- Tenth, hundredth and thousandth powers of ten, in units of 10^-12. -/
def pow10Steps : List (List Nat) :=
  [[1000000000000, 1258925411794, 1584893192461, 1995262314968, 2511886431509, 3162277660168, 3981071705534, 5011872336272, 6309573444801, 7943282347242],
   [1000000000000, 1023292992280, 1047128548050, 1071519305237, 1096478196143, 1122018454301, 1148153621496, 1174897554939, 1202264434617, 1230268770812],
   [1000000000000, 1002305238077, 1004615790278, 1006931668851, 1009252886076, 1011579454259, 1013911385736, 1016248692870, 1018591388054, 1020939483707]]

/-- A power of `v` × 0.01 dB from -400 dB, as a number in units of 10^-36. -/
def linPower (v : Int) : Nat :=
  let u := (v + 40000).toNat
  let d (i k : Nat) : Nat := (pow10Steps.getD i []).getD (u / k % 10) 0
  10 ^ (u / 1000) * d 0 100 * d 1 10 * d 2 1

/-- The highest power in 0.01 dB, of `n` bits above `v`, not above a number. -/
def dbBelow (x k : Nat) (n : Nat) (v : Int) : Int :=
  match n with
  | 0 => v
  | m + 1 => if linPower (v + 2 ^ m) * k ≤ x then dbBelow x k m (v + 2 ^ m) else dbBelow x k m v

/-- In-band power in 0.01 dBm (R109): the sum of the bins' powers, each of 781.25 kHz / 2^m, rounded down or up. -/
def bandPower (bins : List Int) (m : Nat) : Int :=
  let v := dbBelow ((bins.map linPower).sum * 781250) (2 ^ m) 17 (-40000)
  if Config.bandRound bins m then v + 1 else v

/-- A line's entry of a summary (R108, R109). -/
def spotLine (s : State) (bins : List Int) (valid c m n : Nat) : List Byte :=
  let l := line s n
  let b := lineBins bins c m l
  let fl := (sortInt b.1).getD (ceilDiv b.1.length 4 - 1) (-32768)
  le 1 n ++ le 1 (lineBw l) ++ le 2 0 ++ leI 2 fl ++ leI 2 (if valid = 0 then -32768 else bandPower b.1 m)

/-- A line's passband lies wholly within a view (R108). -/
def inView (l : Line) (c m : Nat) : Bool :=
  let f : Int := (lineNco l : Int) * 6400000000
  let h : Int := passband (lineBw l) * 2 ^ 31
  let lo : Int := ((c : Int) - 2 ^ 30 / 2 ^ m) * 6400000000
  let hi : Int := ((c : Int) + 2 ^ 30 / 2 ^ m) * 6400000000
  decide (lo ≤ f - h) && decide (f + h ≤ hi)

/-- The lines of a port whose passband lies wholly within a view (R108). -/
def spotLines (s : State) (p c m : Nat) : List Nat := (linesOf s p).filter fun n => inView (line s n) c m

/-- The power of each bin under the first gain and under each later one. -/
def spotColumns : List Int → List (List Int) → List (List Int)
  | [], _ => []
  | v :: bins, later => (v :: later.map (·.headD (-32768))) :: spotColumns bins (later.map (·.drop 1))

/-- A bin's power at the ball, from its powers relative to full scale under each gain in effect, oldest first: each
is referred with its gain (R77, R106). -/
def binPower (s : State) (p : Nat) (i : Spot) (windows : List Nat) (v : List Int) : Int :=
  match List.zipWith (fun g x => x + fullScale s p g) i.gains v with
  | [x] => x
  | l => Config.spotMix l windows

/-- The 4,096 bin powers of an interval at the ball; nothing measured reads -32,768 (R108). -/
def spotBins (s : State) (p : Nat) (i : Spot) (bins : List Int) (later : List (List Int)) (windows : List Nat)
    (valid : Nat) : List Int :=
  if valid = 0 then List.replicate 4096 (-32768) else (spotColumns bins later).map (binPower s p i windows)

/-- The flags byte of a summary (R108). -/
def spotFlags (i : Spot) : Nat :=
  ofBool i.blank + 2 * ofBool i.ovl + 4 * ofBool i.loss + 8 * ofBool (decide (1 < i.gains.length))

/-- The body of a Spotlight summary (R108). -/
def spotBody (s : State) (p : Nat) (i : Spot) (bins : List Int) (valid : Nat) : List Byte :=
  let m := i.span
  let c := viewCentre i.centre m
  let groups := spotGroups bins
  let ls := spotLines s p c m
  let peak := groups.foldl max (-32768)
  let ix := (findIdx (fun g => g == peak) groups).getD 0
  le 1 p ++ le 1 i.view ++ le 1 m ++ le 1 (spotFlags i) ++ le 4 c ++
    le 4 i.cue.toNat ++ le 2 valid ++ leI 2 ((sortInt groups).getD 51 (-32768)) ++
    le 1 (i.gains.headD 0) ++ le 1 (i.gains.getLastD 0) ++ le 2 ls.length ++ leI 2 peak ++ le 2 ix ++
    le 8 0 ++ groups.flatMap (leI 2) ++ ls.flatMap (spotLine s bins valid c m)

/-- SPOTLIGHT_SUMMARY (R106): the interval that has ended on the port becomes a class 6 input, its per-source sequence 0
(R39); its group values stay for the receptions of the next cue (R158). -/
def spotSummary (p : Nat) (bins : List Int) (later : List (List Int)) (windows : List Nat) (valid : Nat) (it : Item)
    (s : State) : State :=
  match (port s p).spotDone with
  | some i =>
    if portOn s p then
      let b := spotBins s p i bins later windows valid
      let s1 := modPort p (fun x => { x with
        spotDone := none, spotPrev := some ⟨i.cue, viewCentre i.centre i.span, i.span, spotGroups b⟩ }) s
      if takesInputs s then
        modProc (fun x => { x with inputs := x.inputs ++ [⟨6, p, 0, x.cueNow, false, spotBody s p i b valid, it⟩] }) s1
      else s1
    else s
  | none => s

/-- Meaning of SPOTLIGHT_SUMMARY: it completes at cue start + 990 µs. -/
def execSpotlightSummary (p : Fin 4) (bins : List Int) (later : List (List Int)) (windows : List Nat) (valid : Nat)
    (s : State) : Host.Outcome State Fault Refusal :=
  .next (spotSummary p.val bins later windows valid (.row (.spotlightSummary p bins later windows valid))
    (spotRoll (atTime (plus s.proc.cueStart (990 * usTicks)) s)))

end Sys2Proof.Machine
end

