-- ==== Sys2Proof/Machine/TxCmd.lean ====
section
/-! DEFINITION. RAW_TX, OVERTURE_SEND (R204 to R206), what a latched transmit end does (R171, R199, R258,
R262, R325), and CAPTURE_SPECTRUM (R110 to R112). -/

namespace Sys2Proof.Machine

/-! ### RAW_TX and OVERTURE_SEND -/

/-- S of a command: the start of cue t + 1 plus its offset (R204, R206). -/
def cmdStart (s : State) (c : Sub) (ns : Nat) : Stamp :=
  plus (cueStartOf s ((if c.target = 0 then c.accept else c.target) + 1)) (nsTicks ns)

/-- The phy params carry no reserved encoding (R183). -/
def phyParamsOk (p phy : Nat) : Bool :=
  match phyOf p with
  | .none => false
  | .fsk => bits phy 7 4 == 0 && bits phy 31 16 == 0 && decide (4 ≤ bits phy 15 8)
  | .ofdm => bits phy 31 3 == 0 && mcsOk (p - 0x20) (bits phy 2 0)
  | .oqpsk => phy == 0
  | .lofdm => bits phy 31 19 == 0 && bits phy 18 12 != 0
  | .frc => bits phy 15 10 == 0 && decide (8 ≤ bits phy 23 16) && decide (bits phy 23 16 ≤ 64)

/-- A channel tag is no reserved encoding (R167). -/
def tagOk (t : Nat) : Bool := decide (t ≤ 127) || t == 255

/-- A ramps byte is no reserved encoding (R184). -/
def rampsOk (r : Nat) : Bool := decide (r % 16 ≤ 7) && decide (r / 16 ≤ 7)

/-- The PSDU length lies in the range of its PHY (R206). -/
def psduOk (p phy len : Nat) : Bool :=
  let n := len + fcsOctets p phy
  match phyOf p with
  | .none => false
  | .oqpsk => decide (5 ≤ n) && decide (n ≤ 127)
  | .frc => decide (1 ≤ len) && decide (len ≤ 255)
  | _ => decide (1 ≤ n) && decide (n ≤ 2047)

/-- PSDU bytes of a RAW_TX buffer (R205). -/
def rawLength (c : Sub) : Nat := if phyOf (pU c 51 1) = .lofdm then c.length - 40 else c.length

/-- The request of a RAW_TX (R167, R205). -/
def rawReq (s : State) (c : Sub) : TxReq :=
  { chain := chainOf (pU c 50 1), start := cmdStart s c (pU c 56 4), carrier := BitVec.ofNat 64 (pU c 32 8)
    offset := pS c 40 4, power := pS c 48 2, pers := BitVec.ofNat 8 (pU c 51 1), tag := pU c 54 1
    phy := w32 (pU c 44 4), length := rawLength c, ramps := BitVec.ofNat 8 (pU c 52 1)
    flags := BitVec.ofNat 8 (pU c 53 1), frameAddr := Config.frameAddr s.mesh.items, seq := 0
    origin := w32 9 + (Config.itemNumber s.mesh.items <<< 4), frame := c.data }

/-- The own checks of RAW_TX (R206). -/
def rawCheck (c : Sub) (_ : State) : Option Nat :=
  let p := pU c 51 1
  if carrierOk (chainOf (pU c 50 1)) (pU c 32 8) && persOnChain (chainOf (pU c 50 1)) p &&
      psduOk p (pU c 44 4) (rawLength c) &&
      (phyOf p != .lofdm || (decide (41 ≤ c.length) && mapBlockOk c.data))
  then none else some stBadParam

/-- RAW_TX (R205, R206). -/
def cmdRawTx : CmdSpec where
  op := 0x0022
  engine := byPrompter1
  use := .read
  aside := false
  static := fun c => decide (pU c 50 1 ≤ 1) && rampsOk (pU c 52 1) && decide (pU c 53 1 ≤ 1) && tagOk (pU c 54 1) &&
    pZero c 55 55 && decide (pU c 56 4 ≤ 4000000000) && pZero c 60 63 && persOk (pU c 51 1) && phyParamsOk (pU c 51 1) (pU c 44 4)
  wrong := neverWrong
  check := rawCheck
  cost := cost10
  act := fun e c s => sendReq e (rawReq s c) (.cmd 0x0022 c) none s

/-- Meaning of RAW_TX. -/
def execRawTx (c : Sub) (s : State) : Host.Outcome State Fault Refusal :=
  .next (runCmd cmdRawTx (.row (.rawTx c)) c s)

/-- The request of an OVERTURE_SEND (R202, R204). -/
def overtureCmdReq (s : State) (c : Sub) : TxReq :=
  { chain := chainOf (pU c 46 1), start := cmdStart s c (pU c 52 4), carrier := BitVec.ofNat 64 (pU c 32 8)
    offset := 0, power := pS c 50 2, pers := 0, tag := pU c 49 1
    phy := w32 (pU c 47 1 + 256 * pU c 48 1), length := 0, ramps := 0, flags := 2
    frameAddr := Config.frameAddr s.mesh.items, seq := 0
    origin := w32 9 + (Config.itemNumber s.mesh.items <<< 4), frame := overtureBits (pU c 40 4) (pU c 44 2) }

/-- OVERTURE_SEND (R204, R206). -/
def cmdOvertureSend : CmdSpec where
  op := 0x0023
  engine := byPrompter1
  use := .none
  aside := false
  static := fun c => pU c 44 2 != 0 && decide (pU c 46 1 ≤ 1) && decide (pU c 47 1 ≤ 3) && pU c 48 1 != 0 &&
    tagOk (pU c 49 1) && decide (pU c 52 4 ≤ 4000000000) && pZero c 56 63
  wrong := neverWrong
  check := fun c _ => if carrierOk (chainOf (pU c 46 1)) (pU c 32 8) then none else some stBadParam
  cost := cost10
  act := fun e c s => sendReq e (overtureCmdReq s c) (.cmd 0x0023 c) none s

/-- Meaning of OVERTURE_SEND. -/
def execOvertureSend (c : Sub) (s : State) : Host.Outcome State Fault Refusal :=
  .next (runCmd cmdOvertureSend (.row (.overtureSend c)) c s)

/-! ### Transmit ends -/

/-- The last modulated sample of a transmission (R327). -/
def lastSample (x : TxEnd) (fall : Nat) : Stamp := minus x.endStamp fall

/-- The transmit end of a downlink's hop frame, at the engine of its origin (R171, R262). -/
def downSent (e i id : Nat) (fall : Nat) (x : TxEnd) (s : State) : State :=
  match (node s i).downs.find? fun d => d.id == id with
  | none => s
  | some d =>
    let c := cueOfStamp s x.curtain
    if x.result = 0 then
      modNode d.hop (fun n => { n with frameEnd := some (lastSample x fall) })
        (onDown e i id (.onAir c (lastSample x fall)) s)
    else onDown e i id (.close 5 (txStatus x.result)) s

/-- What a transmit end means to the engine that sent the request. -/
def useEnded (u : UseEnt) (x : TxEnd) (s : State) : State :=
  match u.use with
  | .cmd op c => finish 9 op (txStatus x.result) c (le 8 x.curtain.toNat) [] s
  | .down i id => downSent (x.origin.toNat % 16) i id u.fall x s
  | .flood id j => floodSent id j x s
  | .leave i =>
    if x.result = 0 then modNode i (fun n => { n with frameEnd := some (lastSample x u.fall) }) s
    else modNode i (fun n => { n with leaveSent := false }) s
  | .reply i =>
    if x.result = 0 then modNode i (fun n => { n with frameEnd := some (lastSample x u.fall) }) s else s
  | .other => s

/-- A late frame that carried mesh time to one node owes it a time element (R325). -/
def lateTime (u : UseEnt) (x : TxEnd) (s : State) : State :=
  match u.timed with
  | some i => if x.flags.getLsbD 0 && isAlloc (node s i) then modNode i (fun n => { n with timeDue := true }) s else s
  | none => s

/-- A latched transmit end reaches the use of its request. -/
def txEnded (x : TxEnd) (s : State) : State :=
  match s.mesh.uses.find? fun u => u.sent == some (x.chain, x.seq) with
  | none => s
  | some u => lateTime u x (useEnded u x (modMesh (fun m => { m with uses := m.uses.erase u }) s))

/-- Meaning of TRANSMIT_END_ENTRY: the ledger is corrected, and the engine of the origin takes the end. -/
def execTransmitEndEntry (x : TxEnd) (s : State) : Host.Outcome State Fault Refusal :=
  .next (takeItem (x.origin.toNat % 16) 10 (.row (.transmitEndEntry x)) (txEnded x) (ledgerCorrect x s))

/-! ### CAPTURE_SPECTRUM -/

/-- Bytes of one unit of a capture, and units per cue (R110, R111). -/
def captureUnit (c : Sub) : Nat × Nat := if pU c 33 1 = 0 then (8192, 1) else (2048, 6250)

/-- Cues that a capture takes. -/
def captureCues (c : Sub) : Nat := ceilDiv (pU c 40 4) (captureUnit c).2

/-- The cue at whose start a capture begins (R111). -/
def captureStart (c : Sub) : CueNo := if c.target = 0 then c.accept + 1 else c.target

/-- The header of a capture whose first cue starts at `t` (R111). DESIGN CHOICE: the stamp of the first sample of
a spectrum is the cue start, although the interval of R106 begins 40 µs earlier; 'centre used' of raw samples, which
have none, is 0. -/
def captureHeader (c : Sub) (g : Nat) (t : Stamp) : List Byte :=
  let m := pU c 34 1
  le 1 (pU c 32 1) ++ le 1 (pU c 33 1) ++ le 1 m ++ le 1 0 ++
    le 4 (if pU c 33 1 = 0 then viewCentre (pU c 36 4) m else 0) ++ le 8 t.toNat ++ le 4 (pU c 40 4) ++
    le 1 g ++ le 11 0

/-- Capture bytes written to the buffer, or discarded (R364); an Understudy writes none (R480, R495). -/
def captureWrite (c : Sub) (off : Nat) (l : List Byte) (s : State) : State :=
  if c.partner || isUnderstudy s then s
  else if epochOk s c then hostWrite (c.bufAddr.toNat + off) l s else countReg (rHifCqDiscards + 0x20 * c.ring) 1 s

/-- What a capture of `n` units from unit `k` brings in the cue that starts at `t` (R77, R106, R111): the bin powers of
a cue from the calibrated gain, or ADC codes sign-extended. -/
def captureData (s : State) (c : Sub) (t : Stamp) (n : Nat) : List Byte :=
  let p := pU c 32 1
  if pU c 33 1 = 0 then
    (List.range 4096).flatMap fun b =>
      leI 2 ((Config.captureBin p (pU c 34 1) (pU c 36 4) t.toNat b).toInt + fullScale s p (port s p).gain)
  else (List.range (1024 * n)).flatMap fun i => leI 2 (Config.captureCode p (t.toNat / 16 + i)).toInt

/-- At the start of its first cue a capture takes the gain code, or finds its port disabled or out of service (R111,
R112). -/
def captureCue (s : State) : State :=
  modHif (fun h => { h with capture := h.capture.map fun x =>
    if x.gain.isNone && decide (0 ≤ sdiff32 s.proc.cueNow x.start) then
      { x with gain := some (port s (pU x.sub 32 1)).gain, dead := !portOn s (pU x.sub 32 1) }
    else x }) s

/-- A capture ends with WRONG_STATE (R112). -/
def captureFails (c : Sub) (s : State) : State :=
  refuse 9 0x0070 stWrongState c (modHif (fun h => { h with capture := none }) s)

/-- The capture's data of one cue is written; after the last it completes (R111, R112). -/
def captureStep (x : Capture) (s : State) : State :=
  let c := x.sub
  let u := captureUnit c
  let k := (captureCues c - x.left) * u.2
  let n := min u.2 (pU c 40 4 - k)
  let s1 := captureWrite c (32 + k * u.1) (captureData s c (minus s.proc.procStart cueTicks) n) s
  if x.left ≤ 1 then
    finish 9 0x0070 stOk c (le 8 (cueStartOf s x.start).toNat) [] (modHif (fun h => { h with capture := none }) s1)
  else modHif (fun h => { h with capture := some { x with left := x.left - 1 } }) s1

/-- What a capture in progress does in the cue being processed: from its first cue on it writes the header, then in
each cue the data of the cue before; without its port it ends (R111, R112). -/
def captureTick (s : State) : State :=
  match s.hif.capture with
  | none => s
  | some x =>
    let d := sdiff32 s.proc.procCue x.start
    if d < 0 then s
    else if x.dead then captureFails x.sub s
    else if d = 0 then captureWrite x.sub 0 (captureHeader x.sub (x.gain.getD 0) s.proc.procStart) s
    else captureStep x s

/-- CAPTURE_SPECTRUM's action: the capture is armed; one whose cue is being processed begins at once. -/
def captureAct (_ : Nat) (c : Sub) (s : State) : State :=
  let due := decide (0 ≤ sdiff32 s.proc.procCue (captureStart c))
  let x : Capture := ⟨c, captureCues c, if due then s.proc.procCue else captureStart c, none, false⟩
  let s1 := captureCue (modHif (fun h => { h with capture := some x }) s)
  if due then captureTick s1 else s1

/-- CAPTURE_SPECTRUM (R110 to R112). DESIGN CHOICE: a span code above 10 is refused for raw samples too, although the
field is 'type 0 only'. -/
def cmdCapture : CmdSpec where
  op := 0x0070
  engine := byPrompter1
  use := .written
  aside := false
  static := fun c => decide (pU c 32 1 ≤ 3) && decide (pU c 33 1 ≤ 1) && decide (pU c 34 1 ≤ 10) && pZero c 35 35 &&
    pZero c 44 63 && decide (1 ≤ pU c 40 4) && decide (pU c 40 4 ≤ (if pU c 33 1 = 0 then 4096 else 65536))
  wrong := neverWrong
  check := fun c s =>
    if c.bufLen < 32 + pU c 40 4 * (captureUnit c).1 then some stBadParam
    else if s.hif.capture.isSome then some stNoResource else none
  cost := cost10
  act := captureAct

/-- Meaning of CAPTURE_SPECTRUM. -/
def execCaptureSpectrum (c : Sub) (s : State) : Host.Outcome State Fault Refusal :=
  .next (runCmd cmdCapture (.row (.captureSpectrum c)) c s)

end Sys2Proof.Machine
end

