-- ==== Sys2Proof/Machine/Work.lean ====
section
/-! DEFINITION. The phases of a cue (R34, R35): Scene work (R32), Work with its list and budgets (R50 to R56,
R486), shedding (R54), Publish (R57) and Housekeeping. -/

namespace Sys2Proof.Machine

/-! ### Commands of the work list -/

/-- The opcode of a command row, and its entry (R376). -/
def rowSpec (i : Instr) : Option (CmdSpec × Sub) :=
  match i with
  | .reservedOpcode op c => some (cmdReserved op.toNat, c)
  | .nop c => some (cmdNop, c)
  | .configApply c => some (cmdConfigApply, c)
  | .configRead c => some (cmdConfigRead, c)
  | .nodeSend c => some (cmdNodeSend, c)
  | .floodSend c => some (cmdFloodSend, c)
  | .rawTx c => some (cmdRawTx, c)
  | .overtureSend c => some (cmdOvertureSend, c)
  | .rxPost c => some (cmdRxPost, c)
  | .nodeAdmit c => some (cmdNodeAdmit, c)
  | .nodeEvict c => some (cmdNodeEvict, c)
  | .nodeQuery c => some (cmdNodeQuery, c)
  | .tableRead c => some (cmdTableRead, c)
  | .tableWrite c => some (cmdTableWrite, c)
  | .tableUnlock c => some (cmdTableUnlock, c)
  | .scheduleSet c => some (cmdScheduleSet, c)
  | .timeSet c => some (cmdTimeSet, c)
  | .pulseProgram c => some (cmdPulseProgram, c)
  | .captureSpectrum c => some (cmdCapture, c)
  | .imageStage c => some (cmdImageStage, c)
  | .imageVerify c b => some (cmdImageVerify b, c)
  | .imageActivate c => some (cmdImageActivate, c)
  | .imageConfirm c => some (cmdImageConfirm, c)
  | .tourStart c => some (cmdTourStart, c)
  | .roleRequest c => some (cmdRoleRequest, c)
  | .callboardRead c => some (cmdCallboardRead, c)
  | .selftestRun c n => some (cmdSelftest n, c)
  | .keyInstall c => some (cmdKeyInstall, c)
  | _ => none

/-- The cost of a held command's action (R51). -/
def heldCost (k : CmdSpec) (c : Sub) (s : State) : Nat :=
  if k.wrong c s || cheap (k.check c s) then 10 else k.cost c s

/-- The action of a held command, as a scheduled item (R52, R55). -/
def runHeldItem (e op : Nat) (c : Sub) (s : State) : State :=
  match rowSpec (commandRow op c) with
  | some (k, _) => takeItem e (heldCost k c s) (.held op c) (runHeld k c) s
  | none => s

/-! ### Items -/

/-- The state that an outcome answers. -/
def ran (o : Host.Outcome State Fault Refusal) (s : State) : State :=
  match o with
  | .next t => t
  | _ => s

/-- Work of a cue done in the first cue after the skip (R486): it uses that cue's number and start, and what it
records bears the cue being processed. -/
def atCue (c : CueNo) (f : State → State) (s : State) : State :=
  if c = s.proc.procCue then f s
  else
    let p := s.proc.procCue
    let t := s.proc.procStart
    let own (x : Nat × Out) : Nat × Out :=
      match x.2 with
      | .record r => if r.cue = c then (x.1, .record { r with cue := p, stamp := t }) else x
      | _ => x
    modProc (fun x => { x with procCue := p, procStart := t, outs := x.outs.map own })
      (f (modProc (fun x => { x with procCue := c, procStart := cueStartOf s c }) s))

/-- The item of Scene-boundary work that an engine has (R52): the Tour round of Stagehand 0, the TB1 follow of
the Stage Manager. -/
def scenePart (e : Nat) (s : State) : State :=
  if e = 0 then tourRound s else if e = 10 then followTb1 s else s

/-- What a flood entry of the slot plan sends (R226, R258): a flood of the queue, else a Tour frame. -/
def sendSlot (j : Nat) (s : State) : State :=
  match nextFlood s j with
  | some x => sendFloodIn j x s
  | none => sendTourIn j s

/-- An item from a record, a message, or a timer, as its row describes it. -/
def itemRow (e : Nat) (c : CueNo) (i : Instr) (s : State) : State :=
  match i with
  | .sceneBoundary => takeItem e 10 (.row i) (atCue c (scenePart e)) s
  | .updateEnd x => ran (execUpdateEnd x s) s
  | .tourBlock b ok l => ran (execTourBlock b ok l s) s
  | .pinCapture x => ran (execPinCapture x s) s
  | .transmitEndEntry x => ran (execTransmitEndEntry x s) s
  | .windowOutcome rx => ran (execWindowOutcome rx s) s
  | .auditionRequest rx => ran (execAuditionRequest rx s) s
  | .joinRequest rx => ran (execJoinRequest rx s) s
  | .lostRequest rx => ran (execLostRequest rx s) s
  | .data rx => ran (execData rx s) s
  | .reply rx => ran (execReply rx s) s
  | .control rx => ran (execControl rx s) s
  | .floodFrame rx => ran (execFloodFrame rx s) s
  | .beacon rx => ran (execBeacon rx s) s
  | .eth0Frame t b => takeEth t b s
  | .joinHandoff j => ran (execJoinHandoff j s) s
  | .joinResult j => ran (execJoinResult j s) s
  | .forwardedPacket x => ran (execForwardedPacket x s) s
  | .floodResend x => ran (execFloodResend x s) s
  | .mapAllocation n l => ran (execMapAllocation n l s) s
  | .tourReport x => ran (execTourReport x s) s
  | .supervisionTimeout n => ran (execSupervisionTimeout n s) s
  | .joinTimeout n => ran (execJoinTimeout n s) s
  | .dormantLimit n => ran (execDormantLimit n s) s
  | .overtureRetry n => ran (execOvertureRetry n s) s
  | .peerBeaconMiss n => ran (execPeerBeaconMiss n s) s
  | .peerSupervisionExpiry n => ran (execPeerSupervisionExpiry n s) s
  | .holdExpiry n id => ran (execHoldExpiry n id s) s
  | .leaveHoldExpiry n => ran (execLeaveHoldExpiry n s) s
  | .announceReceiptTimeout => ran (execAnnounceReceiptTimeout s) s
  | .syncTimeout => ran (execSyncTimeout s) s
  | .syncPairDiscard => ran (execSyncPairDiscard s) s
  | .holdoverLimit => ran (execHoldoverLimit s) s
  | .moduleEvent x => ran (execModuleEvent x s) s
  | _ =>
    match rowSpec i, ptpKind i with
    | some (k, x), _ => runCmd k (.row i) x s
    | none, some (cost, m, eff) => takeItem 10 cost (.row i) (ptpTake m eff) s
    | none, none => s

/-- An item that engine `e` takes; `c` is the cue whose Intake latched it, or to which it was due. -/
def runItem (e : Nat) (c : CueNo) (it : Item) (s : State) : State :=
  let s := modProc (fun p => { p with itemCue := c }) s
  match it with
  | .row i => itemRow e c i s
  | .held op x => runHeldItem e op x s
  | .beacon j => takeItem (owner j) 80 it (atCue c (buildBeacon j)) s
  | .floodSlot j => takeItem 0 10 it (atCue c (sendSlot j)) s
  | .window i => takeItem (owner i) 10 it (atCue c (planWindows 16 i)) s
  | .supervise i => takeItem (owner i) 4 it (superviseNode i) s
  | .ptpRequest => takeItem 10 10 it ptpRequest s
  | .ecdh j => takeItem 11 1200 it (boxKeys j) s
  | .ticket i r => takeItem 11 1400 it (boxTicket i r) s
  | .ticketed i r t => takeItem 8 10 it (joinDone i r t) s
  | .message _ => s

/-! ### Timer work -/

/-- Slot plan entry `j` occurs two cues after cue `c` (R225, R226). -/
def slotDue (s : State) (c : CueNo) (j : Nat) : Bool :=
  let x := slotAt s j
  decide (x.cue < 2 ^ s.proc.sceneLog2) && decide ((c + 2).toNat % 2 ^ s.proc.sceneLog2 = x.cue)

/-- The item of slot plan entry `j` in cue `c`, when it is due (R225, R226). -/
def slotItem (s : State) (c : CueNo) (j : Nat) : Option Item :=
  if !slotDue s c j then none
  else if (slotAt s j).kind = 1 ∧ routerId s ≠ 0 then some (.beacon j)
  else if (slotAt s j).kind = 2 then some (.floodSlot j)
  else none

/-- A window of node `i` is to be written in cue `c` (R243). -/
def windowDue (s : State) (c : CueNo) (i : Nat) : Bool :=
  let x := windowOf s i (node s i).nextWin
  decide (sdiff64 x.2.2.1 (plus (cueStartOf s c) (2 * cueTicks)) < (cueTicks : Int))

/-- Items run in order, all of one cue. -/
def runAll (e : Nat) (c : CueNo) (l : List Item) (s : State) : State := l.foldl (fun s it => runItem e c it s) s

/-- Cues from the oldest window item of node `i` that was put off, to cue `c`. -/
def windowCues (olds : List (CueNo × Item)) (c : CueNo) (i : Nat) : List CueNo :=
  (olds.filter fun x => x.2 == .window i).map (·.1) ++ [c]

/-- The slot plan entries and listening windows of cue `c` (R52); a window item put off goes ahead of a later one
of its node. -/
def planCue (olds : List (CueNo × Item)) (c : CueNo) (s : State) : State :=
  let s1 := runAll 0 c ((List.range (slotEntries s)).filterMap (slotItem s c)) s
  if routerId s1 = 0 then s1
  else
    ((allocated s1).filter fun i => wantsWindows s1 i && windowDue s1 c i).foldl (fun s i =>
      modProc (fun p => { p with itemCue := c }) s |> takeItem (owner i) 10 (.window i) (fun s =>
        (windowCues olds c i).foldl (fun s k => atCue k (planWindows 16 i) s) s)) s1

/-- Items of a list that do not wait already, put off in an earlier cue (R52). -/
def notPutOff (olds : List (CueNo × Item)) (l : List Item) : List Item := l.filter fun it => !olds.any fun x => x.2 == it

/-- Overtures that searching nodes are owed (R247). -/
def dueOvertures (s : State) : List Item :=
  ((allocated s).filter (overtureDue s)).map fun i => .row (.overtureRetry i)

/-- Supervision, join-timeout and dormant-limit checks due (R236, R248). -/
def dueChecks (s : State) : List Item :=
  (allocated s).flatMap fun i =>
    (if supervisionDue s i then [Item.row (.supervisionTimeout i)] else []) ++
    (if joinTimeoutDue s i then [Item.row (.joinTimeout i)] else []) ++
    (if dormantDue s i then [Item.row (.dormantLimit i)] else [])

/-- Canonical order of commands, by the record of their acceptance (R39, R52); a packet without a command comes
after them. -/
def commandBefore (a b : Option Sub × Item) : Bool :=
  match a.1, b.1 with
  | some x, some y =>
    decide (sdiff32 x.accept y.accept < 0) || (x.accept == y.accept && (decide (x.ring < y.ring) ||
      (x.ring == y.ring && decide (sdiff32 x.seq y.seq < 0))))
  | some _, none => true
  | _, _ => false

/-- Holds that have run out, in the canonical order of the commands concerned (R52, R254, R262). -/
def dueHolds (s : State) : List Item :=
  (sortBy commandBefore ((allocated s).flatMap fun i =>
    ((node s i).downs.filter fun d => holdOver s d.expiry).map (fun d => (d.cmd, Item.row (.holdExpiry i d.id))) ++
    (match (node s i).leave with
      | some (_, c, h) => if holdOver s h then [(c, Item.row (.leaveHoldExpiry i))] else []
      | none => []))).map Prod.snd

/-- Peer expectations and ageing (R252); entries are released from the last. -/
def duePeers (s : State) : List Item :=
  let l := List.range s.mesh.peers.length
  (l.filter (beaconMissDue s)).map (fun i => Item.row (.peerBeaconMiss i)) ++
    ((l.filter (peerExpired s)).reverse.map fun i => Item.row (.peerSupervisionExpiry i))

/-- The PTP request of the cue, as an item of the Stage Manager (R53, R333). -/
def duePtp (s : State) : List Item := if (ptpRequest s).time.ptp.dseq = s.time.ptp.dseq then [] else [.ptpRequest]

/-- Scene-boundary work of the cue being processed, once (R32): counts of a Scene begin again, the FEID scan begins, and engines have their items. -/
def sceneWork (s : State) : State :=
  let c := s.proc.procCue
  if !isBoundary s c || s.proc.sceneAt == some c then s
  else
    let s1 := modMesh (fun m => { m with nodes := smMapAll {} m.nodes fun _ n => { n with
      failures := 0, micFails := 0, replays := 0, badSeqs := 0, alarmed := false } })
      (modProc (fun p => { p with sceneAt := some c, itemCue := c }) s)
    let s2 := modPwr (fun p => { p with feidDue := List.range 8 }) (ageFreed s1)
    let s3 := if tb1Follow s2 then takeItem 10 10 (.row .sceneBoundary) (scenePart 10) s2 else s2
    if s3.upd.tour.isSome then takeItem 0 10 (.row .sceneBoundary) (scenePart 0) s3 else s3

/-- Meaning of SCENE_BOUNDARY: the Scene work of the cue being processed. -/
def execSceneBoundary (s : State) : Host.Outcome State Fault Refusal :=
  .next (if s.proc.processing && !s.proc.hkDone && (s.proc.phase == .intake || s.proc.phase == .work)
    then sceneWork s else s)

/-- The commands held for a cue are taken in the order of their acceptance (R52, R55). -/
def takeHeld (due : CueNo → Bool) (s : State) : State :=
  let l := s.proc.held.filter fun h => due h.target
  l.foldl (fun s h => runHeldItem h.engine h.op h.sub s)
    (modProc (fun p => { p with held := p.held.filter (fun h => !due h.target), itemCue := p.procCue }) s)

/-- Meaning of HELD_COMMAND_DUE (R55). -/
def execHeldCommandDue (s : State) : Host.Outcome State Fault Refusal :=
  .next (if s.proc.processing && !s.proc.hkDone && (s.proc.phase == .intake || s.proc.phase == .work)
    then takeHeld (fun t => decide (sdiff32 t s.proc.procCue ≤ 0)) s else s)

/-- Timer work of the cue being processed that looks at the state alone (R52); what waits already, put off in an
earlier cue, is not listed again. -/
def timerWork (olds : List (CueNo × Item)) (s : State) : State :=
  let c := s.proc.procCue
  let run (l : State → List Item) (s : State) : State := runAll 0 c (notPutOff olds (l s)) s
  let s1 := run dueHolds (run dueChecks (run dueOvertures s))
  let s2 := run duePtp (run duePeers (sceneWork s1))
  takeSwitches (takeTour (captureTick s2))

/-- Scheduled items of cue `c`: its timer work, then its held commands (R52, R486). -/
def scheduled (olds : List (CueNo × Item)) (c : CueNo) (s : State) : State :=
  let s1 := planCue olds c s
  let s2 := if c = s.proc.procCue then timerWork olds s1 else atCue c sceneWork s1
  takeHeld (fun t => decide (sdiff32 t c ≤ 0)) s2

/-- The cues whose scheduled items are due: those skipped since the last processed cue, and this one
(R486, R570). -/
def dueCues (s : State) : List CueNo :=
  (List.range (sdiff32 s.proc.procCue s.proc.lastCue).toNat).map fun k => s.proc.lastCue + 1 + BitVec.ofNat 32 k

/-! ### Shedding -/

/-- Work units of a row of a work list (R51). -/
def rowCost (i : Instr) (s : State) : Nat :=
  match i with
  | .data rx => rxCost s rx
  | .reply rx => rxCost s rx
  | .control rx => rxCost s rx
  | .lostRequest rx => rxCost s rx
  | .windowOutcome rx => if rxGood rx then 20 else 10
  | .floodFrame rx => (floodWork s rx).2
  | .beacon _ => 20
  | .auditionRequest _ => 120
  | .joinRequest _ => 400
  | .joinHandoff j => boxJoinCost s j
  | .supervisionTimeout _ => 4
  | i =>
    match rowSpec i, ptpKind i with
    | some (k, c), _ => cmdCost k c s
    | none, some (cost, _, _) => cost
    | none, none => 10

/-- Work units of an item (R51). -/
def itemCost (it : Item) (s : State) : Nat :=
  match it with
  | .row i => rowCost i s
  | .held op c =>
    match rowSpec (commandRow op c) with
    | some (k, _) => heldCost k c s
    | none => 10
  | .beacon _ => 80
  | .supervise _ => 4
  | .ecdh _ => 1200
  | .ticket _ _ => 1400
  | _ => 10

/-- The reception of an item. -/
def itemReception (it : Item) : Option Reception :=
  match it with
  | .row (.windowOutcome rx) => some rx
  | .row (.auditionRequest rx) => some rx
  | .row (.joinRequest rx) => some rx
  | .row (.lostRequest rx) => some rx
  | .row (.data rx) => some rx
  | .row (.reply rx) => some rx
  | .row (.control rx) => some rx
  | .row (.floodFrame rx) => some rx
  | .row (.beacon rx) => some rx
  | _ => none

/-- The item is an ETH0 frame. -/
def itemEth (it : Item) : Bool :=
  match it with
  | .row (.eth0Frame _ _) => true
  | .row i => (ptpKind i).isSome
  | _ => false

/-- The host command of an item from a record. -/
def itemCommand (it : Item) : Option (CmdSpec × Sub) :=
  match it with
  | .row i => rowSpec i
  | _ => none

/-- An item may be shed (R54). -/
def sheddable (it : Item) : Bool := (itemReception it).isSome || itemEth it || (itemCommand it).isSome

/-- Items shed from the tail of a list, given last item first, until its cost is within the limit: those kept, in
order, and those shed (R54). -/
def shedTail (limit : Nat) (s : State) (total : Nat) (l : List (CueNo × Item)) :
    List (CueNo × Item) × List Item :=
  match l with
  | [] => ([], [])
  | x :: r =>
    if total ≤ limit then ((x :: r).reverse, [])
    else if sheddable x.2 then
      let y := shedTail limit s (total - itemCost x.2 s) r
      (y.1, x.2 :: y.2)
    else
      let y := shedTail limit s total r
      (y.1 ++ [x], y.2)

/-- One item shed: a command completes with NO_RESOURCE, a reception or frame is dropped (R54). -/
def shedItem (e : Nat) (s : State) (it : Item) : State :=
  match itemCommand it, itemReception it with
  | some (k, c), _ => refuse e k.op stNoResource c s
  | none, some rx => dropWin rx s
  | none, none => s

/-- The cost of an engine's deferred items. -/
def backlog (e : Nat) (s : State) : Nat := ((eng s e).deferred.map fun x => itemCost x.2 s).sum

/-- SHEDDING (R54): an engine's backlog is brought within its limit, its registers are brought up to date, and a
cue that sheds leaves one record. -/
def shedEngine (s : State) (e : Nat) : State :=
  let l := (eng s e).deferred
  let x := shedTail (backlogLimit e) s (backlog e s) l.reverse
  let shown (s : State) : State := setReg (rCueBacklog + 4 * e) (w32 (backlog e s)) s
  if x.2.isEmpty then shown s
  else
    let s1 := modEng e (fun g => { g with deferred := x.1 }) s
    let s2 := shown (countReg (rCueShed + 4 * e) x.2.length (x.2.foldl (shedItem e) s1))
    emit e 0x0008 (x.2.filter fun it => (itemReception it).isSome).length (x.2.filter itemEth).length
      (x.2.filter fun it => (itemCommand it).isSome).length 0 s2

/-! ### The phases -/

/-- The items that engine `e` put off in earlier cues, and its list emptied. -/
def clearDeferred (s : State) : State := { s with engs := smMapAll {} s.engs fun _ g => { g with deferred := [] } }

/-- WORK_LIST (R52): scheduled items, items put off, items of the record. -/
def workList (s : State) : State :=
  let olds := (List.range 12).map fun e => (e, (eng s e).deferred)
  let all := olds.flatMap Prod.snd
  let s1 := (dueCues s).foldl (fun s c => scheduled all c s) (clearDeferred s)
  let s2 := olds.foldl (fun s o => o.2.foldl (fun s x => runItem o.1 x.1 x.2 s) s) s1
  s.proc.record.foldl (fun s x => runItem 8 s.proc.procCue x.item s) s2

/-- WORK_PHASE (R34, R52 to R54): what happened at the banks and in the queues up to it, the work list, the window
outcomes, and shedding. -/
def work (ops : List BankOp) (s : State) : State :=
  let s1 := workList (bankOps ops s)
  (List.range 12).foldl shedEngine (judgeWins s1)

/-- Meaning of WORK_PHASE: after Intake (R35). -/
def execWorkPhase (ops : List BankOp) (s : State) : Host.Outcome State Fault Refusal :=
  .next (if s.proc.processing && !s.proc.hkDone && s.proc.phase == .intake then
    noteWrites s (work ops (modProc (fun p => { p with phase := .work, buffers := buffersHeld s }) s)) else s)

/-- TXx_SUB_USED_k as of this Publish, in µs (R211). -/
def showUsed (s : State) : State :=
  [Chain.a, Chain.b].foldl (fun s c => (List.range 16).foldl (fun s k =>
    let n := dutyUsed (tx s c).ledger (subSlice s c k) k s.proc.procCue / u3PerUs
    setReg (txReg c (0x10C + 0x10 * k)) (w32 (min 0xFFFFFFFF n)) s) s) s

/-- Meaning of PUBLISH_PHASE: after Work (R35, R57); then the digests are compared (R483). -/
def execPublishPhase (s : State) : Host.Outcome State Fault Refusal :=
  .next (if s.proc.processing && !s.proc.hkDone && s.proc.phase == .work then
    showUsed (compareDigests (publish (modProc (fun p => { p with phase := .publish }) s))) else s)

/-- HOUSEKEEPING_PHASE (R34): migration, the march tests planned before it, row sweeps, what happens at the banks
meanwhile, scrubbing, contexts, learned tables, tag table, settings,
journal, locks; then the cue has ended. DESIGN CHOICE (R34 names ageing in Housekeeping, R52 in Scene work, and neither
says which entries): the model ages nothing here; a seen-cache entry ages by the Scene it names when it is looked up,
and peer entries age in Work. -/
def housekeeping (ops : List BankOp) (s : State) : State :=
  let s1 := scrubRead (bankOps ops (sweepBanks (marchTests (migrateRead s))))
  let s2 := hkMaps (hkLpm (hkAddr (hkLearn (markTour (hkContexts s1)))))
  hkLocks (journalCopy (writeItems (updateTags s2)))

/-- The Housekeeping of a cue has ended (R35, R504, R569, R581): what the record held is counted for the
rehearsal rule, and Retention is entered or the next latched record begins. -/
def endCue (s : State) : State :=
  let counts (x : Input) : Bool := x.cls == 5 || x.cls == 7 || x.cls == 8 || x.cls == 9
  let s := modPair (fun p =>
    let l := p.quiet ++ [(s.proc.record.filter counts).length]
    { p with quiet := l.drop (l.length - 64) }) s
  beginNext (enterRetention (modPwr (fun p => { p with keepWd := 0 })
    (modProc (fun p => { p with hkDone := true }) s)))

/-- The end of Housekeeping, `s` the state before it: the writes to forward are noted and a sweep that read its last
word ends, then the cue (R500, R501). -/
def closeCue (s t : State) : State :=
  let u := endStream (noteWrites s t)
  noteWrites u (endCue u)

/-- Meaning of HOUSEKEEPING_PHASE: after Publish (R35). -/
def execHousekeepingPhase (ops : List BankOp) (s : State) : Host.Outcome State Fault Refusal :=
  .next (if s.proc.processing && !s.proc.hkDone && s.proc.phase == .publish then
    closeCue s (housekeeping ops (modProc (fun p => { p with phase := .housekeeping }) s)) else s)

end Sys2Proof.Machine
end

