-- ==== Sys2Proof/Machine/CueOps.lean ====
section
/-! DEFINITION. The Cue (R29, R35, R36), replay and the Understudy's replay (R69, R480), promotion (R492), processing
start (R575), and the end of a fetch (R371 to R375, R381). -/

namespace Sys2Proof.Machine

/-! ### Counting -/

/-- TB0 runs on KEEP: in Keep-only, in Start-up until the ROM runs, and while a clock is lost (R308, R565, R574). -/
def onKeep (s : State) : Bool :=
  s.pwr.mode == .keepOnly || (s.pwr.mode == .startup && !s.pwr.rom) || (isPowered s && s.pwr.clocks != 0)

/-- TB0 when a Cue is emitted: its nominal start, or on KEEP the first clock edge at or after it, 3,125,000
ticks apart (R30, R308). DEDUCED: R30 says so of Keep-only; the clock is the same. -/
def cueStamp (s : State) (start : Stamp) : Stamp :=
  if onKeep s then
    plus s.time.tb0 (3125000 * ceilDiv (sdiff64 start s.time.tb0).toNat 3125000)
  else start

/-- The Cue counter and the cue start move on (R29, R30); what a cue holds of its own is empty again. -/
def countCue (s : State) : State :=
  let start := plus s.proc.cueStart cueTicks
  let s1 := atTime (cueStamp s start) s
  { s1 with
    proc := { s1.proc with cueNow := s1.proc.cueNow + 1, cueStart := start }
    wire0 := [], wire1 := []
    board := { s1.board with copied := false }
    upd := { s1.upd with selBusy := none, setBusy := none } }

/-! ### Intake -/

/-- What a lag of 1 or 3 does (R36); `old` is the lag before this cue start. -/
def lagCheck (old : Nat) (s : State) : State :=
  let s1 := if old = 0 ∧ 1 ≤ s.proc.lag then emitLocal 0x0007 12 0 0 0 0 s else s
  if old < 3 ∧ s1.proc.lag = 3 then
    let late := (List.range 12).filter fun e => !(eng s1 e).retired
    let s2 := late.foldl (fun s e =>
      modEng e (fun g => { g with paused := true, blocked := true, resume := false }) (testOutcome 4 e false 0 s)) s1
    if s2.pair.role = 0 then restartNow 0 s2 else s2
  else s1

/-- A record is latched, and its cue begins when the cue before it has ended (R35, R36); a resync under way notes what
took effect (R500). -/
def intake (latch : State → State) (s : State) : State := noteWrites s (lagCheck s.proc.lag (beginNext (latch s)))

/-- The export buffer's bytes between CUE_BUF_TAIL and CUE_BUF_HEAD (R68, R69). -/
def bufferUsed (s : State) : Nat :=
  let size := 2 ^ rbits s rCueBookCtl 12 8
  (rbits s rCueBufHead 30 0 + 2 * size - rbits s rCueBufTail 30 0 % (2 * size)) % (2 * size)

/-- CUE_BUF_TAIL moved on (R69). -/
def tailOn (n : Nat) (s : State) : State :=
  setReg rCueBufTail (w32 ((rbits s rCueBufTail 30 0 + n) % (2 * 2 ^ rbits s rCueBookCtl 12 8))) s

/-- A cue start in replay mode (R69, R70): a whole record with its digest, or a snapshot record (R502). DESIGN
CHOICE (R69 says what a cue start does with a record, not with a snapshot record): a snapshot record at CUE_BUF_TAIL
takes a cue start of its own; the record behind it waits for the next. -/
def replayCue (b : List Byte) (snap : Option PairState) (s : State) : State :=
  let n := uAt b 8 4
  if uAt b 0 2 = 2 ∧ 32 ≤ n ∧ n ≤ bufferUsed s then
    match snap with
    | some p => applyPair p (BitVec.ofNat 32 (uAt b 4 4)) (tailOn n s)
    | none => tailOn n s
  else if recordWhole b = true ∧ n + 32 ≤ bufferUsed s then intake (latchRead false (b.take n)) (tailOn (n + 32) s)
  else s

/-- A cue start of an Understudy that replays: the oldest record held whole is latched (R480); one that does not
follow the last record makes the unit stale (R471). -/
def replayPair (s : State) : State :=
  if s.pair.role ≠ 2 ∧ s.pair.role ≠ 3 then s
  else
    match s.pair.held with
    | [] => s
    | x :: rest =>
      let before := ((s.proc.latched.getLast?).map (·.cue)).getD s.proc.procCue
      if (recordRead s true x.2).last = before then
        intake (latchRead true x.2) (modPair (fun p => { p with held := rest, role := replayRole rest.length }) s)
      else goStale s

/-- A live cue start; with an accepted Retention cue n+1 is latched in full, and nothing more (R569). -/
def liveCue (s : State) : State :=
  match s.pwr.retReq with
  | some n => if s.proc.cueNow = n + 1 then intake latchLive s else s
  | none => intake latchLive s

/-- The Intake of a cue start while processing runs; after a wake nothing is latched until the wake cue + 2 (R570). -/
def processCue (i : CueIn) (s : State) : State :=
  if s.pair.role = 7 then decideDirector s
  else if inReplay s then replayCue i.replay i.snap s
  else if isUnderstudy s then replayPair s
  else
    match s.pwr.wakeIn with
    | some w => if s.proc.cueNow = w then liveCue (modPwr (fun p => { p with wakeIn := none }) s) else s
    | none => liveCue s

/-! ### Promotion -/

/-- The next own cue is the first live one of a promoted unit (R492). -/
def liveNext (s : State) : Bool :=
  match s.pair.promo with
  | some (u, _, k) => s.proc.cueNow + 1 == u + 1 + BitVec.ofNat 32 (max k 2)
  | none => false

/-- A chain's shadow queue at the end of the gap: a request before G is FLUSHED, every other is queued (R492). -/
def endShadow (g : Stamp) (s : State) (c : Chain) : State :=
  let early (r : TxReq) : Bool := later64 g r.start
  let l := (tx s c).shadow
  let s1 := modTx c (fun x => { x with
    shadow := [], queue := (l.filter fun r => !early r).foldl (fun q r => queueReq r q) x.queue }) s
  decideNots (l.filter early) 14 s.time.tb0 s1

/-- The end of the gap: the unit leads (R492). -/
def goLive (s : State) : State :=
  let s1 := modPair (fun p => { p with
    role := 1, promo := none, lastSwap := bookCue s (s.proc.cueNow + 1), covered := false, acked := none
    holdOuts := [], sentRecs := [], held := [], segs := [], naks := [], viewLow := none, forced := false }) s
  let g := recStamp s1 (plus s.proc.cueStart cueTicks)
  [Chain.a, Chain.b].foldl (endShadow g) s1

/-! ### The Cue -/

/-- Engines whose core test passed resume (R426). -/
def resumeEngines (s : State) : State :=
  { s with engs := smMapAll {} s.engs fun _ g => if g.resume then { g with paused := false, resume := false } else g }

/-- PAIR_HB_OUT at a cue start (R464, R487). -/
def beat (s : State) : State :=
  let w := if !isPaired s then 0 else if s.pair.role = 1 then 8 else 2
  modPair (fun p => { p with hbOut := w }) s

/-- The cue counts of the watchdogs (R581). -/
def countWatchdogs (s : State) : State :=
  if s.proc.processing then
    modPwr (fun p => { p with
      hostWd := p.hostWd + 1
      keepWd := if p.retReq.isSome || p.wakeIn.isSome || s.proc.hkDone then 0 else p.keepWd + 1 }) s
  else s

/-- What the blocks outside the engines do at a cue start: gains (R78), line shadows (R98), Spotlight settings
(R115), pins (R320), bank swap (R420), power modes (R566, R569), heartbeat and TIME frame (R484, R487), the stream of a resync
(R500). -/
def hardwareCue (i : CueIn) (s : State) : State :=
  let s1 := bankSwap (pinsCue (captureCue (spotCue (shadowTakes (gainDecisions i.meas s)))))
  countWatchdogs (streamPair (sendTime (beat (suspend (takeMode s1)))))

/-- A cue start in Full or Quiet mode: a restart that is due stops processing, else the record is latched. -/
def poweredCue (i : CueIn) (s : State) : State :=
  let s1 := if liveNext s then goLive s else s
  let s2 := modProc (fun p => { p with nextDraw := i.draw }) (countCue s1)
  let s3 := match s2.pwr.restartReq with
    | some k => restartNow k s2
    | none => if s2.proc.processing then processCue i (resumeEngines s2) else s2
  readTemps i.tPit i.tStage (hardwareCue i s3)

/-- CUE (R29), in the power mode. -/
def cue (i : CueIn) (s : State) : State :=
  match s.pwr.mode with
  | .off => s
  | .keepOnly => countCue s
  | .retention => countCue s
  | .startup =>
    readTemps i.tPit i.tStage (spotCue (modProc (fun p => { p with nextDraw := i.draw }) (countCue s)))
  | .full => poweredCue i s
  | .quiet => poweredCue i s

/-- Meaning of CUE. -/
def execCue (i : CueIn) (s : State) : Host.Outcome State Fault Refusal := .next (cue i s)

/-- Meaning of FIRST_LIVE_CUE (R492): the cue start at the end of the gap. -/
def execFirstLiveCue (i : CueIn) (s : State) : Host.Outcome State Fault Refusal :=
  .next (if s.proc.processing && liveNext s then cue i s else s)

/-! ### Processing start -/

/-- Processing starts at this cue start (R566, R575, R576). -/
def startDue (s : State) : Bool :=
  !s.proc.processing && (s.pwr.mode == .startup || s.pwr.mode == .full || s.pwr.mode == .quiet) &&
    s.pwr.bootDone && rbit s rSysCtl 0 && s.time.tb0 == s.proc.cueStart && s.pwr.clocks == 0 && !s.proc.stopped &&
    (!s.pwr.restarting || (s.pwr.coreTests.isEmpty &&
      decide ((3 * cueTicks : Nat) ≤ sdiff64 s.time.tb0 s.proc.stopAt)))

/-- The epoch of every ring pair with an enabled completion ring moves on (R364, R575). -/
def nextEpochs (s : State) : State :=
  (List.range 64).foldl (fun s c =>
    if cqEn s c then modCq c (fun r => { r with epoch := (r.epoch + 1) % 128, pool := [] }) s
    else modCq c (fun r => { r with pool := [] }) s) s

/-- A chain at processing start (R200, R575). -/
def startTx (x : Tx) : Tx := { x with ledger := [], shadow := [], seq := 0 }

/-- MODE as taken at processing start (R67); 0b11 is never stored. -/
def takenMode (s : State) : Nat := if rbits s rCueBookCtl 1 0 = 3 then 0 else rbits s rCueBookCtl 1 0

/-- MODE as taken moves the ports and the chains out of operation, or back into it (R69): in replay both chains are
off and no reception goes on; after it an enabled chain calibrates as when it was enabled. -/
def operate (s : State) : State :=
  if inReplay s then
    let s1 := [Chain.a, Chain.b].foldl (fun s c =>
      let s1 := cutChain c s.time.tb0 s
      modTx c (fun x => if curtainUp x then x else { x with
        st := if x.st = .outOfService then x.st else .off, test := false, locked := false, tune := none }) s1) s
    (List.range 4).foldl (fun s p => silencePort p s.time.tb0 s) s1
  else
    [Chain.a, Chain.b].foldl (fun s c =>
      if (tx s c).st = .off ∧ rbit s (txReg c 0) 0 = true ∧ s.pwr.mode ≠ .quiet then calibrate c s else s) s

/-- The state of processing at its start (R575): covered state, hashes, sequences, records, bases and ledgers at
their start; role and mode as taken. -/
def zeroProcessing (s : State) : State :=
  let mode := rbits s rUndCtl 1 0
  let role := if mode = 1 then 5 else if mode = 2 then 7 else 0
  ptpReset { s with
    proc := {
      cueNow := s.proc.cueNow, cueStart := s.proc.cueStart, processing := true, first := true
      bookMode := takenMode s
      procCue := s.proc.cueNow - 1, procStart := minus s.proc.cueStart cueTicks, lastCue := s.proc.cueNow - 1
      nextDraw := s.proc.nextDraw, stopAt := s.proc.stopAt }
    engs := smMapAll {} s.engs fun _ g => { switched := g.switched }
    mesh := {}
    sec := { s.sec with keys := {}, keyNext := none }
    cfgs := []
    txa := startTx s.txa, txb := startTx s.txb
    hif := { s.hif with qcfg := true, capture := none, fetchedBytes := 0, outstanding := [], selfTests := [] }
    upd := { s.upd with verified := false, staging := none, verifying := none, confirming := none, roll := none, tour := none, tourId := 0 }
    updP := {}
    pwr := { s.pwr with
      restarting := false, restartReq := none, retReq := none, wakeIn := none, keepWd := 0, hostWd := 0
      feidDue := List.range 8, feidSeen := [], feidMiss := [] }
    pair := { mode := if mode = 3 then 0 else mode, role := role, linkUp := s.pair.linkUp, leadIn := s.pair.leadIn
              session := s.pair.session, txCtr := s.pair.txCtr, rxSess := s.pair.rxSess, rxCtr := s.pair.rxCtr
              partner := s.pair.partner, lastRec := s.proc.cueNow, lastSwap := s.proc.cueNow, started := s.proc.cueNow
              auditBad := s.pair.auditBad } }

/-- CUE_SHED_e and CUE_BACKLOG_e start again. -/
def zeroShed (s : State) : State :=
  (List.range 12).foldl (fun s e => setReg (rCueBacklog + 4 * e) 0 (setReg (rCueShed + 4 * e) 0 s)) s

/-- What Director mode powers down (R571). -/
def directorDown (s : State) : State :=
  if s.pair.mode = 2 then
    linkDown true (linkDown false { s with
      ports := [], lines := [], txa := { corr := s.txa.corr, seq := s.txa.seq }, txb := { corr := s.txb.corr, seq := s.txb.seq }
      pair := { s.pair with lineA := none, lineB := none, dir := .start, dirCues := 0 } })
  else s

/-- A member takes a session value of its own and opens the session (R475); another unit keeps no session. -/
def openSession (v : BitVec 64) (s : State) : State := if s.pair.mode = 1 then newSession v s else s

/-- The mode of a device that processes: Full after Start-up (R566). -/
def startMode (s : State) : State :=
  if s.pwr.mode = .startup then modeRecord (modPwr (fun p => { p with mode := .full }) s) else s

/-- The processing-started record (R575, R620). -/
def startRecord (s : State) : State :=
  emitLocal 0x0001 12 s.proc.cueNow.toNat s.pwr.cause s.upd.version s.pair.role s

/-- The first record: of a unit that latches live inputs (R575), and of a replay when a whole record lies ready at the
first cue start (R69). -/
def firstRecord (b : List Byte) (snap : Option PairState) (s : State) : State :=
  if inReplay s then replayCue b snap s
  else if isLive s && s.pair.role == 0 then intake latchLive s
  else s

/-- PROCESSING_START (R575). -/
def startProcessing (x : StartIn) (s : State) : State :=
  let member := s.pair.demoting
  let s1 := startMode (nextEpochs (zeroShed (zeroProcessing (zeroWords s))))
  let s2 := if member && s1.pair.mode == 1 then modPair (fun p => { p with role := 4 }) s1 else s1
  firstRecord x.replay x.snap (openSession x.session (startRecord (directorDown (operate (takeSettings s2)))))

/-- Meaning of PROCESSING_START: at a cue start with BOOT_DONE and START. -/
def execProcessingStart (x : StartIn) (s : State) : Host.Outcome State Fault Refusal :=
  .next (if startDue s then startProcessing x s else s)

/-! ### The end of a fetch -/

/-- The flags that the device sets in the latched copy: the epoch of its ring pair, and FETCH_FAILED (R359, R364,
R375). -/
def latchFlags (epoch : Nat) (failed : Bool) (entry : List Byte) : List Byte :=
  let f := uAt entry 2 2 % 256 + 256 * (epoch % 128) + 32768 * ofBool failed
  entry.take 2 ++ le 2 f ++ slice entry 4 60

/-- The command is one that a running recovery image serves (R533). -/
def recoveryServes (op : Nat) : Bool := op == 0x80 || op == 0x81 || op == 0x82

/-- A fetched entry is served aside (R381). -/
def servedAside (s : State) (op : Nat) : Bool := s.pwr.recImage || isUnderstudy s || op == 0x00B0

/-- A command served aside is judged and answered at once (R381); a recovery image refuses what it does not serve
(R533). -/
def serveAside (op : Nat) (c : Sub) (s : State) : State :=
  if s.pwr.recImage && !recoveryServes op then replySt 9 op stWrongState c s
  else
    match rowSpec (commandRow op c) with
    | some (k, _) => handle k 9 c s
    | none => s

/-- The entry brings a block of the Tour in progress, which its Stagehand asked for (R44, R555). -/
def isBlockFetch (s : State) (q : Nat) (r : FetchResult) (entry data : List Byte) : Bool :=
  uAt entry 0 2 == 0x0084 && (!data.isEmpty || r == .dataReadFailed || r == .collision) &&
    s.upd.tour.any fun t => t.sub.ring == q && t.sub.tag == BitVec.ofNat 64 (uAt entry 8 8)

/-- Bytes that wait for the next Intake (R374). -/
def countFetched (n : Nat) (s : State) : State := modHif (fun h => { h with fetchedBytes := h.fetchedBytes + n }) s

/-- The latched copy waits for the next Intake, as an input of class 9 (R38, R44). -/
def latchEntry (q : Nat) (body : List Byte) (s : State) : State :=
  input 9 q body (.message body.length) (countFetched (16 + 8 * ceilDiv body.length 8) s)

/-- The data that the fetch of an entry brings into the book (R44, R360): length bytes of a buffer that an engine
reads, and none for any other command or for fields that break R360; none while they have not all arrived (R374). -/
def entryData (op : Nat) (c : Sub) (data : List Byte) : Option (List Byte) :=
  let reads := match rowSpec (commandRow op c) with
    | some (k, _) => k.use == .read && bufOk k.use c
    | none => false
  if !reads then some []
  else if data.length < c.length then none
  else some (data.take c.length)

/-- A port B write of the entry's data was discarded: the collision is counted and recorded (R407). The bank that
held the data, and so the source, is an open value (R392). -/
def noteCollision (s : State) : State :=
  emitLocal 0x7003 (176 + (Config.openWord 75 s.proc.cueNow.toNat).toNat % 12) 0 0 0 0 (countReg rWngCollisions 1 s)

/-- A fetched entry with its data is latched, or served aside (R371, R374, R381). -/
def endFetch (q op : Nat) (full : List Byte) (s : State) : State :=
  let s2 := modSq q (fun x => { x with head := (x.head + 1) % (2 * sqSize s q), flight := x.flight - 1 }) s
  let aside := servedAside s op
  let c := subOf q (if aside then s.proc.cueNow else bookCue s s.proc.cueNow + 1) aside false full
  let s3 := modHif (fun h => { h with outstanding := h.outstanding ++ [(op, c)] }) s2
  if aside then serveAside op c s3 else latchEntry q full s3

/-- The fetch of an entry has ended (R371, R374, R375, R381). -/
def fetchEnds (q : Nat) (r : FetchResult) (entry data : List Byte) (s : State) : State :=
  let failed := r == .dataReadFailed || r == .collision
  let s1 := if r = .collision then noteCollision s else s
  let body := latchFlags (cq s q).epoch failed (padTo 64 (entry.take 64))
  if isBlockFetch s q r entry data then latchEntry q (body ++ if failed then [] else data.take 4096) s1
  else if (sq s q).flight = 0 then s
  else
    match r with
    | .entryReadFailed =>
      modSq q (fun x => { x with readFault := true }) (ringError .submission q (dropFlight q s))
    | _ =>
      if failed then endFetch q (uAt entry 0 2) body s1
      else
        match entryData (uAt entry 0 2) (subOf q 0 false false body) data with
        | none => s
        | some l => endFetch q (uAt entry 0 2) (body ++ l) s1

/-- Meaning of FETCH_COMPLETE. -/
def execFetchComplete (q : Nat) (r : FetchResult) (entry : List Byte) (data : List Byte) (s : State) :
    Host.Outcome State Fault Refusal :=
  if q < 64 then .next (fetchEnds q r entry data s) else .fault .noSuchUnit

end Sys2Proof.Machine
end

