-- ==== Sys2Proof/Machine/Demod.lean ====
section
/-! DEFINITION. The demodulators (chapter 04): detection, sync, header check, capture and commit
(R121, R125, R136, R145 to R158). -/

namespace Sys2Proof.Machine

/-- The line can hear: on, its port receiving and not blanked, its personality matched, the detector running (R92,
R117, R145). -/
def lineHears (s : State) (n d : Nat) : Bool :=
  let l := line s n
  l.en && !l.quietOff && portOn s (linePort l) && !isBlanked (port s (linePort l)) && !l.mismatch && detRuns l d

/-- The line can start a detection: in scheduled mode within its window (R102, R145). -/
def lineDetects (s : State) (n d : Nat) : Bool :=
  let l := line s n
  lineHears s n d && (!l.scheduled || (l.serving.isSome && l.ready))

/-- Preamble that declares a detection, in the units of R145: bit periods, short-training repetitions, preamble symbols,
short-training periods, up-chirps. -/
def detNeeded (l : Line) : Nat :=
  match phyOf (linePers l) with
  | .none => 0
  | .fsk => 16
  | .ofdm => 2
  | .oqpsk => 4
  | .lofdm => 4
  | .frc => l.preMin

/-- The detection rule (R145, R148): the metric exceeds the threshold, DET_LEVEL dB above its base, over enough
preamble. -/
def declares (l : Line) (i : DetIn) : Bool :=
  decide (100 * (l.detLevel : Int) < i.metric) && decide (detNeeded l ≤ i.count)

/-- The AGC gain that brings a power relative to full scale to -TARGET dBFS, the line's inverse of gain steps applied
before it, in 0.01 dB (R83, R100). -/
def agcGain (l : Line) (v : Int) : Int := -(100 * (l.agc : Int)) - (v + l.inv)

/-- The flags that a reception starts with on the line's port: BLANKED within a blank (R92). -/
def startFlags (s : State) (l : Line) : BitVec 16 := if isBlanked (port s (linePort l)) then fBlank else 0

/-- The detector starts a candidate (R145): its main AGC settles on it (R100), and F is that of the 1 ms before
(R149). -/
def detect (n d : Nat) (i : DetIn) (t : Stamp) (s : State) : State :=
  let l := line s n
  if lineDetects s n d && (det s n d).st == .idle && declares l i then
    modDet n d (fun _ => { ({} : Det) with
      st := .detecting, since := t, cand := lineDbm s l i.pow, floor := lineDbm s l i.noise, agc := agcGain l i.pow }) s
  else s

/-- What the watch declares on a line (R101, R150). -/
def watchOf (s : State) (l : Line) (i : DetIn) : Watch := ⟨lineDbm s l i.pow, lineDbm s l i.noise, agcGain l i.pow⟩

/-- A watch candidate (R145, R150, R151): a stronger one replaces the candidate of a detection, whose time-out then
counts from it (DESIGN CHOICE); on a frozen reception the watch keeps the stronger candidate. -/
def watchFinds (n d : Nat) (i : DetIn) (t : Stamp) (s : State) : State :=
  let l := line s n
  let x := det s n d
  let w := watchOf s l i
  let thr : Int := 100 * l.captThr
  if !l.watchEn || !lineHears s n d || !declares l i then s
  else
    match x.st with
    | .idle => s
    | .detecting =>
      if x.cand + thr ≤ w.pow then
        modDet n d (fun x => { x with since := t, cand := w.pow, floor := w.noise, agc := w.agc }) s
      else s
    | .frozen =>
      if x.watch.all fun y => decide (y.pow + thr ≤ w.pow) then modDet n d (fun x => { x with watch := some w }) s else s

/-- The detector with a candidate of the watch on its main path: the main AGC takes the watch's gain at once (R101). -/
def handOver (s : State) (l : Line) (t : Stamp) (w : Watch) : Det :=
  { ({} : Det) with
    st := .detecting, since := t, cand := w.pow, floor := w.noise, agc := w.agc, flags := startFlags s l }

/-- The detector after a reception ended: detecting on the watch's candidate, else idle (R145). -/
def afterReception (n d : Nat) (keep : Bool) (t : Stamp) (s : State) : State :=
  let l := line s n
  modDet n d (fun x =>
    match (if keep then x.watch else none) with
    | some w => handOver s l t w
    | none => restDet x) s

/-- Detect timeout of a line's personality in duration units (R145). The lengths of a SUN OFDM preamble and of an
O-QPSK symbol are PRESUMED. -/
def detTimeout (l : Line) (d : Nat) : Nat :=
  let p := linePers l
  match phyOf p with
  | .none => 0
  | .fsk => fskBits p 1000
  | .ofdm => 2 * 6 * 120 * u3PerUs
  | .oqpsk => 20 * 16 * u3PerUs
  | .lofdm => 600 * u3PerUs
  | .frc => 68 * frcTs (7 + d) ((p - 0x80) / 16)

/-- DETECT_TIMEOUT (R104, R145): a detection that has lasted its time without a sync is false. -/
def detectTimeout (n d : Nat) (t : Stamp) (s : State) : State :=
  let x := det s n d
  if x.st = .detecting ∧ !later64 (plus x.since (detTimeout (line s n) d / 3)) t then
    settleWindow n t (modDet n d restDet (falseDet n s))
  else s

/-- The carrier offset lies in the acquisition range (R152), 1/16 Hz. The subcarrier spacing of SUN OFDM,
31,250 / 3 Hz for every option, is PRESUMED. -/
def acquires (l : Line) (off : Int) : Bool :=
  let p := linePers l
  match phyOf p with
  | .none => false
  | .fsk => decide (off.natAbs ≤ 6400 * (if 0x16 ≤ p then fskRate p / 2 else fskRate p))
  | .ofdm => decide (3 * off.natAbs ≤ 1000000)
  | .oqpsk => decide (off.natAbs ≤ 1600000)
  | .lofdm => decide (off.natAbs ≤ 320000)
  | .frc => decide (off.natAbs ≤ 500000 * 2 ^ ((p - 0x80) / 16))

/-- An FRC frame's tag byte, read from its two tag symbols, equals TAG; another PHY has none (R124). -/
def tagOurs (l : Line) (d : Nat) (k : List Nat) : Bool :=
  phyOf (linePers l) != .frc ||
    k.map (· / 2 ^ (7 + d - 4)) == (tagShifts (7 + d) l.tag.toNat).map (· / 2 ^ (7 + d - 4))

/-- The sync point (R124, R145, R149, R152, R153): the main AGC freezes; stamp, offset and reference power are taken. An
arrival outside the acquisition range, or with another tag, does not reach it. -/
def syncAt (n d : Nat) (i : SyncIn) (landing : Bool) (t : Stamp) (s : State) : State :=
  let l := line s n
  let x := det s n d
  if x.st = .detecting ∧ acquires l i.offset = true ∧ tagOurs l d i.tag = true then
    let sig := lineDbm s l i.sig
    let past := l.serving.any fun w => later64 t (ownStamp s w.endStamp)
    let fl : BitVec 16 := (if sig < x.floor then 8 else 0) ||| (if landing then fGain else 0) |||
      (if past then 16 else 0)
    modDet n d (fun x => { x with
      st := .frozen, arrival := recStamp s t, pref := max sig x.floor, rssi := lineDbm s l i.rssi
      snr := sig - x.floor, offset := i.offset, agc := agcGain l i.rssi
      phyInfo := BitVec.ofNat 16 (syncInfo (linePers l) d i.fec i.rsc)
      gain := (port s (linePort l)).gain, flags := x.flags ||| fl, header := false }) s
  else s

/-! ### Headers -/

/-- The receiver holds the map a header names, with that check; entry 0 always (R136, R140). -/
def mapHeld (s : State) (id chk : Nat) : Bool :=
  if id = 0 then (mapCheck map0).toNat == chk
  else
    let m := smGet {} s.mesh.maps id
    m.valid && m.check.toNat == chk

/-- The codes of the map that a header names (R140). -/
def mapOf (s : State) (id : Nat) : List Nat := if id = 0 then map0 else (smGet {} s.mesh.maps id).codes

/-- The header bits of FRC and L-OFDM that arrive: the code word's, or what the soft decisions give (R126, R136). -/
def headerBits (l : Line) (d : Nat) (i : HeaderIn) (t : Stamp) : Nat :=
  match phyOf (linePers l) with
  | .frc => (frcHeaderRead (7 + d) l.tag.toNat i.shifts).getD (Config.softHeader i.shifts t.toNat % 2 ^ 24)
  | .lofdm => (lofdmHeaderRead i.hard).getD (Config.softHeader (i.hard.map ofBool) t.toNat % 2 ^ 52)
  | _ => 0

/-- The judgement of a header (R121, R125, R136, R146); `h` are the bits of an FRC or L-OFDM header, `info` what the
sync field gave. -/
def judgeHeader (s : State) (l : Line) (d info h : Nat) (i : HeaderIn) : HeaderSays :=
  let p := linePers l
  match phyOf p with
  | .frc => if frcHeaderOk h then .pass (bits h 7 0) (frcInfo h d ((p - 0x80) / 16)) 0 else .fail
  | .lofdm =>
    if lofdmHeaderOk h then
      .pass (bits h 30 20) (bits h 11 0) (if mapHeld s (bits h 11 0) (bits h 19 12) then 0 else 4)
    else .fail
  | .fsk => if i.ok then fskPhrRead info i.phr else .fail
  | .ofdm => if i.ok then ofdmPhrRead (p - 0x20) info i.phr else .fail
  | .oqpsk => if i.ok then oqpskPhrRead i.phr else .fail
  | .none => .fail

/-- Frequency of data subcarrier `d` of a line in units of 2^-32 Hz (R95, R133). -/
def subcarrierFreq (l : Line) (d : Nat) : Int := (lineNco l : Int) * 6400000000 + lofdmData.getD d 0 * 10000 * 2 ^ 32

/-- Noise power of a data subcarrier from the group of an interval at span code 10 that holds its centre: 0.01 dBm in
its 10 kHz (R133, R158). -/
def groupNoise (r : SpotRes) (l : Line) (d : Nat) : Int :=
  let lo : Int := ((r.centre : Int) - 2 ^ 20) * 6400000000
  r.groups.getD ((subcarrierFreq l d - lo) / (2 ^ 12 * 6400000000)).toNat (-32768) + 4000

/-- The interval of the previous cue measured a view at span code 10 that covers the line (R158). -/
def noiseView (s : State) (l : Line) : Option SpotRes :=
  ((port s (linePort l)).spotPrev).filter fun r =>
    r.cue == s.proc.cueNow - 1 && r.span == 10 && inView l r.centre 10

/-- The 104 SNR bytes of an L-OFDM reception (R158), in 0.25 dB, rounded down; below 0 dB they are 0 (DESIGN CHOICE). -/
def lofdmExt (s : State) (l : Line) (i : HeaderIn) : List Nat :=
  (List.range 104).map fun d =>
    let sig := lineDbm s l (i.sig.getD d (-32768))
    let noise := match noiseView s l with
      | some r => groupNoise r l d
      | none => lineDbm s l (i.diff.getD d (-32768))
    ((clampI 0 6375 (sig - noise)) / 25).toNat

/-- A reception of a window commits its single entry and ends it (R104). -/
def commitEntry (n d outcome status : Nat) (offset : Int) (psdu : List Byte) (t : Stamp)
    (s : State) : State :=
  let s1 := rxInput (rxOf s n d outcome status offset psdu t) s
  let scheduled := (line s n).serving.isSome
  afterReception n d (!scheduled) t (if scheduled then endWindow n s1 else s1)

/-- A failed header (R145, R147): counted, no entry; a window goes on, or ends without sync. -/
def headerFails (n d : Nat) (t : Stamp) (s : State) : State :=
  settleWindow n t (afterReception n d true t (falseDet n s))

/-- HEADER_CHECK (R121, R136, R145, R146). A PHR that calls for an unsupported option is counted as a failed header
check, and ends a window with status UNSUPPORTED. -/
def headerCheck (n d : Nat) (i : HeaderIn) (t : Stamp) (s : State) : State :=
  let x := det s n d
  let l := line s n
  if x.st = .frozen ∧ x.header = false then
    let h := headerBits l d i t
    match judgeHeader s l d x.phyInfo.toNat h i with
    | .fail => headerFails n d t s
    | .unsupported info =>
      if l.serving.isSome then
        commitEntry n d 0 3 x.offset [] t
          (modDet n d (fun x => { x with phyInfo := BitVec.ofNat 16 info }) (falseDet n s))
      else headerFails n d t s
    | .pass len info status =>
      let s1 := modDet n d (fun x => { x with
        header := true, length := len, hbits := h, phyInfo := BitVec.ofNat 16 info, status := status
        ext := if phyOf (linePers l) = .lofdm then lofdmExt s l i else [] }) s
      if status = 4 then commitEntry n d 0 4 x.offset [] t s1 else s1
  else s

/-! ### Capture and commit -/

/-- DISPLACEMENT (R101, R150, R151): the watch's candidate ends the reception in progress and takes the main path. -/
def displace (n d : Nat) (t : Stamp) (s : State) : State :=
  let l := line s n
  let x := det s n d
  match x.st, x.watch with
  | .frozen, some w =>
    if l.watchEn && decide (x.pref + 100 * (l.captThr : Int) ≤ w.pow) then
      let s1 := if x.header && l.serving.isNone then rxInput (rxOf s n d 3 2 x.offset [] t) s else s
      let s2 := if x.header then s1 else falseDet n s1
      demCount n 16 (modDet n d (fun x => { handOver s l t w with
        displaced := satAdd 255 x.displaced 1, dispRssi := max x.dispRssi x.rssi }) s2)
    else s
  | _, _ => s

/-- The PSDU that arrives, its FCS or CRC included, of the length that the header gave; none when what arrives is of
another length (R118, R129, R137, R624). -/
def psduOf (s : State) (l : Line) (d : Nat) (x : Det) (i : CommitIn) (t : Stamp) : Option (List Byte) :=
  let p := linePers l
  let soft (k : List Nat) (n : Nat) : List Byte := (List.range n).map (Config.softPayload k t.toNat)
  match phyOf p with
  | .none => none
  | .frc =>
    let h := x.hbits
    let pcrc := bit h 10
    let sf := 7 + d
    let sb := sf - bits h 12 11
    if i.shifts.length = frcNpay x.length (ofBool pcrc) (bits h 9 8) sb then
      some ((frcPayloadRead sf sb l.tag.toNat (bits h 9 8) x.length pcrc i.shifts).getD
        (soft i.shifts (x.length + 2 * ofBool pcrc)))
    else none
  | .lofdm =>
    let bs := (mapOf s (bits x.hbits 11 0)).map codeBits
    if i.points.length = lofdmNsym x.length bs.sum then
      some ((lofdmPayloadRead bs (bits x.hbits 37 31) x.length i.points).getD
        (soft (i.points.flatMap fun l => l.map fun q => ofBool (decide (0 < q.1))) x.length))
    else none
  | .fsk =>
    if i.octets.length = x.length then some (if x.phyInfo.getLsbD 2 then fskWhiten i.octets else i.octets) else none
  | _ => if i.octets.length = x.length then some i.octets else none

/-- RECEPTION_COMMIT (R145, R155, R156): at the last payload sample the FCS or CRC is checked and the entry committed. -/
def commitReception (n d : Nat) (i : CommitIn) (t : Stamp) (s : State) : State :=
  let l := line s n
  let x := det s n d
  if x.st = .frozen ∧ x.header = true then
    match psduOf s l d x i t with
    | some psdu =>
      let status := if phyOf (linePers l) == .frc && !x.phyInfo.getLsbD 5 then 5
        else if fcsGood (linePers l) x.phyInfo.toNat psdu then 0 else 1
      commitEntry n d 0 status i.offset psdu t s
    | none => s
  else s

/-! ### Meanings -/

/-- Meaning of DETECTION. -/
def execDetection (n : Fin 96) (d : Fin 6) (i : DetIn) (t : Stamp) (s : State) :
    Host.Outcome State Fault Refusal := .next (detect n.val d.val i t (atTime t s))

/-- Meaning of WATCH_CANDIDATE. -/
def execWatchCandidate (n : Fin 96) (d : Fin 6) (w : WatchIn) (s : State) :
    Host.Outcome State Fault Refusal := .next (watchFinds n.val d.val w.found w.stamp (atTime w.stamp s))

/-- Meaning of DETECT_TIMEOUT. -/
def execDetectTimeout (n : Fin 96) (d : Fin 6) (t : Stamp) (s : State) :
    Host.Outcome State Fault Refusal := .next (detectTimeout n.val d.val t (atTime t s))

/-- Meaning of SYNC_FIELD_MATCHED. -/
def execSyncFieldMatched (n : Fin 96) (d : Fin 6) (i : SyncIn) (stepLanding : Bool) (t : Stamp)
    (s : State) : Host.Outcome State Fault Refusal :=
  .next (syncAt n.val d.val i stepLanding t (atTime t s))

/-- Meaning of HEADER_CHECK. -/
def execHeaderCheck (n : Fin 96) (d : Fin 6) (i : HeaderIn) (t : Stamp) (s : State) :
    Host.Outcome State Fault Refusal := .next (headerCheck n.val d.val i t (atTime t s))

/-- Meaning of DISPLACEMENT. -/
def execDisplacement (n : Fin 96) (d : Fin 6) (t : Stamp) (s : State) :
    Host.Outcome State Fault Refusal := .next (displace n.val d.val t (atTime t s))

/-- Meaning of RECEPTION_COMMIT. -/
def execReceptionCommit (n : Fin 96) (d : Fin 6) (i : CommitIn) (t : Stamp) (s : State) :
    Host.Outcome State Fault Refusal := .next (commitReception n.val d.val i t (atTime t s))

end Sys2Proof.Machine
end

