-- ==== Sys2Proof/Machine/Flags.lean ====
section
/-! DEFINITION. What a register read returns: the live status, flag and counter fields of every register table,
computed from the state (R27, R72, R113, R114, R165, R211, R271, R305, R350, R402, R433, R469, R508, R527, R560,
R584 to R586, R616), the stored fields, and the latching pairs (R614). -/

namespace Sys2Proof.Machine

/-- A live word beside the stored one: the bits of `mask` come from `live`. -/
def mixWord (stored mask live : Word32) : Word32 := (stored &&& ~~~ mask) ||| (live &&& mask)

/-- The two's complement word of an integer. -/
def wordI (v : Int) : Word32 := BitVec.ofInt 32 v

/-- A number of the list of flags: bit `i` is the flag of index `i`. -/
def flagBits (l : List Bool) : Nat :=
  match l with
  | [] => 0
  | b :: r => ofBool b + 2 * flagBits r

/-! ### System, Power, Clocks, Pads -/

/-- SYS_STATUS (R584). -/
def sysStatus (s : State) : Nat := flagBits [s.pwr.bootDone, s.hif.recovery]

/-- PRESENT of SYS_FEID (R584): a valid descriptor at the address. -/
def feidPresent (s : State) : Nat := flagBits ((List.range 8).map fun a => descOk (descAt s a))

/-- The mode of PWR_MODE.MODE (R585); Start-up and Keep-only have no encoding and read as the Reset column. -/
def modeBits (m : Power) : Nat :=
  match m with
  | .quiet => 1
  | .retention => 2
  | _ => 0

/-- PWR_SUPPLY's live bits (R563, R585); the sensed levels and the VIN reading come from outside. -/
def supplyWord (s : State) : Nat :=
  flagBits [s.pwr.vin, s.pwr.vkeep, (Config.openWord 71 0).getLsbD 0, (Config.openWord 71 1).getLsbD 0] +
    256 * ((Config.openWord 72 s.time.tb0.toNat).toNat % 256)

/-- PWR_TEMP (R585). -/
def tempWord (s : State) : Nat :=
  (s.pwr.tPit % 256).toNat + 256 * (s.pwr.tStage % 256).toNat

/-- The mode in which a clock domain runs (R564). -/
def domainRuns (s : State) (d : Nat) : Bool :=
  let on := s.pwr.mode == .full || s.pwr.mode == .quiet
  match d with
  | 0 => on || s.pwr.mode == .retention || s.pwr.mode == .startup
  | 6 => s.pwr.mode == .full && rbit s (txReg .a 0) 0
  | 7 => s.pwr.mode == .full && rbit s (txReg .b 0) 0
  | 11 => on || s.pwr.mode == .startup
  | 12 => s.pwr.vkeep
  | 13 => s.sec.jtag
  | _ => on || s.pwr.mode == .startup

/-- CLK_STATUS (R586): a domain that lost its clock or lock does not run. -/
def clkStatus (s : State) : Nat :=
  flagBits ((List.range 14).map fun d => domainRuns s d && !s.pwr.clocks.getLsbD d)

/-- PAD_ETH_STATUS (R616). -/
def ethStatus (s : State) : Nat :=
  ofBool s.pwr.eth0Up + 2 * (s.pwr.speed0 % 4) + 8 * ofBool s.pwr.eth1Up

/-- Registers of the System, Power, Clocks and Pads blocks. -/
def readSys (s : State) (o : Nat) : Word32 :=
  if o = rSysId then w32 (sysId s)
  else if o = rSysStatus then w32 (sysStatus s)
  else if o = rSysRstCause then w32 (s.pwr.cause % 16 + 65536 * s.pwr.count)
  else if o = rSysFeid then mixWord (reg s o) 0xFF (w32 (feidPresent s))
  else if 0x100 ≤ o ∧ o < 0x200 then
    let a := (o - 0x100) / 0x20
    if descOk (descAt s a) then w32 (uAt (descAt s a) ((o - 0x100) % 0x20) 4) else 0
  else if o = rPwrMode then mixWord (reg s o) 0xC (w32 (4 * modeBits s.pwr.mode))
  else if o = rPwrSupply then mixWord (reg s o) 0xFF0F (w32 (supplyWord s))
  else if o = rPwrTherm then mixWord (reg s o) 0x200 (w32 (512 * ofBool s.pwr.hot))
  else if o = rPwrTemp then w32 (tempWord s)
  else if o = rClkStatus then w32 (clkStatus s)
  else if o = rPadEthStatus then w32 (ethStatus s)
  else reg s o

/-! ### Cue, Time and Redundancy -/

/-- The code of a phase (R72). -/
def phaseBits (p : Phase) : Nat :=
  match p with
  | .intake => 0
  | .work => 1
  | .publish => 2
  | .housekeeping => 3

/-- CUE_STATUS (R72). -/
def cueStatus (s : State) : Nat :=
  phaseBits s.proc.phase + 4 * (s.proc.lag % 4) +
    16 * flagBits [s.proc.bookMode == 2, s.proc.faulted, s.proc.processing]

/-- CUE_SCENE (R72). -/
def cueScene (s : State) : Nat :=
  s.proc.sceneLog2 + 65536 * (s.proc.cueNow.toNat % 2 ^ s.proc.sceneLog2 % 65536)

/-- The digest registers (R72, R74). -/
def readDigest (d : Digest) (o : Nat) : Word32 :=
  if o = rCueDigCue then d.cue
  else if o = rCueDigFlags then d.flags
  else if o = rCueDigStateLo then d.state.setWidth 32
  else if o = rCueDigStateHi then (d.state >>> 32).setWidth 32
  else if o = rCueDigOutLo then d.out.setWidth 32
  else if o = rCueDigOutHi then (d.out >>> 32).setWidth 32
  else if o = rCueDigBookLo then d.book.setWidth 32
  else (d.book >>> 32).setWidth 32

/-- Registers of the Cue block. -/
def readCue (s : State) (o : Nat) : Word32 :=
  if o = rCueNow then s.proc.cueNow
  else if o = rCueStatus then w32 (cueStatus s)
  else if o = rCueScene then w32 (cueScene s)
  else if rCueDigCue ≤ o ∧ o ≤ rCueDigBookHi then readDigest s.proc.digest o
  else reg s o

/-- TB2_STATE (R350). -/
def ptpBits (p : PtpSt) : Nat :=
  match p with
  | .disabled => 0
  | .listening => 1
  | .acquiring => 2
  | .locked => 3
  | .holdover => 4

/-- TIM_TB_STATUS (R350). -/
def tbStatus (s : State) : Nat :=
  flagBits [s.time.tb1.valid, s.time.tb2.valid, s.time.tb3.valid] + 16 * ptpBits s.time.ptp.st +
    128 * ofBool s.time.ptp.traceable + 256 * ofBool (s.time.ptp.st == .holdover && s.time.ptp.reroute)

/-- A length in ticks, in ns, toward zero. -/
def ticksNs (t : Int) : Int := (t * 10).tdiv 1024

/-- TIM_UTC, TIM_PTP_OFFSET, TIM_PTP_DELAY and TIM_PTP_MASTER (R350). -/
def readPtp (s : State) (o : Nat) : Word32 :=
  let p := s.time.ptp
  let id := (p.master.getD 0).toNat
  if o = rTimPtpOffset then wordI (clampI (-2147483648) 2147483647 (ticksNs p.offset))
  else if o = rTimPtpDelay then wordI (clampI 0 4294967295 (ticksNs (p.mpd.getD 0)))
  else if o = rTimPtpMasterLo then w32 id
  else if o = rTimPtpMasterHi then w32 (id / 2 ^ 32)
  else p.utc.zeroExtend 32

/-- TIM_PULSE_STATUS (R350). -/
def pulseStatus (s : State) : Nat :=
  flagBits ((List.range 8).map fun i => (pin s (8 + i)).prog.isSome) +
    256 * flagBits ((List.range 8).map fun i => (pin s (8 + i)).active)

/-- TIM_MAINS_STATUS (R350). -/
def mainsStatus (s : State) : Nat :=
  let m := s.time.mains
  ofBool (m.cross.length == mainsW s + 1) + 2 * ofBool m.trace + 65536 * min 0xFFFF m.restarts

/-- Registers of the Time block, the latching pair left out. -/
def readTim (s : State) (o : Nat) : Word32 :=
  if o = rTimTbStatus then w32 (tbStatus s)
  else if o = rTimTb2Era then w32 (s.time.ptp.era % 65536)
  else if o = rTimSteps then
    w32 (s.time.tb1.steps % 256 + 256 * (s.time.tb2.steps % 256) + 65536 * (s.time.tb3.steps % 256))
  else if rTimPtpOffset ≤ o ∧ o ≤ rTimUtc then readPtp s o
  else if o = rTimPulseStatus then w32 (pulseStatus s)
  else if o = rTimMainsFreq then w32 s.time.mains.freq
  else if o = rTimMainsStatus then w32 (mainsStatus s)
  else reg s o

/-- UND_STATUS (R508). -/
def undStatus (s : State) : Nat :=
  let p := s.pair
  p.role % 8 +
    8 * flagBits [isFit s, votePresent s, p.agree && s.pwr.eth1Up, p.role == 1 && !p.covered] +
    256 * min 8 p.held.length + 65536 * min 100 p.swept

/-- STATE of the Director (R508). -/
def dirBits (d : DirSt) : Nat :=
  match d with
  | .start => 0
  | .none => 1
  | .leadA => 2
  | .leadB => 3

/-- UND_DIR_STATUS (R508), in Director mode. -/
def dirStatus (s : State) : Nat :=
  if isDirector s then
    dirBits s.pair.dir + 8 * flagBits [isAlive s s.pair.dirA, isAlive s s.pair.dirB, unitFit s s.pair.dirA,
      unitFit s s.pair.dirB, s.pair.hold]
  else 0

/-- Registers of the Redundancy block, the latching pair left out. -/
def readUnd (s : State) (o : Nat) : Word32 :=
  if o = rUndStatus then w32 (undStatus s)
  else if o = rUndCueOffset then wordI s.pair.k
  else if o = rUndDirStatus then w32 (dirStatus s)
  else reg s o

/-! ### Receive, transmit -/

/-- RXF_PORT_STATUS (R113). -/
def portStatus (s : State) (p : Nat) : Nat :=
  let x := port s p
  let frozen := ((linesOf s p).filter fun n => lineFrozen (line s n)).length
  x.gain + 64 * flagBits [isBlanked x, x.window] + 256 * min 96 frozen +
    32768 * flagBits [x.pend != 0, x.satLast, x.oos]

/-- Registers of the Receive front-end block. -/
def readRxf (s : State) (o : Nat) : Word32 :=
  if o < 0x20100 then reg s o
  else
    let p := (o - 0x20100) / 0x40
    let r := (o - 0x20100) % 0x40
    if r = 0x10 then w32 (portStatus s p)
    else if r = 0x14 then w32 ((port s p).mean.toNat + 65536 * min 0xFFFF (port s p).clips)
    else reg s o

/-- STATE of a line (R114). DESIGN CHOICE: a line shows 5, waiting to commit, only while it holds no reception and does
not retune; those states come first. -/
def lineState (s : State) (l : Line) : Nat :=
  if !l.en || l.quietOff then 0
  else if (port s (linePort l)).oos then 6
  else if l.retuning then 4
  else if lineFrozen l then 3
  else if lineBusy l then 2
  else if l.pending then 5
  else 1

/-- The main digital AGC gain of a line (R114): of the lowest-numbered detector with one (DESIGN CHOICE: an FRC line
has several), in 0.5 dB, rounded down, within the field. -/
def lineGain (l : Line) : Nat :=
  match l.dets.find? fun d => d.2.agc != 0 with
  | some d => (clampI 0 255 (d.2.agc / 50)).toNat
  | none => 0

/-- CHR_LINE_STATUS (R114). -/
def chrStatus (s : State) (n : Nat) : Nat :=
  let l := line s n
  lineState s l + 8 * flagBits [l.pending || l.force, l.outOfBand] + 256 * min 31 l.queue.length + 65536 * lineGain l

/-- Registers of the Chorus block. -/
def readChr (s : State) (o : Nat) : Word32 :=
  if o < 0x22C00 ∧ o % 0x20 = 0xC then w32 (chrStatus s ((o - 0x22000) / 0x20)) else reg s o

/-- DEM_LINE_STATUS (R165). -/
def demStatus (s : State) (n : Nat) : Nat :=
  let l := line s n
  let frc := phyOf (linePers l) == .frc
  ofBool l.mismatch +
    2 * flagBits ((List.range 6).map fun d => frc && (det s n d).st == .frozen) +
    128 * ofBool (l.dets.any fun d => d.2.watch.isSome)

/-- Registers of the Demodulator block. -/
def readDem (s : State) (o : Nat) : Word32 :=
  if o % 0x10 = 8 then w32 (demStatus s ((o - 0x24000) / 0x10)) else reg s o

/-- STATE of a chain (R211). -/
def chainBits (x : ChainSt) : Nat :=
  match x with
  | .off => 0
  | .idle => 1
  | .retuning => 2
  | .calibrating => 3
  | .waiting => 4
  | .rising => 5
  | .on => 6
  | .falling => 7
  | .outOfService => 8

/-- TXx_STATUS (R211). -/
def chainStatus (x : Tx) : Nat :=
  chainBits x.st + 16 * flagBits [x.locked, x.calValid] + 64 * min 127 x.queue.length

/-- TXx_PWR_STATUS (R211): the correction in 0.25 dB, toward zero. -/
def txPower (x : Tx) : Nat :=
  ((x.measured.getD (-32768)) % 65536).toNat + 65536 * (((smGet 0 x.corr x.lastSeg).tdiv 2) % 256).toNat

/-- Registers of the chains' blocks. -/
def readTx (s : State) (o : Nat) : Word32 :=
  let c := chainOf ((o - 0x26000) / 0x1000)
  let r := o % 0x1000
  if r = 4 then w32 (chainStatus (tx s c))
  else if r = 0x14 then w32 (txPower (tx s c))
  else reg s o

/-! ### Mesh access, forwarding, the Wings, the Box Office, update -/

/-- Registers of the Mesh access block. -/
def readMac (s : State) (o : Nat) : Word32 :=
  let ns := s.mesh.nodes.filter fun x => isAlloc x.2
  if o = rMacNodes then w32 ns.length
  else if o = rMacGrand then w32 (ns.filter fun x => x.2.grand).length
  else if rMacPan ≤ o ∧ o < rMacPan + 0x20 then
    w32 (ns.filter fun x => !x.2.grand && x.2.pan == (o - rMacPan) / 4).length
  else if o = rMacPeers then
    w32 ((s.mesh.peers.filter (·.present)).length + 256 * (s.mesh.peers.filter fun p => !p.present).length)
  else reg s o

/-- A lock bit of each address or attachment partition. -/
def lockBits (s : State) (t : Nat) : Nat :=
  flagBits ((List.range 8).map fun p => s.mesh.locks.any fun l => l.table == t && l.part == p)

/-- Registers of the Forwarding block. -/
def readFwd (s : State) (o : Nat) : Word32 :=
  if o = rFwdLpmUsed then w32 (s.mesh.lpm.filter fun x => x.2.isSome).length
  else if o = rFwdLpmWrites then w32 s.mesh.lpmWrites
  else if o = rFwdLocks then
    w32 (ofBool (s.mesh.locks.any fun l => l.table == 2) + 256 * lockBits s 0 + 65536 * lockBits s 1)
  else reg s o

/-- WNG_SPARE_MAP (R433): a spare replaces a bank, or is migrating to replace it. -/
def spareMap (s : State) : Nat :=
  let w := s.wings
  let at_ (spare : Nat) (m : Option Nat) : Option Nat :=
    match m, w.migr with
    | some b, _ => some b
    | none, some g => if g.spare = spare then some g.bank else none
    | none, none => none
  let half (x : Option Nat) : Nat :=
    match x with
    | some b => b % 128 + 128
    | none => 0
  half (at_ 96 w.map0) + 256 * half (at_ 97 w.map1) + 65536 * ((w.migr.map (·.step)).getD 0 % 64)

/-- Registers of the Wings block. -/
def readWng (s : State) (o : Nat) : Word32 :=
  if o = rWngStatus then
    mixWord (reg s o) 0x1FFF
      (w32 (s.sec.fuses.cols % 2048 + 2048 * flagBits [s.wings.migr.isSome, decide (0 < s.wings.wakeRows)]))
  else if o = rWngSpareMap then w32 (spareMap s)
  else if rWngBankState ≤ o then
    let j := (o - rWngBankState) / 4
    w32 ((List.range 16).map fun i => bankState s (16 * j + i) % 4 * 4 ^ i).sum
  else reg s o

/-- BOX_STATUS (R469). -/
def boxStatus (s : State) : Nat :=
  s.sec.fuses.dbg.toNat +
    4 * flagBits [s.sec.jtag, bar4Open s, s.sec.fuses.root.isSome, s.sec.trngOk] + 256 * min 255 s.sec.reserve

/-- BOX_FUSES (R469). -/
def boxFuses (f : Fuses) : Nat :=
  f.secVer % 128 + 256 * f.revoke.toNat + 4096 * f.vkeys.toNat + 65536 * ofBool f.dbgKeySet

/-- Registers of the Security block. -/
def readBox (s : State) (o : Nat) : Word32 :=
  if o = rBoxStatus then w32 (boxStatus s)
  else if o = rBoxFuses then w32 (boxFuses s.sec.fuses)
  else if o = rBoxRootCheck then rootCheck s
  else if o = rBoxRootCtl then w32 (2 * flagBits [s.sec.fusing, s.sec.rootRef])
  else if rBoxDbgChal ≤ o ∧ o < rBoxDbgChal + 0x20 then w32 (uAt s.sec.chal (o - rBoxDbgChal) 4)
  else if o = rBoxDbgCtl then w32 (4 * ofBool s.sec.dbgRef)
  else if rBoxMicFail ≤ o then reg s o
  else 0

/-- UPD_STATUS (R560). -/
def updStatus (s : State) : Nat :=
  let u := s.upd
  let r := selNow u
  u.slot % 2 + 2 * ofBool r.trial + 4 * (r.trials % 4) +
    16 * flagBits [r.staged != 0, u.verified, u.roll.isSome] + 128 * (u.lastStep % 16) + 2048 * ofBool u.tour.isSome

/-- Registers of the Update block. -/
def readUpd (s : State) (o : Nat) : Word32 :=
  let u := s.upd
  if o = rUpdStatus then w32 (updStatus s)
  else if o = rUpdSelSeq then (selNow u).seq
  else if o = rUpdBundle then w32 u.version
  else if o = rUpdClass then w32 u.rclass
  else if o = rUpdStagedLen then w32 (selNow u).staged
  else if o = rUpdTour then
    w32 (match u.tour with
      | some t => t.id % 256 + 256 * (t.round % 256)
      | none => u.tourId % 256)
  else reg s o

/-! ### Host interface and Call Board -/

/-- HIF_SQ_STATUS (R402). -/
def sqStatus (x : Sq) : Nat := x.head % 2 ^ 17 + 2 ^ 17 * flagBits [x.error, x.readFault]

/-- HIF_CQ_STATUS (R402). -/
def cqStatus (x : Cq) : Nat := x.tail % 2 ^ 17 + 2 ^ 17 * ofBool x.error + 2 ^ 19 * (x.epoch % 128)

/-- HIF_EQ_STATUS (R402). -/
def eqStatus (x : EvRing) : Nat := x.tail % 2 ^ 17 + 2 ^ 17 * ofBool x.error

/-- HIF_Q_STATUS (R402). -/
def hwqStatus (x : Hwq) : Nat :=
  hwqLevel x % 2 ^ 17 + 2 ^ 17 * flagBits [x.testing, x.quarantined] + 2 ^ 24 * (x.resets % 256)

/-- HIF_Q_NOTICE (R402). -/
def hwqNotice (x : Hwq) : Nat := flagBits [x.high, x.low] + 256 * (x.highCnt % 256) + 65536 * (x.lowCnt % 256)

/-- Registers of the Host interface block. DEDUCED: a completion ring that is not enabled has no credit, as the Reset
column of HIF_CQ_CREDIT has it. -/
def readHif (s : State) (o : Nat) : Word32 :=
  if o = rHifEqStatus then w32 (eqStatus s.hif.evr)
  else if o < rHifSqBaseLo then reg s o
  else if o < 0x42000 then
    if o % 0x20 = 0xC then w32 (sqStatus (sq s ((o - 0x41000) / 0x20))) else reg s o
  else if o < 0x43000 then
    let c := (o - 0x42000) / 0x20
    if o % 0x20 = 0xC then w32 (cqStatus (cq s c))
    else if o % 0x20 = 0x10 then w32 ((if cqEn s c then cqCredit s c % 8192 else 0) + 65536 * ((cq s c).outst % 8192))
    else reg s o
  else
    let q := (o - 0x44000) / 0x20
    if o % 0x20 = 0 then hwqCfg s q &&& 0xFF7FFFFF
    else if o % 0x20 = 8 then w32 (hwqStatus (hwq s q))
    else if o % 0x20 = 0xC then w32 (hwqNotice (hwq s q))
    else reg s o

/-- The MSI-X table and pending bits (R395, R613): bit 0 of a vector's fourth word masks it. -/
def readMsix (s : State) (o : Nat) : Word32 :=
  if o < 0x48400 then
    let v := (o - 0x48000) / 16
    if o % 16 = 12 then mixWord (reg s o) 1 (w32 (ofBool (!smGet false s.hif.vecMask v))) else reg s o
  else if 0x49000 ≤ o ∧ o < 0x49008 then
    let b := 8 * (o - 0x49000)
    w32 (flagBits ((List.range 32).map fun i => smGet false s.hif.pba (b + i)))
  else 0

/-- The sequence of the oldest journal record whose check holds (R517, R527); with none the next to
journal. -/
def journalOldest (b : Board) : Word32 :=
  (b.jnl.filterMap Prod.snd).foldl (fun q x => if sdiff32 x.seq q < 0 then x.seq else q) b.jnlSeq

/-- A word of a slot of the store (R512, R527); an erased slot reads ones. -/
def slotWord (x : Option CbSlot) (k : Nat) : Word32 :=
  match x with
  | none => if k = 9 then 0xFFFF else 0xFFFFFFFF
  | some y => if k < 8 then y.words.getD k 0 else if k = 8 then y.seq else (slotCheck y).zeroExtend 32

/-- XSPI runs and journaling proceeds (R517, R519, R527). -/
def journalRuns (s : State) : Bool :=
  s.board.scanned && !s.board.paused && s.proc.processing && domainRuns s 11 && !s.pwr.clocks.getLsbD 11

/-- Registers of the Call Board block. -/
def readCbd (s : State) (o : Nat) : Word32 :=
  let b := s.board
  if o = rCbdNextSeq then b.next
  else if o = rCbdJnlSeq then b.jnlSeq
  else if o = rCbdJnlOldest then journalOldest b
  else if o = rCbdStatus then w32 (flagBits [b.scanned, b.paused, journalRuns s])
  else if o = rCbdLost then w32 (min 0xFFFFFFFF b.lost)
  else if o = rCbdHeldDropped then w32 (min 0xFFFFFFFF b.dropped)
  else if rCbdSlot ≤ o then
    let k := (o - rCbdSlot) % 0x40 / 4
    if k < 10 then slotWord (smGet none b.store ((o - rCbdSlot) / 0x40)) k else 0
  else reg s o

/-! ### Reading a register -/

/-- The latching pairs (R614). -/
def isLatchPair (o : Nat) : Bool := o == rTimTb0Lo || o == rTimTb0Hi || o == rUndOffsetLo || o == rUndOffsetHi

/-- Δ as a 64-bit word (R484). -/
def deltaWord (s : State) : Word64 := BitVec.ofInt 64 s.pair.delta

/-- Both live halves of the latching pairs. -/
def readLive (s : State) (o : Nat) : Word32 :=
  if o = rTimTb0Lo then s.time.tb0.setWidth 32
  else if o = rTimTb0Hi then (s.time.tb0 >>> 32).setWidth 32
  else if o = rUndOffsetLo then (deltaWord s).setWidth 32
  else ((deltaWord s) >>> 32).setWidth 32

/-- The latched upper half that a path reads (R614). -/
def readLatched (p : Path) (s : State) (o : Nat) : Word32 :=
  match p with
  | .pcie => if o = rTimTb0Hi then s.time.hiPcie else s.pair.hiPcie
  | .door => if o = rTimTb0Hi then s.time.hiDoor else s.pair.hiDoor

/-- The bits of a register that read 0 because a field is WO (R6). -/
def woMask (o : Nat) : Word32 :=
  match regLookup o with
  | none => 0xFFFFFFFF
  | some r => r.fields.foldl (fun m f => if f.acc = .wo then m ||| f.mask else m) 0

/-- A register other than a latching pair. -/
def readPlain (s : State) (o : Nat) : Word32 :=
  if o < 0x10000 then readSys s o
  else if o < 0x11000 then readCue s o
  else if o < 0x12000 then readTim s o
  else if o < 0x20000 then readUnd s o
  else if o < 0x22000 then readRxf s o
  else if o < 0x24000 then readChr s o
  else if o < 0x26000 then readDem s o
  else if o < 0x30000 then readTx s o
  else if o < 0x31000 then readMac s o
  else if o < 0x32000 then readFwd s o
  else if o < 0x33000 then readWng s o
  else if o < 0x34000 then readBox s o
  else if o < 0x40000 then readUpd s o
  else if o < 0x48000 then readHif s o
  else if o < 0x50000 then readMsix s o
  else readCbd s o

/-- The word a BAR0 offset reads by a path, WO fields as 0; an offset that holds no register reads 0 (R6,
R353). -/
def readReg (p : Path) (s : State) (o : Nat) : Word32 :=
  if (regLookup o).isNone then 0
  else if o = rTimTb0Lo ∨ o = rUndOffsetLo then readLive s o
  else if o = rTimTb0Hi ∨ o = rUndOffsetHi then readLatched p s o
  else readPlain s o &&& ~~~ woMask o

/-- What a read of the lower half of a latching pair latches for its path (R614). -/
def readEffect (p : Path) (o : Nat) (s : State) : State :=
  if o = rTimTb0Lo then
    modTime (fun t =>
      match p with
      | .pcie => { t with hiPcie := (t.tb0 >>> 32).setWidth 32 }
      | .door => { t with hiDoor := (t.tb0 >>> 32).setWidth 32 }) s
  else if o = rUndOffsetLo then
    modPair (fun x =>
      match p with
      | .pcie => { x with hiPcie := ((deltaWord s) >>> 32).setWidth 32 }
      | .door => { x with hiDoor := ((deltaWord s) >>> 32).setWidth 32 }) s
  else s

/-- The word of a register in a snapshot (R515): both halves of a latching pair live. -/
def snapWord (s : State) (o : Nat) : Word32 :=
  if isLatchPair o then readLive s o else readReg .pcie s o

end Sys2Proof.Machine
end

