-- ==== Sys2Proof/Machine/RegOps.lean ====
section
/-! DEFINITION. Register writes and reads by a path (R5, R6, R353, R398, R402, R614): the access codes on the
stored words, what each field with a behaviour of its own does, the refused-field and refused-mode records
(R67, R470, R620), and snapshots (R514, R515). -/

namespace Sys2Proof.Machine

/-- Number of a path in the records of R620. -/
def pathIx (p : Path) : Nat :=
  match p with
  | .pcie => 0
  | .door => 1

/-- The path reaches registers: PCIe while the endpoint runs (R355, R569), the stage door while REF runs
(R396). -/
def pathUp (p : Path) (s : State) : Bool :=
  match p with
  | .pcie => isPowered s && s.pwr.mode != .retention
  | .door => domainRuns s 0 && !s.pwr.clocks.getLsbD 0

/-! ### The stored word -/

/-- Bits of a ring's BASE or SIZE_LOG2 that its EN locks (R402). -/
def lockedMask (s : State) (o : Nat) : Word32 :=
  let cfg : Option Nat :=
    if o = rHifEqBaseLo ∨ o = rHifEqBaseHi ∨ o = rHifEqCfg then some rHifEqCfg
    else if 0x41000 ≤ o ∧ o < 0x43000 ∧ o % 0x20 ≤ 8 then some (o / 0x20 * 0x20 + 8)
    else none
  match cfg with
  | none => 0
  | some c =>
    if rbit s c 0 then (if o = c then maskOf 5 1 else 0xFFFFFFFF) else 0

/-- RO parts of the first and the last word of a ramp table (R211). -/
def rampMask (o : Nat) : Word32 :=
  if o = 0x26080 ∨ o = 0x27080 then 0xFFFF
  else if o = 0x260FC ∨ o = 0x270FC then 0xFFFF0000
  else 0

/-- The device owns a pointer of the export buffer (R73). -/
def pointerOwned (tail : Bool) (s : State) : Bool := s.proc.processing && tail == (s.proc.bookMode == 2)

/-- Bits that the behaviour of their field changes, not the write itself: an EN, PWR_MODE.REQ, a MODE after
processing start (R67, R470), a pointer that the device owns (R73). -/
def heldMask (s : State) (o : Nat) : Word32 :=
  if o = rPwrMode then 3
  else if o = rPwrSupply then (if s.pwr.vioStuck then 16 else 0)
  else if o = rCueBookCtl ∨ o = rUndCtl then (if s.proc.processing then 3 else 0)
  else if o = rCueBufHead then (if pointerOwned false s then 0xFFFFFFFF else 0)
  else if o = rCueBufTail then (if pointerOwned true s then 0xFFFFFFFF else 0)
  else if 0x20100 ≤ o ∧ o < 0x20200 ∧ o % 0x40 = 0 then 1
  else if o = 0x26000 ∨ o = 0x27000 then 1
  else if o = rHifEqCfg ∨ (0x41000 ≤ o ∧ o < 0x43000 ∧ o % 0x20 = 8) then 1
  else 0

/-- The stored word after a write, and the mask of the refused fields (R5, R6, R402). -/
def wordAfter (s : State) (r : RegRow) (o : Nat) (v : Word32) : Word32 × Word32 :=
  let old := reg s o
  let x := writeWord r old (mixWord v (rampMask o) old) (lockedMask s o)
  (mixWord x.1 (heldMask s o) old, x.2)

/-- The register-field-refused record (R5, R620). -/
def refusedRecord (p : Path) (o : Nat) (v mask : Word32) (s : State) : State :=
  if mask = 0 then s else emitLocal 0x0004 13 o v.toNat mask.toNat (pathIx p) s

/-! ### Snapshots -/

/-- The words of `n` registers from an offset, as a snapshot takes them (R515). -/
def snapWords (s : State) (base n : Nat) : List Word32 := (List.range n).map fun i => snapWord s (base + 4 * i)

/-- The continuations of a snapshot: each with the offset of its first register and six words (R514). -/
def snapConts (src : Nat) (base : Nat) (l : List (List Word32)) : List (List Word32) :=
  (List.range l.length).map fun i =>
    let w := l.getD i []
    [w32 (0xFFFE + 65536 * src + 16777216 * 9), w32 (base + 24 * i)] ++ w ++ List.replicate (6 - w.length) 0

/-- A snapshot on request (R514, R515): the head, then its continuations, in consecutive sequences. -/
def takeSnapshot (s : State) : State :=
  let base := (reg s rCbdSnapBase).toNat
  let n := rbits s rCbdSnapCtl 6 0
  let conts := snapConts 224 base (chunks 6 (snapWords s base n))
  let head := recWords ⟨0x0005, 224, 5, s.proc.cueNow, s.time.tb0, w32 base, w32 n, 0, w32 conts.length⟩
  (head :: conts).foldl (fun s w => emitWords 224 w s) s

/-- TRIGGER (R515): a trigger during a snapshot waits for its end. -/
def triggerSnapshot (busy : Bool) (s : State) : State :=
  if busy then modBoard (fun b => { b with snapDue := true }) s else takeSnapshot s

/-- A waiting trigger is taken (R515). -/
def waitingSnapshot (s : State) : State :=
  if s.board.snapDue then takeSnapshot (modBoard (fun b => { b with snapDue := false }) s) else s

/-! ### Behaviours of written fields -/

/-- A write to MODE after processing start leaves its record, whatever the value (R67, R470). -/
def modeWrite (p : Path) (o taken : Nat) (v : Word32) (s : State) : State :=
  if s.proc.processing then
    emitLocal 0x000A 13 o v.toNat taken (pathIx p) s
  else s

/-- The bits of SYS_CTL that act (R572). -/
def actSysCtl (v : Word32) (s : State) : State :=
  let s1 := if bit v.toNat 1 then restartNext 4 s else s
  let s2 := if bit v.toNat 2 then bootRestart s1 else s1
  if bit v.toNat 3 then systemReset 3 s2 else s2

/-- PWR_MODE.REQ (R566, R568); 0b11 is reserved and asks for nothing. -/
def actPwrMode (v : Word32) (s : State) : State :=
  match fieldOf v 1 0 with
  | 0 => askFull s
  | 1 => askQuiet s
  | 2 => askRetention s
  | _ => s

/-- A change of EN or MODE of a link (R617). -/
def actEthCfg (eth1 : Bool) (old : Word32) (s : State) : State :=
  if ((old ^^^ reg s (ethCfg eth1)) &&& 7) = 0 then s else linkCut eth1 s

/-- RXF_PORT_CTL: EN (R86, R90), FORCE (R85), BAND (R97). -/
def actPort (p : Nat) (old v : Word32) (s : State) : State :=
  let s1 := if bit v.toNat 0 == bit old.toNat 0 then s
    else if bit v.toNat 0 then enablePort p s else disablePort p s.time.tb0 s
  let s2 := if fieldOf old 2 1 = rbits s1 (rxfReg p 0) 2 1 then s1 else (linesOf s1 p).foldl judgeBand s1
  if bit v.toNat 5 then forcePort p s2 else s2

/-- CHR_LINE_CTL: COMMIT and FORCE (R98). -/
def actLine (n : Nat) (v : Word32) (s : State) : State :=
  if bit v.toNat 8 || bit v.toNat 9 then
    modLine n (fun l => { l with pending := l.pending || bit v.toNat 8, force := l.force || bit v.toNat 9 }) s
  else s

/-- TXx_CTL: EN (R180, R208) and RECAL (R175). -/
def actChain (c : Chain) (old v : Word32) (s : State) : State :=
  let s1 := if bit v.toNat 0 == bit old.toNat 0 then s
    else if bit v.toNat 0 then enableChain c s else disableChain c s.time.tb0 s
  if bit v.toNat 1 then modTx c (fun x => { x with recalDue := true }) s1 else s1

/-- EN of a ring (R364, R400). -/
def actRing (k : RingKind) (q : Nat) (old v : Word32) (s : State) : State :=
  if bit v.toNat 0 == bit old.toNat 0 then s
  else if bit v.toNat 0 then enableRing k q s else disableRing k q s

/-- HIF_Q_NOTICE: acknowledgements (R390) and FLUSH (R389). -/
def actNotice (q : Nat) (v : Word32) (s : State) : State :=
  let s1 := ackNotices q (bit v.toNat 0) (bit v.toNat 1) s
  if bit v.toNat 2 then askFlush q s1 else s1

/-- A challenge drawn by a write of NEW_CHAL that brings no draw: free octets. -/
def openChallenge (s : State) : List Byte × State :=
  let (n, s1) := fresh s
  ((List.range 4).flatMap fun i => le 8 (Config.openWord 74 (4 * n + i)).toNat, s1)

/-- BOX_DBG_CTL (R464). -/
def actDebug (v : Word32) (s : State) : State :=
  let s1 := if bit v.toNat 2 then modSec (fun x => { x with dbgRef := false }) s else s
  let s2 := if bit v.toNat 0 then let x := openChallenge s1; newChallenge x.1 x.2 else s1
  if bit v.toNat 1 then tryUnlock s2 else s2

/-- The Security block: the root key, its programming, the response and the debug control (R437, R464, R469). -/
def actBox (o : Nat) (v : Word32) (s : State) : State :=
  if o = rBoxRootCtl then
    let s1 := if bit v.toNat 2 then modSec (fun x => { x with rootRef := false }) s else s
    if bit v.toNat 0 then programRoot s1 else s1
  else if rBoxRootKey ≤ o ∧ o < rBoxRootKey + 0x10 then
    modSec (fun x => { x with rootKey := smSet 0 x.rootKey ((o - rBoxRootKey) / 4) v }) s
  else if rBoxDbgResp ≤ o ∧ o < rBoxDbgResp + 0x80 then
    modSec (fun x => { x with resp := smSet 0 x.resp ((o - rBoxDbgResp) / 4) v }) s
  else if o = rBoxDbgCtl then actDebug v s
  else s

/-- The behaviours of the Host interface block and the MSI-X table. -/
def actHif (o : Nat) (old v : Word32) (s : State) : State :=
  if o = rHifEqCfg then actRing .event 0 old v s
  else if 0x41000 ≤ o ∧ o < 0x42000 ∧ o % 0x20 = 8 then actRing .submission ((o - 0x41000) / 0x20) old v s
  else if 0x42000 ≤ o ∧ o < 0x43000 ∧ o % 0x20 = 8 then actRing .completion ((o - 0x42000) / 0x20) old v s
  else if 0x44000 ≤ o ∧ o < 0x46000 ∧ o % 0x20 = 0xC then actNotice ((o - 0x44000) / 0x20) v s
  else if 0x48000 ≤ o ∧ o < 0x48400 ∧ o % 16 = 12 then maskVector ((o - 0x48000) / 16) (bit v.toNat 0) s
  else s

/-- What a write does beyond the stored word; `old` is the word before it. -/
def writeAct (p : Path) (o : Nat) (old v : Word32) (s : State) : State :=
  if o = rSysCtl then actSysCtl v s
  else if o = rSysWdt then (if bit v.toNat 17 then kickHost s else s)
  else if o = rPwrMode then actPwrMode v s
  else if o = rPadEth0Cfg then actEthCfg false old s
  else if o = rPadEth1Cfg then actEthCfg true old s
  else if o = rCueBookCtl then modeWrite p o s.proc.bookMode v s
  else if o = rUndCtl then modeWrite p o s.pair.mode v s
  else if 0x20100 ≤ o ∧ o < 0x20200 ∧ o % 0x40 = 0 then actPort ((o - 0x20100) / 0x40) old v s
  else if 0x22000 ≤ o ∧ o < 0x22C00 ∧ o % 0x20 = 0 then actLine ((o - 0x22000) / 0x20) v s
  else if o = 0x26000 then actChain .a old v s
  else if o = 0x27000 then actChain .b old v s
  else if 0x33000 ≤ o ∧ o < 0x34000 then actBox o v s
  else if 0x40000 ≤ o ∧ o < 0x50000 then actHif o old v s
  else if o = rCbdSnapCtl then (if bit v.toNat 8 then takeSnapshot s else s)
  else s

/-! ### Writes -/

/-- A write of an aligned word that the path may reach (R5, R6, R353); a Spotlight interval that has begun keeps the
settings it began with (R115). -/
def writeReg (p : Path) (o : Nat) (v : Word32) (s : State) : State :=
  match regLookup o with
  | none => s
  | some r =>
    let old := reg s o
    let s0 := if 0x23000 ≤ o ∧ o < 0x24000 then spotRoll s else s
    let x := wordAfter s0 r o v
    writeAct p o old v (refusedRecord p o v x.2 (setReg o x.1 s0))

/-- A host write at a BAR0 offset (R353). -/
def hostWriteReg (o : Nat) (v : Word32) (s : State) : State :=
  if !pathUp .pcie s then s
  else if o % 4 ≠ 0 then setRBit rHifErr 0 s
  else writeReg .pcie o v s

/-- A stage-door write reaches the System, Power, Clocks, Pads and Redundancy blocks (R398, R611). -/
def doorReaches (o : Nat) : Bool := decide (o < 0x4000) || (decide (0x12000 ≤ o) && decide (o < 0x13000))

/-- A stage-door write of one word (R398). -/
def doorWriteReg (o : Nat) (v : Word32) (s : State) : State :=
  if !doorReaches o then modHif (fun h => { h with denied := true }) s
  else if o % 4 ≠ 0 then setRBit rHifErr 0 s
  else writeReg .door o v s

/-- A write by a path. -/
def pathWrite (p : Path) (o : Nat) (v : Word32) (s : State) : State :=
  match p with
  | .pcie => hostWriteReg o v s
  | .door => if pathUp .door s then doorWriteReg o v s else s

/-! ### Meanings -/

/-- Meaning of REGISTER_WRITE (R6). -/
def execRegisterWrite (off : Nat) (v : Word32) (s : State) : Host.Outcome State Fault Refusal :=
  .next (hostWriteReg off v s)

/-- Meaning of TB0_LO_READ (R614). -/
def execTb0LoRead (path : Path) (s : State) : Host.Outcome State Fault Refusal :=
  .next (if pathUp path s then readEffect path rTimTb0Lo s else s)

/-- Meaning of UND_OFFSET_LO_READ (R614). -/
def execUndOffsetLoRead (path : Path) (s : State) : Host.Outcome State Fault Refusal :=
  .next (if pathUp path s then readEffect path rUndOffsetLo s else s)

/-- Meaning of CUE_BOOK_CTL_MODE_WRITE (R67). -/
def execCueBookCtlModeWrite (path : Path) (v : Word32) (s : State) : Host.Outcome State Fault Refusal :=
  .next (pathWrite path rCueBookCtl v s)

/-- Meaning of UND_CTL_MODE_WRITE (R470). -/
def execUndCtlModeWrite (path : Path) (v : Word32) (s : State) : Host.Outcome State Fault Refusal :=
  .next (pathWrite path rUndCtl v s)

/-- Meaning of CUE_BUF_POINTER_WRITE (R73). -/
def execCueBufPointerWrite (tail : Bool) (v : Word32) (s : State) : Host.Outcome State Fault Refusal :=
  .next (hostWriteReg (if tail then rCueBufTail else rCueBufHead) v s)

/-- Meaning of SNAPSHOT_TRIGGER (R515). -/
def execSnapshotTrigger (busy : Bool) (s : State) : Host.Outcome State Fault Refusal :=
  .next (triggerSnapshot busy s)

/-- Meaning of QUEUED_SNAPSHOT (R515). -/
def execQueuedSnapshot (s : State) : Host.Outcome State Fault Refusal := .next (waitingSnapshot s)

/-- Meaning of ETH_LINK_RECONFIGURE (R617). -/
def execEthLinkReconfigure (eth1 : Bool) (v : Word32) (s : State) : Host.Outcome State Fault Refusal :=
  .next (hostWriteReg (ethCfg eth1) v s)

end Sys2Proof.Machine
end

