-- ==== Sys2Proof/Machine/StageDoor.lean ====
section
/-! DEFINITION. The stage door (R396 to R398) and the recovery boot it serves (R533). The operand of a transaction
holds the bytes after the command byte; `State.hif.miso` holds the bytes it returned. -/

namespace Sys2Proof.Machine

/-- The status word's role (R397). -/
def doorRole (s : State) : Nat :=
  if !s.proc.processing then 0
  else if s.pair.role ≤ 1 then 1
  else if s.pair.role = 7 then 3
  else 2

/-- The status word (R397). A write or load is applied within its step, so BUSY is 0 in every state between steps. -/
def doorStatus (s : State) : Nat :=
  flagBits [s.hif.busy, s.hif.crcErr, s.hif.badCmd, s.hif.denied, s.hif.recovery, s.proc.processing] +
    64 * doorRole s

/-- A transaction while REF runs (R396); else the port is dead and returns nothing. -/
def doorServe (f : State → State) (s : State) : State :=
  let s1 := modHif (fun h => { h with miso := [] }) s
  if pathUp .door s then f s1 else s1

/-- The bytes returned. -/
def answer (l : List Byte) (s : State) : State := modHif (fun h => { h with miso := l }) s

/-- CRC_ERR set (R397). -/
def doorCrcErr (s : State) : State := modHif (fun h => { h with crcErr := true }) s

/-- DENIED set (R397). -/
def doorDenied (s : State) : State := modHif (fun h => { h with denied := true }) s

/-- The transaction's CRC over the command byte and the bytes before the CRC (R129, R397). -/
def doorCrcOk (cmd : Byte) (b : List Byte) : Bool :=
  decide (2 ≤ b.length) && (crc16 (cmd :: b.take (b.length - 2))).toNat == uAt b (b.length - 2) 2

/-- IDENT (R397). -/
def doorIdent (s : State) : State := answer (le 4 (sysId s) ++ le 4 (doorStatus s)) s

/-- STATUS (R397): the word, then the three error bits are cleared. -/
def doorReadStatus (s : State) : State :=
  modHif (fun h => { h with crcErr := false, badCmd := false, denied := false }) (answer (le 4 (doorStatus s)) s)

/-- One word read by the stage door, with what its read latches (R397, R614); an offset that is not aligned reads
ones (R353). -/
def doorReadWord (a : State × List Byte) (o : Nat) : State × List Byte :=
  if o % 4 ≠ 0 then (setRBit rHifErr 0 a.1, a.2 ++ le 4 0xFFFFFFFF)
  else (readEffect .door o a.1, a.2 ++ le 4 (readReg .door a.1 o).toNat)

/-- READ (R397): offset, one dummy byte, then words. -/
def doorRead (b : List Byte) (words : Nat) (s : State) : State :=
  if b.length < 5 then s
  else
    let o := uAt b 0 4
    let x := ((List.range words).map fun i => o + 4 * i).foldl doorReadWord (s, [])
    answer x.2 x.1

/-- WRITE (R397, R398): offset, one or more words, CRC. -/
def doorWrite (b : List Byte) (s : State) : State :=
  if b.length < 10 ∨ b.length % 4 ≠ 2 ∨ doorCrcOk 0x02 b = false then doorCrcErr s
  else
    let o := uAt b 0 4
    let l := words32 ((b.drop 4).take (b.length - 6))
    (List.range l.length).foldl (fun s i => doorWriteReg (o + 4 * i) (l.getD i 0) s) s

/-- LOAD (R397): data for the 256 KiB recovery window. DESIGN CHOICE: bytes beyond the window are left out. -/
def doorLoad (b : List Byte) (s : State) : State :=
  if !s.hif.recovery then doorDenied s
  else if b.length < 6 ∨ doorCrcOk 0x30 b = false then doorCrcErr s
  else
    let o := uAt b 0 4
    let l := (b.drop 4).take (b.length - 6)
    modHif (fun h => { h with window := (l.foldl (fun (a : SMap Byte × Nat) x =>
      (if a.2 < 262144 then smSet 0 a.1 a.2 x else a.1, a.2 + 1)) (h.window, o)).1 }) s

/-- The secure-boot event of the recovery window (R462), with the key slot and security version of its signature
block. -/
def windowBoot (x : ImageIn) (s : State) : State := secureBoot (imageReason s x) x.keySlot x.secVersion 2 s

/-- BOOT (R397, R533): the window is verified; it runs, or the ROM goes on waiting. -/
def doorBoot (b : List Byte) (x : ImageIn) (s : State) : State :=
  if !s.hif.recovery then doorDenied s
  else if b.length ≠ 2 ∨ doorCrcOk 0x31 b = false then doorCrcErr s
  else if imageReason s x ≠ 0 then doorDenied (windowBoot x s)
  else
    modPwr (fun p => { p with recImage := true })
      (modHif (fun h => { h with recovery := false }) (windowBoot x s))

/-- Meaning of IDENT. -/
def execIdent (s : State) : Host.Outcome State Fault Refusal := .next (doorServe doorIdent s)

/-- Meaning of STATUS. -/
def execStatus (s : State) : Host.Outcome State Fault Refusal := .next (doorServe doorReadStatus s)

/-- Meaning of READ. -/
def execRead (bytes : List Byte) (words : Nat) (s : State) : Host.Outcome State Fault Refusal :=
  .next (doorServe (doorRead bytes words) s)

/-- Meaning of WRITE. -/
def execWrite (bytes : List Byte) (s : State) : Host.Outcome State Fault Refusal :=
  .next (doorServe (doorWrite bytes) s)

/-- Meaning of LOAD. -/
def execLoad (bytes : List Byte) (s : State) : Host.Outcome State Fault Refusal :=
  .next (doorServe (doorLoad bytes) s)

/-- Meaning of BOOT. -/
def execBoot (bytes : List Byte) (image : ImageIn) (s : State) : Host.Outcome State Fault Refusal :=
  .next (doorServe (doorBoot bytes image) s)

/-- Meaning of BAD_CMD: the rest of the transaction is ignored (R397); a byte that is a command is none. -/
def execBadCmd (byte : Byte) (s : State) : Host.Outcome State Fault Refusal :=
  .next (doorServe (fun s =>
    if [0x9F#8, 0x05#8, 0x0B#8, 0x02#8, 0x30#8, 0x31#8].contains byte then s
    else modHif (fun h => { h with badCmd := true }) s) s)

end Sys2Proof.Machine
end

