-- ==== Sys2Proof/Machine/Dispatch.lean ====
section
/-! DEFINITION. The meaning of every command, one arm per constructor of `Instr`. -/

namespace Sys2Proof.Machine

/-- The effect of a command on everything but the queue. -/
def exec (i : Instr) (s : State) : Host.Outcome State Fault Refusal :=
  match i with
  | .cue x => Sys2Proof.Machine.execCue x s
  | .sceneBoundary => Sys2Proof.Machine.execSceneBoundary s
  | .workPhase ops => Sys2Proof.Machine.execWorkPhase ops s
  | .heldCommandDue => Sys2Proof.Machine.execHeldCommandDue s
  | .publishPhase => Sys2Proof.Machine.execPublishPhase s
  | .housekeepingPhase ops => Sys2Proof.Machine.execHousekeepingPhase ops s
  | .nop c => Sys2Proof.Machine.execNop c s
  | .reservedOpcode op c => Sys2Proof.Machine.execReservedOpcode op c s
  | .configApply c => Sys2Proof.Machine.execConfigApply c s
  | .configRead c => Sys2Proof.Machine.execConfigRead c s
  | .nodeSend c => Sys2Proof.Machine.execNodeSend c s
  | .floodSend c => Sys2Proof.Machine.execFloodSend c s
  | .rawTx c => Sys2Proof.Machine.execRawTx c s
  | .overtureSend c => Sys2Proof.Machine.execOvertureSend c s
  | .rxPost c => Sys2Proof.Machine.execRxPost c s
  | .nodeAdmit c => Sys2Proof.Machine.execNodeAdmit c s
  | .nodeEvict c => Sys2Proof.Machine.execNodeEvict c s
  | .nodeQuery c => Sys2Proof.Machine.execNodeQuery c s
  | .tableRead c => Sys2Proof.Machine.execTableRead c s
  | .tableWrite c => Sys2Proof.Machine.execTableWrite c s
  | .tableUnlock c => Sys2Proof.Machine.execTableUnlock c s
  | .scheduleSet c => Sys2Proof.Machine.execScheduleSet c s
  | .timeSet c => Sys2Proof.Machine.execTimeSet c s
  | .pulseProgram c => Sys2Proof.Machine.execPulseProgram c s
  | .captureSpectrum c => Sys2Proof.Machine.execCaptureSpectrum c s
  | .imageStage c => Sys2Proof.Machine.execImageStage c s
  | .imageVerify c b => Sys2Proof.Machine.execImageVerify c b s
  | .imageActivate c => Sys2Proof.Machine.execImageActivate c s
  | .imageConfirm c => Sys2Proof.Machine.execImageConfirm c s
  | .tourStart c => Sys2Proof.Machine.execTourStart c s
  | .roleRequest c => Sys2Proof.Machine.execRoleRequest c s
  | .callboardRead c => Sys2Proof.Machine.execCallboardRead c s
  | .selftestRun c fails => Sys2Proof.Machine.execSelftestRun c fails s
  | .keyInstall c => Sys2Proof.Machine.execKeyInstall c s
  | .updateEnd u => Sys2Proof.Machine.execUpdateEnd u s
  | .flashOperationEnd u => Sys2Proof.Machine.execFlashOperationEnd u s
  | .stepSwitch => Sys2Proof.Machine.execStepSwitch s
  | .tourBlock block ok bytes => Sys2Proof.Machine.execTourBlock block ok bytes s
  | .submissionFetch q => Sys2Proof.Machine.execSubmissionFetch q s
  | .fetchComplete q r entry data => Sys2Proof.Machine.execFetchComplete q r entry data s
  | .submissionDoorbell q v => Sys2Proof.Machine.execSubmissionDoorbell q v s
  | .completionDoorbell c v => Sys2Proof.Machine.execCompletionDoorbell c v s
  | .eventDoorbell v => Sys2Proof.Machine.execEventDoorbell v s
  | .vectorHoldExpiry e => Sys2Proof.Machine.execVectorHoldExpiry e s
  | .msixUnmask v => Sys2Proof.Machine.execMsixUnmask v s
  | .endpointReset => Sys2Proof.Machine.execEndpointReset s
  | .barAccessError write => Sys2Proof.Machine.execBarAccessError write s
  | .bar4Write off v => Sys2Proof.Machine.execBar4Write off v s
  | .registerWrite off v => Sys2Proof.Machine.execRegisterWrite off v s
  | .tb0LoRead path => Sys2Proof.Machine.execTb0LoRead path s
  | .undOffsetLoRead path => Sys2Proof.Machine.execUndOffsetLoRead path s
  | .cueBookCtlModeWrite path v => Sys2Proof.Machine.execCueBookCtlModeWrite path v s
  | .undCtlModeWrite path v => Sys2Proof.Machine.execUndCtlModeWrite path v s
  | .cueBufPointerWrite tail v => Sys2Proof.Machine.execCueBufPointerWrite tail v s
  | .portEnable p => Sys2Proof.Machine.execPortEnable p s
  | .portDisable p => Sys2Proof.Machine.execPortDisable p s
  | .portForce p => Sys2Proof.Machine.execPortForce p s
  | .lineCommit n => Sys2Proof.Machine.execLineCommit n s
  | .lineForce n => Sys2Proof.Machine.execLineForce n s
  | .chainEnable c => Sys2Proof.Machine.execChainEnable c s
  | .chainDisable c t => Sys2Proof.Machine.execChainDisable c t s
  | .recal c => Sys2Proof.Machine.execRecal c s
  | .ringEnable k q => Sys2Proof.Machine.execRingEnable k q s
  | .ringDisable k q => Sys2Proof.Machine.execRingDisable k q s
  | .noticeAcknowledge q high low => Sys2Proof.Machine.execNoticeAcknowledge q high low s
  | .queueFlush q => Sys2Proof.Machine.execQueueFlush q s
  | .flushEffect q => Sys2Proof.Machine.execFlushEffect q s
  | .producerResume q => Sys2Proof.Machine.execProducerResume q s
  | .queuePointerMismatch q => Sys2Proof.Machine.execQueuePointerMismatch q s
  | .queueTestEnd q pass => Sys2Proof.Machine.execQueueTestEnd q pass s
  | .rootProgram => Sys2Proof.Machine.execRootProgram s
  | .rootFusingComplete => Sys2Proof.Machine.execRootFusingComplete s
  | .newChal draw => Sys2Proof.Machine.execNewChal draw s
  | .unlock => Sys2Proof.Machine.execUnlock s
  | .snapshotTrigger busy => Sys2Proof.Machine.execSnapshotTrigger busy s
  | .queuedSnapshot => Sys2Proof.Machine.execQueuedSnapshot s
  | .restart => Sys2Proof.Machine.execRestart s
  | .reboot => Sys2Proof.Machine.execReboot s
  | .systemReset => Sys2Proof.Machine.execSystemReset s
  | .kick => Sys2Proof.Machine.execKick s
  | .reqFull => Sys2Proof.Machine.execReqFull s
  | .reqQuiet => Sys2Proof.Machine.execReqQuiet s
  | .reqRetention => Sys2Proof.Machine.execReqRetention s
  | .ethLinkReconfigure eth1 v => Sys2Proof.Machine.execEthLinkReconfigure eth1 v s
  | .ident => Sys2Proof.Machine.execIdent s
  | .status => Sys2Proof.Machine.execStatus s
  | .read bytes words => Sys2Proof.Machine.execRead bytes words s
  | .write bytes => Sys2Proof.Machine.execWrite bytes s
  | .load bytes => Sys2Proof.Machine.execLoad bytes s
  | .boot bytes image => Sys2Proof.Machine.execBoot bytes image s
  | .badCmd byte => Sys2Proof.Machine.execBadCmd byte s
  | .sampleBlockCrcFail b => Sys2Proof.Machine.execSampleBlockCrcFail b s
  | .laneError down lane => Sys2Proof.Machine.execLaneError down lane s
  | .lanePatternTestEnd down lane pass => Sys2Proof.Machine.execLanePatternTestEnd down lane pass s
  | .overloadStep p clips t => Sys2Proof.Machine.execOverloadStep p clips t s
  | .blankBegin c t => Sys2Proof.Machine.execBlankBegin c t s
  | .blankEnd c t => Sys2Proof.Machine.execBlankEnd c t s
  | .lineRetune n t => Sys2Proof.Machine.execLineRetune n t s
  | .windowEnd n t => Sys2Proof.Machine.execWindowEnd n t s
  | .spotlightSummary p bins later windows valid => Sys2Proof.Machine.execSpotlightSummary p bins later windows valid s
  | .detection n d x t => Sys2Proof.Machine.execDetection n d x t s
  | .watchCandidate n d w => Sys2Proof.Machine.execWatchCandidate n d w s
  | .detectTimeout n d t => Sys2Proof.Machine.execDetectTimeout n d t s
  | .syncFieldMatched n d x stepLanding t => Sys2Proof.Machine.execSyncFieldMatched n d x stepLanding t s
  | .headerCheck n d x t => Sys2Proof.Machine.execHeaderCheck n d x t s
  | .displacement n d t => Sys2Proof.Machine.execDisplacement n d t s
  | .receptionCommit n d x t => Sys2Proof.Machine.execReceptionCommit n d x t s
  | .retune c t => Sys2Proof.Machine.execRetune c t s
  | .lockDeclared c t => Sys2Proof.Machine.execLockDeclared c t s
  | .paenRise c t => Sys2Proof.Machine.execPaenRise c t s
  | .coexReqRise c t => Sys2Proof.Machine.execCoexReqRise c t s
  | .launch c grants inhibit t => Sys2Proof.Machine.execLaunch c grants inhibit t s
  | .launchDeadline c grants inhibit t => Sys2Proof.Machine.execLaunchDeadline c grants inhibit t s
  | .risingRampComplete c t => Sys2Proof.Machine.execRisingRampComplete c t s
  | .lastModulatedSample c t => Sys2Proof.Machine.execLastModulatedSample c t s
  | .transmitEnd c measured t => Sys2Proof.Machine.execTransmitEnd c measured t s
  | .lockLost c t => Sys2Proof.Machine.execLockLost c t s
  | .recalibrationEnd c pass t => Sys2Proof.Machine.execRecalibrationEnd c pass t s
  | .preempted c grants t => Sys2Proof.Machine.execPreempted c grants t s
  | .inhibited t => Sys2Proof.Machine.execInhibited t s
  | .tcapEdge pin rising pins widthNs t => Sys2Proof.Machine.execTcapEdge pin rising pins widthNs t s
  | .pinCapture x => Sys2Proof.Machine.execPinCapture x s
  | .pulseFire pin t => Sys2Proof.Machine.execPulseFire pin t s
  | .pulseEnd pin t => Sys2Proof.Machine.execPulseEnd pin t s
  | .transmitEndEntry x => Sys2Proof.Machine.execTransmitEndEntry x s
  | .windowOutcome rx => Sys2Proof.Machine.execWindowOutcome rx s
  | .auditionRequest rx => Sys2Proof.Machine.execAuditionRequest rx s
  | .joinRequest rx => Sys2Proof.Machine.execJoinRequest rx s
  | .lostRequest rx => Sys2Proof.Machine.execLostRequest rx s
  | .data rx => Sys2Proof.Machine.execData rx s
  | .reply rx => Sys2Proof.Machine.execReply rx s
  | .control rx => Sys2Proof.Machine.execControl rx s
  | .floodFrame rx => Sys2Proof.Machine.execFloodFrame rx s
  | .beacon rx => Sys2Proof.Machine.execBeacon rx s
  | .eth0Frame stamp bytes => Sys2Proof.Machine.execEth0Frame stamp bytes s
  | .joinHandoff j => Sys2Proof.Machine.execJoinHandoff j s
  | .joinResult j => Sys2Proof.Machine.execJoinResult j s
  | .forwardedPacket x => Sys2Proof.Machine.execForwardedPacket x s
  | .floodResend x => Sys2Proof.Machine.execFloodResend x s
  | .mapAllocation node codes => Sys2Proof.Machine.execMapAllocation node codes s
  | .tourReport x => Sys2Proof.Machine.execTourReport x s
  | .supervisionTimeout node => Sys2Proof.Machine.execSupervisionTimeout node s
  | .joinTimeout node => Sys2Proof.Machine.execJoinTimeout node s
  | .dormantLimit node => Sys2Proof.Machine.execDormantLimit node s
  | .overtureRetry node => Sys2Proof.Machine.execOvertureRetry node s
  | .peerBeaconMiss x => Sys2Proof.Machine.execPeerBeaconMiss x s
  | .peerSupervisionExpiry x => Sys2Proof.Machine.execPeerSupervisionExpiry x s
  | .holdExpiry node id => Sys2Proof.Machine.execHoldExpiry node id s
  | .leaveHoldExpiry node => Sys2Proof.Machine.execLeaveHoldExpiry node s
  | .lockExpiry => Sys2Proof.Machine.execLockExpiry s
  | .sync m => Sys2Proof.Machine.execSync m s
  | .followUp m => Sys2Proof.Machine.execFollowUp m s
  | .delayResp m => Sys2Proof.Machine.execDelayResp m s
  | .pdelayReq m => Sys2Proof.Machine.execPdelayReq m s
  | .pdelayResp m => Sys2Proof.Machine.execPdelayResp m s
  | .pdelayRespFollowUp m => Sys2Proof.Machine.execPdelayRespFollowUp m s
  | .announce m => Sys2Proof.Machine.execAnnounce m s
  | .announceReceiptTimeout => Sys2Proof.Machine.execAnnounceReceiptTimeout s
  | .syncTimeout => Sys2Proof.Machine.execSyncTimeout s
  | .syncPairDiscard => Sys2Proof.Machine.execSyncPairDiscard s
  | .holdoverLimit => Sys2Proof.Machine.execHoldoverLimit s
  | .hello h => Sys2Proof.Machine.execHello h s
  | .helloDue => Sys2Proof.Machine.execHelloDue s
  | .record h cue segment segments bytes => Sys2Proof.Machine.execRecord h cue segment segments bytes s
  | .ack h cue => Sys2Proof.Machine.execAck h cue s
  | .nak h cue segment => Sys2Proof.Machine.execNak h cue segment s
  | .digest h d => Sys2Proof.Machine.execDigest h d s
  | .time h t1 t2 t3 t4 => Sys2Proof.Machine.execTime h t1 t2 t3 t4 s
  | .resync h => Sys2Proof.Machine.execResync h s
  | .sweep h region offset words last cue => Sys2Proof.Machine.execSweep h region offset words last cue s
  | .forward h words => Sys2Proof.Machine.execForward h words s
  | .stateAuditEnd pass => Sys2Proof.Machine.execStateAuditEnd pass s
  | .releaseDeadline => Sys2Proof.Machine.execReleaseDeadline s
  | .pairLinkLost => Sys2Proof.Machine.execPairLinkLost s
  | .promote levelRise tick => Sys2Proof.Machine.execPromote levelRise tick s
  | .firstLiveCue x => Sys2Proof.Machine.execFirstLiveCue x s
  | .demote t => Sys2Proof.Machine.execDemote t s
  | .leadInTick widthNs => Sys2Proof.Machine.execLeadInTick widthNs s
  | .directorLost => Sys2Proof.Machine.execDirectorLost s
  | .heartbeat unitB widthNs view t => Sys2Proof.Machine.execHeartbeat unitB widthNs view t s
  | .directorHoldExpiry => Sys2Proof.Machine.execDirectorHoldExpiry s
  | .reliefLapse => Sys2Proof.Machine.execReliefLapse s
  | .rehearsal => Sys2Proof.Machine.execRehearsal s
  | .engineException e => Sys2Proof.Machine.execEngineException e s
  | .coreTestEnd e pass checks => Sys2Proof.Machine.execCoreTestEnd e pass checks s
  | .trngHealthFail test => Sys2Proof.Machine.execTrngHealthFail test s
  | .trngRestartEnd pass => Sys2Proof.Machine.execTrngRestartEnd pass s
  | .journalEraseEnd => Sys2Proof.Machine.execJournalEraseEnd s
  | .journalScanComplete t => Sys2Proof.Machine.execJournalScanComplete t s
  | .moduleReadEnd a bytes => Sys2Proof.Machine.execModuleReadEnd a bytes s
  | .moduleEvent x => Sys2Proof.Machine.execModuleEvent x s
  | .vkeepGood => Sys2Proof.Machine.execVkeepGood s
  | .vkeepLost => Sys2Proof.Machine.execVkeepLost s
  | .vinGood tPit tStage => Sys2Proof.Machine.execVinGood tPit tStage s
  | .vinLost => Sys2Proof.Machine.execVinLost s
  | .railFault rail => Sys2Proof.Machine.execRailFault rail s
  | .vioFault bankB => Sys2Proof.Machine.execVioFault bankB s
  | .rstN => Sys2Proof.Machine.execRstN s
  | .trstN => Sys2Proof.Machine.execTrstN s
  | .clockLost domain t => Sys2Proof.Machine.execClockLost domain t s
  | .clockRecovered t => Sys2Proof.Machine.execClockRecovered t s
  | .romStart v => Sys2Proof.Machine.execRomStart v s
  | .bootDone hashesOk t => Sys2Proof.Machine.execBootDone hashesOk t s
  | .bootWatchdog => Sys2Proof.Machine.execBootWatchdog s
  | .keepWatchdog => Sys2Proof.Machine.execKeepWatchdog s
  | .hostWatchdog => Sys2Proof.Machine.execHostWatchdog s
  | .processingStart x => Sys2Proof.Machine.execProcessingStart x s
  | .processingRestart trigger => Sys2Proof.Machine.execProcessingRestart trigger s
  | .retentionWake t => Sys2Proof.Machine.execRetentionWake t s
  | .windowStart n t => Sys2Proof.Machine.execWindowStart n t s
  | .paenFall c t => Sys2Proof.Machine.execPaenFall c t s
  | .tb2Wrap => Sys2Proof.Machine.execTb2Wrap s
  | .mainStartOnCooling tPit tStage => Sys2Proof.Machine.execMainStartOnCooling tPit tStage s
  | .ethLinkUp eth1 speed session => Sys2Proof.Machine.execEthLinkUp eth1 speed session s
  | .ethLinkDown eth1 => Sys2Proof.Machine.execEthLinkDown eth1 s

end Sys2Proof.Machine
end

