-- ==== Sys2Proof/WellFormed.lean ====
section
/-! DEFINITION. Which commands the outside world can send: operands within the ranges that the manual gives its
fields. The meanings run on any operand; an operand that names no unit of the device stops the machine. -/

namespace Sys2Proof

open Sys2Proof.Machine

/-- Die-to-die lanes: 32 upward and the spare, 4 downward and the spare (R13). -/
def laneTotal (down : Bool) : Nat := if down then 5 else 33

/-- A latched submission entry: a ring of the device and 32 parameter bytes (R356, R359). -/
def subOk (c : Sub) : Bool := decide (c.ring < 64) && decide (c.params.length = 32)

/-- Receive metadata: a line, a port and signed 16-bit powers (R155). -/
def rxOk (x : Reception) : Bool :=
  decide (x.line < 96) && decide (x.port < 4) && decide (-32768 ≤ x.rssi) && decide (x.rssi ≤ 32767)

/-- The input of a Cue: a TRNG draw of 32 octets and measurements of the four ports (R41, R78). -/
def cueInOk (i : CueIn) : Bool := decide (i.draw.length = 32) && i.meas.all fun m => decide (m.port < 4)

/-- An error of the Wings: a bank, row, word and bit of R403. -/
def eccOk (f : EccFault) : Bool :=
  decide (f.bank < 98) && decide (f.row < 2048) && decide (f.word < 16) && decide (f.bit < 72)

/-- An address of the Wings (R404). -/
def wingsOk (a : Nat) : Bool := decide (a < 0x1800000)

/-- A happening at the banks names a bank, an address or a hardware queue that exists (R385, R403, R404). -/
def bankOpOk (o : BankOp) : Bool :=
  match o with
  | .error f => eccOk f
  | .collision b _ => decide (b < 98)
  | .write a _ => wingsOk a
  | .atomicAdd _ a _ _ => wingsOk a
  | .atomicSwap _ a _ _ => wingsOk a
  | .bar4Read off => decide (off < 0x800000)
  | .queueWord h _ => decide (h < 256)
  | .queueCommit h _ => decide (h < 256)
  | .queueRewind h => decide (h < 256)
  | .queueRead h _ => decide (h < 256)

/-- The body of an update-end entry (R537). -/
def updEndOk (u : UpdEnd) : Bool := decide (u.ring < 64) && decide (u.opcode < 65536)

/-- A signature block: a key slot of R459, and a security version of at most 64. -/
def imageOk (x : ImageIn) : Bool := decide (x.keySlot ≤ 3) && decide (x.secVersion ≤ 64)

/-- A bundle's manifest: six component versions and requirements (R534). -/
def bundleOk (b : BundleInfo) : Bool :=
  decide (b.versions.length = 6) && decide (b.requires.length = 6) && (b.requires.all fun r => decide (r.length = 6)) && imageOk b.image

/-- A PTP message: a domain octet and a timestamp below a second of nanoseconds (R331). -/
def ptpOk (m : Ptp) : Bool := decide (m.domain < 256) && decide (m.nanos < 1000000000)

/-- A FEID module event: a kind and a socket of R577. -/
def moduleEvOk (x : ModuleEv) : Bool := decide (x.kind ≤ 2) && decide (x.addr < 8)

/-- A join: issuer slot and key material of the lengths of R442. -/
def joinReqOk (j : JoinReq) : Bool :=
  decide (j.slot < 4) && decide (j.nonceN.length = 16) && decide (j.pubKey.length = 64) && decide (j.credSig.length = 64)

/-- The unit that a command names exists; every other command is taken by the device as it stands. -/
def unitExists (i : Instr) : Bool :=
  match i with
  | .submissionFetch q => decide (q < 64)
  | .fetchComplete q _ _ _ => decide (q < 64)
  | .vectorHoldExpiry e => decide (e.vector < 64)
  | .msixUnmask v => decide (v < 64)
  | .laneError down lane => decide (lane < laneTotal down)
  | .lanePatternTestEnd down lane _ => decide (lane < laneTotal down)
  | _ => true

/-- A well-formed command. -/
def wellFormed (i : Instr) : Bool :=
  match i with
  | .cue x => cueInOk x
  | .sceneBoundary => true
  | .workPhase ops => ops.all bankOpOk
  | .heldCommandDue => true
  | .publishPhase => true
  | .housekeepingPhase ops => ops.all bankOpOk
  | .nop c => subOk c
  | .reservedOpcode _ c => subOk c
  | .configApply c => subOk c
  | .configRead c => subOk c
  | .nodeSend c => subOk c
  | .floodSend c => subOk c
  | .rawTx c => subOk c
  | .overtureSend c => subOk c
  | .rxPost c => subOk c
  | .nodeAdmit c => subOk c
  | .nodeEvict c => subOk c
  | .nodeQuery c => subOk c
  | .tableRead c => subOk c
  | .tableWrite c => subOk c
  | .tableUnlock c => subOk c
  | .scheduleSet c => subOk c
  | .timeSet c => subOk c
  | .pulseProgram c => subOk c
  | .captureSpectrum c => subOk c
  | .imageStage c => subOk c
  | .imageVerify c b => subOk c && bundleOk b
  | .imageActivate c => subOk c
  | .imageConfirm c => subOk c
  | .tourStart c => subOk c
  | .roleRequest c => subOk c
  | .callboardRead c => subOk c
  | .selftestRun c fails => subOk c && decide (fails < 65536)
  | .keyInstall c => subOk c
  | .updateEnd u => updEndOk u
  | .flashOperationEnd u => updEndOk u
  | .stepSwitch => true
  | .tourBlock block _ _ => decide (block < 65536)
  | .submissionFetch q => decide (q < 64)
  | .fetchComplete q _ entry _ => decide (q < 64) && decide (entry.length = 64)
  | .submissionDoorbell q v => decide (q < 64) && decide (v < 2 ^ 32)
  | .completionDoorbell c v => decide (c < 64) && decide (v < 2 ^ 32)
  | .eventDoorbell v => decide (v < 2 ^ 32)
  | .vectorHoldExpiry e => decide (e.vector < 64)
  | .msixUnmask v => decide (v < 64)
  | .endpointReset => true
  | .barAccessError _ => true
  | .bar4Write off _ => decide (off < 2 ^ 25)
  | .registerWrite off _ => decide (off < 2 ^ 20)
  | .tb0LoRead _ => true
  | .undOffsetLoRead _ => true
  | .cueBookCtlModeWrite _ _ => true
  | .undCtlModeWrite _ _ => true
  | .cueBufPointerWrite _ _ => true
  | .portEnable _ => true
  | .portDisable _ => true
  | .portForce _ => true
  | .lineCommit _ => true
  | .lineForce _ => true
  | .chainEnable _ => true
  | .chainDisable _ _ => true
  | .recal _ => true
  | .ringEnable _ _ => true
  | .ringDisable _ _ => true
  | .noticeAcknowledge _ _ _ => true
  | .queueFlush _ => true
  | .flushEffect _ => true
  | .producerResume _ => true
  | .queuePointerMismatch _ => true
  | .queueTestEnd _ _ => true
  | .rootProgram => true
  | .rootFusingComplete => true
  | .newChal draw => decide (draw.length = 32)
  | .unlock => true
  | .snapshotTrigger _ => true
  | .queuedSnapshot => true
  | .restart => true
  | .reboot => true
  | .systemReset => true
  | .kick => true
  | .reqFull => true
  | .reqQuiet => true
  | .reqRetention => true
  | .ethLinkReconfigure _ _ => true
  | .ident => true
  | .status => true
  | .read _ _ => true
  | .write _ => true
  | .load _ => true
  | .boot _ x => imageOk x
  | .badCmd _ => true
  | .sampleBlockCrcFail b => b.first.toNat % 16384 == 0
  | .laneError down lane => decide (lane < laneTotal down)
  | .lanePatternTestEnd down lane _ => decide (lane < laneTotal down)
  | .overloadStep _ _ _ => true
  | .blankBegin _ _ => true
  | .blankEnd _ _ => true
  | .lineRetune _ _ => true
  | .windowEnd _ _ => true
  | .spotlightSummary _ bins later windows valid =>
    (bins :: later).all (fun l => decide (l.length ≤ 4096)) && decide (windows.length = later.length + 1) && decide (valid ≤ 1000)
  | .detection _ _ _ _ => true
  | .watchCandidate _ _ _ => true
  | .detectTimeout _ _ _ => true
  | .syncFieldMatched _ _ _ _ _ => true
  | .headerCheck _ _ _ _ => true
  | .displacement _ _ _ => true
  | .receptionCommit _ _ _ _ => true
  | .retune _ _ => true
  | .lockDeclared _ _ => true
  | .paenRise _ _ => true
  | .coexReqRise _ _ => true
  | .launch _ _ _ _ => true
  | .launchDeadline _ _ _ _ => true
  | .risingRampComplete _ _ => true
  | .lastModulatedSample _ _ => true
  | .transmitEnd _ _ _ => true
  | .lockLost _ _ => true
  | .recalibrationEnd _ _ _ => true
  | .preempted _ _ _ => true
  | .inhibited _ => true
  | .tcapEdge _ _ _ _ _ => true
  | .pinCapture x => decide (x.pin < 8)
  | .pulseFire _ _ => true
  | .pulseEnd _ _ => true
  | .transmitEndEntry x => decide (x.result ≤ 15)
  | .windowOutcome rx => rxOk rx
  | .auditionRequest rx => rxOk rx
  | .joinRequest rx => rxOk rx
  | .lostRequest rx => rxOk rx
  | .data rx => rxOk rx
  | .reply rx => rxOk rx
  | .control rx => rxOk rx
  | .floodFrame rx => rxOk rx
  | .beacon rx => rxOk rx
  | .eth0Frame _ _ => true
  | .joinHandoff j => joinReqOk j
  | .joinResult j => joinReqOk j.req
  | .forwardedPacket x => decide (x.node < 131072)
  | .floodResend x => decide (x.ttl < 256)
  | .mapAllocation node _ => decide (node < 131072)
  | .tourReport x => decide (x.node < 131072)
  | .supervisionTimeout node => decide (node < 131072)
  | .joinTimeout node => decide (node < 131072)
  | .dormantLimit node => decide (node < 131072)
  | .overtureRetry node => decide (node < 131072)
  | .peerBeaconMiss x => decide (x < 32)
  | .peerSupervisionExpiry x => decide (x < 32)
  | .holdExpiry node _ => decide (node < 131072)
  | .leaveHoldExpiry node => decide (node < 131072)
  | .lockExpiry => true
  | .sync m => ptpOk m
  | .followUp m => ptpOk m
  | .delayResp m => ptpOk m
  | .pdelayReq m => ptpOk m
  | .pdelayResp m => ptpOk m
  | .pdelayRespFollowUp m => ptpOk m
  | .announce m => ptpOk m
  | .announceReceiptTimeout => true
  | .syncTimeout => true
  | .syncPairDiscard => true
  | .holdoverLimit => true
  | .hello h => decide (h.role ≤ 7)
  | .helloDue => true
  | .record _ _ segment segments b => decide (segment < segments) && decide (b.length ≤ 8184)
  | .ack _ _ => true
  | .nak _ _ segment => decide (segment < 65536)
  | .digest _ _ => true
  | .time _ _ _ _ _ => true
  | .resync _ => true
  | .sweep _ r _ l _ _ => decide (r ≤ 6) && decide (l.length ≤ 1023)
  | .forward _ l => decide (l.length ≤ 512)
  | .stateAuditEnd _ => true
  | .releaseDeadline => true
  | .pairLinkLost => true
  | .promote _ _ => true
  | .firstLiveCue x => cueInOk x
  | .demote _ => true
  | .leadInTick _ => true
  | .directorLost => true
  | .heartbeat _ _ _ _ => true
  | .directorHoldExpiry => true
  | .reliefLapse => true
  | .rehearsal => true
  | .engineException _ => true
  | .coreTestEnd _ _ _ => true
  | .trngHealthFail _ => true
  | .trngRestartEnd _ => true
  | .journalEraseEnd => true
  | .journalScanComplete _ => true
  | .moduleReadEnd _ bytes => decide (bytes.length ≤ 32)
  | .moduleEvent x => moduleEvOk x
  | .vkeepGood => true
  | .vkeepLost => true
  | .vinGood _ _ => true
  | .vinLost => true
  | .railFault _ => true
  | .vioFault _ => true
  | .rstN => true
  | .trstN => true
  | .clockLost _ _ => true
  | .clockRecovered _ => true
  | .romStart v => imageOk v.bootBlock && imageOk v.imageA && imageOk v.imageB
  | .bootDone _ _ => true
  | .bootWatchdog => true
  | .keepWatchdog => true
  | .hostWatchdog => true
  | .processingStart _ => true
  | .processingRestart _ => true
  | .retentionWake _ => true
  | .windowStart _ _ => true
  | .paenFall _ _ => true
  | .tb2Wrap => true
  | .mainStartOnCooling _ _ => true
  | .ethLinkUp _ _ _ => true
  | .ethLinkDown _ => true

end Sys2Proof
end

