-- ==== Sys2Proof/Safety.lean ====
section
/-! DEFINITION. The terms in which statements are made: what a step may change at all, when an engine
takes a command or an item of its list, and what taking it costs. -/

namespace Sys2Proof.Machine

/-! ### What every step keeps -/

/-- Fuses only burn (R435, R437, R461): a programmed ROOT stays, SEC_VERSION and VKEY_REVOKE only grow, and
what the factory set stays. -/
def fusesGrow (a b : Fuses) : Prop :=
  (a.root = none ∨ b.root = a.root) ∧ a.secVer ≤ b.secVer ∧ a.revoke ||| b.revoke = b.revoke ∧
    b.vkeys = a.vkeys ∧ b.dbg = a.dbg ∧ b.dbgKeySet = a.dbgKeySet ∧ b.dbgHash = a.dbgHash ∧
    b.grade = a.grade ∧ b.cols = a.cols

/-- Host memory is in its one canonical form: addresses strictly rising, and no cell equal to what an
unlisted address reads as. -/
def memWf (s : State) : Bool := smWf 0 s.hif.hostMem

/-- What no command may break, from one state to the next: the queue is left alone, fuses only burn, and
host memory keeps its canonical form. -/
def Kept (a b : State) : Prop :=
  b.pending = a.pending ∧ fusesGrow a.sec.fuses b.sec.fuses ∧ (memWf a = true → memWf b = true)

/-- An outcome that answers a next state answers one that `Kept` allows. -/
def KeptO (a : State) (o : Host.Outcome State Fault Refusal) : Prop := ∀ t, o = .next t → Kept a t

/-! ### Taking a command or an item -/

/-- Engine `e` takes an item of this cost now (R53): processing runs, and nothing holds the engine. -/
def canTake (s : State) (e cost : Nat) : Bool := s.proc.processing && !engHeld s e cost

/-- A host command passes every judgement of R378 and waits for no later cue: its action runs. -/
def clears (k : CmdSpec) (c : Sub) (s : State) : Bool :=
  (judged k c s).isNone && (tagOf s c).isNone && (k.check c s).isNone && !mustHold c s

/-- A latched host command whose engine takes it now and whose action runs. -/
def ready (k : CmdSpec) (c : Sub) (s : State) : Bool :=
  !c.aside && canTake s (k.engine c s) (cmdCost k c s) && clears k c s

/-- The state `t` is `u` but for `cost` work units that engine `e` has spent (R51). -/
def paid (e cost : Nat) (u t : State) : Prop :=
  t = { u with engs := t.engs } ∧
    ∀ f, eng t f = if f = e then { eng u e with left := (eng u e).left - cost } else eng u f

/-- The state with an output of engine `e` for this cue's Publish (R57). -/
def withOut (e : Nat) (o : Out) (s : State) : State :=
  { s with proc := { s.proc with outs := s.proc.outs ++ [(e, o)] } }

/-- The state with a record of engine `e` for this cue's Publish (R57, R509). -/
def withRec (e : Nat) (code p1 p2 p3 p4 : Nat) (s : State) : State :=
  withOut e (.record ⟨code, e, 0, s.proc.procCue, s.proc.procStart, w32 p1, w32 p2, w32 p3, w32 p4⟩) s

/-- A frame stamped `st` is one of an earlier cue, which an engine that runs takes now at `cost` (R38). -/
def frameTaken (e cost : Nat) (st : Stamp) (s : State) : Bool :=
  canTake s e cost && !isUnderstudy s && !inReplay s && decide (sdiff64 st s.proc.procStart < 0)

/-- The Stage Manager takes a PTP message of the unit's domain now (R331, R332). -/
def ptpTaken (cost : Nat) (m : Ptp) (s : State) : Bool :=
  frameTaken 10 cost m.stamp s && ptpEn s && m.domain == cfgU s recTime 2 1

/-- The words of a LOCAL record of now (R509). -/
def localWords (code src p1 p2 p3 p4 : Nat) (s : State) : List Word32 :=
  recWords ⟨code, src, 1, s.proc.cueNow, s.time.tb0, w32 p1, w32 p2, w32 p3, w32 p4⟩

/-- A pair frame passes the checks of R475. -/
def pairTaken (h : PairHdr) (m : PairMsg) (s : State) : Bool :=
  pairOpen s && h.mic == pairMic ⟨h.session, h.counter, m⟩ s && s.pair.rxSess == some h.session && decide (s.pair.rxCtr.toNat < h.counter.toNat)

/-- The unit's own part of the pair state replaced. -/
def withPair (p : Pair) (s : State) : State := { s with pair := p }

/-! ### One part changed, every other part of the state as it was -/

/-- The state with the PTP client's own part replaced. -/
def withPtp (p : PtpC) (s : State) : State := { s with time := { s.time with ptp := p } }

/-- Only the stored word at offset `o` differs, and it is `v`. -/
def regOnly (o : Nat) (v : Word32) (s t : State) : Prop :=
  t = { s with regs := t.regs } ∧ ∀ j, reg t j = if j = o then v else reg s j

/-- Only receive port `p` differs, and it is `x`. -/
def portOnly (p : Nat) (x : Port) (s t : State) : Prop :=
  t = { s with ports := t.ports } ∧ ∀ j, port t j = if j = p then x else port s j

/-- Only chorus line `n` differs, and it is `x`. -/
def lineOnly (n : Nat) (x : Line) (s t : State) : Prop :=
  t = { s with lines := t.lines } ∧ ∀ j, line t j = if j = n then x else line s j

/-- Only detector `d` of line `n` differs, and it is `x`. -/
def detOnly (n d : Nat) (x : Det) (s t : State) : Prop :=
  t = { s with lines := t.lines } ∧ ∀ j, line t j = { line s j with dets := (line t j).dets } ∧
    ∀ k, det t j k = if j = n ∧ k = d then x else det s j k

/-- Every reception in progress of port `p` has gained the flags `fl`; nothing else differs. -/
def marked (p : Nat) (fl : BitVec 16) (s t : State) : Prop :=
  t = { s with lines := t.lines } ∧ ∀ n, line t n = { line s n with dets := (line t n).dets } ∧
    ∀ d, det t n d = if (line s n).en = true ∧ linePort (line s n) = p ∧ (det s n d).st ≠ .idle then
      { det s n d with flags := (det s n d).flags ||| fl } else det s n d

/-- The state with a chain's own part replaced. -/
def withTx (c : Chain) (x : Tx) (s : State) : State :=
  match c with
  | .a => { s with txa := x }
  | .b => { s with txb := x }

/-- Only node context `i` differs, and it is `x`. -/
def nodeOnly (i : Nat) (x : Node) (s t : State) : Prop :=
  t = { s with mesh := { s.mesh with nodes := t.mesh.nodes } } ∧ ∀ j, node t j = if j = i then x else node s j

/-- Only engine `e` differs, and it is `x`. -/
def engOnly (e : Nat) (x : Eng) (s t : State) : Prop :=
  t = { s with engs := t.engs } ∧ ∀ j, eng t j = if j = e then x else eng s j

/-- Only pin `i` differs, and it is `x`. -/
def pinOnly (i : Nat) (x : Pin) (s t : State) : Prop :=
  t = { s with time := { s.time with pins := t.time.pins } } ∧ ∀ j, pin t j = if j = i then x else pin s j

/-- Only submission ring `q` differs, and it is `x`. -/
def sqOnly (q : Nat) (x : Sq) (s t : State) : Prop :=
  t = { s with hif := { s.hif with sq := t.hif.sq } } ∧ ∀ j, sq t j = if j = q then x else sq s j

/-- Only completion ring `c` differs, and it is `x`. -/
def cqOnly (c : Nat) (x : Cq) (s t : State) : Prop :=
  t = { s with hif := { s.hif with cq := t.hif.cq } } ∧ ∀ j, cq t j = if j = c then x else cq s j

/-- Only hardware queue `q` differs, and it is `x`. -/
def hwqOnly (q : Nat) (x : Hwq) (s t : State) : Prop :=
  t = { s with hif := { s.hif with queues := t.hif.queues } } ∧ ∀ j, hwq t j = if j = q then x else hwq s j

end Sys2Proof.Machine
end

