-- ==== Sys2Proof/Certificates/Slice0/Obligations.lean ====
section
/-! DEFINITION. The statements about this block, for the provers. Each cites the rules of the spec that it
follows; a quantity the model chose is named with its log entry. -/

open Sys2Proof Sys2Proof.Machine

/-- A step runs the command at the front of the queue. For every command and state, a step with the command at
the front of the queue is exec of it on the state with the rest of the queue; on an empty queue the block
idles (the model's choice, log entry 1). -/
def Obligations.StepRunsFront : Prop :=
  (∀ c r (s : State), step { s with pending := c :: r } = exec c { s with pending := r }) ∧
  (∀ s, s.pending = [] → step s = .next s)

/-- Every command answers a next state, unless its operand names no unit. exec answers a next state for every
command whose ring, vector or lane number names a unit the device has, and the fault noSuchUnit for every
other. Where the spec is silent it says the model's own choice or reading: log entry 82. -/
def Obligations.EveryCommandAnswers : Prop :=
  (∀ i s, unitExists i = true → ∃ t, exec i s = .next t) ∧
  (∀ i s, unitExists i = false → exec i s = .fault .noSuchUnit)

/-- Every step takes one command, only burns fuses and keeps host memory canonical. From every state, a step
that answers a next state leaves the queue one command shorter at its front and otherwise as it was; a
programmed ROOT stays, the security version and the revocations only grow, the factory fuses stay; and host
memory in canonical form stays in canonical form. (R435, R437, R461.) -/
def Obligations.StepKeeps : Prop :=
  ∀ s t, step s = .next t → t.pending = s.pending.tail ∧ fusesGrow s.sec.fuses t.sec.fuses ∧
    (memWf s = true → memWf t = true)

/-- The state right after reset. The empty queue; canonical host memory; cue counter and TB0 at 0; processing
stopped; every register at its reset value; every node context free; both chains off; every line and ring
disabled; TB1, TB2 and TB3 invalid; PTP disabled. That unlisted host memory reads 0 is the model's choice (log
entry 2). Where the spec is silent it says the model's own choice or reading: log entry 11. (R30, R306, R572.) -/
def Obligations.ResetState : Prop :=
  State.reset.pending = [] ∧ memWf State.reset = true ∧ State.reset.proc.cueNow = 0 ∧ State.reset.time.tb0 = 0 ∧
  State.reset.proc.processing = false ∧ (∀ o, reg State.reset o = regReset o) ∧ (∀ a, hostByte State.reset a = 0) ∧
  (∀ i, (node State.reset i).st = .free) ∧ (∀ c, (tx State.reset c).st = .off) ∧
  (∀ n, (line State.reset n).en = false) ∧ (∀ q, q < 64 → sqEn State.reset q = false ∧ cqEn State.reset q = false) ∧
  evEn State.reset = false ∧ State.reset.time.tb1.valid = false ∧ State.reset.time.tb2.valid = false ∧
  State.reset.time.tb3.valid = false ∧ State.reset.time.ptp.st = .disabled

/-- What becomes of a host command that its engine meets. A latched host command does nothing while processing
is stopped; waits with its engine when the budget does not allow it; completes with the status that judging
gives, at 10 work units, and with its Call Board record on WRONG_STATE; is held for a future target cue; or
has its action run. A command served aside is answered by Prompter 1 at once, and only the opcodes R381 names
are so served on an Understudy. Where the spec is silent it says the model's own choice or reading: log
entries 24, 27, 79, 87. (R51 to R56, R378, R381, R497.) -/
def Obligations.HostCommandOutcomes : Prop :=
  (∀ i k c s, rowSpec i = some (k, c) → c.aside = false → s.proc.processing = false → exec i s = .next s) ∧
  (∀ i k c s, rowSpec i = some (k, c) → (∀ x n, i ≠ .selftestRun x n) → c.aside = false → s.proc.processing = true →
      engHeld s (k.engine c s) (cmdCost k c s) = true →
    ∃ t, exec i s = .next t ∧ engOnly (k.engine c s) { eng s (k.engine c s) with
      blocked := true, deferred := (eng s (k.engine c s)).deferred ++ [(s.proc.itemCue, .row i)] } s t) ∧
  (∀ i k c s x, rowSpec i = some (k, c) → (∀ x n, i ≠ .selftestRun x n) → c.aside = false → canTake s (k.engine c s) 10 = true →
      judged k c s = some x → tagOf s c = none → x ≠ stWrongState →
    ∃ t, exec i s = .next t ∧
      paid (k.engine c s) 10 (withOut (k.engine c s) (.complete c k.op x [] []) s) t) ∧
  (∀ i k c s, rowSpec i = some (k, c) → (∀ x n, i ≠ .selftestRun x n) → c.aside = false → canTake s (k.engine c s) 10 = true →
      judged k c s = some stWrongState → tagOf s c = none →
    ∃ t, exec i s = .next t ∧
      paid (k.engine c s) 10 (withOut (k.engine c s) (.complete c k.op stWrongState [] [])
        (withRec (k.engine c s) 0x0006 (k.op % 65536 + 65536 * c.ring) (c.tag.toNat % 2 ^ 32) (c.tag.toNat / 2 ^ 32)
          c.accept.toNat s)) t) ∧
  (∀ i k c s, rowSpec i = some (k, c) → (∀ x n, i ≠ .selftestRun x n) → c.aside = false → canTake s (k.engine c s) 10 = true →
      judged k c s = none → tagOf s c = none → k.check c s = none → mustHold c s = true →
    ∃ t, exec i s = .next t ∧ paid (k.engine c s) 10 { s with proc := { s.proc with
      held := s.proc.held ++ [⟨k.engine c s, c.target, k.op, c⟩] } } t) ∧
  (∀ i k c s, rowSpec i = some (k, c) → (∀ x n, i ≠ .selftestRun x n) → ready k c s = true →
    exec i s = .next (k.act (k.engine c s) c (charge (k.engine c s) (k.cost c s) s))) ∧
  (∀ i k c s, rowSpec i = some (k, c) → (∀ x n, i ≠ .selftestRun x n) → c.aside = true →
    exec i s = .next (handle k 9 c s)) ∧
  (∀ c n s, s.proc.processing = true →
    exec (.selftestRun c n) s = .next (handle (cmdSelftest n) 9 { c with aside := true } s)) ∧
  (∀ i k c s, rowSpec i = some (k, c) → c.aside = true → isUnderstudy s = true → k.aside = false →
    exec i s = .next (completeAside c stNotLead [] [] s)) ∧
  (∀ i k c, rowSpec i = some (k, c) → (k.aside = true ↔ (∃ c, i = .nop c) ∨ (∃ c, i = .configRead c) ∨
    (∃ c, i = .imageStage c) ∨ (∃ c b, i = .imageVerify c b) ∨ (∃ c, i = .imageActivate c) ∨
    (∃ c, i = .imageConfirm c) ∨ (∃ c, i = .roleRequest c) ∨ (∃ c, i = .callboardRead c) ∨
    (∃ c n, i = .selftestRun c n))) ∧
  (∀ c st r d (s : State), epochOk s c = false → c.partner = true →
    completeAside c st r d s = completeWrite c st r d s.proc.cueNow true s)

/-- The order in which a host command is judged. NOT_LEAD, INTEGRITY, BAD_PARAM, WRONG_STATE, TIMEOUT,
NO_RESOURCE and then the command's own checks; the first that applies is the status. A refusal with
WRONG_STATE leaves its record and nothing else. (R378.) -/
def Obligations.JudgingOrder : Prop :=
  (∀ k c (s : State), isUnderstudy s = true → c.aside = true → k.aside = false → judged k c s = some stNotLead) ∧
  (∀ k c (s : State), (isUnderstudy s = false ∨ c.aside = false ∨ k.aside = true) → fetchFailed c = true →
    judged k c s = some stIntegrity) ∧
  (∀ k c (s : State), (isUnderstudy s = false ∨ c.aside = false ∨ k.aside = true) → fetchFailed c = false →
      flagsOk c = false ∨ bufOk k.use c = false ∨ k.static c = false ∨ (c.target ≠ 0 ∧ 65536 < targetDiff c) →
    judged k c s = some stBadParam) ∧
  (∀ k c (s : State), (isUnderstudy s = false ∨ c.aside = false ∨ k.aside = true) → fetchFailed c = false →
      flagsOk c = true → bufOk k.use c = true → k.static c = true → (c.target = 0 ∨ targetDiff c ≤ 65536) →
      k.wrong c s = true → judged k c s = some stWrongState) ∧
  (∀ k c (s : State), (isUnderstudy s = false ∨ c.aside = false ∨ k.aside = true) → fetchFailed c = false →
      flagsOk c = true → bufOk k.use c = true → k.static c = true → k.wrong c s = false → c.target ≠ 0 →
      targetDiff c < 0 → judged k c s = some stTimeout) ∧
  (∀ k c (s : State), (isUnderstudy s = false ∨ c.aside = false ∨ k.aside = true) → fetchFailed c = false →
      flagsOk c = true → bufOk k.use c = true → k.static c = true → k.wrong c s = false → mustHold c s = true →
      targetDiff c ≤ 65536 → 1024 ≤ heldCount s (k.engine c s) → judged k c s = some stNoResource) ∧
  (∀ op c s, isUnderstudy s = false → fetchFailed c = false → judged (cmdReserved op) c s = some stBadParam) ∧
  (∀ e op c s, c.aside = false → refuse e op stWrongState c s =
    withOut e (.complete c op stWrongState [] []) (withRec e 0x0006 (op % 65536 + 65536 * c.ring)
      (c.tag.toNat % 2 ^ 32) (c.tag.toNat / 2 ^ 32) c.accept.toNat s)) ∧
  (∀ e op x c s, c.aside = false → x ≠ stWrongState → refuse e op x c s = withOut e (.complete c op x [] []) s) ∧
  (∀ k c (s : State), (isUnderstudy s = false ∨ c.aside = false ∨ k.aside = true) → fetchFailed c = false →
      flagsOk c = true → bufOk k.use c = true → k.static c = true → k.wrong c s = false →
      c.target = 0 ∨ 0 ≤ targetDiff c ∧ targetDiff c ≤ 65536 → mustHold c s = false ∨ heldCount s (k.engine c s) < 1024 →
    judged k c s = none) ∧
  (∀ k e c (s : State) x, tagOf s c = none → judged k c s = some x → handle k e c s = refuse e k.op x c s) ∧
  (∀ k e c (s : State) x, tagOf s c = none → judged k c s = none → k.check c s = some x →
    handle k e c s = refuse e k.op x c s)

/-- NOP, reserved opcodes, CONFIG_APPLY, CONFIG_READ and RX_POST. What each of these commands writes and what
it costs when it runs. Where the spec is silent it says the model's own choice or reading: log entries 24, 63,
78. (R51, R376, R379, R380, R383.) -/
def Obligations.SimpleHostCommands : Prop :=
  (∀ c s, ready cmdNop c s = true →
    ∃ t, exec (.nop c) s = .next t ∧ paid 8 10 (withOut 8 (.complete c 0x0001 stOk [] []) s) t) ∧
  (∀ (op : BitVec 16) c s, c.aside = false → fetchFailed c = false → tagOf s c = none → canTake s 8 10 = true →
    ∃ t, exec (.reservedOpcode op c) s = .next t ∧
      paid 8 10 (withOut 8 (.complete c op.toNat stBadParam [] []) s) t) ∧
  (∀ c s, ready cmdConfigApply c s = true →
    ∃ t, exec (.configApply c) s = .next t ∧
      paid 8 (200 + blocksOf 64 (recLen (pU c 32 2)))
        (withOut 8 (.complete c 0x0010 stOk
            (le 4 ((presentGen s (pU c 32 2) + 1) % 2 ^ 32) ++ le 4 (cueOfEffect s (pU c 32 2) c.data).toNat) [])
          { s with cfgs := smSet {} s.cfgs (pU c 32 2) { cfgOf s (pU c 32 2) with
              wait := some (c.data, (presentGen s (pU c 32 2) + 1) % 2 ^ 32, cueOfEffect s (pU c 32 2) c.data) } }) t) ∧
  (∀ c s, ready cmdConfigRead c s = true → pU c 34 2 = 0 →
    ∃ t, exec (.configRead c) s = .next t ∧
      paid 8 10 (withOut 8 (.complete c 0x0011 stOk
        (le 4 (cfgOf s (pU c 32 2)).gen ++ le 4 (cfgBytes s (pU c 32 2)).length) (cfgBytes s (pU c 32 2))) s) t) ∧
  (∀ c s b g n, ready cmdConfigRead c s = true → pU c 34 2 = 1 → (cfgOf s (pU c 32 2)).wait = some (b, g, n) →
    ∃ t, exec (.configRead c) s = .next t ∧
      paid 8 10 (withOut 8 (.complete c 0x0011 stOk (le 4 g ++ le 4 b.length) b) s) t) ∧
  (∀ c s, ready cmdRxPost c s = true →
    ∃ t, exec (.rxPost c) s = .next t ∧
      paid 8 10 { s with hif := { s.hif with
        cq := smSet {} s.hif.cq c.ring { cq s c.ring with pool := (cq s c.ring).pool ++ [c] } } } t)

/-- RAW_TX, OVERTURE_SEND, TIME_SET, PULSE_PROGRAM and CAPTURE_SPECTRUM. RAW_TX and OVERTURE_SEND leave one
transmit request with the fields of their parameters; TIME_SET of TB3 puts its value and rate to take effect;
PULSE_PROGRAM stores the program; CAPTURE_SPECTRUM starts the capture. Where the spec is silent it says the
model's own choice or reading: log entries 4, 24, 58, 60, 75, 81. (R110, R167, R203, R205, R316, R320.) -/
def Obligations.RequestAndTimeCommands : Prop :=
  (∀ c s, ready cmdRawTx c s = true →
    ∃ t r use, exec (.rawTx c) s = .next t ∧
      paid 9 10 (withOut 9 (.tx r) { s with mesh := { s.mesh with
        items := s.mesh.items + 1, uses := s.mesh.uses ++ [use] } }) t ∧
      use.item = r.item ∧ use.use = .cmd 0x0022 c ∧
      r.chain = chainOf (pU c 50 1) ∧ r.carrier = BitVec.ofNat 64 (pU c 32 8) ∧ r.offset = pS c 40 4 ∧
      r.power = pS c 48 2 ∧ r.pers = BitVec.ofNat 8 (pU c 51 1) ∧ r.phy = w32 (pU c 44 4) ∧
      r.ramps = BitVec.ofNat 8 (pU c 52 1) ∧ r.flags = BitVec.ofNat 8 (pU c 53 1) ∧ r.tag = pU c 54 1 ∧
      r.frame = c.data ∧ r.length = (if phyOf (pU c 51 1) = .lofdm then c.length - 40 else c.length) ∧
      r.start = plus (cueStartOf s ((if c.target = 0 then c.accept else c.target) + 1)) ((pU c 56 4 * 1024 + 5) / 10)) ∧
  (∀ c s, ready cmdOvertureSend c s = true →
    ∃ t r use, exec (.overtureSend c) s = .next t ∧
      paid 9 10 (withOut 9 (.tx r) { s with mesh := { s.mesh with
        items := s.mesh.items + 1, uses := s.mesh.uses ++ [use] } }) t ∧
      use.item = r.item ∧ use.use = .cmd 0x0023 c ∧
      r.chain = chainOf (pU c 46 1) ∧ r.carrier = BitVec.ofNat 64 (pU c 32 8) ∧ r.power = pS c 50 2 ∧
      r.flags = 2 ∧ r.tag = pU c 49 1 ∧ r.phy = w32 (pU c 47 1 + 256 * pU c 48 1) ∧
      r.frame = be 4 (pU c 40 4) ++ be 2 (pU c 44 2) ∧
      r.start = plus (cueStartOf s ((if c.target = 0 then c.accept else c.target) + 1)) ((pU c 52 4 * 1024 + 5) / 10)) ∧
  (∀ c s, ready cmdTimeSet c s = true → pU c 33 1 = 0 → pU c 32 1 = 3 →
    ∃ t, exec (.timeSet c) s = .next t ∧ t.time.tb3.pend = s.time.tb3.pend ++ [.set (BitVec.ofNat 64 (pU c 40 8)) (pS c 36 4)] ∧
     t = { s with engs := t.engs, proc := t.proc, time := { s.time with tb3 := t.time.tb3 } }) ∧
  (∀ c s, ready cmdPulseProgram c s = true →
    ∃ t, exec (.pulseProgram c) s = .next t ∧
      paid 10 10 (withOut 10 (.complete c 0x0061 stOk [] []) { s with time := { s.time with
        pins := smSet {} s.time.pins (8 + pU c 32 1) { pin s (8 + pU c 32 1) with next := some (pulseOf c) } } }) t) ∧
  (∀ c s, ready cmdCapture c s = true → sdiff32 s.proc.procCue (if c.target = 0 then c.accept + 1 else c.target) < 0 →
    ∃ t g d, exec (.captureSpectrum c) s = .next t ∧
      (sdiff32 s.proc.cueNow (if c.target = 0 then c.accept + 1 else c.target) < 0 → g = none ∧ d = false) ∧
      paid 9 10 { s with hif := { s.hif with capture := some {
        sub := c, left := captureCues c, start := if c.target = 0 then c.accept + 1 else c.target, gain := g, dead := d } } } t)

/-- NODE_SEND, FLOOD_SEND, NODE_ADMIT, NODE_EVICT, NODE_QUERY and SCHEDULE_SET. What each node command leaves
in the node contexts, the flood queue and the completions, and what it costs. Where the spec is silent it says
the model's own choice or reading: log entries 24, 64, 66, 67. (R264 to R269.) -/
def Obligations.NodeCommands : Prop :=
  (∀ c s, ready cmdNodeSend c s = true →
    downRefusal s (cmdNode c) c.data.length (bit (pU c 36 2) 3) = none →
    ((node s (cmdNode c)).st = .dormant → bit (pU c 36 2) 1 = false) →
    ∃ t d, exec (.nodeSend c) s = .next t ∧
      d.cmd = some c ∧ d.id = s.mesh.items ∧ d.dest = cmdNode c ∧ d.payload = c.data ∧
      d.ack = bit (pU c 36 2) 0 ∧ d.wake = bit (pU c 36 2) 1 ∧ d.coexPri = bit (pU c 36 2) 2 ∧
      d.mic16 = bit (pU c 36 2) 3 ∧ d.tries = pU c 38 1 + 1 ∧
      d.expiry = s.proc.procCue + BitVec.ofNat 32 (pU c 40 2) ∧ d.sent = false ∧ d.acked = false ∧
      paid (owner (cmdNode c)) (60 + 2 * blocksOf 16 c.length) { s with mesh := { s.mesh with
        items := s.mesh.items + 1
        nodes := smSet {} s.mesh.nodes (cmdNode c)
          { node s (cmdNode c) with downs := (node s (cmdNode c)).downs ++ [d] } } } t) ∧
  (∀ c s, ready cmdFloodSend c s = true → bit (pU c 33 1) 1 = false →
    ∃ t x, exec (.floodSend c) s = .next t ∧
      x.cmd = some c ∧ x.scope = BitVec.ofNat 8 (pU c 32 1) ∧ x.grand = bit (pU c 33 1) 0 ∧
      x.seq = BitVec.ofNat 16 (8 * s.mesh.floodCnt) ∧ x.sentIn = [] ∧ x.sentOk = 0 ∧
      x.planned = (floodEntries s (BitVec.ofNat 8 (pU c 32 1)) (bit (pU c 33 1) 0)).length ∧
      paid 0 (60 + 2 * blocksOf 16 c.length) { s with mesh := { s.mesh with
        seqs := smMod 0 s.mesh.seqs 0 (fun q => (q + 1) % 256), floodCnt := (s.mesh.floodCnt + 1) % 8192
        items := s.mesh.items + 1, floods := s.mesh.floods ++ [x] } } t) ∧
  (∀ c s i s1, ready cmdNodeAdmit c s = true →
    allocNode (BitVec.ofNat 64 (pU c 32 8)) (pU c 40 1 == 1) (pU c 41 1) .admitted true (charge 8 10 s) = (.inr i, s1) →
    ∃ t n, exec (.nodeAdmit c) s = .next t ∧
      paid 8 10 (withOut 8 (.complete c 0x0030 stOk (le 4 i) []) { s with
        mesh := { s.mesh with
          ctxOps := s.mesh.ctxOps ++ [.place i n]
          ops := s.mesh.ops ++ [.addKey i false (BitVec.ofNat 64 (pU c 32 8))] } }) t ∧
      n.st = .admitted ∧ n.eui = BitVec.ofNat 64 (pU c 32 8) ∧ n.grand = (pU c 40 1 == 1) ∧ n.pan = pU c 41 1 ∧
      n.byAdmit = true ∧ n.stCue = s.proc.procCue) ∧
  (∀ c s, ready cmdNodeEvict c s = true → bit (pU c 37 1) 0 = true → (node s (cmdNode c)).downs = [] →
    (node s (cmdNode c)).upd = none →
    ∃ t, exec (.nodeEvict c) s = .next t ∧
      paid (owner (cmdNode c)) 10 { s with mesh := { s.mesh with
        nodes := smSet {} s.mesh.nodes (cmdNode c) { node s (cmdNode c) with
          st := .leaving, stCue := s.proc.procCue, leaveSent := false
          leave := some (pU c 36 1, some c, s.proc.procCue + BitVec.ofNat 32 (cfgU s recFwd 10 2)) } } } t) ∧
  (∀ c s, ready cmdNodeQuery c s = true →
    ∃ t rest, exec (.nodeQuery c) s = .next t ∧ rest.length = 59 ∧
      paid (owner (cmdNode c)) 10 (withOut (owner (cmdNode c)) (.complete c 0x0032 stOk []
        (le 4 (cmdNode c) ++ le 1 (stCode (node s (cmdNode c)).st) ++ rest)) s) t) ∧
  (∀ c s, ready cmdScheduleSet c s = true → (node s (cmdNode c)).upd = none →
    ∃ t, exec (.scheduleSet c) s = .next t ∧
      paid (owner (cmdNode c)) 10 { s with mesh := { s.mesh with nodes := t.mesh.nodes } } t ∧
      (∀ j, j ≠ cmdNode c → node t j = node s j) ∧
      node t (cmdNode c) = { node s (cmdNode c) with upd := some {
        event := eventAt (node s (cmdNode c)) s.proc.procStart +
          BitVec.ofNat 32 (max 8 (3 * ((node s (cmdNode c)).lat + 1)))
        intv := pU c 36 2, lat := pU c 38 2, sup := pU c 40 2
        map := if bit (pU c 42 2) 0 then BitVec.ofNat 128 (pU c 44 16) else (node s (cmdNode c)).map
        cmd := some c } })

/-- TABLE_READ, TABLE_WRITE and TABLE_UNLOCK. A read answers the entries of its range and, when asked, takes a
lock; a write joins the operations of its table; an unlock releases the lock that is held. Where the spec is
silent it says the model's own choice or reading: log entries 24, 72. (R292 to R296.) -/
def Obligations.TableCommands : Prop :=
  (∀ c s, ready cmdTableRead c s = true → bit (pU c 33 1) 0 = false → pU c 32 1 ≠ 2 →
    ∃ t es, exec (.tableRead c) s = .next t ∧
      es = (List.range (pU c 40 2)).filterMap (fun i => tableEntry s (pU c 32 1) (pU c 34 1) (pU c 36 4 + i)) ∧
      paid 8 (50 + pU c 40 2) (withOut 8 (.complete c 0x0040 stOk
        (le 2 es.length ++ le 2 0 ++ le 4 (tableCount s (pU c 32 1) (pU c 34 1))) es.flatten) s) t) ∧
  (∀ c s, ready cmdTableRead c s = true → bit (pU c 33 1) 0 = true → pU c 32 1 ≠ 2 →
    ∃ t es, exec (.tableRead c) s = .next t ∧
      es = (List.range (pU c 40 2)).filterMap (fun i => tableEntry s (pU c 32 1) (pU c 34 1) (pU c 36 4 + i)) ∧
      paid 8 (50 + pU c 40 2) (withOut 8 (.complete c 0x0040 stOk
        (le 2 es.length ++ le 2 0 ++ le 4 (tableCount s (pU c 32 1) (pU c 34 1))) es.flatten) { s with mesh := { s.mesh with
        locks := s.mesh.locks ++ [⟨pU c 32 1, pU c 34 1, s.proc.procCue⟩] } }) t) ∧
  (∀ c s, ready cmdTableWrite c s = true → pU c 32 1 = 0 →
    ∃ t, exec (.tableWrite c) s = .next t ∧
      paid 8 (50 + twCount c) { s with mesh := { s.mesh with ops := s.mesh.ops ++ [.write c 0] } } t) ∧
  (∀ c s, ready cmdTableWrite c s = true → pU c 32 1 = 2 →
    ∃ t, exec (.tableWrite c) s = .next t ∧
      paid 9 (50 + twCount c) { s with mesh := { s.mesh with lpmOps := s.mesh.lpmOps ++ [.write c 0] } } t) ∧
  (∀ c s, ready cmdTableWrite c s = true → pU c 32 1 = 0 ∨ pU c 32 1 = 2) ∧
  (∀ c s, ready cmdTableUnlock c s = true →
    ∃ t l, exec (.tableUnlock c) s = .next t ∧ l ∈ s.mesh.locks ∧ l.table = pU c 32 1 ∧ l.part = pU c 34 1 ∧
      paid (tableEngine c s) 10 (withOut (tableEngine c s) (.complete c 0x0042 stOk (le 4 l.cue.toNat) [])
        { s with mesh := { s.mesh with unlocks := s.mesh.unlocks ++ [l] } }) t)

/-- IMAGE_STAGE, IMAGE_VERIFY, IMAGE_ACTIVATE and IMAGE_CONFIRM. Staging opens the other slot, verifying
starts the check of the staged bundle, activating starts the roll at step 0, confirming ends the trial and
starts the blow of the fuses. Where the spec is silent it says the model's own choice or reading: log entries
24, 36, 38. (R536 to R545.) -/
def Obligations.ImageCommands : Prop :=
  (∀ c s, ready cmdImageStage c s = true → c.partner = false →
    ∃ t, exec (.imageStage c) s = .next t ∧
      paid 8 10 { s with upd := t.upd } t ∧
      t.upd.staging = some c ∧ t.upd.verified = false ∧ t.upd.bundle = none ∧ (selNow t.upd).staged = 0) ∧
  (∀ c b s, ready (cmdImageVerify b) c s = true → c.partner = false →
    ∃ t, exec (.imageVerify c b) s = .next t ∧
      paid 11 10 { s with upd := { s.upd with verifying := some (c, b) } } t) ∧
  (∀ c b s, ready cmdImageActivate c s = true → c.partner = false → s.upd.bundle = some b →
    ∃ t r, exec (.imageActivate c) s = .next t ∧
      paid 8 10 (withOut 8 (.record ⟨0xA003, 8, 0, s.proc.procCue, s.proc.procStart, 0, 0, 0, 0⟩)
        { s with upd := t.upd }) t ∧
      t.upd.roll = some r ∧ r.cue = s.proc.procCue ∧ r.sub = some c ∧ r.step = 0 ∧ r.version = b.version ∧
      t.upd.lastStep = 0) ∧
  (∀ c s, ready cmdImageConfirm c s = true → c.partner = false →
    ∃ t, exec (.imageConfirm c) s = .next t ∧
      paid 8 10 { s with upd := t.upd } t ∧
      t.upd.confirming = some c ∧ (selNow t.upd).trial = false)

/-- TOUR_START, tour blocks and tour reports. A Tour begins with its nodes, its blocks and round 1; a block
that arrives and checks adds its fragments, one that fails ends the Tour with INTEGRITY; a report of
completeness marks its node. Where the spec is silent it says the model's own choice or reading: log entries
21, 24, 38. (R551 to R558.) -/
def Obligations.TourCommands : Prop :=
  (∀ c s, ready cmdTourStart c s = true → tourNodes c s ≠ [] →
    ∃ t tour, exec (.tourStart c) s = .next t ∧
      paid 8 10 { s with
        upd := { s.upd with tour := some tour, tourId := (s.upd.tourId + 1) % 256 } } t ∧
      tour.id = s.upd.tourId % 256 ∧ tour.round = 1 ∧ tour.sub = c ∧ tour.nodes = tourNodes c s ∧
      tour.need = List.range (ceilDiv c.length 4096) ∧ tour.ending = none ∧ tour.marked = false) ∧
  (∀ s tour, s.upd.tour = some tour → tour.marked = false →
    (∀ i, node (markTour s) i = if i ∈ tour.nodes ∧ isAlloc (node s i) = true then
      { node s i with tour := [tour.id, 1, 0, 0, 0, 0] } else node s i) ∧
    { (markTour s) with mesh := s.mesh, upd := s.upd } = s ∧
    (markTour s).upd = { s.upd with tour := some { tour with marked := true } }) ∧
  (∀ c s, ready cmdTourStart c s = true → tourNodes c s = [] →
    ∃ t, exec (.tourStart c) s = .next t ∧ paid 8 10 (withOut 8 (.complete c 0x0084 stOk [] []) s) t) ∧
  (∀ b ok l s, s.proc.processing = true → engHeld s 0 10 = false → s.upd.tour = none →
    ∃ t, exec (.tourBlock b ok l) s = .next t ∧ paid 0 10 s t) ∧
  (∀ b l s x, s.proc.processing = true → engHeld s 0 10 = false → s.upd.tour = some x → x.ending = none →
      b ∈ x.need.take x.asked → (∀ f ∈ x.frags, f.1 ≠ b) →
    ∃ t, exec (.tourBlock b true l) s = .next t ∧
      paid 0 10 { s with upd := { s.upd with tour := some { x with frags := sortBy fragBefore (x.frags ++ fragsOf x b l) } } } t) ∧
  (∀ b l s x, s.proc.processing = true → engHeld s 0 10 = false → s.upd.tour = some x → x.ending = none →
      b ∈ x.need.take x.asked → (∀ f ∈ x.frags, f.1 ≠ b) →
    ∃ t, exec (.tourBlock b false l) s = .next t ∧
      paid 0 10 (withOut 0 (.record ⟨0xA00F, 0, 0, s.proc.procCue, s.proc.procStart, 0, 0, 0, 0⟩)
        (withOut 0 (.complete x.sub 0x0084 stIntegrity [] [])
          { s with upd := { s.upd with tour := some { x with ending := some 2, frags := [], announce := false } } })) t) ∧
  (∀ r s x, s.proc.processing = true → engHeld s 0 10 = false → s.upd.tour = some x → x.ending = none →
      r.tour = x.id → inTour x.id (node s r.node) = true → tourField (node s r.node) 1 ≠ 3 → r.complete = true →
    ∃ t, exec (.tourReport r) s = .next t ∧
      paid 0 10 { s with mesh := { s.mesh with nodes := t.mesh.nodes } } t ∧
      ∀ j, node t j = if j = r.node then { node s j with tour := [x.id, 3, r.first, r.held, x.round, 0] } else node s j) ∧
  (∀ r s x, s.proc.processing = true → engHeld s 0 10 = false → s.upd.tour = some x → r.tour ≠ x.id →
    ∃ t, exec (.tourReport r) s = .next t ∧ paid 0 10 s t)

/-- ROLE_REQUEST and CALLBOARD_READ. A relief request lowers the view one cue later; a status request answers
the unit's view of the pair; CALLBOARD_READ answers the records of its range. Where the spec is silent it says
the model's own choice or reading: log entries 24, 48. (R469, R503, R521.) -/
def Obligations.RoleReadAndTestCommands : Prop :=
  (∀ c s, ready cmdRoleRequest c s = true → pU c 32 1 = 0 →
    ∃ t, exec (.roleRequest c) s = .next t ∧
      paid 10 10 (withOut 10 (.complete c 0x0090 stOk [] [])
        { s with pair := { s.pair with viewLow := some (s.proc.cueNow + 1) } }) t) ∧
  (∀ c s, ready cmdRoleRequest c s = true → pU c 32 1 = 1 → c.partner = false →
    ∃ t, exec (.roleRequest c) s = .next t ∧
      paid 10 10 (withOut 10 (.complete c 0x0090 stOk (le 1 s.pair.role ++ le 1 s.pair.held.length ++
        le 2 (ofBool (votePresent s) + 2 * ofBool (s.pwr.eth1Up && s.pair.agree)) ++ leI 4 s.pair.k) []) s) t) ∧
  (∀ c s, ready cmdCallboardRead c s = true →
    ∃ t, exec (.callboardRead c) s = .next t ∧
      paid 10 10 (withOut 10 (.complete c 0x00A0 stOk
        (boardRead s.board (w32 (pU c 32 4)) (pU c 36 2) (bit (pU c 38 1) 0)).2
        (boardRead s.board (w32 (pU c 32 4)) (pU c 36 2) (bit (pU c 38 1) 0)).1) s) t)

/-- The submission, completion and event doorbells. A doorbell of a disabled ring only sets the error bit; a
value outside the ring, or past what the ring holds, sets the ring's error and leaves its record; any other
value moves the pointer. Where the spec is silent it says the model's own choice or reading: log entry 74.
(R366 to R370.) -/
def Obligations.Doorbells : Prop :=
  (∀ q v s, q < 64 → sqEn s q = false →
    ∃ u t, exec (.submissionDoorbell q v) s = .next t ∧ sqOnly q { sq s q with bell := w32 v } s u ∧
      regOnly rHifErr (reg s rHifErr ||| 4#32) u t) ∧
  (∀ q v s, q < 64 → sqEn s q = true → v < 2 ^ 32 → 2 * sqSize s q ≤ v ∨
      sqSize s q < (v + 2 * sqSize s q - (sq s q).head) % (2 * sqSize s q) →
    ∃ u, exec (.submissionDoorbell q v) s = .next (emitLocal 0x6001 145 0 0 0 0 u) ∧
      sqOnly q { sq s q with bell := w32 v, error := true } s u) ∧
  (∀ q v s, q < 64 → sqEn s q = true → v < 2 * sqSize s q → v < 2 ^ 32 →
      (v + 2 * sqSize s q - (sq s q).head) % (2 * sqSize s q) ≤ sqSize s q →
    ∃ t, exec (.submissionDoorbell q v) s = .next t ∧
      sqOnly q { sq s q with bell := w32 v, tail := v } s t) ∧
  (∀ q v s, 64 ≤ q → exec (.submissionDoorbell q v) s = .next s) ∧
  (∀ c v s, c < 64 → cqEn s c = false →
    ∃ u t, exec (.completionDoorbell c v) s = .next t ∧ cqOnly c { cq s c with bell := w32 v } s u ∧
      regOnly rHifErr (reg s rHifErr ||| 4#32) u t) ∧
  (∀ c v s, c < 64 → cqEn s c = true → v < 2 ^ 32 → 2 * cqSize s c ≤ v ∨
      cqCount s c < ((cq s c).tail + 2 * cqSize s c - v) % (2 * cqSize s c) →
    ∃ u, exec (.completionDoorbell c v) s = .next (emitLocal 0x6001 146 0 0 0 0 u) ∧
      cqOnly c { cq s c with bell := w32 v, error := true } s u) ∧
  (∀ c v s, c < 64 → cqEn s c = true → v < 2 * cqSize s c → v < 2 ^ 32 →
      ((cq s c).tail + 2 * cqSize s c - v) % (2 * cqSize s c) ≤ cqCount s c →
    ∃ t, exec (.completionDoorbell c v) s = .next t ∧
      cqOnly c { cq s c with bell := w32 v, head := v, error := false } s t) ∧
  (∀ c v s, 64 ≤ c → exec (.completionDoorbell c v) s = .next s) ∧
  (∀ v s, evEn s = false →
    ∃ t, exec (.eventDoorbell v) s = .next t ∧
      regOnly rHifErr (reg s rHifErr ||| 4#32) { s with hif := { s.hif with evr := { s.hif.evr with bell := w32 v } } } t) ∧
  (∀ v s, evEn s = true → v < 2 ^ 32 → 2 * evSize s ≤ v ∨
      evCount s < (s.hif.evr.tail + 2 * evSize s - v) % (2 * evSize s) →
    exec (.eventDoorbell v) s = .next (emitLocal 0x6001 147 0 0 0 0
      { s with hif := { s.hif with evr := { s.hif.evr with bell := w32 v, error := true } } })) ∧
  (∀ v s, evEn s = true → v < 2 * evSize s → v < 2 ^ 32 →
      (s.hif.evr.tail + 2 * evSize s - v) % (2 * evSize s) ≤ evCount s → s.hif.evr.lost = 0 →
    exec (.eventDoorbell v) s = .next
      { s with hif := { s.hif with evr := { s.hif.evr with bell := w32 v, head := v, error := false } } }) ∧
  (∀ v s, evEn s = true → v < 2 * evSize s → v < 2 ^ 32 →
      (s.hif.evr.tail + 2 * evSize s - v) % (2 * evSize s) < evSize s - 1 →
      (s.hif.evr.tail + 2 * evSize s - v) % (2 * evSize s) ≤ evCount s → s.hif.evr.lost ≠ 0 →
    exec (.eventDoorbell v) s = .next (emitLocal 0x6002 147 s.hif.evr.lost 0 0 0
      { s with hif := { s.hif with evr := { s.hif.evr with bell := w32 v, head := v, error := false, lost := 0 } } }))

/-- Enabling and disabling the rings. Enabling a ring of any kind answers a next state with EN set: a ring
that was off has its pointers at 0 and its errors clear, a completion ring also takes the next epoch, the
event ring tells of the records lost; one that was on is as before. Disabling answers a next state with EN
clear and gives back the entries in flight. Where the spec is silent it says the model's own choice or
reading: log entry 18. (R362 to R364.) -/
def Obligations.RingEnablesAndDisables : Prop :=
  (∀ k (q : Fin 64) s, rbit s (ringCfg k q) 0 = true → exec (.ringEnable k q) s = .next s) ∧
  (∀ (q : Fin 64) s, rbit s (ringCfg .submission q) 0 = false →
    ∃ u t, exec (.ringEnable .submission q) s = .next t ∧
      regOnly (ringCfg .submission q) (reg s (ringCfg .submission q) ||| 1#32) s u ∧
      sqOnly q { sq s q with head := 0, tail := 0, error := false, readFault := false } u t) ∧
  (∀ (q : Fin 64) s, rbit s (ringCfg .completion q) 0 = false →
    ∃ u t, exec (.ringEnable .completion q) s = .next t ∧
      regOnly (ringCfg .completion q) (reg s (ringCfg .completion q) ||| 1#32) s u ∧
      cqOnly q { cq s q with head := 0, tail := 0, error := false, epoch := ((cq s q).epoch + 1) % 128 } u t) ∧
  (∀ (q : Fin 64) s, rbit s rHifEqCfg 0 = false → s.hif.evr.lost = 0 →
    ∃ u, regOnly rHifEqCfg (reg s rHifEqCfg ||| 1#32) s u ∧
      exec (.ringEnable .event q) s =
        .next { u with hif := { u.hif with evr := { u.hif.evr with head := 0, tail := 0, error := false } } }) ∧
  (∀ (q : Fin 64) s, rbit s rHifEqCfg 0 = false → s.hif.evr.lost ≠ 0 → 1 ≤ rbits s rHifEqCfg 5 1 →
    ∃ u, regOnly rHifEqCfg (reg s rHifEqCfg ||| 1#32) s u ∧
      exec (.ringEnable .event q) s = .next (emitLocal 0x6002 147 s.hif.evr.lost 0 0 0
        { u with hif := { u.hif with evr := { u.hif.evr with head := 0, tail := 0, error := false, lost := 0 } } })) ∧
  (∀ (q : Fin 64) s, rbit s rHifEqCfg 0 = false → rbits s rHifEqCfg 5 1 = 0 →
    ∃ u, regOnly rHifEqCfg (reg s rHifEqCfg ||| 1#32) s u ∧
      exec (.ringEnable .event q) s =
        .next { u with hif := { u.hif with evr := { u.hif.evr with head := 0, tail := 0, error := false } } }) ∧
  (∀ k (q : Fin 64) s, ∃ t, exec (.ringEnable k q) s = .next t ∧ rbit t (ringCfg k q) 0 = true) ∧
  (∀ (q : Fin 64) s, ∃ u v t, exec (.ringDisable .submission q) s = .next t ∧
      regOnly (ringCfg .submission q) (withField (reg s (ringCfg .submission q)) 0 0 0) s u ∧
      sqOnly q { sq s q with flight := 0 } u v ∧
      cqOnly q { cq s q with outst := (cq s q).outst - (sq s q).flight } v t) ∧
  (∀ k (q : Fin 64) s, k ≠ .submission → ∃ t, exec (.ringDisable k q) s = .next t ∧
      regOnly (ringCfg k q) (withField (reg s (ringCfg k q)) 0 0 0) s t) ∧
  (∀ k (q : Fin 64) s, ∃ t, exec (.ringDisable k q) s = .next t ∧ rbit t (ringCfg k q) 0 = false)

/-- Fetching submission entries and how a fetch ends. The ring whose turn it is fetches as many entries as its
burst, its contents and its completion credit allow; a fetch that ends latches its entry as an input of
Prompter 1, or is served aside; a failed read stops the ring with an error. Where the spec is silent it says
the model's own choice or reading: log entries 21, 22, 27, 104. (R371 to R375.) -/
def Obligations.SubmissionFetches : Prop :=
  (∀ q s, q < 64 → nextRing s = some q →
    ∃ u v t n, exec (.submissionFetch q) s = .next t ∧
      n = min (min (rbits s (rHifSqCfg + 0x20 * q) 9 6 + 1) (sqCount s q - (sq s q).flight)) (cqCredit s q) ∧
      sqOnly q { sq s q with flight := (sq s q).flight + n } s u ∧
      cqOnly q { cq s q with outst := (cq s q).outst + n } u v ∧
      t = { v with hif := { v.hif with rr := (q + 1) % 64 } }) ∧
  (∀ q s, q < 64 → nextRing s ≠ some q → exec (.submissionFetch q) s = .next s) ∧
  (∀ q s, nextRing s = some q → q < 64 ∧ s.pair.role ≠ 7 ∧ s.proc.bookMode ≠ 2 ∧ s.hif.fetchedBytes < 294912 ∧
    sqEn s q = true ∧ (sq s q).error = false ∧ (sq s q).flight < sqCount s q ∧ cqEn s q = true ∧ 1 ≤ cqCredit s q ∧
    (s.proc.processing = true ∨ s.pwr.recImage = true ∧ q = 0)) ∧
  (∀ q s, 64 ≤ q → exec (.submissionFetch q) s = .fault .noSuchUnit) ∧
  (∀ q r e d s, 64 ≤ q → exec (.fetchComplete q r e d) s = .fault .noSuchUnit) ∧
  (∀ q r e d s, q < 64 → (sq s q).flight = 0 → isBlockFetch s q r e d = false → exec (.fetchComplete q r e d) s = .next s) ∧
  (∀ q e d s, q < 64 → (sq s q).flight ≠ 0 → isBlockFetch s q .entryReadFailed e d = false →
    ∃ u v w t, exec (.fetchComplete q .entryReadFailed e d) s = .next t ∧
      sqOnly q { sq s q with flight := 0 } s u ∧
      cqOnly q { cq s q with outst := (cq s q).outst - (sq s q).flight } u v ∧
      w = emitLocal 0x6001 145 0 0 0 0 (modSq q (fun x => { x with error := true }) v) ∧
      sqOnly q { sq w q with readFault := true } w t) ∧
  (∀ q e d s b0 l, q < 64 → (sq s q).flight ≠ 0 → isBlockFetch s q .ok e d = false →
      servedAside s (uAt e 0 2) = false → takesInputs s = true →
      b0 = latchFlags (cq s q).epoch false (padTo 64 (e.take 64)) →
      entryData (uAt e 0 2) (subOf q 0 false false b0) d = some l →
    ∃ t b, exec (.fetchComplete q .ok e d) s = .next t ∧ b = b0 ++ l ∧
      t.proc.inputs = s.proc.inputs ++ [⟨9, q, smGet 0 s.proc.seqs (256 * 9 + q), s.proc.cueNow, false, b, .message b.length⟩] ∧
      t.hif.fetchedBytes = s.hif.fetchedBytes + (16 + 8 * ceilDiv b.length 8) ∧
      t.hif.outstanding = s.hif.outstanding ++ [(uAt e 0 2, subOf q (bookCue s s.proc.cueNow + 1) false false b)] ∧
      (sq t q).head = ((sq s q).head + 1) % (2 * sqSize s q) ∧ (sq t q).flight = (sq s q).flight - 1 ∧
      t = { s with proc := { s.proc with inputs := t.proc.inputs, seqs := t.proc.seqs }
                   hif := { s.hif with sq := t.hif.sq, outstanding := t.hif.outstanding, fetchedBytes := t.hif.fetchedBytes } }) ∧
  (∀ q e d s b0 l, q < 64 → (sq s q).flight ≠ 0 → isBlockFetch s q .ok e d = false → servedAside s (uAt e 0 2) = true →
      b0 = latchFlags (cq s q).epoch false (padTo 64 (e.take 64)) →
      entryData (uAt e 0 2) (subOf q 0 false false b0) d = some l →
    ∃ u c, exec (.fetchComplete q .ok e d) s = .next (serveAside (uAt e 0 2) c
        { u with hif := { u.hif with outstanding := u.hif.outstanding ++ [(uAt e 0 2, c)] } }) ∧
      sqOnly q { sq s q with head := ((sq s q).head + 1) % (2 * sqSize s q), flight := (sq s q).flight - 1 } s u ∧
      c = subOf q s.proc.cueNow true false (b0 ++ l)) ∧
  (∀ q e d s, q < 64 → (sq s q).flight ≠ 0 → isBlockFetch s q .ok e d = false →
      entryData (uAt e 0 2) (subOf q 0 false false (latchFlags (cq s q).epoch false (padTo 64 (e.take 64)))) d = none →
    exec (.fetchComplete q .ok e d) s = .next s) ∧
  (∀ op c d l, entryData op c d = some l → l = [] ∨ l = d.take c.length ∧ l.length = c.length ∧ c.length ≤ 65472) ∧
  (∀ op c d, entryData op c d = none → d.length < c.length)

/-- MSI-X vectors, BAR access errors, the endpoint reset and the Ethernet links. When a vector is sent, held
or pended; which error bits wrong accesses set; what an endpoint reset clears and keeps; what link commands
change. Where the spec is silent it says the model's own choice or reading: log entry 85. (R353 to R356, R394,
R617.) -/
def Obligations.HostLinks : Prop :=
  (∀ v t s, v < 64 → smGet false s.hif.vecHold v = true → later64 (smGet 0 s.hif.vecEnd v) (atTime t s).time.tb0 = true →
    exec (.vectorHoldExpiry ⟨v, t⟩) s = .next (atTime t s)) ∧
  (∀ v t s, v < 64 → smGet false s.hif.vecHold v = false ∨ later64 (smGet 0 s.hif.vecEnd v) (atTime t s).time.tb0 = false →
    ∃ u, u = atTime t s ∧ exec (.vectorHoldExpiry ⟨v, t⟩) s = .next
      (if smGet false s.hif.vecDue v then vecSignal v { u with hif := { s.hif with
        vecHold := smSet false s.hif.vecHold v false, vecDue := smSet false s.hif.vecDue v false } }
      else { u with hif := { s.hif with
        vecHold := smSet false s.hif.vecHold v false, vecDue := smSet false s.hif.vecDue v false } })) ∧
  (∀ v s, v < 64 → smGet false s.hif.pba v = true → smGet false s.hif.vecHold v = false →
    ∃ t, exec (.msixUnmask v) s = .next t ∧ smGet false t.hif.vecMask v = true ∧ smGet false t.hif.pba v = false ∧
      smGet 0 t.hif.vecSent v = smGet 0 s.hif.vecSent v + 1 ∧
      smGet false t.hif.vecHold v = decide (rbits s (rHifVecHold + 4 * v) 7 0 ≠ 0) ∧
      (∀ w ≠ v, smGet 0 t.hif.vecSent w = smGet 0 s.hif.vecSent w ∧ smGet false t.hif.pba w = smGet false s.hif.pba w) ∧
      t = { s with hif := { s.hif with
        vecMask := t.hif.vecMask, pba := t.hif.pba, vecSent := t.hif.vecSent, vecHold := t.hif.vecHold
        vecDue := t.hif.vecDue, vecEnd := t.hif.vecEnd } }) ∧
  (∀ v s, v < 64 → smGet false s.hif.pba v = true → smGet false s.hif.vecHold v = true →
    ∃ t, exec (.msixUnmask v) s = .next t ∧ smGet false t.hif.vecDue v = true ∧
      t = { s with hif := { s.hif with vecMask := t.hif.vecMask, pba := t.hif.pba, vecDue := t.hif.vecDue } }) ∧
  (∀ v s, v < 64 → smGet false s.hif.pba v = false →
    exec (.msixUnmask v) s = .next { s with hif := { s.hif with vecMask := smSet false s.hif.vecMask v true } }) ∧
  (∀ v t s, 64 ≤ v → exec (.msixUnmask v) s = .fault .noSuchUnit ∧ exec (.vectorHoldExpiry ⟨v, t⟩) s = .fault .noSuchUnit) ∧
  (∀ w s, ∃ t, exec (.barAccessError w) s = .next t ∧ regOnly rHifErr (reg s rHifErr ||| 1#32) s t) ∧
  (∀ o v s, ∃ t, exec (.bar4Write o v) s = .next t ∧ regOnly rHifErr (reg s rHifErr ||| 2#32) s t) ∧
  (∀ s, ∃ t, exec .endpointReset s = .next t ∧
    (∀ q, sq t q = {}) ∧ t.hif.evr = {} ∧
    (∀ c, (cq t c).head = 0 ∧ (cq t c).tail = 0 ∧ (cq t c).error = false ∧ (cq t c).epoch = (cq s c).epoch ∧
      (cq t c).pool = (cq s c).pool) ∧
    (∀ o, 0x40000 ≤ o → o < 0x50000 → reg t o = regReset o) ∧
    (∀ o, o < 0x40000 ∨ 0x50000 ≤ o → reg t o = reg s o) ∧
    t.hif.queues = s.hif.queues ∧ t.hif.outstanding = s.hif.outstanding ∧ t.hif.hostMem = s.hif.hostMem ∧
    t = { s with regs := t.regs, hif := t.hif }) ∧
  (∀ b v s m w, pathUp .pcie s = true → m = (if b then 0xF01#32 else 0xF0F#32) → fieldOf v 11 8 ≤ 10 → fieldOf v 2 1 ≤ 2 →
      w = (reg s (ethCfg b) &&& ~~~ m) ||| (v &&& m) → (reg s (ethCfg b) ^^^ w) &&& 7#32 = 0 →
    ∃ t, exec (.ethLinkReconfigure b v) s = .next t ∧ regOnly (ethCfg b) w s t) ∧
  (∀ b v s m w, pathUp .pcie s = true → m = (if b then 0xF01#32 else 0xF0F#32) → fieldOf v 11 8 ≤ 10 → fieldOf v 2 1 ≤ 2 →
      w = (reg s (ethCfg b) &&& ~~~ m) ||| (v &&& m) → (reg s (ethCfg b) ^^^ w) &&& 7#32 ≠ 0 → ethUp s b = true →
    ∃ t, exec (.ethLinkReconfigure b v) s = .next t ∧ ethUp t b = false ∧ ethUp t (!b) = ethUp s (!b) ∧
      reg t (ethCfg b) = w) ∧
  (∀ n v s, rbit s rPadEth0Cfg 0 = true → isPowered s = true → s.pwr.mode ≠ .retention →
    exec (.ethLinkUp false n v) s = .next { s with pwr := { s.pwr with eth0Up := true, speed0 := n % 4 } }) ∧
  (∀ n v s, rbit s rPadEth1Cfg 0 = true → isPowered s = true → s.pwr.mode ≠ .retention → s.proc.processing = false →
    exec (.ethLinkUp true n v) s =
      .next { s with pwr := { s.pwr with eth1Up := true }, pair := { s.pair with linkUp := true } }) ∧
  (∀ b n v s, rbit s (ethCfg b) 0 = false → exec (.ethLinkUp b n v) s = .next s) ∧
  (∀ s, exec (.ethLinkDown false) s = .next { s with pwr := { s.pwr with eth0Up := false } }) ∧
  (∀ s, exec (.ethLinkDown true) s =
    .next { s with pwr := { s.pwr with eth1Up := false }, pair := { s.pair with linkUp := false } })

/-- Flush, resume, pointer mismatch, storage test, notices and packets of the hardware queues. What each queue
command changes, for every queue and every setting of its marks that the clauses name; a packet committed
bears its header and moves WP to PP, one rewound or too long is dropped and counted. Where the spec is silent
it says the model's own choice or reading: log entries 74, 90. (R387 to R391.) -/
def Obligations.HardwareQueues : Prop :=
  (∀ (q : Fin 256) s,
    ∃ t, exec (.queueFlush q) s = .next t ∧
      hwqOnly q { hwq s q with flush := (hwq s q).flush || bit (hwqCfg s q).toNat 22 } s t) ∧
  (∀ (q : Fin 256) s, (hwq s q).waiting = true → hwqSink (hwq s q) = true ∨
      hwqLevel (hwq s q) + (packetWords (hwq s q)).length < 2 ^ (fieldOf (hwqCfg s q) 20 17 + 4) →
    ∃ t, exec (.producerResume q) s = .next t ∧ hwqOnly q { hwq s q with waiting := false } s t) ∧
  (∀ (q : Fin 256) s, (hwq s q).waiting = false ∨ hwqSink (hwq s q) = false ∧
      2 ^ (fieldOf (hwqCfg s q) 20 17 + 4) ≤ hwqLevel (hwq s q) + (packetWords (hwq s q)).length →
    exec (.producerResume q) s = .next s) ∧
  (∀ (q : Fin 256) s, (hwq s q).flush = true → (hwq s q).writing = [] → (hwq s q).skip = false →
      (hwq s q).consuming = 0 → hwqHigh s q = 0 → hwqLow s q = 0 →
    ∃ u t, exec (.flushEffect q) s = .next t ∧
      regOnly (rHifQDrops + 0x20 * q) (w32 (satAdd 0xFFFFFFFF (reg s (rHifQDrops + 0x20 * q)).toNat (hwq s q).packets.length)) s u ∧
      hwqOnly q { hwq s q with packets := [], rp := (hwq s q).rp + hwqLevel (hwq s q), flush := false } u t) ∧
  (∀ (q : Fin 256) s, (hwq s q).flush = false ∨ (hwq s q).writing ≠ [] ∨ (hwq s q).skip = true ∨ (hwq s q).consuming ≠ 0 →
    exec (.flushEffect q) s = .next s) ∧
  (∀ (q : Fin 256) s, (hwq s q).testing = false → (hwq s q).quarantined = false → hwqHigh s q = 0 → hwqLow s q = 0 →
    ∃ u, exec (.queuePointerMismatch q) s = .next (emitLocal 0x6004 (160 + q / 16) 0 0 0 0 u) ∧
      hwqOnly q { hwq s q with
        rp := 0, packets := [], writing := [], skip := false, consuming := 0, waiting := false, flush := false
        testing := true, resets := min 255 ((hwq s q).resets + 1) } s u) ∧
  (∀ (q : Fin 256) s pass, (hwq s q).testing = true →
    ∃ u, exec (.queueTestEnd q pass) s = .next (testOutcome 1 q pass (if pass then 0 else 1) u) ∧
      hwqOnly q { hwq s q with testing := false, quarantined := !pass } s u) ∧
  (∀ (q : Fin 256) s, hwqHigh s q = 0 ∨ hwqLevel (hwq s q) ≤ hwqHigh s q →
    ∃ t, exec (.noticeAcknowledge q true false) s = .next t ∧
      hwqOnly q { hwq s q with high := false, highCnt := 0 } s t) ∧
  (∀ (q : Fin 256) s, hwqHigh s q ≠ 0 → hwqHigh s q < hwqLevel (hwq s q) →
    ∃ u, exec (.noticeAcknowledge q true false) s = .next (emitLocal 0x6003 (160 + q / 16) 0 0 0 0 u) ∧
      hwqOnly q { hwq s q with high := true, highCnt := 0 } s u) ∧
  (∀ (q : Fin 256) s, hwqLow s q = 0 ∨ hwqLow s q ≤ hwqLevel (hwq s q) →
    ∃ t, exec (.noticeAcknowledge q false true) s = .next t ∧
      hwqOnly q { hwq s q with low := false, lowCnt := 0 } s t) ∧
  (∀ (q : Fin 256) s, hwqLow s q ≠ 0 → hwqLevel (hwq s q) < hwqLow s q →
    ∃ u, exec (.noticeAcknowledge q false true) s = .next (emitLocal 0x6003 (160 + q / 16) 0 0 0 0 u) ∧
      hwqOnly q { hwq s q with low := true, lowCnt := 0 } s u) ∧
  (∀ q kind s x, x = hwq s q → x.skip = false → x.waiting = false → x.testing = false → x.quarantined = false →
      hwqHigh s q = 0 → hwqLow s q = 0 →
    ∃ u t h, queueCommit q kind s = t ∧
      h = BitVec.ofNat 64 (((packetWords x).length - 1) % 65536 + 65536 * kind.toNat + 2 ^ 32 * (x.seq % 2 ^ 32)) ∧
      hwqOnly q { x with writing := [], seq := x.seq + 1, packets := x.packets ++ [h :: (packetWords x).drop 1] } s u ∧
      t = { u with wings := { u.wings with words := smSet none u.wings.words (queueAddr u q (x.rp + hwqLevel x) / 8) (some h) } }) ∧
  (∀ q kind s x, x = hwq s q → x.writing ≠ [] → x.consuming ≤ (x.packets.map List.length).sum →
      x.skip = false → x.waiting = false → x.testing = false → x.quarantined = false → hwqHigh s q = 0 → hwqLow s q = 0 →
    hwqWp (queueCommit q kind s) q = hwqPp s q ∧ hwqPp (queueCommit q kind s) q = hwqPp s q) ∧
  (∀ q s x, x = hwq s q → x.skip = false → x.waiting = false →
      2 ^ (fieldOf (hwqCfg s q) 20 17 + 4) - 1 < (packetWords x).length + 1 →
    ∀ v, ∃ u, hwqOnly q { x with writing := [], skip := true, waiting := false } s u ∧
      regOnly (rHifQDrops + 0x20 * q) (w32 (min 0xFFFFFFFF ((reg s (rHifQDrops + 0x20 * q)).toNat + 1))) u (queueWord q v s)) ∧
  (∀ q s x, x = hwq s q → x.skip = false → x.writing ≠ [] →
    ∃ u, hwqOnly q { x with writing := [], waiting := false } s u ∧
      regOnly (rHifQDrops + 0x20 * q) (w32 (min 0xFFFFFFFF ((reg s (rHifQDrops + 0x20 * q)).toNat + 1))) u (queueRewind q s) ∧
      hwqPp (queueRewind q s) q = hwqWp s q)

/-- Register writes and the reads that latch. A write with the path down does nothing; an unaligned one sets
the access error bit; an address with no register does nothing; a plain register takes the word, a read-only
one keeps its own, a W1C one clears the ones written. Reading the low half of TB0 or of the pair offset
latches the high half of that path. Where the spec is silent it says the model's own choice or reading: log
entries 31, 33. (R5, R6, R310, R354.) -/
def Obligations.RegisterAccesses : Prop :=
  (∀ o v s, pathUp .pcie s = false → exec (.registerWrite o v) s = .next s) ∧
  (∀ o v s, pathUp .pcie s = true → o % 4 ≠ 0 →
    ∃ t, exec (.registerWrite o v) s = .next t ∧ regOnly rHifErr (reg s rHifErr ||| 1#32) s t) ∧
  (∀ o v s, pathUp .pcie s = true → o % 4 = 0 → regLookup o = none → exec (.registerWrite o v) s = .next s) ∧
  (∀ v s, pathUp .pcie s = true →
    ∃ t, exec (.registerWrite rPwrWakeCue v) s = .next t ∧ regOnly rPwrWakeCue v s t) ∧
  (∀ v s, pathUp .pcie s = true →
    ∃ t, exec (.registerWrite rSysId v) s = .next t ∧ regOnly rSysId (reg s rSysId) s t) ∧
  (∀ v s, pathUp .pcie s = true →
    ∃ t, exec (.registerWrite rClkEvents v) s = .next t ∧ regOnly rClkEvents (reg s rClkEvents &&& ~~~ (v &&& 0x3FFF#32)) s t) ∧
  (∀ s, pathUp .pcie s = true → exec (.tb0LoRead .pcie) s =
    .next { s with time := { s.time with hiPcie := (s.time.tb0 >>> 32).setWidth 32 } }) ∧
  (∀ s, pathUp .door s = true → exec (.tb0LoRead .door) s =
    .next { s with time := { s.time with hiDoor := (s.time.tb0 >>> 32).setWidth 32 } }) ∧
  (∀ s, pathUp .pcie s = true → exec (.undOffsetLoRead .pcie) s =
    .next { s with pair := { s.pair with hiPcie := ((deltaWord s) >>> 32).setWidth 32 } }) ∧
  (∀ s, pathUp .door s = true → exec (.undOffsetLoRead .door) s =
    .next { s with pair := { s.pair with hiDoor := ((deltaWord s) >>> 32).setWidth 32 } }) ∧
  (∀ p s, pathUp p s = false → exec (.tb0LoRead p) s = .next s ∧ exec (.undOffsetLoRead p) s = .next s)

/-- Writes of CUE_BOOK_CTL, UND_CTL and the export pointers. While processing is stopped the mode fields take
what is written; while it runs a new mode is refused with its record and the other fields take effect. The
export pointers take a write only from their owner. Where the spec is silent it says the model's own choice or
reading: log entries 17, 33. (R67, R73, R470.) -/
def Obligations.ModeWritesAndExport : Prop :=
  (∀ p v s, pathUp p s = false →
    exec (.cueBookCtlModeWrite p v) s = .next s ∧ exec (.undCtlModeWrite p v) s = .next s) ∧
  (∀ v s, pathUp .pcie s = true → s.proc.processing = false → fieldOf v 1 0 ≤ 2 → 20 ≤ fieldOf v 12 8 → fieldOf v 12 8 ≤ 30 →
    ∃ t, exec (.cueBookCtlModeWrite .pcie v) s = .next t ∧
      regOnly rCueBookCtl ((reg s rCueBookCtl &&& ~~~ 0x1F03#32) ||| (v &&& 0x1F03#32)) s t) ∧
  (∀ v s, pathUp .pcie s = true → s.proc.processing = true → fieldOf v 1 0 ≤ 2 →
      20 ≤ fieldOf v 12 8 → fieldOf v 12 8 ≤ 30 →
    ∃ u, exec (.cueBookCtlModeWrite .pcie v) s =
        .next (emitLocal 0x000A 13 rCueBookCtl v.toNat s.proc.bookMode 0 u) ∧
      regOnly rCueBookCtl ((reg s rCueBookCtl &&& ~~~ 0x1F00#32) ||| (v &&& 0x1F00#32)) s u) ∧
  (∀ v s, pathUp .door s = true → s.proc.processing = false → fieldOf v 1 0 ≤ 2 →
    ∃ t, exec (.undCtlModeWrite .door v) s = .next t ∧
      regOnly rUndCtl ((reg s rUndCtl &&& ~~~ 7#32) ||| (v &&& 7#32)) s t) ∧
  (∀ v s, pathUp .door s = true → s.proc.processing = true → fieldOf v 1 0 ≤ 2 →
    ∃ u, exec (.undCtlModeWrite .door v) s = .next (emitLocal 0x000A 13 rUndCtl v.toNat s.pair.mode 1 u) ∧
      regOnly rUndCtl ((reg s rUndCtl &&& ~~~ 4#32) ||| (v &&& 4#32)) s u) ∧
  (∀ b v s, pathUp .pcie s = false → exec (.cueBufPointerWrite b v) s = .next s) ∧
  (∀ v s, pathUp .pcie s = true → s.proc.processing = false ∨ s.proc.bookMode = 2 →
    ∃ t, exec (.cueBufPointerWrite false v) s = .next t ∧
      regOnly rCueBufHead ((reg s rCueBufHead &&& 0x80000000#32) ||| (v &&& 0x7FFFFFFF#32)) s t) ∧
  (∀ v s, pathUp .pcie s = true → s.proc.processing = true → s.proc.bookMode ≠ 2 →
    ∃ t, exec (.cueBufPointerWrite false v) s = .next t ∧ regOnly rCueBufHead (reg s rCueBufHead) s t) ∧
  (∀ v s, pathUp .pcie s = true → s.proc.processing = false ∨ s.proc.bookMode ≠ 2 →
    ∃ t, exec (.cueBufPointerWrite true v) s = .next t ∧
      regOnly rCueBufTail ((reg s rCueBufTail &&& 0x80000000#32) ||| (v &&& 0x7FFFFFFF#32)) s t) ∧
  (∀ v s, pathUp .pcie s = true → s.proc.processing = true → s.proc.bookMode = 2 →
    ∃ t, exec (.cueBufPointerWrite true v) s = .next t ∧ regOnly rCueBufTail (reg s rCueBufTail) s t)

/-- Power-mode requests and the supplies. What a request for Full, Quiet or Retention records, when Retention
is refused, and what the keep supply and the main supply do when they come and go. Where the spec is silent it
says the model's own choice or reading: log entries 55, 105. (R559 to R568.) -/
def Obligations.ModeAndPowerRequests : Prop :=
  (∀ s, s.pwr.mode = .full →
    ∃ u, regOnly rPwrMode (withField (reg s rPwrMode) 1 0 1) s u ∧
      exec .reqQuiet s = .next { u with pwr := { u.pwr with quietReq := some true } }) ∧
  (∀ s, s.pwr.mode = .quiet →
    ∃ u, regOnly rPwrMode (withField (reg s rPwrMode) 1 0 0) s u ∧
      exec .reqFull s = .next { u with pwr := { u.pwr with quietReq := some false } }) ∧
  (∀ s, s.pwr.mode = .retention →
    ∃ u, regOnly rPwrMode (withField (reg s rPwrMode) 1 0 0) s u ∧
      exec .reqFull s = .next { u with pwr := { u.pwr with doorFull := true } }) ∧
  (∀ s, retentionOk s = true → s.pwr.wakeIn = none →
    ∃ u, regOnly rPwrMode (withField (reg s rPwrMode) 1 0 2) s u ∧
      exec .reqRetention s = .next { u with pwr := { u.pwr with retReq := some s.proc.cueNow } }) ∧
  (∀ s c, retentionOk s = true → s.pwr.wakeIn = some c →
    ∃ u, regOnly rPwrMode (withField (reg s rPwrMode) 1 0 2) s u ∧
      exec .reqRetention s = .next { u with pwr := { u.pwr with retReq := some (c - 1) } }) ∧
  (∀ s, s.pwr.mode ≠ .full ∧ s.pwr.mode ≠ .quiet ∨ s.pwr.retReq.isSome = true →
    ∃ t, exec .reqRetention s = .next t ∧ regOnly rPwrMode (withField (reg s rPwrMode) 1 0 2) s t) ∧
  (∀ s, s.pwr.mode = .full ∨ s.pwr.mode = .quiet → s.pwr.retReq = none →
      s.pair.mode ≠ 0 ∨ (∃ q, q < 64 ∧ sqEn s q = true) ∨ s.hif.outstanding ≠ [] ∨ s.hif.capture.isSome = true →
    ∃ u, exec .reqRetention s = .next (emitLocal 0xB00E 14 0 0 0 0 u) ∧
      regOnly rPwrMode (reg s rPwrMode ||| 16#32) s u) ∧
  (∀ s, s.pwr.mode = .off →
    ∃ t, exec .vkeepGood s = .next t ∧ t = { State.reset with
      pending := s.pending, hif := { hostMem := s.hif.hostMem }, sec := { fuses := s.sec.fuses, drawn := s.sec.drawn }
      board := { State.reset.board with jnl := s.board.jnl }
      upd := { sel0 := s.upd.sel0, sel1 := s.upd.sel1, set0 := s.upd.set0, set1 := s.upd.set1 } }) ∧
  (∀ s, s.pwr.mode ≠ .off → exec .vkeepGood s = .next s) ∧
  (∀ s, ∃ t, exec .vkeepLost s = .next t ∧ t.pwr = { mode := .off, vkeep := false } ∧ t.regs = [] ∧
    t.proc = {} ∧ t.mesh = {} ∧ t.time = {} ∧ t.sec = { fuses := (cutWrites s).sec.fuses, drawn := (cutWrites s).sec.drawn } ∧
    t.board = { jnl := (cutWrites s).board.jnl } ∧ t.hif = { hostMem := (cutWrites s).hif.hostMem }) ∧
  (∀ s, s.upd.selBusy = none → s.upd.setBusy = none → s.upd.confirming = none → s.board.copied = false →
    cutWrites s = { s with sec := { s.sec with drawn := s.sec.drawn + 1 } }) ∧
  (∀ s b, s.upd.selBusy = some b → s.upd.setBusy = none → s.upd.confirming = none → s.board.copied = false →
    (if b then (cutWrites s).upd.sel0 = s.upd.sel0 ∧ (cutWrites s).upd.sel1 ∈ [s.upd.sel1, none]
      else (cutWrites s).upd.sel1 = s.upd.sel1 ∧ (cutWrites s).upd.sel0 ∈ [s.upd.sel0, none]) ∧
    (cutWrites s).upd.set0 = s.upd.set0 ∧ (cutWrites s).upd.set1 = s.upd.set1) ∧
  (∀ b f v r, f.secVer ≤ v → f.secVer ≤ (cutFuses b f v r).secVer ∧ (cutFuses b f v r).secVer ≤ v ∧
    (∀ i, (cutFuses b f v r).revoke.getLsbD i = true → f.revoke.getLsbD i = true ∨ r.getLsbD i = true) ∧
    (∀ i, f.revoke.getLsbD i = true → (cutFuses b f v r).revoke.getLsbD i = true) ∧
    cutFuses b f v r = { f with secVer := (cutFuses b f v r).secVer, revoke := (cutFuses b f v r).revoke }) ∧
  (∀ a b s, s.pwr.mode = .keepOnly → a < 100 → b < 100 →
    exec (.vinGood a b) s = .next (startMain { s with pwr := { s.pwr with vin := true, tPit := a, tStage := b } })) ∧
  (∀ a b s, s.pwr.mode = .keepOnly → 100 ≤ a ∨ 100 ≤ b →
    exec (.vinGood a b) s = .next { s with pwr := { s.pwr with vin := true, tPit := a, tStage := b } }) ∧
  (∀ a b s, s.pwr.mode = .keepOnly → s.pwr.vin = true → a < 100 → b < 100 →
    exec (.mainStartOnCooling a b) s = .next (startMain { s with pwr := { s.pwr with tPit := a, tStage := b } })) ∧
  (∀ s, ∃ t, startMain s = modeRecord (emitLocal 0xB001 13 1 s.pwr.count 0 0 t) ∧
    t = { keepDomain .startup s with pwr := { (keepDomain .startup s).pwr with cause := 1, clocks := 0 } }) ∧
  (∀ s, s.pwr.mode ≠ .off → s.pwr.vin = true → s.proc.processing = false →
    exec .vinLost s = .next (let u := emitLocal 0xB003 14 0 0 0 0 (keepDomain .keepOnly (cutWrites s))
      { u with pwr := { u.pwr with vin := false } }))

/-- RESTART, KICK, snapshots and the resets. What RESTART, KICK and a snapshot trigger leave; what each reset,
each failed rail among them, leaves, which registers it returns to their reset values, and the record it
leaves with its cause and the count. Where the spec is silent it says the model's own choice or reading: log
entries 54, 55, 56, 84. (R510 to R512, R572, R573.) -/
def Obligations.RestartsAndResets : Prop :=
  (∀ s, s.proc.processing = true → s.pwr.restartReq = none → s.pwr.retReq = none ∨ s.pwr.mode = .retention →
    exec .restart s = .next { s with pwr := { s.pwr with restartReq := some 4 } }) ∧
  (∀ s, s.proc.processing = true → s.pwr.restartReq = none → s.pwr.retReq.isSome = true → s.pwr.mode ≠ .retention →
    ∃ u v, regOnly rPwrMode (withField (reg s rPwrMode) 1 0 (if s.pwr.mode = .quiet then 1 else 0) ||| 16#32) s u ∧
      v = emitLocal 0xB00E 14 0 0 0 0 { u with pwr := { u.pwr with retReq := none } } ∧
      exec .restart s = .next { v with pwr := { v.pwr with restartReq := some 4 } }) ∧
  (∀ s, s.proc.processing = false ∨ s.pwr.restartReq.isSome = true → exec .restart s = .next s) ∧
  (∀ s, exec .kick s = .next { s with pwr := { s.pwr with hostWd := 0 } }) ∧
  (∀ s, exec (.snapshotTrigger true) s = .next { s with board := { s.board with snapDue := true } }) ∧
  (∀ s, exec (.snapshotTrigger false) s = .next (takeSnapshot s)) ∧
  (∀ s, s.board.snapDue = true →
    exec .queuedSnapshot s = .next (takeSnapshot { s with board := { s.board with snapDue := false } })) ∧
  (∀ s, s.board.snapDue = false → exec .queuedSnapshot s = .next s) ∧
  (∀ s, ∃ l w, takeSnapshot s = (w :: l).foldl (fun u x => emitWords 224 x u) s ∧
      w = recWords ⟨0x0005, 224, 5, s.proc.cueNow, s.time.tb0, reg s rCbdSnapBase, w32 (rbits s rCbdSnapCtl 6 0), 0, w32 l.length⟩ ∧
      l.length = ceilDiv (rbits s rCbdSnapCtl 6 0) 6) ∧
  (∀ s, exec .rstN s = .next (systemReset 2 s) ∧ exec .systemReset s = .next (systemReset 3 s) ∧
    ∀ r, exec (.railFault r) s = .next (systemReset 6 s)) ∧
  (∀ s n, isPowered s = true →
    ∃ u, systemReset n s = emitLocal 0xB001 13 n (min 0xFFFF (s.pwr.count + 1)) 0 0 u ∧
      regOnly rPwrSupply (if s.pwr.vioStuck then reg (keepDomain .startup s) rPwrSupply ||| 16#32
          else reg (keepDomain .startup s) rPwrSupply)
        { keepDomain .startup s with pwr := { (keepDomain .startup s).pwr with
          cause := n, count := min 0xFFFF (s.pwr.count + 1), vioStuck := s.pwr.vioStuck } } u) ∧
  (∀ s, ∃ t, t = keepDomain .startup s ∧ t.pending = s.pending ∧ t.proc.cueNow = s.proc.cueNow ∧
    t.proc.processing = false ∧ t.time.tb0 = s.time.tb0 ∧ t.sec = { fuses := s.sec.fuses, drawn := s.sec.drawn } ∧
    t.board.store = s.board.store ∧ t.board.next = s.board.next ∧ t.engs = [] ∧ t.ports = [] ∧ t.lines = [] ∧
    t.txa = {} ∧ t.txb = {} ∧ t.mesh = {} ∧ t.cfgs = [] ∧ t.pwr.mode = .startup ∧
    (∀ o, o < 0x200000 → reg t o = regReset o) ∧ (∀ o, 0x200000 ≤ o → reg t o = reg s o)) ∧
  (∀ s, isPowered s = true →
    ∃ u, exec .reboot s = .next (emitLocal 0xB001 13 8 s.pwr.count 0 0 u) ∧ u.pwr.cause = 8 ∧ u.pwr.mode = .startup ∧
      u.proc.processing = false ∧ u.time.tb1 = s.time.tb1 ∧ u.mesh = {} ∧
      (∀ o, bootReaches o = true → reg u o = regReset o) ∧ (∀ o, bootReaches o = false → reg u o = reg s o)) ∧
  (∀ s, isPowered s = false → exec .reboot s = .next s ∧ exec .rstN s = .next s ∧ exec .systemReset s = .next s) ∧
  (∀ s, exec .trstN s = .next { s with sec := { s.sec with tapReset := true } }) ∧
  (∀ b s, isPowered s = true →
    ∃ u, exec (.vioFault b) s = .next (emitLocal 0xB00F 14 0 0 0 0 u) ∧
      regOnly rPwrSupply (reg s rPwrSupply ||| 16#32) { s with pwr := { s.pwr with
        vioStuck := s.pwr.vioStuck || s.pwr.mode == .startup && !s.pwr.rom } } u)

/-- The stage door: answers, writes, LOAD and BOOT. With REF absent the door answers nothing; IDENT, STATUS
and READ answer their words; a frame with a wrong CRC or length only sets the flag; a WRITE outside the door's
registers is denied; LOAD fills the recovery window and BOOT starts the image, each only in recovery. Where
the spec is silent it says the model's own choice or reading: log entries 34, 35. (R396, R397.) -/
def Obligations.StageDoor : Prop :=
  (∀ s, pathUp .door s = false → ∀ i ∈ [Instr.ident, .status], ∃ t, exec i s = .next t ∧
    t = { s with hif := { s.hif with miso := [] } }) ∧
  (∀ b n w r s, pathUp .door s = false → ∀ i ∈ [Instr.read b n, .write b, .load b, .boot b r, .badCmd w],
    exec i s = .next { s with hif := { s.hif with miso := [] } }) ∧
  (∀ s, pathUp .door s = true →
    exec .ident s = .next { s with hif := { s.hif with miso := le 4 (sysId s) ++ le 4 (doorStatus s) } }) ∧
  (∀ s, pathUp .door s = true →
    exec .status s = .next { s with hif := { s.hif with
      miso := le 4 (doorStatus s), crcErr := false, badCmd := false, denied := false } }) ∧
  (∀ b s, pathUp .door s = true → b ∉ [0x9F#8, 0x05#8, 0x0B#8, 0x02#8, 0x30#8, 0x31#8] →
    exec (.badCmd b) s = .next { s with hif := { s.hif with miso := [], badCmd := true } }) ∧
  (∀ b s, pathUp .door s = true → 5 ≤ b.length → uAt b 0 4 % 4 = 0 → uAt b 0 4 ≠ rTimTb0Lo → uAt b 0 4 ≠ rUndOffsetLo →
    exec (.read b 1) s = .next { s with hif := { s.hif with
      miso := le 4 (readReg .door { s with hif := { s.hif with miso := [] } } (uAt b 0 4)).toNat } }) ∧
  (∀ b s, pathUp .door s = true → b.length < 10 ∨ b.length % 4 ≠ 2 ∨ doorCrcOk 0x02 b = false →
    exec (.write b) s = .next { s with hif := { s.hif with miso := [], crcErr := true } }) ∧
  (∀ b s, pathUp .door s = true → b.length = 10 → doorCrcOk 0x02 b = true → doorReaches (uAt b 0 4) = false →
    exec (.write b) s = .next { s with hif := { s.hif with miso := [], denied := true } }) ∧
  (∀ b s, pathUp .door s = true → b.length = 10 → doorCrcOk 0x02 b = true → uAt b 0 4 = rPwrWakeCue →
    ∃ t, exec (.write b) s = .next t ∧
      regOnly rPwrWakeCue (w32 (uAt b 4 4)) { s with hif := { s.hif with miso := [] } } t) ∧
  (∀ b r s, pathUp .door s = true → s.hif.recovery = false → ∀ i ∈ [Instr.load b, .boot b r],
    exec i s = .next { s with hif := { s.hif with miso := [], denied := true } }) ∧
  (∀ b s, pathUp .door s = true → s.hif.recovery = true → 6 ≤ b.length → doorCrcOk 0x30 b = true →
      uAt b 0 4 + (b.length - 6) ≤ 262144 →
    ∃ t, exec (.load b) s = .next t ∧ t = { s with hif := { s.hif with miso := [], window := t.hif.window } } ∧
      ∀ a, smGet 0 t.hif.window a =
        if uAt b 0 4 ≤ a ∧ a < uAt b 0 4 + (b.length - 6) then b.getD (4 + (a - uAt b 0 4)) 0
        else smGet 0 s.hif.window a) ∧
  (∀ b r s, pathUp .door s = true → s.hif.recovery = true → b.length = 2 → doorCrcOk 0x31 b = true → imageReason s r = 0 →
    ∃ t, exec (.boot b r) s = .next t ∧ t.pwr = { s.pwr with recImage := true } ∧ t.hif.recovery = false) ∧
  (∀ b r s, pathUp .door s = true → s.hif.recovery = true → b.length = 2 → doorCrcOk 0x31 b = true →
      imageReason s r ≠ 0 →
    ∃ t, exec (.boot b r) s = .next t ∧ t.pwr = s.pwr ∧ t.hif.recovery = true ∧ t.hif.denied = true)

/-- Watchdogs, lost clocks, the wake from Retention and the processing restart. When each watchdog bites and
what it leaves; what a lost clock records and stops; what a wake and a restart set up. Where the spec is
silent it says the model's own choice or reading: log entries 18, 28, 54, 55, 56, 107. (R565, R570, R576,
R581.) -/
def Obligations.WatchdogsClocksAndWake : Prop :=
  (∀ s, s.pwr.rom = true → s.pwr.bootDone = false → s.hif.recovery = false → s.pwr.recImage = false →
    exec .bootWatchdog s = .next (systemReset 5 (emitLocal 0xB009 13 0 0 0 0 s))) ∧
  (∀ s, s.pwr.rom = false ∨ s.pwr.bootDone = true ∨ s.hif.recovery = true ∨ s.pwr.recImage = true →
    exec .bootWatchdog s = .next s) ∧
  (∀ s, s.proc.processing = true → 8 ≤ s.pwr.keepWd →
    exec .keepWatchdog s = .next (systemReset 4 (emitLocal 0xB009 13 1 0 0 0 s))) ∧
  (∀ s, rbits s rSysWdt 15 0 ≠ 0 → rbits s rSysWdt 15 0 ≤ s.pwr.hostWd → rbit s rSysWdt 16 = false →
    ∃ u, exec .hostWatchdog s = .next (emitLocal 0xB009 13 2 0 0 0 u) ∧
      regOnly rSysWdt (reg s rSysWdt ||| 0x40000#32) { s with pwr := { s.pwr with hostWd := 0 } } u) ∧
  (∀ s, rbits s rSysWdt 15 0 = 0 ∨ s.pwr.hostWd < rbits s rSysWdt 15 0 → exec .hostWatchdog s = .next s) ∧
  (∀ s, isPowered s = true →
    ∃ u, systemReset 5 s = emitLocal 0xB001 13 5 (min 0xFFFF (s.pwr.count + 1)) 0 0 u ∧
      regOnly rPwrSupply (if s.pwr.vioStuck then reg (keepDomain .startup s) rPwrSupply ||| 16#32
          else reg (keepDomain .startup s) rPwrSupply)
        { keepDomain .startup s with pwr := { (keepDomain .startup s).pwr with
          cause := 5, count := min 0xFFFF (s.pwr.count + 1), vioStuck := s.pwr.vioStuck } } u) ∧
  (∀ d t s, isPowered s = true → hasPll d.val = false →
    ∃ u, exec (.clockLost d t) s = .next (emitLocal 0xB008 15 0 0 0 0 u) ∧
      regOnly rClkEvents (reg s rClkEvents ||| BitVec.ofNat 32 (2 ^ d.val)) (atTime t s) u) ∧
  (∀ d t s, isPowered s = true → hasPll d.val = true → s.pwr.mode ≠ .retention → s.proc.processing = true →
    ∃ u v, exec (.clockLost d t) s = .next (stopNow (refuseRetention { v with pwr := { v.pwr with clocks := v.pwr.clocks ||| BitVec.ofNat 14 (2 ^ d.val) } })) ∧
      v = emitLocal 0xB008 15 0 0 0 0 u ∧
      regOnly rClkEvents (reg s rClkEvents ||| BitVec.ofNat 32 (2 ^ d.val)) (atTime t s) u) ∧
  (∀ t s, s.pwr.clocks = 0 → exec (.clockRecovered t) s = .next (atTime t s)) ∧
  (∀ t s, s.pwr.clocks ≠ 0 → s.pwr.mode = .full → s.pwr.restarting = false →
    exec (.clockRecovered t) s = .next (restartNow 3 { atTime t s with pwr := { s.pwr with clocks := 0 } })) ∧
  (∀ t s, s.pwr.mode = .retention → s.pwr.clocks.getLsbD 0 = false → s.pwr.doorFull = true →
    ∃ u v, exec (.retentionWake t) s = .next (emitLocal 0xB002 14 0 0 0 0 v) ∧
      regOnly rPwrMode (withField (reg s rPwrMode) 1 0 0) (atTime t s) u ∧
      v.pwr = { s.pwr with mode := .full, doorFull := false, retReq := none, wakeIn := some (s.proc.cueNow + 2) } ∧
      v.wings = { s.wings with wakeRows := 2048 } ∧
      v = { u with pwr := v.pwr, wings := v.wings, lines := v.lines, ports := v.ports }) ∧
  (∀ t s, s.pwr.mode ≠ .retention → exec (.retentionWake t) s = .next (atTime t s)) ∧
  (∀ f s, s.pwr.restarting = false → s.proc.processing = false →
    ∃ t u v, exec (.processingRestart f) s = .next t ∧ u = refuseRetention s ∧
      v = emitLocal 0xB001 13 9 u.pwr.count f.val 0 { u with pwr := { u.pwr with cause := 9 } } ∧
      t.pwr = { v.pwr with restartReq := none, restarting := true, coreTests := List.range 12 } ∧
      t = { v with pwr := t.pwr, engs := t.engs } ∧
      (∀ e, e < 12 → eng t e = { eng v e with paused := true, resume := false })) ∧
  (∀ f s, s.pwr.restarting = true → exec (.processingRestart f) s = .next s)

/-- KEY_INSTALL of a router key, an issuer key and a group key. Which key takes its place at the next cue, the
check value of the completion, and that every allocated node is owed the new group key. Which key is current
first is the model's reading (log entry 12). Where the spec is silent it says the model's own choice or
reading: log entries 12, 24, 61. (R439, R457, R458.) -/
def Obligations.KeyInstall : Prop :=
  (∀ c s, ready cmdKeyInstall c s = true → pU c 32 1 = 1 →
    ∃ t x, exec (.keyInstall c) s = .next t ∧ x = ecBytes (ecMul (beNat ((blobKey c s).getD [])) g256) ∧
      paid 11 1200 (withOut 11 (.complete c 0x00C0 stOk ((sha256 x).take 8) [])
        (withOut 11 (.record ⟨0x8004, 11, 0, s.proc.procCue, s.proc.procStart, 1, w32 (pU c 33 1),
            w32 (leNat (((sha256 x).take 8).take 4)), 0⟩)
          { s with sec := { s.sec with keyNext := some { keysNext s with priv := c.data, pub := x } } })) t) ∧
  (∀ c s, ready cmdKeyInstall c s = true → pU c 32 1 = 2 →
    ∃ t, exec (.keyInstall c) s = .next t ∧
      paid 11 10 (withOut 11 (.complete c 0x00C0 stOk ((sha256 c.data).take 8) [])
        (withOut 11 (.record ⟨0x8004, 11, 0, s.proc.procCue, s.proc.procStart, 2, w32 (pU c 33 1),
            w32 (leNat (((sha256 c.data).take 8).take 4)), 0⟩)
          { s with sec := { s.sec with keyNext := some { keysNext s with
              issuers := smSet [] (keysNext s).issuers (pU c 33 1) c.data } } })) t) ∧
  (∀ c s, ready cmdKeyInstall c s = true → pU c 32 1 = 3 → (keysNext s).cur = none →
    ∃ t, exec (.keyInstall c) s = .next t ∧
      t.sec = { s.sec with keyNext := some { keysNext s with
        cur := some ⟨c.data, pU c 34 1⟩, curScene := sceneOf s (s.proc.procCue + 1) } } ∧
      (∀ i, node t i = if isAlloc (node s i) then { node s i with grpOwed := true } else node s i) ∧
      t = { s with engs := t.engs, proc := { s.proc with outs := t.proc.outs }, sec := t.sec
                   mesh := { s.mesh with nodes := t.mesh.nodes } }) ∧
  (∀ c s, ready cmdKeyInstall c s = true → pU c 32 1 = 3 → (keysNext s).cur.isSome = true →
    ∃ t, exec (.keyInstall c) s = .next t ∧
      t.sec = { s.sec with keyNext := some { keysNext s with
        pendKey := some (⟨c.data, pU c 34 1⟩, groupScene s (pU c 35 1)) } } ∧
      (∀ i, node t i = if isAlloc (node s i) then { node s i with grpOwed := true } else node s i) ∧
      t = { s with engs := t.engs, proc := { s.proc with outs := t.proc.outs }, sec := t.sec
                   mesh := { s.mesh with nodes := t.mesh.nodes } }) ∧
  (∀ c s, ready cmdKeyInstall c s = true → 1 ≤ pU c 32 1 ∧ pU c 32 1 ≤ 3)

/-- Programming ROOT, the debug lock and the TRNG. ROOT is fused once and only while processing is stopped; a
challenge serves one UNLOCK; a failed health test stops the refilling until its self-test ends. Where the spec
is silent it says the model's own choice or reading: log entries 62, 74. (R437, R441, R464.) -/
def Obligations.FusesDebugAndRandomness : Prop :=
  (∀ s, s.sec.fuses.root = none → s.proc.processing = false →
    exec .rootProgram s = .next { s with sec := { s.sec with
      fuses := { s.sec.fuses with root := some (rootOctets s) }, fusing := true } }) ∧
  (∀ s, s.sec.fuses.root.isSome = true → exec .rootProgram s =
    .next (emitLocal 0x8009 193 0 0 0 0 { s with sec := { s.sec with rootRef := true } })) ∧
  (∀ s, s.sec.fuses.root = none → s.proc.processing = true → exec .rootProgram s =
    .next (emitLocal 0x8009 193 1 0 0 0 { s with sec := { s.sec with rootRef := true } })) ∧
  (∀ s, s.sec.fusing = true →
    exec .rootFusingComplete s = .next { s with sec := { s.sec with fusing := false, rootKey := [] } }) ∧
  (∀ s, s.sec.fusing = false → exec .rootFusingComplete s = .next s) ∧
  (∀ d s, s.proc.processing = false → d.length = 32 →
    exec (.newChal d) s = .next { s with sec := { s.sec with chal := d, chalUsed := false } }) ∧
  (∀ d s, s.proc.processing = true →
    exec (.newChal d) s = .next (emitLocal 0x8008 195 1 s.sec.fuses.dbg.toNat 0 0 { s with sec := { s.sec with dbgRef := true } })) ∧
  (∀ s, unlockOk s = true →
    exec .unlock s = .next (emitLocal 0x8008 195 0 s.sec.fuses.dbg.toNat 0 0 { s with sec := { s.sec with chalUsed := true, jtag := true } })) ∧
  (∀ s, unlockOk s = false →
    exec .unlock s = .next (emitLocal 0x8008 195 1 s.sec.fuses.dbg.toNat 0 0 { s with sec := { s.sec with chalUsed := true, dbgRef := true } })) ∧
  (∀ s, s.proc.processing = true ∨ s.sec.fuses.dbg ≠ 1 ∨ s.sec.chalUsed = true → unlockOk s = false) ∧
  (∀ n s, exec (.trngHealthFail n) s = .next (emitLocal 0x8006 192 n 0 s.sec.reserve 0
    { s with sec := { s.sec with trngOk := false, trngTest := true } })) ∧
  (∀ b s, s.sec.trngTest = false → exec (.trngRestartEnd b) s = .next s) ∧
  (∀ s, s.sec.trngTest = true → exec (.trngRestartEnd true) s =
    .next (testOutcome 5 0 true 0 { s with sec := { s.sec with trngTest := false, trngOk := true } })) ∧
  (∀ s, s.sec.trngTest = true → s.proc.processing = false →
    ∃ u, u = testOutcome 5 0 false 1 { s with sec := { s.sec with trngTest := false, trngOk := false } } ∧
    exec (.trngRestartEnd false) s = .next { u with wings := { u.wings with lasting := true } })

/-- Engine exceptions, core tests and SELFTEST_RUN. What an exception stops, what the outcome of a test
records and counts, and when a tested unit returns to service; what SELFTEST_RUN starts. Where the spec is
silent it says the model's own choice or reading: log entries 24, 73, 109. (R426 to R430, R576.) -/
def Obligations.EngineFaultsAndSelfTest : Prop :=
  (∀ e s, s.proc.processing = false → exec (.engineException e) s = .next s) ∧
  (∀ e s, s.proc.processing = true → s.pair.role ≠ 2 → s.pair.role ≠ 3 →
    ∃ u, exec (.engineException e) s = .next (emitLocal 0x7005 e.val 0 0 0 0 u) ∧
      engOnly e { eng s e with paused := true, blocked := true, resume := false }
        { s with proc := { s.proc with faulted := true } } u) ∧
  (∀ e s, s.proc.processing = true → s.pair.role = 2 ∨ s.pair.role = 3 →
    ∃ u, exec (.engineException e) s = .next (emitLocal 0x7005 e.val 0 0 0 0
        { u with pair := { u.pair with role := 4 } }) ∧
      engOnly e { eng s e with paused := true, blocked := true, resume := false }
        { s with proc := { s.proc with faulted := true } } u) ∧
  (∀ (e : Fin 12) n s, s.pwr.restarting = true ∨ s.pwr.rom = true ∧ s.pwr.bootDone = false → s.pwr.coreTests.contains e.val = true →
    ∃ u v t, u = testOutcome 4 e.val true n s ∧
      v = { u with pwr := { u.pwr with coreTests := u.pwr.coreTests.filter (· != e.val) } } ∧
      exec (.coreTestEnd e true n) s = .next t ∧
      engOnly e { eng v e with paused := false, retired := false, blocked := false } v t) ∧
  (∀ (e : Fin 12) n s, s.pwr.restarting = true ∨ s.pwr.rom = true ∧ s.pwr.bootDone = false → s.pwr.coreTests.contains e.val = true →
    ∃ u v w, u = testOutcome 4 e.val false n s ∧
      v = { u with pwr := { u.pwr with coreTests := u.pwr.coreTests.filter (· != e.val) } } ∧
      engOnly e { eng v e with retired := true } v w ∧
      exec (.coreTestEnd e false n) s = .next (emitLocal 0xB004 14 0 0 0 0 { w with proc := { w.proc with stopped := true } })) ∧
  (∀ (e : Fin 12) b n s, s.pwr.coreTests.contains e.val = false → s.proc.processing = false → exec (.coreTestEnd e b n) s = .next s) ∧
  (∀ c n s, s.proc.processing = false → exec (.selftestRun c n) s = .next s) ∧
  (∀ c n s, s.proc.processing = true → judged (cmdSelftest n) { c with aside := true } s = none →
      (cmdSelftest n).check { c with aside := true } s = none → pU c 32 1 = 0 →
    exec (.selftestRun c n) s = .next { s with hif := { s.hif with
      selfTests := s.hif.selfTests ++ [({ c with aside := true }, n, 128)] } }) ∧
  (∀ c n s, s.proc.processing = true → judged (cmdSelftest n) { c with aside := true } s = none →
      (cmdSelftest n).check { c with aside := true } s = none → pU c 32 1 = 4 → (eng s (pU c 34 2)).retired = false →
    ∃ u, exec (.selftestRun c n) s = .next { u with hif := { s.hif with
        selfTests := s.hif.selfTests ++ [({ c with aside := true }, n, 0)] } } ∧
      engOnly (pU c 34 2) { eng s (pU c 34 2) with paused := true, blocked := true, resume := false } s u) ∧
  (∀ c n s, s.proc.processing = true → judged (cmdSelftest n) { c with aside := true } s = none →
      (cmdSelftest n).check { c with aside := true } s = none → 1 ≤ pU c 32 1 → pU c 32 1 ≠ 4 ∨ (eng s (pU c 34 2)).retired = true →
      n ≠ 0 →
    exec (.selftestRun c n) s = .next (completeAside { c with aside := true } stOk
      (le 1 1 ++ le 1 (pU c 32 1) ++ le 2 (pU c 34 2) ++ le 4 n) [] (testOutcome (pU c 32 1) (pU c 34 2) false n s))) ∧
  (∀ c s, s.proc.processing = true → judged (cmdSelftest 0) { c with aside := true } s = none →
      (cmdSelftest 0).check { c with aside := true } s = none → 1 ≤ pU c 32 1 → pU c 32 1 ≠ 4 ∨ (eng s (pU c 34 2)).retired = true →
      bit (pU c 33 1) 0 = true →
    exec (.selftestRun c 0) s = .next (completeAside { c with aside := true } stOk
      (le 1 0 ++ le 1 (pU c 32 1) ++ le 2 (pU c 34 2) ++ le 4 0) []
      (returnUnit (pU c 32 1) (pU c 34 2) (testOutcome (pU c 32 1) (pU c 34 2) true 0 s)))) ∧
  (∀ c s, c.aside = true → bit (pU c 33 1) 0 = false →
    selftestEnds c 0 s = completeAside c stOk (le 1 0 ++ le 1 (pU c 32 1) ++ le 2 (pU c 34 2) ++ le 4 0) []
      (testOutcome (pU c 32 1) (pU c 34 2) true 0 s)) ∧
  (∀ c n s, c.aside = true → n ≠ 0 → pU c 32 1 = 0 → bankState s (pU c 34 2) = 0 →
    selftestEnds c n s = completeAside c stOk (le 1 1 ++ le 1 0 ++ le 2 (pU c 34 2) ++ le 4 n) []
      (bankFails (pU c 34 2) (testOutcome 0 (pU c 34 2) false n s))) ∧
  (∀ cls ix n s, ∃ u, testOutcome cls ix true n s = emitLocal 0x7004 (unitSource cls ix) cls ix 0 n u ∧
    regOnly rWngFaults (withField (reg s rWngFaults) 15 0 (min 0xFFFF (rbits s rWngFaults 15 0 + 1))) s u) ∧
  (∀ cls ix n s, s.pair.role ≠ 1 →
    ∃ u, testOutcome cls ix false n s = emitLocal 0x7004 (unitSource cls ix) cls ix 1 n u ∧
    regOnly rWngFaults (withField (reg s rWngFaults) 31 16 (min 0xFFFF (rbits s rWngFaults 31 16 + 1))) s u)

/-- The cue in every power mode and the record its Intake latches. The cue counter and the nominal start
advance by one cue; what else happens in each mode; a live record begins with the cue entry and the draw and
takes the inputs that fit in canonical order. Where the spec is silent it says the model's own choice or
reading: log entries 14, 15, 20. (R29, R30, R35 to R41, R308.) -/
def Obligations.CueCountsAndIntake : Prop :=
  (∀ i s, s.pwr.mode = .off → exec (.cue i) s = .next s) ∧
  (∀ i s, s.pwr.mode = .keepOnly ∨ s.pwr.mode = .retention →
    ∃ t, exec (.cue i) s = .next t ∧ t = { s with
      proc := { s.proc with cueNow := s.proc.cueNow + 1, cueStart := s.proc.cueStart + 102400000#64 }
      time := { s.time with tb0 := t.time.tb0 }, wire0 := [], wire1 := []
      board := { s.board with copied := false }, upd := { s.upd with selBusy := none, setBusy := none } } ∧
      (0 < sdiff64 (cueStamp s (s.proc.cueStart + 102400000#64)) s.time.tb0 →
        t.time.tb0 = cueStamp s (s.proc.cueStart + 102400000#64))) ∧
  (∀ i s, s.pwr.mode = .startup →
    ∃ u, exec (.cue i) s = .next (readTemps i.tPit i.tStage (spotCue u)) ∧
      u = { countCue s with proc := { (countCue s).proc with nextDraw := i.draw } }) ∧
  (∀ i s, s.pwr.mode = .full ∨ s.pwr.mode = .quiet → s.pair.promo = none → s.pwr.restartReq = none →
      s.proc.processing = false →
    ∃ u, exec (.cue i) s = .next (readTemps i.tPit i.tStage (hardwareCue i u)) ∧
      u = { countCue s with proc := { (countCue s).proc with nextDraw := i.draw } }) ∧
  (∀ i s k, s.pwr.mode = .full ∨ s.pwr.mode = .quiet → s.pair.promo = none → s.pwr.restartReq = some k →
    ∃ u, exec (.cue i) s = .next (readTemps i.tPit i.tStage (hardwareCue i (restartNow k u))) ∧
      u = { countCue s with proc := { (countCue s).proc with nextDraw := i.draw } }) ∧
  (∀ i s, s.pwr.mode = .full ∨ s.pwr.mode = .quiet → s.pair.promo = none → s.pwr.restartReq = none →
      s.proc.processing = true → s.pair.role = 0 → s.proc.bookMode ≠ 2 → s.pwr.retReq = none → s.pwr.wakeIn = none →
    ∃ u v, exec (.cue i) s = .next (readTemps i.tPit i.tStage (hardwareCue i (intake latchLive v))) ∧
      u = { countCue s with proc := { (countCue s).proc with nextDraw := i.draw } } ∧ v = { u with engs := v.engs } ∧
      ∀ e, eng v e = if (eng s e).resume then { eng s e with paused := false, resume := false } else eng s e) ∧
  (∀ s, ∃ t, countCue s = t ∧ t.proc.cueNow = s.proc.cueNow + 1 ∧ t.proc.cueStart = s.proc.cueStart + 102400000#64) ∧
  (∀ s, s.pair.fixedD = false → s.pair.role = 0 →
    ∃ t r, latchLive s = t ∧ t.proc.latched = s.proc.latched ++ [r] ∧
      r.cue = s.proc.cueNow ∧ r.draw = s.proc.nextDraw ∧ r.replayed = false ∧
      r.entries.length = 2 + ((fitEntries 112 false (canonical s.proc.inputs)).1).length ∧
      r.entries.take 2 = [
        ⟨0, 0, 0, s.proc.cueNow - 1, false, le 4 s.proc.cueNow.toNat ++ le 4 r.last.toNat ++ le 8 r.start.toNat, .message 16⟩,
        ⟨1, 0, 0, s.proc.cueNow - 1, false, padTo 32 (s.proc.nextDraw.take 32), .message 32⟩] ∧
      t.proc.inputs = (fitEntries 112 false (canonical s.proc.inputs)).2 ∧
      t.proc.bookHash = r.hash ∧ t.proc.first = false ∧
      r.last = (if s.proc.first then s.proc.cueNow - 1 else ((s.proc.latched.getLast?).map (·.cue)).getD s.proc.procCue))

/-- Processing starts. It starts only when START is set, the boot is done, TB0 stands at a cue start and every
core test of a restart has passed; it takes the role of UND_CTL.MODE and zeroes configuration, nodes, tables,
keys, ledgers, sequences and hashes. Where the spec is silent it says the model's own choice or reading: log
entries 11, 17, 18, 19. (R67, R470, R575.) -/
def Obligations.ProcessingStarts : Prop :=
  (∀ x s, startDue s = false → exec (.processingStart x) s = .next s) ∧
  (∀ x s, startDue s = true → exec (.processingStart x) s = .next (startProcessing x s)) ∧
  (∀ s, startDue s = true → s.proc.processing = false ∧ s.pwr.bootDone = true ∧ rbit s rSysCtl 0 = true ∧
    s.time.tb0 = s.proc.cueStart ∧ s.proc.stopped = false ∧
    (s.pwr.restarting = true → s.pwr.coreTests = [] ∧ 307200000 ≤ sdiff64 s.time.tb0 s.proc.stopAt)) ∧
  (∀ s, rbits s rUndCtl 1 0 = 0 → (zeroProcessing s).pair.role = 0) ∧
  (∀ s, rbits s rUndCtl 1 0 = 1 → (zeroProcessing s).pair.role = 5) ∧
  (∀ s, rbits s rUndCtl 1 0 = 2 → (zeroProcessing s).pair.role = 7) ∧
  (∀ s, ∃ t, zeroProcessing s = t ∧ t.proc.processing = true ∧ t.cfgs = [] ∧ t.mesh.nodes = [] ∧ t.mesh.lpm = [] ∧
    t.sec.keys = {} ∧ t.txa.ledger = [] ∧ t.txb.ledger = [] ∧ t.txa.seq = 0 ∧ t.txb.seq = 0 ∧
    t.proc.bookHash = 0 ∧ t.proc.outHash = 0 ∧ t.proc.seqs = [] ∧ t.pwr.restarting = false ∧ t.pair.mode = (if rbits s rUndCtl 1 0 = 3 then 0 else rbits s rUndCtl 1 0))

/-- Work, Publish and Housekeeping, and how an engine takes an item. The phases run in order and once a cue;
engines publish in the order of R57; an item that does not fit waits with everything after it, one that fits
is charged. Where the spec is silent it says the model's own choice or reading: log entries 24, 76, 79, 90,
94, 103. (R34, R35, R53, R57.) -/
def Obligations.PhasesAndItems : Prop :=
  (∀ f s, s.proc.processing = true → s.proc.hkDone = false → s.proc.phase = .intake →
    exec (.workPhase f) s = .next (noteWrites s ((List.range 12).foldl shedEngine (judgeWins (workList
      (bankOps f { s with proc := { s.proc with phase := .work, buffers := buffersHeld s } })))))) ∧
  (∀ s, s.proc.processing = true → s.proc.hkDone = false → s.proc.phase = .work →
    exec .publishPhase s = .next (showUsed (compareDigests (publish { s with proc := { s.proc with phase := .publish } })))) ∧
  (∀ f s, s.proc.processing = true → s.proc.hkDone = false → s.proc.phase = .publish →
    exec (.housekeepingPhase f) s = .next (closeCue s (housekeeping f { s with proc := { s.proc with phase := .housekeeping } }))) ∧
  (∀ f s, s.proc.processing = false ∨ s.proc.hkDone = true →
    exec (.workPhase f) s = .next s ∧ exec .publishPhase s = .next s ∧ exec (.housekeepingPhase f) s = .next s ∧
      exec .sceneBoundary s = .next s ∧ exec .heldCommandDue s = .next s) ∧
  (∀ f s, s.proc.phase ≠ .intake → exec (.workPhase f) s = .next s) ∧
  (∀ s, s.proc.phase ≠ .work → exec .publishPhase s = .next s) ∧
  (∀ f s, s.proc.phase ≠ .publish → exec (.housekeepingPhase f) s = .next s) ∧
  publishOrder = [10, 11, 8, 9, 0, 1, 2, 3, 4, 5, 6, 7] ∧
  (∀ e cost it eff s, s.proc.processing = false → takeItem e cost it eff s = s) ∧
  (∀ e cost it eff s, s.proc.processing = true → engHeld s e cost = true →
    engOnly e { eng s e with blocked := true, deferred := (eng s e).deferred ++ [(s.proc.itemCue, it)] } s
      (takeItem e cost it eff s)) ∧
  (∀ e cost it eff s, s.proc.processing = true → engHeld s e cost = false →
    ∃ u, takeItem e cost it eff s = eff u ∧ engOnly e { eng s e with left := (eng s e).left - cost } s u) ∧
  (∀ e cost s, (eng s e).left < cost ∨ (eng s e).blocked = true ∨ (eng s e).paused = true → engHeld s e cost = true)

/-- The scene boundary and held commands. A boundary clears the counts of every node and asks for the
front-end identities again, and only at a boundary; a held command whose cue has come runs and leaves the
list. Where the spec is silent it says the model's own choice or reading: log entry 25. (R32, R55.) -/
def Obligations.SceneAndHeldCommands : Prop :=
  (∀ s, s.proc.processing = true → s.proc.hkDone = false → s.proc.phase = .work → isBoundary s s.proc.procCue = false →
    exec .sceneBoundary s = .next s) ∧
  (∀ s, s.proc.processing = true → s.proc.hkDone = false → s.proc.phase = .work → isBoundary s s.proc.procCue = true →
      s.proc.sceneAt ≠ some s.proc.procCue → tb1Follow s = false → s.upd.tour = none →
    ∃ t, exec .sceneBoundary s = .next t ∧ t = { s with
        proc := { s.proc with sceneAt := some s.proc.procCue, itemCue := s.proc.procCue }
        pwr := { s.pwr with feidDue := List.range 8 }
        mesh := { s.mesh with nodes := t.mesh.nodes, freed := t.mesh.freed, freedShort := t.mesh.freedShort } } ∧
      t.mesh.freed = (s.mesh.freed.map fun x => (x.1, x.2 - 1)).filter (fun x => x.2 != 0) ∧
      t.mesh.freedShort = (s.mesh.freedShort.map fun x => (x.1, x.2 - 1)).filter (fun x => x.2 != 0) ∧
      ∀ i, node t i = { node s i with failures := 0, micFails := 0, replays := 0, badSeqs := 0, alarmed := false }) ∧
  (∀ s, s.proc.processing = true → s.proc.hkDone = false → s.proc.phase = .work →
    ∃ l u, exec .heldCommandDue s = .next (l.foldl (fun u h => runHeldItem h.engine h.op h.sub u) u) ∧
      l = s.proc.held.filter (fun h => decide (sdiff32 h.target s.proc.procCue ≤ 0)) ∧
      u = { s with proc := { s.proc with
        held := s.proc.held.filter (fun h => !decide (sdiff32 h.target s.proc.procCue ≤ 0)), itemCue := s.proc.procCue } })

/-- How updates end and the roll switches its steps. What the end of a stage, a verify, a confirmation or a
flash operation does, and which step a roll switches, stops at or completes. Where the spec is silent it says
the model's own choice or reading: log entries 24, 36, 37, 39. (R537 to R543.) -/
def Obligations.UpdateSteps : Prop :=
  (∀ u s, s.proc.processing = false → exec (.updateEnd u) s = .next s) ∧
  (∀ u s, s.proc.processing = true → opOf s.upd u = none → opOf s.updP u = none → exec (.updateEnd u) s = .next s) ∧
  (∀ u c s, s.proc.processing = true → u.opcode = 0x80 → opOf s.upd u = some c → c.aside = false → c.partner = false →
      u.outcome = 0 →
    ∃ t, exec (.updateEnd u) s = .next t ∧
      paid 8 10 (withOut 8 (.complete c 0x0080 stOk (le 4 u.bytes) [])
        (withOut 8 (.record ⟨0xA001, 8, 0, s.proc.procCue, s.proc.procStart, 0, 0, 0, 0⟩) { s with upd := t.upd })) t ∧
      t.upd.staging = none ∧ (selNow t.upd).staged = c.length) ∧
  (∀ u c s, s.proc.processing = true → u.opcode = 0x80 → opOf s.upd u = some c → c.aside = false → c.partner = false →
      u.outcome ≠ 0 →
    ∃ t, exec (.updateEnd u) s = .next t ∧
      paid 8 10 (withOut 8 (.complete c 0x0080 stIntegrity [] []) { s with upd := { s.upd with staging := none } }) t) ∧
  (∀ u s, opOf s.upd u = none → exec (.flashOperationEnd u) s = .next s) ∧
  (∀ u c s, opOf s.upd u = some c → c.aside = false → u.opcode = 0x80 → u.outcome ≠ 8 → takesInputs s = true →
      u.outcome ≠ 0 ∨ s.upd.stageHit = false →
    ∃ t, exec (.flashOperationEnd u) s = .next t ∧
      t.proc.inputs = s.proc.inputs ++ [⟨9, u.ring, smGet 0 s.proc.seqs (256 * 9 + u.ring), s.proc.cueNow, false,
        updEndBytes u, .row (.updateEnd u)⟩] ∧
      t = { s with proc := { s.proc with inputs := t.proc.inputs, seqs := t.proc.seqs } }) ∧
  (∀ u c s, opOf s.upd u = some c → c.aside = false → u.opcode = 0x80 → u.outcome = 0 → takesInputs s = true →
      s.upd.stageHit = true →
    ∃ t, exec (.flashOperationEnd u) s = .next t ∧
      t.proc.inputs = s.proc.inputs ++ [⟨9, u.ring, smGet 0 s.proc.seqs (256 * 9 + u.ring), s.proc.cueNow, false,
        updEndBytes { u with outcome := 9 }, .row (.updateEnd { u with outcome := 9 })⟩] ∧
      t = { s with proc := { s.proc with inputs := t.proc.inputs, seqs := t.proc.seqs } }) ∧
  (∀ u c s x, opOf s.upd u = some c → c.aside = false → u.opcode = 0x83 → u.outcome = 0 → takesInputs s = true →
      x = confirmImage s.upd →
    ∃ t v, exec (.flashOperationEnd u) s = .next t ∧
      t.sec = { s.sec with fuses := { s.sec.fuses with
        secVer := max s.sec.fuses.secVer x.1, revoke := s.sec.fuses.revoke ||| x.2 } } ∧
      v = { u with bytes := (max s.sec.fuses.secVer x.1) % 256 + 256 * (s.sec.fuses.revoke ||| x.2).toNat } ∧
      t.proc.inputs = s.proc.inputs ++ [⟨9, u.ring, smGet 0 s.proc.seqs (256 * 9 + u.ring), s.proc.cueNow, false,
        updEndBytes v, .row (.updateEnd v)⟩] ∧
      t = { s with sec := t.sec, proc := { s.proc with inputs := t.proc.inputs, seqs := t.proc.seqs } }) ∧
  (∀ r s, s.proc.processing = true → s.upd.roll = some r → s.updP.roll = none → stepDue s r = true → r.step < 12 →
      r.ends.any (fun x => x.1 == r.step + 1 && x.2 == 0) = true → stepDue s { r with step := r.step + 1 } = false →
    ∃ t, exec .stepSwitch s = .next t ∧
      t.upd = { s.upd with lastStep := r.step + 1, roll := some { r with step := r.step + 1 } } ∧
      (∀ e, eng t e = if e = stepEngine (r.step + 1) then { eng s e with switched := true } else eng s e) ∧
      t = { s with
        upd := t.upd, engs := t.engs
        proc := { s.proc with outs := s.proc.outs ++ [(8, .record ⟨0xA004, 8, 0, s.proc.procCue, s.proc.procStart, 0, 0, 0, 0⟩)] } }) ∧
  (∀ s, s.proc.processing = true → s.upd.roll = none → s.updP.roll = none → exec .stepSwitch s = .next s) ∧
  (∀ r s, s.proc.processing = true → s.upd.roll = some r → s.updP.roll = none → stepDue s r = false →
    exec .stepSwitch s = .next s) ∧
  (∀ s, s.proc.processing = false → exec .stepSwitch s = .next s) ∧
  (∀ r s, s.upd.roll = some r → stepDue s r = true → r.step < 12 → r.ends.any (fun x => x.1 == r.step + 1 && x.2 == 0) = true →
    ∃ t, switchNext false s = t ∧ t.upd = { s.upd with lastStep := r.step + 1, roll := some { r with step := r.step + 1 } } ∧
      (∀ e, eng t e = if e = stepEngine (r.step + 1) then { eng s e with switched := true } else eng s e) ∧
      t.proc = { s.proc with outs := s.proc.outs ++ [(8, .record ⟨0xA004, 8, 0, s.proc.procCue, s.proc.procStart, 0, 0, 0, 0⟩)] }) ∧
  (∀ r s, s.upd.roll = some r → stepDue s r = true → r.step < 12 → r.ends.any (fun x => x.1 == r.step + 1 && x.2 == 0) = false →
    switchNext false s = stopRoll false (r.step + 1) s) ∧
  (∀ r s, s.upd.roll = some r → stepDue s r = true → r.step = 12 → switchNext false s = completeRoll false r s) ∧
  (∀ s, switchSteps 13 false s = switchNext false (switchNext false (switchNext false (switchNext false (switchNext false
    (switchNext false (switchNext false (switchNext false (switchNext false (switchNext false (switchNext false
    (switchNext false (switchNext false s)))))))))))))

/-- The ROM, the choice of slot and the end of the boot. Which slot boots, when both fail and recovery begins,
and what the check of the hashes at BOOT_DONE leaves. Where the spec is silent it says the model's own choice
or reading: log entry 35. (R532, R574.) -/
def Obligations.RomAndBoot : Prop :=
  (∀ v s, s.pwr.mode ≠ .startup ∨ s.pwr.rom = true → exec (.romStart v) s = .next s) ∧
  (∀ v s, s.pwr.mode = .startup → s.pwr.rom = false → v.octal = true → imageReason s v.bootBlock = 0 →
      (selNow s.upd).trial = false → slotReason s v (selNow s.upd).slot = 0 →
    exec (.romStart v) s = .next (bootSlot v (selNow s.upd).slot { s with pwr := { s.pwr with rom := true } })) ∧
  (∀ v s, s.pwr.mode = .startup → s.pwr.rom = false → v.octal = false →
    exec (.romStart v) s = .next (emitLocal 0xA00D 226 0 0 0 0
      { s with pwr := { s.pwr with rom := true }, hif := { s.hif with recovery := true } })) ∧
  (∀ v s, s.pwr.mode = .startup → s.pwr.rom = false → v.octal = true → imageReason s v.bootBlock ≠ 0 →
    ∃ u, exec (.romStart v) s = .next (emitLocal 0xA00D 226 0 0 0 0 { u with hif := { u.hif with recovery := true } }) ∧
      u = secureBoot (imageReason s v.bootBlock) v.bootBlock.keySlot v.bootBlock.secVersion 3
        { s with pwr := { s.pwr with rom := true } }) ∧
  (∀ v s, s.pwr.mode = .startup → s.pwr.rom = false → v.octal = true → imageReason s v.bootBlock = 0 →
      (selNow s.upd).trial = false →
      slotReason s v (selNow s.upd).slot ≠ 0 → slotReason s v (1 - (selNow s.upd).slot) ≠ 0 →
    ∃ u, exec (.romStart v) s = .next (emitLocal 0xA00D 226 0 0 0 0 { u with hif := { u.hif with recovery := true } }) ∧
      u = slotFails v (1 - (selNow s.upd).slot) (slotFails v (selNow s.upd).slot { s with pwr := { s.pwr with rom := true } })) ∧
  (∀ v s, settingsHi s.upd = none → ∀ slot, ∃ t, bootSlot v slot s = t ∧
    t = { s with
      upd := { s.upd with
        slot := slot, version := (slotBundle v slot).1, rclass := (slotBundle v slot).2
        bootKey := (slotKey v slot).1, bootSec := (slotKey v slot).2, bootRevoke := slotRevoke v slot
        bootVersion := (slotBundle v slot).1, running := none }
      pwr := { s.pwr with coreTests := List.range 12 }
      txa := { s.txa with cal := none }, txb := { s.txb with cal := none }, ports := t.ports, lines := t.lines } ∧
    (∀ p, port t p = { port s p with cal := none }) ∧ ∀ n, line t n = { line s n with tables := none }) ∧
  (∀ t s, s.pwr.mode = .startup → s.pwr.rom = true → s.pwr.bootDone = false → s.hif.recovery = false → s.pwr.recImage = false →
      s.pwr.coreTests = [] →
    ∃ u, exec (.bootDone true t) s = .next { u with
        pwr := { u.pwr with bootDone := true }, sec := { u.sec with trngOk := true, reserve := 256 } } ∧
      u = secureBoot 0 s.upd.bootKey s.upd.bootSec s.upd.slot (atTime t s)) ∧
  (∀ t s, s.pwr.mode = .startup → s.pwr.rom = true → s.pwr.bootDone = false → s.hif.recovery = false → s.pwr.recImage = false →
      s.pwr.coreTests = [] →
    exec (.bootDone false t) s = .next (secureBoot 6 s.upd.bootKey s.upd.bootSec s.upd.slot (atTime t s))) ∧
  (∀ b t s, s.pwr.mode ≠ .startup ∨ s.pwr.rom = false ∨ s.pwr.bootDone = true ∨ s.pwr.coreTests ≠ [] →
    exec (.bootDone b t) s = .next (atTime t s))

/-- Front-end modules: reading and reporting. A read while the device is off, in Retention or not asked for
does nothing; a first descriptor is shown and latched as an input; its event is one record of the Stage
Manager. Where the spec is silent it says the model's own choice or reading: log entry 24. (R577 to R579.) -/
def Obligations.Modules : Prop :=
  (∀ a b s, isPowered s = false ∨ s.pwr.mode = .retention → exec (.moduleReadEnd a b) s = .next s) ∧
  (∀ (a : Fin 8) b s, isPowered s = true → s.pwr.mode ≠ .retention → s.proc.processing = true → b ≠ [] →
      s.pwr.feidDue.contains a.val = false → exec (.moduleReadEnd a b) s = .next s) ∧
  (∀ (a : Fin 8) b s, isPowered s = true → s.pwr.mode ≠ .retention → s.proc.processing = true →
      s.pwr.feidDue.contains a.val = true → descOk b = true → smGet false s.pwr.feidSeen a = true → descAt s a = b →
    ∃ t, exec (.moduleReadEnd a b) s = .next t ∧ t = { s with pwr := { s.pwr with
      feid := smSet [] s.pwr.feid a b, feidMiss := smSet 0 s.pwr.feidMiss a 0, feidSeen := smSet false s.pwr.feidSeen a true
      feidDue := s.pwr.feidDue.filter (· != a.val) } }) ∧
  (∀ (a : Fin 8) b s, isPowered s = true → s.pwr.mode ≠ .retention → takesInputs s = true →
      s.pwr.feidDue.contains a.val = true → descOk b = true → smGet false s.pwr.feidSeen a = false →
    ∃ t, exec (.moduleReadEnd a b) s = .next t ∧
      t.proc.inputs = s.proc.inputs ++ [⟨3, 2, smGet 0 s.proc.seqs (256 * 3 + 2), s.proc.cueNow, false,
        moduleBytes ⟨0, a, b⟩, .row (.moduleEvent ⟨0, a, b⟩)⟩] ∧ descAt t a = b ∧
      reg t rSysFeid = reg s rSysFeid ||| BitVec.ofNat 32 (2 ^ (8 + a.val))) ∧
  (∀ x s, s.proc.processing = true → engHeld s 10 10 = false →
    ∃ t, exec (.moduleEvent x) s = .next t ∧ paid 10 10 (withOut 10 (.record ⟨(match x.kind with
        | 0 => 0xB00A
        | 1 => 0xB00B
        | _ => 0xB00C), 10, 0, s.proc.procCue, s.proc.procStart, w32 x.addr, w32 (uAt x.desc 0 4), w32 (uAt x.desc 4 4),
        w32 (uAt x.desc 8 4)⟩) s) t)

/-- LOCAL records, the Call Board and the journal. Where a LOCAL record goes with the event ring off, masked
or with room; how the store numbers it; what the end of the journal scan restores. Where the spec is silent it
says the model's own choice or reading: log entries 52, 74, 83. (R393, R509, R516, R517, R520.) -/
def Obligations.LocalRecords : Prop :=
  (∀ code src a b c d s, evEn s = false → evMasked s src = false →
    ∃ u, u = { s with board := boardWords (localWords code src a b c d s) s.board
                      hif := { s.hif with evr := { s.hif.evr with lost := s.hif.evr.lost + 1 } } } ∧
      regOnly rHifEqLost (w32 (min 0xFFFFFFFF ((reg s rHifEqLost).toNat + 1))) u (emitLocal code src a b c d s)) ∧
  (∀ code src a b c d s, evMasked s src = true →
    emitLocal code src a b c d s = { s with board := boardWords (localWords code src a b c d s) s.board }) ∧
  (∀ code src a b c d s, evMasked s src = false → evRoom s = true →
    ∃ u v, emitLocal code src a b c d s = vecSignal (evVec s src) v ∧
      u = hostWrite (ringBase s rHifEqBaseLo rHifEqBaseHi + 32 * (s.hif.evr.tail % evSize s))
        (bytes32 (localWords code src a b c d s)) { s with board := boardWords (localWords code src a b c d s) s.board } ∧
      v = hostWrite (ringBase s rHifEqWbLo rHifEqWbHi) (le 4 ((s.hif.evr.tail + 1) % (2 * evSize s)))
        { u with hif := { u.hif with evr := { u.hif.evr with tail := (s.hif.evr.tail + 1) % (2 * evSize s) } } }) ∧
  (∀ l (b : Board), b.scanned = true → ∃ t, boardWords l b = t ∧
    smGet none t.store (b.next.toNat % 16384) = some ⟨b.next, l⟩ ∧ t.next = b.next + 1 ∧
    (∀ i, i ≠ b.next.toNat % 16384 → smGet none t.store i = smGet none b.store i) ∧
    t = { b with store := t.store, next := t.next }) ∧
  (∀ l (b : Board), b.scanned = false → b.waiting.length < 64 → boardWords l b = { b with waiting := b.waiting ++ [l] }) ∧
  (∀ l (b : Board), b.scanned = false → 64 ≤ b.waiting.length →
    boardWords l b = { b with dropped := min 0xFFFFFFFF (b.dropped + 1) }) ∧
  (∀ code src a b c d s, ∃ t, emitLocal code src a b c d s = t ∧
    t = { s with board := t.board, regs := t.regs, hif := { s.hif with
      hostMem := t.hif.hostMem, evr := t.hif.evr, pba := t.hif.pba
      vecDue := t.hif.vecDue, vecHold := t.hif.vecHold, vecSent := t.hif.vecSent, vecEnd := t.hif.vecEnd } }) ∧
  (∀ s, exec .journalEraseEnd s = .next { s with board := { s.board with erasing := none, paused := false } }) ∧
  (∀ x s, s.board.scanned = true → exec (.journalScanComplete x) s = .next (atTime x s)) ∧
  (∀ x s, s.board.scanned = false → evEn s = false →
    ∃ t b, exec (.journalScanComplete x) s = .next t ∧ t.board.scanned = true ∧ t.board.waiting = [] ∧
      b = (match highestSeq s.board with
        | some h => h + 1
        | none => 0) ∧ t.board.jnlSeq = b ∧ t.board.next = b + 1 + BitVec.ofNat 32 s.board.waiting.length ∧
      t.proc = s.proc ∧ t.mesh = s.mesh) ∧
  (∀ b : Board, b.jnlSeq ≠ b.next → b.paused = false → b.ahead = some ((b.jnlSeq.toNat % 262144 / 8192 + 1) % 32) →
    copyOne b = { b with
      jnl := smSet none b.jnl (b.jnlSeq.toNat % 262144) (storeRec b b.jnlSeq), jnlSeq := b.jnlSeq + 1 }) ∧
  (∀ b : Board, b.jnlSeq = b.next ∨ b.paused = true → copyOne b = b) ∧
  (∀ (b : Board) n, n = b.jnlSeq.toNat % 262144 / 8192 → b.jnlSeq ≠ b.next → b.paused = false →
      b.ahead ≠ some ((n + 1) % 32) → b.erasing.isSome = true → copyOne b = { b with paused := true }) ∧
  (∀ (b : Board) n, n = b.jnlSeq.toNat % 262144 / 8192 → b.jnlSeq ≠ b.next → b.paused = false →
      b.ahead = some n → b.erasing = none →
    (copyOne b).erasing = some ((n + 1) % 32) ∧ (copyOne b).ahead = some ((n + 1) % 32) ∧
      (copyOne b).jnlSeq = b.jnlSeq + 1 ∧
      ∀ i, i / 8192 = (n + 1) % 32 → i ≠ b.jnlSeq.toNat % 262144 → smGet none (copyOne b).jnl i = none) ∧
  (∀ s, s.board.scanned = true → (s.board.next - s.board.jnlSeq).toInt ≤ 16384 → ∃ b,
    b = copyMany 32 s.board ∧ journalCopy s = { s with board := { b with copied := b.jnlSeq != s.board.jnlSeq } })

/-- Receive ports and transmit blanking. Enabling puts the gain code at MAN_GAIN in both modes; disabling ends
what the port receives; FORCE acts in manual mode only; an overload step lowers the gain and leaves its
record, and each step of the gain marks what the port receives and scales its lines' gain; a chain blanks its
ports from its launch less PRE and frees them after its fall plus POST. Where the spec is silent it says the
model's own choice or reading: log entries 74, 89. (R83 to R94, R112, R113.) -/
def Obligations.ReceivePortsAndBlanking : Prop :=
  (∀ (p : Fin 4) s, rbit s (rxfReg p 0) 0 = true → exec (.portEnable p) s = .next s) ∧
  (∀ (p : Fin 4) s, rbit s (rxfReg p 0) 0 = false →
    ∃ u t, exec (.portEnable p) s = .next t ∧ regOnly (rxfReg p 0) (reg s (rxfReg p 0) ||| 1#32) s u ∧
      portOnly p { port (spotRoll u) p with
        spot := { (port (spotRoll u) p).spot with gains := [rbits s (rxfReg p 0) 13 8] }
        gain := rbits s (rxfReg p 0) 13 8, pend := 0, pendRun := 0, oos := false } (spotRoll u) t) ∧
  (∀ (p : Fin 4) s, rbit s (rxfReg p 0) 0 = false → exec (.portDisable p) s = .next s) ∧
  (∀ (p : Fin 4) s, rbit s (rxfReg p 0) 0 = true →
    ∃ u v t, exec (.portDisable p) s = .next t ∧ regOnly (rxfReg p 0) (withField (reg s (rxfReg p 0)) 0 0 0) s u ∧
      v = silencePort p s.time.tb0 u ∧ portOnly p { port v p with pend := 0, pendRun := 0 } v t) ∧
  (∀ (p : Fin 4) t s c, s.hif.capture = some c → c.gain.isSome = true → byteAt c.sub.params 0 = p →
    (captureLost p s).hif.capture = some { c with dead := true } ∧
    (s.lines = [] → silencePort p t s = captureLost p s)) ∧
  (∀ (p : Fin 4) s, rbit s (rxfReg p 0) 3 = true → portOn s p = true →
    ∃ u t, exec (.portForce p) s = .next t ∧ marked p 1 u t ∧
      portOnly p { port (stepGain p (rbits s (rxfReg p 0) 13 8) s) p with pend := 0, pendRun := 0 }
        (stepGain p (rbits s (rxfReg p 0) 13 8) s) u) ∧
  (∀ (p : Fin 4) s, rbit s (rxfReg p 0) 3 = false ∨ portOn s p = false → exec (.portForce p) s = .next s) ∧
  (∀ (p : Fin 4) g s, (port s p).gain = g → stepGain p g s = s) ∧
  (∀ (p : Fin 4) g s, (port s p).gain ≠ g →
    ∃ u, portOnly p { port (spotRoll s) p with
        spot := { (port (spotRoll s) p).spot with gains := (port (spotRoll s) p).spot.gains ++ [g] }, gain := g }
        (spotRoll s) u ∧
      stepGain p g s = { u with lines := (stepGain p g s).lines } ∧
      ∀ n, line (stepGain p g s) n = if (line u n).en ∧ linePort (line u n) = p
        then { line u n with inv := (line u n).inv + (fullScale s p g - fullScale s p (port s p).gain) }
        else line u n) ∧
  (∀ (p : Fin 4) n t s, portOn s p = false ∨ isBlanked (port s p) = true ∨ rbit s (rxfReg p 8) 0 = false ∨
      n ≤ rbits s (rxfReg p 8) 15 8 →
    exec (.overloadStep p n t) s = .next (atTime t s)) ∧
  (∀ (p : Fin 4) n t s, portOn s p = true → isBlanked (port s p) = false → rbits s (rxfReg p 8) 15 8 < n →
      rbit s (rxfReg p 8) 0 = true → 0 < (port s p).gain →
    ∃ r a b u v w x, exec (.overloadStep p n t) s = .next (emitLocal 0x1001 (16 + p) p (port s p).gain
        ((port s p).gain - 6) (reg w (rxfReg p 0x18)).toNat x) ∧ r = spotRoll (atTime t s) ∧
      portOnly p { port r p with spot := { (port r p).spot with ovl := true } } r a ∧
      b = stepGain p ((port s p).gain - 6) a ∧ portOnly p { port b p with ovlCue := true } b u ∧ marked p 1 u v ∧
      regOnly (rxfReg p 0x18) (w32 (min 0xFFFFFFFF ((reg v (rxfReg p 0x18)).toNat + 1))) v w ∧
      regOnly (rxfReg p 0x1C) (reg w (rxfReg p 0x1C) ||| 1#32) w x) ∧
  (∀ (p : Fin 4) n t s, portOn s p = true → isBlanked (port s p) = false → rbits s (rxfReg p 8) 15 8 < n →
      rbit s (rxfReg p 8) 0 = true → (port s p).gain = 0 →
    ∃ u, portOnly p { port s p with satCue := true } (atTime t s) u ∧
      ((port s p).satCue = true ∨ (port s p).satLast = true → exec (.overloadStep p n t) s = .next u) ∧
      ((port s p).satCue = false → (port s p).satLast = false →
        ∃ v, regOnly (rxfReg p 0x1C) (reg u (rxfReg p 0x1C) ||| 2#32) u v ∧
          exec (.overloadStep p n t) s = .next (emitLocal 0x1002 (16 + p) 0 0 0 0 v))) ∧
  (∀ c t s, (∀ r ∈ waitingReqs (tx s c), (tx s c).blankOf = some r.seq ∨
      later64 (minus (ownStamp s r.start) (rbits s 0x20004 7 0 * usTicks)) t = true) →
    exec (.blankBegin c t) s = .next (atTime t s)) ∧
  (∀ c t s r l, waitingReqs (tx s c) = r :: l → (tx s c).blankOf ≠ some r.seq →
      later64 (minus (ownStamp s r.start) (rbits s 0x20004 7 0 * usTicks)) t = false →
    exec (.blankBegin c t) s = .next (blankBegin c r.seq (atTime t s))) ∧
  (∀ c q s, rbits s 0x20000 (if c = .a then 3 else 7) (if c = .a then 0 else 4) = 0 →
    blankBegin c q s = withTx c { tx s c with
      blank := true, blankOf := some q, blankPorts := 0, blankPost := rbits s 0x20004 15 8, blankFrom := none } s) ∧
  (∀ q s, rbits s 0x20000 3 0 = 4 →
    ∃ u v w, u = { s with txa := { s.txa with
        blank := true, blankOf := some q, blankPorts := 4, blankPost := rbits s 0x20004 15 8, blankFrom := none } } ∧
      portOnly 2 { port (spotRoll u) 2 with spot := { (port (spotRoll u) 2).spot with blank := true } } (spotRoll u) v ∧
      portOnly 2 { port v 2 with blankA := true } v w ∧ marked 2 2 w (blankBegin .a q s)) ∧
  (∀ c t s, (tx s c).blankFrom = none → exec (.blankEnd c t) s = .next (atTime t s)) ∧
  (∀ c t s e, (tx s c).blankFrom = some e →
      (tx s c).blank = false ∨ later64 (plus e ((tx s c).blankPost * usTicks)) t = true →
    exec (.blankEnd c t) s = .next (atTime t s)) ∧
  (∀ c t s e, (tx s c).blankFrom = some e → (tx s c).blank = true →
      later64 (plus e ((tx s c).blankPost * usTicks)) t = false →
      later64 (plus s.proc.cueStart (960 * usTicks)) (atTime t s).time.tb0 = true →
    ∃ u, exec (.blankEnd c t) s = .next u ∧
      u = { withTx c { tx s c with blank := false, blankOf := none, blankPorts := 0, blankFrom := none } (atTime t s)
        with ports := u.ports } ∧
      ∀ p, port u p = if p < 4 then
        (match c with
          | .a => { port s p with blankA := false }
          | .b => { port s p with blankB := false }) else port s p)

/-- Chorus lines: commit, force, retune and listening windows. What each line command changes on its line,
which windows are missed, when a line retunes and a window starts and ends, and what a line then latches.
Where the spec is silent it says the model's own choice or reading: log entries 13, 25, 101. (R98, R102 to
R105.) -/
def Obligations.ChorusLines : Prop :=
  (∀ (n : Fin 96) s, ∃ t, exec (.lineCommit n) s = .next t ∧ lineOnly n { line s n with pending := true } s t) ∧
  (∀ (n : Fin 96) s, ∃ t, exec (.lineForce n) s = .next t ∧ lineOnly n { line s n with force := true } s t) ∧
  (∀ (n : Fin 96) t s, (line s n).queue = [] → exec (.lineRetune n t) s = .next (atTime t s)) ∧
  (∀ (n : Fin 96) t s w r, (line s n).queue = w :: r → later64 (retuneTime s w) t = true →
    exec (.lineRetune n t) s = .next (atTime t s)) ∧
  (∀ (n : Fin 96) t s w r, (line s n).queue = w :: r → later64 (retuneTime s w) t = false →
      lineBusy (line s n) = true →
    ∃ u, exec (.lineRetune n t) s = .next (missWindow n t u w) ∧ lineOnly n { line s n with queue := r } (atTime t s) u) ∧
  (∀ (n : Fin 96) t s w r, (line s n).queue = w :: r → later64 (retuneTime s w) t = false →
      lineBusy (line s n) = false → (line s n).serving = none →
    ∃ u v, exec (.lineRetune n t) s = .next (judgeBw (judgeBand v n) n) ∧
      lineOnly n { line s n with queue := r } (atTime t s) u ∧
      lineOnly n { line s n with
        queue := r, serving := some w, retuning := true, ready := false, inv := 0 } u v) ∧
  (∀ (n : Fin 96) t s w x r, (line s n).queue = w :: r → later64 (retuneTime s w) t = false →
      lineBusy (line s n) = false → (line s n).serving = some x →
    ∃ u v y z, exec (.lineRetune n t) s = .next (judgeBw (judgeBand z n) n) ∧
      lineOnly n { line s n with queue := r } (atTime t s) u ∧
      lineOnly n { line s n with queue := r, serving := none, retuning := false, ready := false } u v ∧
      y = rxInput (windowEntry u n 1 x t) v ∧
      lineOnly n { line y n with serving := some w, retuning := true, ready := false, inv := 0 } y z) ∧
  (∀ (n : Fin 96) t s w, (line s n).serving = some w → (line s n).retuning = true →
      later64 (ownStamp s w.start) t = false →
    ∃ u, exec (.windowStart n t) s = .next u ∧ lineOnly n { line s n with retuning := false, ready := true } (atTime t s) u) ∧
  (∀ (n : Fin 96) t s, (line s n).serving = none → exec (.windowEnd n t) s = .next (atTime t s)) ∧
  (∀ (n : Fin 96) t s w, (line s n).serving = some w → later64 (ownStamp s w.endStamp) t = true →
    exec (.windowEnd n t) s = .next (atTime t s)) ∧
  (∀ (n : Fin 96) t s w, (line s n).serving = some w → later64 (ownStamp s w.endStamp) t = false →
      lineBusy (line s n) = true →
    ∃ u, exec (.windowEnd n t) s = .next u ∧ lineOnly n { line s n with ready := false, retuning := false } (atTime t s) u) ∧
  (∀ (n : Fin 96) t s w, (line s n).serving = some w → later64 (ownStamp s w.endStamp) t = false →
      lineBusy (line s n) = false →
    ∃ u v, exec (.windowEnd n t) s = .next (rxInput (windowEntry u n 1 w t) v) ∧
      lineOnly n { line s n with ready := false, retuning := false } (atTime t s) u ∧
      lineOnly n { line s n with serving := none, ready := false, retuning := false } u v) ∧
  (∀ r s, takesInputs s = true → ∃ t, rxInput r s = t ∧
    t.proc.inputs = s.proc.inputs ++ [⟨7, r.line, smGet 0 s.proc.seqs (256 * 7 + r.line), s.proc.cueNow, false, rxBytes r,
      .row (rxInstr r)⟩] ∧ t = { s with proc := { s.proc with inputs := t.proc.inputs, seqs := t.proc.seqs } }) ∧
  (∀ r s, takesInputs s = false → rxInput r s = s)

/-- The link between the dies and the Spotlight summaries. What a sample block that fails its check, a lane
error and a lane test leave, a port or chain that goes out with its lane; a lane number the link does not have
stops; a summary is latched as an input. Where the spec is silent it says the model's own choice or reading:
log entries 73, 74, 82, 88, 102. (R13 to R16, R106, R627.) -/
def Obligations.DieLink : Prop :=
  (∀ (p : Fin 4) t s, portOn s p = false →
    exec (.sampleBlockCrcFail ⟨p, t⟩) s = .next (atTime (plus t 16384) s)) ∧
  (∀ (p : Fin 4) t s, portOn s p = true →
    ∃ r a u v, exec (.sampleBlockCrcFail ⟨p, t⟩) s = .next (emitLocal 0x1004 (16 + p) 0 0 0 0 v) ∧
      r = spotRoll (atTime (plus t 16384) s) ∧
      portOnly p { port r p with
        spot := { (port r p).spot with loss := true }, lost := some (BitVec.ofNat 64 (16384 * (t.toNat / 16384))) } r a ∧
      marked p 4 a u ∧ regOnly (rxfReg p 0x1C) (reg u (rxfReg p 0x1C) ||| 8#32) u v) ∧
  (∀ d l b s, laneCount d ≤ l → exec (.laneError d l) s = .fault .noSuchUnit ∧
    exec (.lanePatternTestEnd d l b) s = .fault .noSuchUnit) ∧
  (∀ l s, l < 32 → s.wings.laneMap = [] → s.wings.spareUp = some 32 → s.wings.laneTest = [] →
    exec (.laneError false l) s = .next (emitLocal 0x1007 20 0 0 0 0 { s with wings := { s.wings with
      laneTest := [(false, l)], laneMap := [(l, 33)], spareUp := none } })) ∧
  (∀ l s, l < 4 → s.wings.laneMap = [] → s.wings.spareDown = some 4 → s.wings.laneTest = [] →
    exec (.laneError true l) s = .next (emitLocal 0x1007 21 0 0 0 0 { s with wings := { s.wings with
      laneTest := [(true, l)], laneMap := [(64 + l, 5)], spareDown := none } })) ∧
  (∀ d l s, l < laneCount d → spareLane s d = none →
    exec (.laneError d l) s = .next (emitLocal 0x1007 (laneSource d) 0 0 0 0 { s with wings := { s.wings with
      laneTest := if (d, l) ∈ s.wings.laneTest then s.wings.laneTest else s.wings.laneTest ++ [(d, l)] } })) ∧
  (∀ d l b s, l < laneCount d → (d, l) ∉ s.wings.laneTest → exec (.lanePatternTestEnd d l b) s = .next s) ∧
  (∀ d l s, l < laneCount d → (d, l) ∈ s.wings.laneTest →
    ∃ u, u = testOutcome 2 (laneIndex d l) true 0
        { s with wings := { s.wings with laneTest := s.wings.laneTest.filter (· != (d, l)) } } ∧
      ((slotOfLane u d l).isSome = true → exec (.lanePatternTestEnd d l true) s = .next u) ∧
      (slotOfLane u d l = none → exec (.lanePatternTestEnd d l true) s = .next (setSpare d (some l) u))) ∧
  (∀ d l s, l < laneCount d → (d, l) ∈ s.wings.laneTest →
    ∃ u v, u = testOutcome 2 (laneIndex d l) false 1
        { s with wings := { s.wings with laneTest := s.wings.laneTest.filter (· != (d, l)) } } ∧
      v = { u with wings := { u.wings with laneBad := u.wings.laneBad ++ [(d, l)] } } ∧
      (slotOfLane v d l = none → exec (.lanePatternTestEnd d l false) s = .next v) ∧
      (∀ n, slotOfLane v d l = some n → spareLane v d = none →
        exec (.lanePatternTestEnd d l false) s = .next (laneLost d n v))) ∧
  (∀ n s, laneLost false n s = portOut (n / 8) s.time.tb0 s) ∧
  (∀ (p : Fin 4) b l n v s u, u = spotRoll (atTime (plus s.proc.cueStart (990 * usTicks)) s) →
      (port u p).spotDone = none ∨ portOn u p = false →
    exec (.spotlightSummary p b l n v) s = .next u) ∧
  (∀ (p : Fin 4) b l n v s u i, u = spotRoll (atTime (plus s.proc.cueStart (990 * usTicks)) s) →
      (port u p).spotDone = some i → portOn u p = true →
    ∃ w, portOnly p { port u p with spotDone := none, spotPrev := some ⟨i.cue, viewCentre i.centre i.span, i.span,
          spotGroups (spotBins u p i b l n v)⟩ } u w ∧
      (takesInputs u = false → exec (.spotlightSummary p b l n v) s = .next w) ∧
      (takesInputs u = true → exec (.spotlightSummary p b l n v) s = .next { w with proc := { w.proc with
        inputs := w.proc.inputs ++ [⟨6, p, 0, w.proc.cueNow, false, spotBody u p i (spotBins u p i b l n v) v,
          .row (.spotlightSummary p b l n v)⟩] } })) ∧
  (∀ s, later64 (plus s.proc.cueStart (960 * usTicks)) s.time.tb0 = true → spotRoll s = s) ∧
  (∀ s, later64 (plus s.proc.cueStart (960 * usTicks)) s.time.tb0 = false →
    spotRoll s = { s with ports := (spotRoll s).ports } ∧
    ∀ p, port (spotRoll s) p = if p < 4 ∧ (port s p).spot.cue ≠ s.proc.cueNow + 1 then
        { port s p with spotDone := some (port s p).spot, spot := spotSet s p (s.proc.cueNow + 1) }
      else port s p)

/-- Detections, the watch and the sync. What each command changes on its detector and when it does nothing:
what falls below the threshold, outside the acquisition range or under another tag is no detection. Where the
spec is silent it says the model's own choice or reading: log entries 10, 13, 97, 100. (R92, R100 to R102,
R117, R124, R145, R148 to R153.) -/
def Obligations.Detectors : Prop :=
  (∀ (n : Fin 96) (d : Fin 6) i t s, lineDetects s n d = true → (det s n d).st = .idle →
      100 * ((line s n).detLevel : Int) < i.metric → detNeeded (line s n) ≤ i.count →
    ∃ u, exec (.detection n d i t) s = .next u ∧
      detOnly n d { ({} : Det) with
        st := .detecting, since := t, cand := lineDbm s (line s n) i.pow, floor := lineDbm s (line s n) i.noise
        agc := -(100 * ((line s n).agc : Int)) - (i.pow + (line s n).inv) } (atTime t s) u) ∧
  (∀ (n : Fin 96) (d : Fin 6) i t s, lineDetects s n d = false ∨ (det s n d).st ≠ .idle ∨
      i.metric ≤ 100 * ((line s n).detLevel : Int) ∨ i.count < detNeeded (line s n) →
    exec (.detection n d i t) s = .next (atTime t s)) ∧
  (∀ (n : Fin 96) (d : Fin 6) i t s, (line s n).watchEn = true → lineHears s n d = true →
      declares (line s n) i = true → (det s n d).st = .detecting →
      (det s n d).cand + 100 * ((line s n).captThr : Int) ≤ lineDbm s (line s n) i.pow →
    ∃ u, exec (.watchCandidate n d ⟨i, t⟩) s = .next u ∧ detOnly n d { det s n d with
      since := t, cand := lineDbm s (line s n) i.pow, floor := lineDbm s (line s n) i.noise
      agc := agcGain (line s n) i.pow } (atTime t s) u) ∧
  (∀ (n : Fin 96) (d : Fin 6) i t s, (line s n).watchEn = true → lineHears s n d = true →
      declares (line s n) i = true → (det s n d).st = .frozen →
      (∀ w, (det s n d).watch = some w → w.pow + 100 * ((line s n).captThr : Int) ≤ lineDbm s (line s n) i.pow) →
    ∃ u, exec (.watchCandidate n d ⟨i, t⟩) s = .next u ∧ detOnly n d { det s n d with
      watch := some ⟨lineDbm s (line s n) i.pow, lineDbm s (line s n) i.noise, agcGain (line s n) i.pow⟩ }
      (atTime t s) u) ∧
  (∀ (n : Fin 96) (d : Fin 6) i t s, (line s n).watchEn = false ∨ lineHears s n d = false ∨
      declares (line s n) i = false ∨ (det s n d).st = .idle →
    exec (.watchCandidate n d ⟨i, t⟩) s = .next (atTime t s)) ∧
  (∀ (n : Fin 96) (d : Fin 6) t s, (det s n d).st = .detecting → (line s n).serving = none →
      later64 (plus (det s n d).since (detTimeout (line s n) d / 3)) t = false →
    ∃ u v, exec (.detectTimeout n d t) s = .next v ∧
      regOnly (demReg n 0xC) (withField (reg s (demReg n 0xC)) 15 0
        (min 0xFFFF (rbits s (demReg n 0xC) 15 0 + 1))) (atTime t s) u ∧
      detOnly n d { ({} : Det) with agc := (det s n d).agc } u v) ∧
  (∀ (n : Fin 96) (d : Fin 6) t s, (det s n d).st ≠ .detecting ∨
      later64 (plus (det s n d).since (detTimeout (line s n) d / 3)) t = true →
    exec (.detectTimeout n d t) s = .next (atTime t s)) ∧
  (∀ (n : Fin 96) (d : Fin 6) i b t s, (det s n d).st ≠ .detecting ∨ acquires (line s n) i.offset = false ∨
      tagOurs (line s n) d i.tag = false →
    exec (.syncFieldMatched n d i b t) s = .next (atTime t s)) ∧
  (∀ (n : Fin 96) (d : Fin 6) i t s, (det s n d).st = .detecting → (line s n).serving = none →
      acquires (line s n) i.offset = true → tagOurs (line s n) d i.tag = true →
    ∃ u sig, exec (.syncFieldMatched n d i false t) s = .next u ∧ sig = lineDbm s (line s n) i.sig ∧
      detOnly n d { det s n d with
        st := .frozen, arrival := recStamp s t, pref := max sig (det s n d).floor
        rssi := lineDbm s (line s n) i.rssi, snr := sig - (det s n d).floor, offset := i.offset
        agc := agcGain (line s n) i.rssi
        phyInfo := BitVec.ofNat 16 (syncInfo (linePers (line s n)) d i.fec i.rsc)
        gain := (port s (linePort (line s n))).gain
        flags := (det s n d).flags ||| (if sig < (det s n d).floor then 8 else 0), header := false }
        (atTime t s) u) ∧
  (∀ l d k, phyOf (linePers l) = .frc → tagOurs l d k =
    (k.map (· / 2 ^ (7 + d - 4)) == [bits l.tag.toNat 7 4, bits l.tag.toNat 3 0]))

/-- Headers, displacement and the commit of a reception. What a passed or failed header, a displacement and a
commit change, and the entry they latch: what the header says and whether the check octets hold are read from
the bits received. Where the spec is silent it says the model's own choice or reading: log entries 13, 96, 97,
99. (R118 to R121, R125, R136, R145 to R147, R150, R151, R155 to R158, R624.) -/
def Obligations.Receptions : Prop :=
  (∀ (n : Fin 96) (d : Fin 6) i t s, (det s n d).st ≠ .frozen ∨ (det s n d).header = true →
    exec (.headerCheck n d i t) s = .next (atTime t s)) ∧
  (∀ (n : Fin 96) (d : Fin 6) i t s h, (det s n d).st = .frozen → (det s n d).header = false →
      phyOf (linePers (line s n)) = .frc →
      frcHeaderRead (7 + d) (line s n).tag.toNat i.shifts = some h → frcHeaderOk h = true →
    ∃ u, exec (.headerCheck n d i t) s = .next u ∧ detOnly n d { det s n d with
      header := true, length := bits h 7 0, hbits := h, status := 0, ext := []
      phyInfo := BitVec.ofNat 16 (frcInfo h d ((linePers (line s n) - 0x80) / 16)) } (atTime t s) u) ∧
  (∀ (n : Fin 96) (d : Fin 6) i t s, (det s n d).st = .frozen → (det s n d).header = false →
      (line s n).serving = none → (det s n d).watch = none →
      (judgeHeader s (line s n) d (det s n d).phyInfo.toNat (headerBits (line s n) d i t) i = .fail ∨
        ∃ k, judgeHeader s (line s n) d (det s n d).phyInfo.toNat (headerBits (line s n) d i t) i = .unsupported k) →
    ∃ u v, exec (.headerCheck n d i t) s = .next v ∧
      regOnly (demReg n 0xC) (withField (reg s (demReg n 0xC)) 15 0
        (min 0xFFFF (rbits s (demReg n 0xC) 15 0 + 1))) (atTime t s) u ∧
      detOnly n d { ({} : Det) with agc := (det s n d).agc } u v) ∧
  (∀ (n : Fin 96) (d : Fin 6) i t s k w, (det s n d).st = .frozen → (det s n d).header = false →
      (line s n).serving = some w →
      judgeHeader s (line s n) d (det s n d).phyInfo.toNat (headerBits (line s n) d i t) i = .unsupported k →
    ∃ u v x y, exec (.headerCheck n d i t) s = .next y ∧
      regOnly (demReg n 0xC) (withField (reg s (demReg n 0xC)) 15 0
        (min 0xFFFF (rbits s (demReg n 0xC) 15 0 + 1))) (atTime t s) u ∧
      detOnly n d { det s n d with phyInfo := BitVec.ofNat 16 k } u v ∧
      x = endWindow n (rxInput (rxOf v n d 0 3 (det s n d).offset [] t) v) ∧
      detOnly n d { ({} : Det) with agc := (det s n d).agc } x y) ∧
  (∀ (n : Fin 96) (d : Fin 6) t s, (det s n d).st ≠ .frozen ∨ (det s n d).watch = none ∨ (line s n).watchEn = false →
    exec (.displacement n d t) s = .next (atTime t s)) ∧
  (∀ (n : Fin 96) (d : Fin 6) t s w, (det s n d).st = .frozen → (det s n d).watch = some w →
      (line s n).watchEn = true → (det s n d).pref + 100 * ((line s n).captThr : Int) ≤ w.pow →
      (det s n d).header = true → (line s n).serving = none →
    ∃ u v x, exec (.displacement n d t) s = .next x ∧
      u = rxInput (rxOf (atTime t s) n d 3 2 (det s n d).offset [] t) (atTime t s) ∧
      detOnly n d { ({} : Det) with
        st := .detecting, since := t, cand := w.pow, floor := w.noise, agc := w.agc
        flags := if isBlanked (port s (linePort (line s n))) then 2 else 0
        displaced := min 255 ((det s n d).displaced + 1)
        dispRssi := max (det s n d).dispRssi (det s n d).rssi } u v ∧
      regOnly (demReg n 0xC) (withField (reg s (demReg n 0xC)) 31 16
        (min 0xFFFF (rbits s (demReg n 0xC) 31 16 + 1))) v x) ∧
  (∀ (n : Fin 96) (d : Fin 6) i t s, (det s n d).st ≠ .frozen ∨ (det s n d).header = false ∨
      psduOf s (line s n) d (det s n d) i t = none →
    exec (.receptionCommit n d i t) s = .next (atTime t s)) ∧
  (∀ (n : Fin 96) (d : Fin 6) i t s, (phyOf (linePers (line s n)) = .ofdm ∨ phyOf (linePers (line s n)) = .oqpsk) →
    psduOf s (line s n) d (det s n d) i t =
      if i.octets.length = (det s n d).length then some i.octets else none) ∧
  (∀ (n : Fin 96) (d : Fin 6) i t s, phyOf (linePers (line s n)) = .fsk →
    psduOf s (line s n) d (det s n d) i t = if i.octets.length = (det s n d).length then
      some (if (det s n d).phyInfo.getLsbD 2 then fskWhiten i.octets else i.octets) else none) ∧
  (∀ (n : Fin 96) (d : Fin 6) i t s psdu st, (det s n d).st = .frozen → (det s n d).header = true →
      (line s n).serving = none → (det s n d).watch = none → psduOf s (line s n) d (det s n d) i t = some psdu →
      (st = if phyOf (linePers (line s n)) = .frc ∧ (det s n d).phyInfo.getLsbD 5 = false then 5
        else if fcsGood (linePers (line s n)) (det s n d).phyInfo.toNat psdu then 0 else 1) →
    ∃ u v, exec (.receptionCommit n d i t) s = .next v ∧
      u = rxInput (rxOf (atTime t s) n d 0 st i.offset psdu t) (atTime t s) ∧
      detOnly n d { ({} : Det) with agc := (det s n d).agc } u v) ∧
  (∀ (n : Fin 96) (d : Fin 6) i t s psdu w st, (det s n d).st = .frozen → (det s n d).header = true →
      (line s n).serving = some w → psduOf s (line s n) d (det s n d) i t = some psdu →
      (st = if phyOf (linePers (line s n)) = .frc ∧ (det s n d).phyInfo.getLsbD 5 = false then 5
        else if fcsGood (linePers (line s n)) (det s n d).phyInfo.toNat psdu then 0 else 1) →
    ∃ u v, exec (.receptionCommit n d i t) s = .next v ∧
      u = endWindow n (rxInput (rxOf (atTime t s) n d 0 st i.offset psdu t) (atTime t s)) ∧
      detOnly n d { ({} : Det) with agc := (det s n d).agc } u v)

/-- A chain is enabled, disabled, retuned and locked. The state a chain passes to, the carrier word it heads
for, the time at which it may retune and the settings it latches. Where the spec is silent it says the model's
own choice or reading: log entries 13, 106. (R175 to R177, R180, R189, R208, R211.) -/
def Obligations.ChainPreparation : Prop :=
  (∀ c t s, (tx s c).cut = none → chainAt c t s = atTime t s) ∧
  (∀ c t s k u, (tx s c).cut = some k → onAir (tx s c) = true → later64 (plannedEnd (tx s c)) k = true → u = atTime t s →
    later64 (minus k (rampUs 0 * usTicks)) (atPa u c u.time.tb0) = false →
    chainAt c t s = withTx c { tx s c with
      st := .falling, result := 15, curFlags := (tx s c).curFlags ||| 8
      fallAt := minus k (rampUs 0 * usTicks), fallUs := rampUs 0, forced := true } u) ∧
  (∀ c s, ∃ t, exec (.recal c) s = .next t ∧ t = withTx c { tx s c with recalDue := true } s) ∧
  (∀ c s, s.pwr.mode = .quiet → exec (.chainEnable c) s = .next s) ∧
  (∀ c s, s.pwr.mode ≠ .quiet → (tx s c).st = .off → rbit s (txReg c 0) 0 = false → inReplay s = false →
    ∃ u w, exec (.chainEnable c) s = .next (withTx c { tx s c with
        st := .calibrating, locked := false, tune := some true, target := w } u) ∧
      regOnly (txReg c 0) (reg s (txReg c 0) ||| 1#32) s u ∧
      w = match (tx s c).queue, c with
        | r :: _, _ => reqWord r
        | [], .a => 1110000000
        | [], .b => 4883500000) ∧
  (∀ c s, s.pwr.mode ≠ .quiet → (tx s c).st ≠ .off ∨ rbit s (txReg c 0) 0 = true ∨ inReplay s = true →
    ∃ u, exec (.chainEnable c) s = .next u ∧ regOnly (txReg c 0) (reg s (txReg c 0) ||| 1#32) s u) ∧
  (∀ c t s z, z = chainAt c t s → (tx z c).cur = none → (tx z c).queue = [] → curtainUp (tx z c) = false →
    ∃ u, exec (.chainDisable c t) s = .next (withTx c { tx z c with
        st := .off, test := false, locked := false, tune := none, cut := some t } u) ∧
      regOnly (txReg c 0) (withField (reg z (txReg c 0)) 0 0 0) z u) ∧
  (∀ c t s z, z = chainAt c t s → ((tx z c).st ≠ .idle ∧ ((tx z c).st ≠ .waiting ∨ (tx z c).cur.isSome = true)) ∨
      (tx z c).queue = [] → exec (.retune c t) s = .next z) ∧
  (∀ c t s z r q, z = chainAt c t s → (tx z c).queue = r :: q → later64 (retuneAt z r false) t = true →
    later64 (retuneAt z r true) t = true → exec (.retune c t) s = .next z) ∧
  (∀ c t s z r q, z = chainAt c t s → (tx z c).st = .idle ∨ ((tx z c).st = .waiting ∧ (tx z c).cur = none) →
      (tx z c).queue = r :: q → (tx z c).locked = true → (tx z c).parked = reqWord r →
      later64 (retuneAt z r false) t = false →
    exec (.retune c t) s = .next (withTx c { tx z c with
      queue := q, cur := some r, hopped := false, curFlags := offsetFlag r, target := reqWord r, result := 0
      st := .waiting } z)) ∧
  (∀ c t s z r q b, z = chainAt c t s → (tx z c).st = .idle ∨ ((tx z c).st = .waiting ∧ (tx z c).cur = none) →
      (tx z c).queue = r :: q → (tx z c).locked = false ∨ (tx z c).parked ≠ reqWord r →
      b = recalNeeded z (tx z c) (reqWord r) → later64 (retuneAt z r b) t = false →
    ∃ u, exec (.retune c t) s = .next (latchCfg c u) ∧ u = withTx c { tx z c with
      queue := q, cur := some r, hopped := true, curFlags := offsetFlag r, target := reqWord r, result := 0
      cal := (rolledTables 6 z).or (tx z c).cal, locked := false, tune := some b
      st := if b = true then .calibrating else .retuning } z) ∧
  (∀ c t s z, z = chainAt c t s → (tx z c).tune = some false → ∃ u, exec (.lockDeclared c t) s = .next u ∧
    u = withTx c { tx z c with
      locked := true, parked := (tx z c).target, tune := none
      st := if (tx z c).st = .retuning ∨ (tx z c).st = .calibrating then .waiting else (tx z c).st } z) ∧
  (∀ c t s z, z = chainAt c t s → (tx z c).tune = some true → ∃ u, exec (.lockDeclared c t) s = .next u ∧
    u = withTx c { tx z c with
      locked := true, parked := (tx z c).target, tune := none, calValid := true, calWord := (tx z c).target
      calTemp := z.pwr.tPit, recalDue := false
      st := if (tx z c).st = .retuning ∨ (tx z c).st = .calibrating then .waiting else (tx z c).st } z) ∧
  (∀ c t s z, z = chainAt c t s → (tx z c).tune = none → exec (.lockDeclared c t) s = .next z) ∧
  (∀ c s, ∃ m, m = (latchCfg c s, (tx (latchCfg c s) c).cfg) ∧
    (fieldOf (cfgWord s c 8) 9 0 = rbits s (txReg c 8) 9 0 → m.1 = withTx c { tx s c with cfg := m.2 } s) ∧
    (fieldOf (cfgWord s c 8) 9 0 ≠ rbits s (txReg c 8) 9 0 →
      m.1 = withTx c { tx s c with cfg := m.2, corr := [], big := [] } s) ∧
    ∀ o, (8 ≤ o ∧ o ≤ 0x10) ∨ (0x40 ≤ o ∧ o < 0x100) → cfgWord m.1 c o = reg s (txReg c o))

/-- Launch: enables, grants and the deadline. When a chain raises its enables and its curtain and what it
marks, when it does not, and the result with which a request is dropped at its deadline. Where the spec is
silent it says the model's own choice or reading: log entries 13, 51, 106. (R177, R180, R182, R187 to R189,
R192 to R194, R211.) -/
def Obligations.ChainLaunch : Prop :=
  (∀ c t s z r l, z = chainAt c t s → waitingReqs (tx z c) = r :: l → (tx z c).paenOf ≠ some r.seq →
      later64 (minus (ownStamp z r.start) (fieldOf (cfgWord z c 8) 15 10 * usTicks)) t = false →
    exec (.paenRise c t) s = .next (withTx c { tx z c with paen := true, paenOf := some r.seq, paenFrom := none } z)) ∧
  (∀ c t s z, z = chainAt c t s → (∀ r ∈ waitingReqs (tx z c), (tx z c).paenOf = some r.seq ∨
      later64 (minus (ownStamp z r.start) (fieldOf (cfgWord z c 8) 15 10 * usTicks)) t = true) →
    exec (.paenRise c t) s = .next z) ∧
  (∀ c t s z r l, z = chainAt c t s → waitingReqs (tx z c) = r :: l → (∀ k ∈ (tx z c).claims, k.seq ≠ r.seq) →
      later64 (minus (ownStamp z r.start) (fieldOf (cfgWord z c 0x10) 15 8 * usTicks)) t = false →
    exec (.coexReqRise c t) s = .next (withTx c { tx z c with claims := (tx z c).claims ++
      [⟨r.seq, BitVec.ofNat 4 (fieldOf (cfgWord z c 0x10) 3 0), r.flags.getLsbD 0⟩] } z)) ∧
  (∀ c t s z, z = chainAt c t s → (∀ r ∈ waitingReqs (tx z c), (∃ k ∈ (tx z c).claims, k.seq = r.seq) ∨
      later64 (minus (ownStamp z r.start) (fieldOf (cfgWord z c 0x10) 15 8 * usTicks)) t = true) →
    exec (.coexReqRise c t) s = .next z) ∧
  (∀ c t s z e, z = chainAt c t s → (tx z c).paenFrom = some e →
      later64 (plus e (fieldOf (cfgWord z c 8) 21 16 * usTicks)) t = false →
    exec (.paenFall c t) s = .next (withTx c { tx z c with paen := false, paenOf := none, paenFrom := none } z)) ∧
  (∀ c t s z, z = chainAt c t s → (∀ e, (tx z c).paenFrom = some e →
      later64 (plus e (fieldOf (cfgWord z c 8) 21 16 * usTicks)) t = true) →
    exec (.paenFall c t) s = .next z) ∧
  (∀ c g h t s z r a, z = chainAt c t s → (tx z c).st = .waiting → (tx z c).cur = some r → (tx z c).locked = true →
      a = plus t (nsTicks (fieldOf (cfgWord z c 8) 29 22)) →
      0 ≤ sdiff64 a (ownStamp z r.start) → later64 a (deadlineOf z r) = false →
      grantsOk (cfgWord z c 0x10) g = true → (h = true → obeys (cfgWord z c 0x10) = false) →
    exec (.launch c g h t) s = .next (raiseCurtain c r a (modPwr (fun p => { p with inhibit := h }) z))) ∧
  (∀ c g h t s z r a, z = chainAt c t s → (tx z c).cur = some r →
      a = plus t (nsTicks (fieldOf (cfgWord z c 8) 29 22)) →
      (tx z c).st ≠ .waiting ∨ (tx z c).locked = false ∨ sdiff64 a (ownStamp z r.start) < 0 ∨
        later64 a (deadlineOf z r) = true ∨ grantsOk (cfgWord z c 0x10) g = false ∨
        (h = true ∧ obeys (cfgWord z c 0x10) = true) →
    exec (.launch c g h t) s = .next (modPwr (fun p => { p with inhibit := h }) z)) ∧
  (∀ c r t s u p, u = (if (tx s c).hopped then s else latchCfg c s) → p = clampPower (cfgWord u c 8) r →
    raiseCurtain c r t s = withTx c { tx u c with
      st := .rising, curtain := t, result := 0, forced := false, shift := (sdiff64 t (ownStamp u r.start)).toNat
      curFlags := (tx u c).curFlags ||| ((if later64 t (ownStamp u r.start) then 1 else 0) |||
        (if p = r.power then 0 else 2))
      lastSeg := powerSegment (cfgWord u c 8) p
      driver := driverSet u c r p (powerSegment (cfgWord u c 8) p) t
      air := airOf r, paen := true, paenOf := some r.seq, paenFrom := none } u) ∧
  (∀ c g h t s z r k, z = chainAt c t s → (tx z c).cur = some r → curtainUp (tx z c) = false →
      later64 (deadlineOf z r) t = false → deadlineResult (tx z c) (cfgWord z c 0x10) g h = some k →
    exec (.launchDeadline c g h t) s = .next (dropCur c r k t (modPwr (fun p => { p with inhibit := h }) z))) ∧
  (∀ c g h t s z r q b, z = chainAt c t s → (tx z c).cur = some b → curtainUp (tx z c) = true →
      (tx z c).queue = r :: q → later64 (deadlineOf z r) t = false →
    ∃ u, exec (.launchDeadline c g h t) s = .next (decideNot r 2 0 t u) ∧
      u = withTx c { tx z c with queue := q } (modPwr (fun p => { p with inhibit := h }) z)) ∧
  (∀ c g h t s z r q, z = chainAt c t s → (tx z c).cur = none → (tx z c).queue = r :: q →
      later64 (deadlineOf z r) t = false → (tx z c).locked = false ∨ (tx z c).parked ≠ reqWord r →
    ∃ u, exec (.launchDeadline c g h t) s = .next (decideNot r 3 0 t u) ∧
      u = withTx c { tx z c with queue := q } (modPwr (fun p => { p with inhibit := h }) z)) ∧
  (∀ c g h t s z, z = chainAt c t s → (tx z c).cur = none → (tx z c).queue = [] →
    exec (.launchDeadline c g h t) s = .next (modPwr (fun p => { p with inhibit := h }) z)) ∧
  (∀ x w g h, x.locked = false → deadlineResult x w g h = some 3) ∧
  (∀ x w g h, x.locked = true → grantsOk w g = false → deadlineResult x w g h = some 9) ∧
  (∀ x w g, x.locked = true → grantsOk w g = true → obeys w = true → deadlineResult x w g true = some 11) ∧
  (∀ x w g h, x.locked = true → grantsOk w g = true → (h = true → obeys w = false) → deadlineResult x w g h = none)

/-- On air: ramps, the end, preemption, inhibition and loss of lock. What each command changes on its chain,
the result and flags it leaves, by the order of results, and the record it writes; what the power loop makes
of a frame. Where the spec is silent it says the model's own choice or reading: log entries 13, 51, 106.
(R169, R178 to R180, R184, R186, R189, R191 to R196, R209.) -/
def Obligations.ChainOnAir : Prop :=
  (∀ c t s z r, z = chainAt c t s → (tx z c).st = .rising → (tx z c).cur = some r →
      later64 (plus (tx z c).curtain (riseUs r * usTicks)) (atPa z c t) = false →
    exec (.risingRampComplete c t) s = .next (withTx c { tx z c with st := .on } z)) ∧
  (∀ c t s z, z = chainAt c t s → (tx z c).st ≠ .rising ∨ (∃ r, (tx z c).cur = some r ∧
      later64 (plus (tx z c).curtain (riseUs r * usTicks)) (atPa z c t) = true) →
    exec (.risingRampComplete c t) s = .next z) ∧
  (∀ c t s z r, z = chainAt c t s → (tx z c).st = .on → (tx z c).cur = some r →
      later64 (minus (plus (tx z c).curtain (airTime r / 3)) (fallUs r * usTicks)) (atPa z c t) = false →
    exec (.lastModulatedSample c t) s = .next (withTx c { tx z c with
      st := .falling, fallAt := atPa z c t, fallUs := fallUs r, forced := false } z)) ∧
  (∀ c t s z, z = chainAt c t s → (tx z c).st ≠ .on ∨ (∃ r, (tx z c).cur = some r ∧
      later64 (minus (plus (tx z c).curtain (airTime r / 3)) (fallUs r * usTicks)) (atPa z c t) = true) →
    exec (.lastModulatedSample c t) s = .next z) ∧
  (∀ c m t s z, z = chainAt c t s → (tx z c).st ≠ .falling ∨ (tx z c).cur = none ∨
      later64 (plus (tx z c).fallAt ((tx z c).fallUs * usTicks)) (atPa z c t) = true →
    exec (.transmitEnd c m t) s = .next z) ∧
  (∀ c m t s z r a, z = chainAt c t s → (tx z c).st = .falling → (tx z c).cur = some r → a = atPa z c t →
      later64 (plus (tx z c).fallAt ((tx z c).fallUs * usTicks)) a = false → fieldOf (cfgWord z c 8) 1 0 = 2 →
    ∃ u, exec (.transmitEnd c m t) s = .next (txEndInput ⟨c, r.seq, (tx z c).result, (tx z c).curFlags, -32768,
        recStamp z (tx z c).curtain, recStamp z a, r.origin⟩ u) ∧
      u = withTx c { tx z c with
        cur := none, curFlags := 0, air := .none, ends := (tx z c).ends + 1, cut := none, target := (tx z c).parked
        claims := (tx z c).claims.filter fun k => k.seq != r.seq
        blankFrom := if (tx z c).blank && (tx z c).blankOf == some r.seq then some a else (tx z c).blankFrom
        paenFrom := if (tx z c).paenOf == some r.seq then some a else (tx z c).paenFrom
        tune := if rbit z (txReg c 0) 0 && (tx z c).test then some true else (tx z c).tune
        st := if rbit z (txReg c 0) 0 = false then .off else if (tx z c).test = true then .calibrating else .idle } z) ∧
  (∀ c m s r e, (tx s c).cur = some r → fieldOf (cfgWord s c 8) 1 0 ≠ 2 → m ≠ -32768 → r.flags.getLsbD 1 = false →
      e = clampPower (cfgWord s c 8) r - m →
    ∃ u, u = withTx c { tx s c with
        corr := smSet 0 (tx s c).corr (tx s c).lastSeg (clampI (-24) 24 (smGet 0 (tx s c).corr (tx s c).lastSeg + e))
        big := smSet 0 (tx s c).big (tx s c).lastSeg (if 12 < e.natAbs then 2 * m + 1 else 0)
        measured := some m } s ∧
      (e.natAbs ≤ 12 ∨ smGet 0 (tx s c).big (tx s c).lastSeg = 0 → powerLoop c m s = u) ∧
      (12 < e.natAbs → smGet 0 (tx s c).big (tx s c).lastSeg ≠ 0 →
        ∃ v, regOnly (txReg c 0x1C) (reg s (txReg c 0x1C) ||| 2#32) u v ∧
          powerLoop c m s = emitLocal 0x2002 (128 + chainIx c)
            (BitVec.ofInt 32 ((smGet 0 (tx s c).big (tx s c).lastSeg - 1) / 2)).toNat
            (BitVec.ofInt 32 m).toNat 0 0 v)) ∧
  (∀ c g t s z, z = chainAt c t s → onAir (tx z c) = true → bit (cfgWord z c 0x10).toNat 16 = true →
      grantsOk (cfgWord z c 0x10) g = false →
    ∃ u, exec (.preempted c g t) s = .next (emitLocal 0x2003 (128 + chainIx c) 0 0 0 0 u) ∧
      regOnly (txReg c 0x1C) (reg z (txReg c 0x1C) ||| 4#32)
        (withTx c { tx z c with
          st := .falling, result := 10, curFlags := (tx z c).curFlags ||| 8, fallAt := atPa z c t
          fallUs := rampUs 0, forced := true } z) u) ∧
  (∀ c g t s z, z = chainAt c t s → onAir (tx z c) = false ∨ bit (cfgWord z c 0x10).toNat 16 = false ∨
      grantsOk (cfgWord z c 0x10) g = true →
    exec (.preempted c g t) s = .next z) ∧
  (∀ t s z, z = chainAt .b t (chainAt .a t s) →
      obeys (cfgWord z .a 0x10) = false ∨ (onAir z.txa = false ∧ z.txa.st ≠ .falling) →
      obeys (cfgWord z .b 0x10) = false ∨ (onAir z.txb = false ∧ z.txb.st ≠ .falling) →
    exec (.inhibited t) s = .next (modPwr (fun p => { p with inhibit := true }) z)) ∧
  (∀ t s z, z = chainAt .b t (chainAt .a t s) →
      obeys (cfgWord z .a 0x10) = false ∨ (onAir z.txa = false ∧ z.txa.st ≠ .falling) →
      obeys (cfgWord z .b 0x10) = true → onAir z.txb = true →
    ∃ u v, exec (.inhibited t) s = .next (emitLocal 0x2004 129 0 0 0 0 v) ∧
      u = withTx .b { z.txb with
          st := .falling, result := 11, curFlags := z.txb.curFlags ||| 8, fallAt := atPa z .b t
          fallUs := rampUs 0, forced := true }
        (modPwr (fun p => { p with inhibit := true }) z) ∧
      regOnly (txReg .b 0x1C) (reg z (txReg .b 0x1C) ||| 8#32) u v) ∧
  (∀ c t s z, z = chainAt c t s → (tx z c).st = .off ∨ (tx z c).st = .outOfService ∨ (tx z c).locked = false →
    exec (.lockLost c t) s = .next z) ∧
  (∀ c t s z, z = chainAt c t s → (tx z c).locked = true → onAir (tx z c) = true →
    ∃ u, exec (.lockLost c t) s = .next (emitLocal 0x2001 (128 + chainIx c) 0 0 0 0 u) ∧
      regOnly (txReg c 0x1C) (reg z (txReg c 0x1C) ||| 1#32) (withTx c { tx z c with
        locked := false, recalDue := true, test := true, st := .falling, result := 4
        curFlags := (tx z c).curFlags ||| (if partSent (tx z c) then 8 else 0)
        fallAt := atPa z c t, fallUs := rampUs 0, forced := true } z) u) ∧
  (∀ c t s z r, z = chainAt c t s → (tx z c).locked = true → (tx z c).st = .waiting → (tx z c).cur = some r →
    ∃ u, exec (.lockLost c t) s = .next (emitLocal 0x2001 (128 + chainIx c) 0 0 0 0 u) ∧
      u = setRBit (txReg c 0x1C) 0 (latchCfg c (withTx c { tx z c with
        locked := false, recalDue := true, test := true, st := .calibrating, tune := some true, hopped := true
        cal := (rolledTables 6 z).or (tx z c).cal, target := reqWord r } z))) ∧
  (∀ c p t s z, z = chainAt c t s → (tx z c).test = false → exec (.recalibrationEnd c p t) s = .next z) ∧
  (∀ c t s z, z = chainAt c t s → (tx z c).test = true → (tx z c).st = .calibrating →
    ∃ u, exec (.recalibrationEnd c true t) s = .next (withTx c { tx u c with
        test := false, locked := true, parked := (tx u c).target, tune := none, calValid := true
        calWord := (tx u c).target, calTemp := z.pwr.tPit, recalDue := false, st := .waiting } u) ∧
      u = testOutcome 3 (chainIx c) true 0 z) ∧
  (∀ c t s z, z = chainAt c t s → (tx z c).test = true →
    ∃ u v, exec (.recalibrationEnd c false t) s = .next (emitLocal 0x2006 (128 + chainIx c) 0 0 0 0 v) ∧
      u = testOutcome 3 (chainIx c) false 1 z ∧
      v = setRBit (txReg c 0x1C) 5 (decideNots ((tx u c).cur.toList ++ (tx u c).queue) 5 t (withTx c { tx u c with
        st := .outOfService, cur := none, queue := [], locked := false, tune := none, calValid := false
        test := false } u)))

/-- Capture pins, pulse pins and the wrap of TB2. Which edges are captured, which are counted as lost, and the
event of a capture; when a pulse fires and what it leaves, when it ends, the instants of a program, how many
instants a step skips, and the era of TB2. Where the spec is silent it says the model's own choice or reading:
log entries 24, 60, 86, 111. (R313, R317 to R323, R341, R480.) -/
def Obligations.PinCapturesAndPulses : Prop :=
  (∀ (i : Fin 8) r p w t s, capTakes s i r w = false → exec (.tcapEdge i r p w t) s = .next (atTime t s)) ∧
  (∀ (i : Fin 8) r p w t s, capTakes s i r w = true → (pin s i).caps < bits (capCfg s i) 21 16 →
      (∀ e, (pin s i).lastCap = some e → 1024 ≤ (sdiff64 t e).natAbs) →
    ∃ u x, exec (.tcapEdge i r p w t) s = .next (input 4 i (capBytes x) (.row (.pinCapture x)) u) ∧
      x = ⟨i, recStamp s t, r, p, (pin s i).lost⟩ ∧
      pinOnly i { pin s i with caps := (pin s i).caps + 1, lost := 0, lastCap := some t } (atTime t s) u) ∧
  (∀ (i : Fin 8) r p w t s, capTakes s i r w = true →
      bits (capCfg s i) 21 16 ≤ (pin s i).caps ∨ (∃ e, (pin s i).lastCap = some e ∧ (sdiff64 t e).natAbs < 1024) →
    ∃ u v, exec (.tcapEdge i r p w t) s = .next v ∧
      pinOnly i { pin s i with lost := min 0xFFFF ((pin s i).lost + 1) } (atTime t s) u ∧
      regOnly (rTimCapLost + 4 * i) (w32 (min 0xFFFFFFFF ((reg s (rTimCapLost + 4 * i)).toNat + 1))) u v) ∧
  (∀ i r w s, capTakes s i r w = true ↔ (s.pwr.mode = .full ∨ s.pwr.mode = .quiet) ∧ bit (capCfg s i) 0 = true ∧
    bit (capCfg s i) (if r then 1 else 2) = true ∧ 10 * bits (capCfg s i) 15 8 ≤ w) ∧
  (∀ x s, canTake s 10 10 = true → (mainsEn s = false ∨ x.pin ≠ cfgU s recTime 43 1 ∨ x.rising = false) →
      reportBase s x.pin = 0 →
    ∃ t, exec (.pinCapture x) s = .next t ∧ paid 10 10 (withOut 10 (.record ⟨0x5001, 10, 0, s.proc.procCue, x.stamp,
      w32 (x.pin + 256 * ofBool x.rising), w32 x.lost, 0, 0⟩) s) t) ∧
  (∀ x s v k, canTake s 10 10 = true → mainsEn s = false → reportBase s x.pin = k → k ≠ 0 → convert s k x.stamp = some v →
      (tbAt (tbOf s k) x.stamp).steps ≠ (tbOf s k).shown →
    ∃ t, exec (.pinCapture x) s = .next t ∧ paid 10 10 (withOut 10 (.record ⟨0x5001, 10, 2, s.proc.procCue, x.stamp,
      w32 (x.pin + 256 * ofBool x.rising + 512 * k), w32 x.lost, w32 (v.toNat % 2 ^ 32), w32 (v.toNat / 2 ^ 32)⟩)
      (modTb k (fun b => { b with shown := (tbAt (tbOf s k) x.stamp).steps }) s)) t) ∧
  (∀ (i : Fin 8) t s e, (pin s (8 + i)).lastEdge = some e →
    10 * sdiff64 t e < 1024 * ((pin s (8 + i)).width : Int) → ∃ u, exec (.pulseEnd i t) s = .next u ∧
      pinOnly (8 + i) (pin s (8 + i)) (atTime t s) u) ∧
  (∀ (i : Fin 8) t s, (∀ e, (pin s (8 + i)).lastEdge = some e →
      1024 * ((pin s (8 + i)).width : Int) ≤ 10 * sdiff64 t e) → ∃ u, exec (.pulseEnd i t) s = .next u ∧
    pinOnly (8 + i) { pin s (8 + i) with active := false } (atTime t s) u) ∧
  (∀ (i : Fin 8) t s, (pin s (8 + i)).prog = none → exec (.pulseFire i t) s = .next (atTime t s)) ∧
  (∀ (i : Fin 8) t s p, (pin s (8 + i)).prog = some p →
      pinsRun s = false ∨ pulseReached s (pin s (8 + i)) p (recStamp s t) = false →
    exec (.pulseFire i t) s = .next (atTime t s)) ∧
  (∀ (i : Fin 8) t s p, (pin s (8 + i)).prog = some p → pinsRun s = true →
      pulseReached s (pin s (8 + i)) p (recStamp s t) = true →
      p.mode ≠ 1 ∨ p.notify = false ∨ isUnderstudy s = true ∨ inReplay s = true →
    ∃ u, exec (.pulseFire i t) s = .next u ∧ pinOnly (8 + i) { pin s (8 + i) with
      prog := if p.count ≠ 0 ∧ p.count ≤ p.k + 1 then none else some { p with k := p.k + 1 }
      active := !(isUnderstudy s || inReplay s), lastEdge := some t, width := p.width } (atTime t s) u) ∧
  (∀ (i : Fin 8) t s p, (pin s (8 + i)).prog = some p → pinsRun s = true →
      pulseReached s (pin s (8 + i)) p (recStamp s t) = true →
      p.mode = 1 → p.notify = true → p.count = 1 → p.k = 0 → isUnderstudy s = false → inReplay s = false →
    ∃ u, exec (.pulseFire i t) s = .next (emitLocalAt (recStamp s t) 0x5002 (248 + i) 0 0 0 0 u) ∧
      pinOnly (8 + i) { pin s (8 + i) with prog := none, active := true, lastEdge := some t, width := p.width }
        (atTime t s) u) ∧
  (∀ s q p t u v, p.mode ≠ 3 → convert s p.base (t - 1) = some u → convert s p.base (t + 1) = some v →
    (pulseReached s q p t = true ↔ sdiff64 u (pulseInstant p p.k) ≤ 0 ∧ 0 ≤ sdiff64 v (pulseInstant p p.k))) ∧
  (∀ p, p.mode = 1 → pulseInstant p 0 = p.first) ∧
  (∀ p k, pulseInstant p k = p.first + BitVec.ofNat 64 (k * p.period)) ∧
  (∀ p v, p.mode = 1 → 0 < sdiff64 v (pulseInstant p p.k) → pulseSkips p v = 1) ∧
  (∀ p v, p.mode = 2 → p.count = 0 → p.period ≠ 0 → 0 < sdiff64 v (pulseInstant p p.k) →
    (sdiff64 v (pulseInstant p p.k)).toNat ≤ pulseSkips p v * p.period ∧
    (pulseSkips p v - 1) * p.period < (sdiff64 v (pulseInstant p p.k)).toNat) ∧
  (∀ s, tb2Wraps s (nextStart s) = true → s.time.ptp.wrapped = false →
    exec .tb2Wrap s = .next { s with time := { s.time with ptp := { s.time.ptp with
      era := (s.time.ptp.era + 1) % 65536, wrapped := true } } }) ∧
  (∀ s, tb2Wraps s (nextStart s) = false ∨ s.time.ptp.wrapped = true → exec .tb2Wrap s = .next s) ∧
  (∀ s t, tb2Wraps s t = true ↔ 0 ≤ sdiff64 t s.time.tb2.a ∧ (tbValue s.time.tb2 t).toNat < s.time.tb2.v.toNat)

/-- PTP messages and ETH0 frames. What each message of the master changes and answers, what is dropped, and
where an ETH0 frame goes. Where the spec is silent it says the model's own choice or reading: log entries 8,
24, 57. (R38, R331 to R333, R335.) -/
def Obligations.PtpMessages : Prop :=
  (∀ m s, ptpTaken 40 m s = true → fromMaster s m = true → s.time.ptp.lost = false →
    ∃ t, exec (.sync m) s = .next t ∧ paid 10 40 (withPtp { s.time.ptp with syncAt := some (m.stamp, m.logIntv), sync := some {
      seqId := m.seqId, t2 := ingress s m.stamp, corr := m.corr, logIntv := m.logIntv, cue := s.proc.procCue
      t1 := if m.twoStep then none else some ⟨m.seconds, m.nanos, 0⟩ } } s) t) ∧
  (∀ m s w, ptpTaken 10 m s = true → fromMaster s m = true → s.time.ptp.sync = some w → w.seqId = m.seqId →
      w.t1 = none →
    ∃ t, exec (.followUp m) s = .next t ∧ paid 10 10 (withPtp { s.time.ptp with
      sync := some { w with t1 := some ⟨m.seconds, m.nanos, m.corr⟩ } } s) t) ∧
  (∀ m s w o t3 d t4 t1 raw, ptpTaken 10 m s = true → m.req.toNat = ownClock s → fromMaster s m = true → bit (cfgU s recTime 0 2) 1 = false →
      s.time.ptp.dreq = some (m.seqId, t3) → s.time.ptp.sync = some w → w.t1 = some o →
      t4 = ptpTicks m.seconds m.nanos (-m.corr) → t1 = ptpTicks o.sec o.nano (o.corr + w.corr) →
      d = sdiff64 (tb2At s w.t2) t1 →
      raw = (sdiff64 (tb2At s w.t2) (tb2At s t3) + sdiff64 t4 t1).tdiv 2 →
    exec (.delayResp m) s = .next (exchange raw d w.logIntv
      (withPtp { s.time.ptp with dreq := none, minLog := m.logIntv } (charge 10 10 s)))) ∧
  (∀ m s, ptpTaken 40 m s = true →
    ∃ t launch, exec (.pdelayReq m) s = .next t ∧
      launch = egress s (plus (plus s.proc.procStart cueTicks) (200 * usTicks)) ∧
      paid 10 40 (withOut 10 (.eth0 (ptpSend s true 3 m.seqId
        (m.corr + sdiff64 launch (ingress s m.stamp) * 655360 / 1024) (be 10 0 ++ be 8 m.source.toNat ++ be 2 1))) s) t) ∧
  (∀ m s, ptpTaken 10 m s = true → m.req.toNat ≠ ownClock s →
    ∃ t u, exec (.delayResp m) s = .next t ∧ exec (.pdelayRespFollowUp m) s = .next u ∧ paid 10 10 s t ∧ paid 10 10 s u) ∧
  (∀ m s t1, ptpTaken 40 m s = true → m.req.toNat = ownClock s → bit (cfgU s recTime 0 2) 1 = true → s.time.ptp.dreq = some (m.seqId, t1) →
      m.twoStep = true →
    ∃ t, exec (.pdelayResp m) s = .next t ∧ paid 10 40 (withPtp { s.time.ptp with
      pdel := some ⟨m.seqId, ingress s m.stamp, ⟨m.seconds, m.nanos, 0⟩, m.corr⟩ } s) t) ∧
  (∀ m s t1 w, ptpTaken 10 m s = true → m.req.toNat = ownClock s → s.time.ptp.dreq = some (m.seqId, t1) → s.time.ptp.pdel = some w →
      w.seqId = m.seqId → s.time.ptp.sync = none →
    ∃ t raw, exec (.pdelayRespFollowUp m) s = .next t ∧
      raw = (sdiff64 (tb2At s w.t4) (tb2At s t1) - sdiff64 (ptpTicks m.seconds m.nanos (m.corr + w.corr))
        (ptpTicks w.t2.sec w.t2.nano 0)).tdiv 2 ∧
      paid 10 10 (withPtp { s.time.ptp with peerD := some raw, dreq := none, pdel := none } s) t) ∧
  (∀ m s, frameTaken 10 10 m.stamp s = true → ptpEn s = true → m.domain ≠ cfgU s recTime 2 1 →
    ∃ t, exec (.followUp m) s = .next t ∧
      paid 10 10 (withPtp { s.time.ptp with dropped := s.time.ptp.dropped + 1 } s) t) ∧
  (∀ st f s, frameTaken 9 10 st s = true → ptpPart s f = none →
      slice f 0 6 = (List.range 6).map (cfgByte s recFwd) → beNat (slice f 12 2) ≠ 0x86DD →
    ∃ t, exec (.eth0Frame st f) s = .next t ∧
      paid 9 10 (withOut 9 (.deliver (defaultRing s) 1 2 none st s.proc.itemCue 0x100 (-32768) 255 f) s) t) ∧
  (∀ st f s, frameTaken 9 10 st s = true → ptpPart s f = none →
      slice f 0 6 = (List.range 6).map (cfgByte s recFwd) → beNat (slice f 12 2) = 0x86DD →
    exec (.eth0Frame st f) s = .next (routeIp (ethIngress st) f (f.drop 14) (charge 9 10 s))) ∧
  (∀ m s, s.proc.processing = true → isUnderstudy s = false → inReplay s = false → 0 ≤ sdiff64 m.stamp s.proc.procStart →
    exec (.sync m) s = .next (input 8 0 (le 8 m.stamp.toNat ++ ptpReceived s .sync m) (.row (.sync m)) s) ∧
    exec (.announce m) s = .next (input 8 0 (le 8 m.stamp.toNat ++ ptpReceived s .announce m) (.row (.announce m)) s))

/-- The states of the PTP client and its servo. Which Announce chooses a master, what each timeout does in
each state, and what an accepted or a deviating exchange changes. Where the spec is silent it says the model's
own choice or reading: log entries 26, 57. (R331, R335 to R339.) -/
def Obligations.PtpStates : Prop :=
  (∀ m s, ptpTaken 10 m s = true → 255 ≤ m.steps ∨ m.source.toNat = ownClock s →
    ∃ t, exec (.announce m) s = .next t ∧ paid 10 10 s t) ∧
  (∀ m x s, ptpTaken 10 m s = true → m.steps < 255 → m.source.toNat ≠ ownClock s →
      s.time.ptp.masters = [(x, false)] → x.source = m.source →
      sdiff64 m.stamp x.stamp ≤ (logTicks 4 x.logIntv : Int) → s.time.ptp.st = .listening → s.time.ptp.master = none →
    ∃ t, exec (.announce m) s = .next t ∧ paid 10 10 (withPtp { s.time.ptp with
      masters := [(m, true)], master := some m.source, utc := utcOf m, st := .acquiring, mpd := none, sync := none, syncAt := none
      dreq := none, pdel := none, dnext := none, minLog := -4, reroute := false, lost := false, traceable := false
      good := 0, deviating := 0, run := [] } s) t) ∧
  (∀ s, canTake s 10 10 = true → announceOver s = false →
    ∃ t, exec .announceReceiptTimeout s = .next t ∧ paid 10 10 s t) ∧
  (∀ s, canTake s 10 10 = true → announceOver s = true → s.time.ptp.st = .listening ∨
      (s.time.ptp.st = .holdover ∧ s.time.ptp.holdCue ≠ s.proc.procCue) →
    ∃ t, exec .announceReceiptTimeout s = .next t ∧
      paid 10 10 (withPtp { s.time.ptp with masters := [], master := none } s) t) ∧
  (∀ s, canTake s 10 10 = true → syncOver s = true → s.time.ptp.st = .locked ∨ s.time.ptp.st = .acquiring →
    ∃ t, exec .syncTimeout s = .next t ∧ paid 10 10 (withRec 10 0x5006 1 0 0 0 { s with time := { s.time with
      tb2 := { s.time.tb2 with pend := s.time.tb2.pend ++ [.rate s.time.ptp.i] }
      ptp := { s.time.ptp with
        st := .holdover, reroute := false, lost := true, traceable := true, holdCue := s.proc.procCue, run := []
        good := 0, deviating := 0 } } }) t) ∧
  (∀ s, canTake s 10 10 = true → (s.time.ptp.st ≠ .locked ∧ s.time.ptp.st ≠ .acquiring) ∨ syncOver s = false →
    ∃ t, exec .syncTimeout s = .next t ∧ paid 10 10 s t) ∧
  (∀ s w, canTake s 10 10 = true → s.time.ptp.sync = some w → w.t1 = none →
      102400000000 ≤ sdiff64 s.proc.procStart w.t2 →
    ∃ t, exec .syncPairDiscard s = .next t ∧ paid 10 10 (withPtp { s.time.ptp with sync := none } s) t) ∧
  (∀ s, canTake s 10 10 = true → s.time.ptp.st = .holdover → s.time.ptp.traceable = true →
      (cfgU s recTime 20 4 : Int) ≤ sdiff32 s.proc.procCue s.time.ptp.holdCue →
    ∃ t, exec .holdoverLimit s = .next t ∧
      paid 10 10 (withRec 10 0x5009 0 0 0 0 (withPtp { s.time.ptp with traceable := false } s)) t) ∧
  (∀ raw diff log m s, s.time.ptp.st = .locked ∨ s.time.ptp.st = .acquiring → s.time.ptp.mpd = some m →
      exceeds (raw - m) (cfgU s recTime 16 4) = true → s.time.ptp.deviating = 0 →
    exchange raw diff log s = withPtp { s.time.ptp with
      discarded := s.time.ptp.discarded + 1, deviating := 1, good := 0, offset := diff - (m + s.time.ptp.asym) } s) ∧
  (∀ o log s, s.time.ptp.st = .acquiring → exceeds o (cfgU s recTime 8 4) = false →
      exceeds o (cfgU s recTime 12 4) = false → s.time.ptp.good = 3 →
    ∃ i r, servo s o log = (i, r) ∧ acceptExchange o log s = withRec 10 0x5005 0 0 0 0 { s with time := { s.time with
      tb2 := { s.time.tb2 with pend := s.time.tb2.pend ++ [.rate r] }
      ptp := { s.time.ptp with
        i := i, deviating := 0, offset := o, st := .locked, traceable := true, good := 0 } } }) ∧
  (∀ o log s, s.time.ptp.st = .locked → exceeds o (cfgU s recTime 8 4) = false →
    ∃ i r, servo s o log = (i, r) ∧ acceptExchange o log s = { s with time := { s.time with
      tb2 := { s.time.tb2 with pend := s.time.tb2.pend ++ [.rate r] }
      ptp := { s.time.ptp with i := i, deviating := 0, offset := o } } })

/-- Secured uplinks of a node. What an accepted frame is, what it changes on its node, and what a frame that
does not parse counts. That a contact outside a window belongs to the nearest anchor is the model's reading
(log entry 9). Where the spec is silent it says the model's own choice or reading: log entries 24, 64, 65, 95,
103. (R220, R242, R244, R249, R251, R257, R272, R452.) -/
def Obligations.Uplinks : Prop :=
  (∀ rx s u s1, canTake s (rxOwner s rx) (rxCost s rx) = true →
      acceptUplink rx (charge (rxOwner s rx) (rxCost s rx) s) = (some u, s1) →
    exec (.data rx) s = .next (dropWin rx (contact u (forwardData u) s1)) ∧
    exec (.reply rx) s = .next (dropWin rx (contact u id s1)) ∧
    exec (.control rx) s = .next (dropWin rx (contact u id s1)) ∧
    (u.payload.length = 6 → byteAt u.payload 0 ≤ 2 → exec (.lostRequest rx) s = .next (dropWin rx (contact u id s1)))) ∧
  (∀ rx s, canTake s (rxOwner s rx) (rxCost s rx) = true → parseFrame (rxFrame rx) = none → winOf s rx = none →
    ∃ u t, paid (rxOwner s rx) (rxCost s rx) s u ∧
      regOnly 0x30034 (w32 (min 0xFFFFFFFF ((reg s 0x30034).toNat + 1))) u t ∧
      exec (.data rx) s = .next t ∧ exec (.reply rx) s = .next t ∧ exec (.control rx) s = .next t ∧
      exec (.lostRequest rx) s = .next t) ∧
  (∀ rx s f i p h b es q, parseFrame (rxFrame rx) = some f → nodeByAddr s (uplinkNode f) = some i → f.sec = true →
      f.dir = false → f.router = routerId s → openFrom s i f = .inl (p, h, b) → splitBody f p = some (es, q) →
      (∀ e ∈ es, elemOk e = true) → payloadOk f.typ q = true →
    ∃ t, acceptUplink rx s = (some ⟨i, f, es, q, rx, winOf s rx⟩, t) ∧
      nodeOnly i { node s i with win := h, bits := b, seen := (node s i).seen ++ [BitVec.ofNat 32 f.ctr] } s t) ∧
  (∀ rx s f i p h b es q, parseFrame (rxFrame rx) = some f → nodeByAddr s (uplinkNode f) = some i → f.sec = true →
      f.dir = false → f.router = routerId s → openFrom s i f = .inl (p, h, b) → splitBody f p = some (es, q) →
      (∃ e ∈ es, elemOk e = false) ∨ payloadOk f.typ q = false →
    ∃ u t, acceptUplink rx s = (none, t) ∧
      nodeOnly i { node s i with win := h, bits := b, seen := (node s i).seen ++ [BitVec.ofNat 32 f.ctr] } s u ∧
      regOnly 0x30034 (w32 (min 0xFFFFFFFF ((reg s 0x30034).toNat + 1))) u t) ∧
  (∀ u s n e, n = node s u.i → e = contactEvent u n → n.upd = none →
    ∃ t, reanchor u s = t ∧ nodeOnly u.i { n with
      event := e, arrival := u.rx.arrival, misses := 0, lastCue := s.proc.procCue
      nextWin := if n.st = .dormant ∨ sdiff32 n.nextWin e ≤ 0 then e + 1 else n.nextWin } s t)

/-- Window outcomes, peer routers, floods, transmit ends and map requests. What each of these items costs and
changes. Where the spec is silent it says the model's own choice or reading: log entries 24, 67, 68. (R169,
R199, R226 to R228, R244, R251 to R258.) -/
def Obligations.WindowsFloodsAndPeers : Prop :=
  (∀ rx s w, canTake s (owner w.node) 10 = true → winOf s rx = some w → rxGood rx = false →
      rx.outcome ≠ 0 → rx.outcome ≠ 2 →
    ∃ t, exec (.windowOutcome rx) s = .next t ∧ paid (owner w.node) 10 { s with mesh := { s.mesh with
      wins := s.mesh.wins.erase w, judge := s.mesh.judge ++ [w] } } t) ∧
  (∀ rx s w, canTake s (owner w.node) 10 = true → winOf s rx = some w → rxGood rx = false → rx.outcome = 2 →
    ∃ t, exec (.windowOutcome rx) s = .next t ∧ paid (owner w.node) 10 { s with mesh := { s.mesh with
      wins := s.mesh.wins.erase w } } t) ∧
  (∀ rx s f b, canTake s 0 20 = true → parseFrame (rxFrame rx) = some f →
      ((beaconOf s f).bind fun b => (splitBody f b).map Prod.snd) = some b → beaconOk b = true → f.router ≠ routerId s →
      bit (byteAt b 7) 1 = false → winOf s rx = none →
      (∀ x ∈ s.mesh.peers, ¬ (x.router = f.router ∧ x.slot = byteAt b 5)) → s.mesh.peers.length < 32 →
    ∃ t, exec (.beacon rx) s = .next t ∧ paid 0 20 (withRec 0 0x3004 0 0 0 0 { s with mesh := { s.mesh with
      peers := s.mesh.peers ++ [peerOf s rx f.router b] } }) t) ∧
  (∀ rx s f o q n e, parseFrame (rxFrame rx) = some f → f.flood = some (o, q, n) → e = floodOwner s o q →
      isSeen s e o q = true → canTake s e 8 = true → winOf s rx = none →
    ∃ u t, exec (.floodFrame rx) s = .next t ∧ paid e 8 s u ∧
      regOnly 0x30038 (w32 (min 0xFFFFFFFF ((reg s 0x30038).toNat + 1))) u t) ∧
  (∀ rx s f o q n e p es x, parseFrame (rxFrame rx) = some f → f.flood = some (o, q, n) → e = floodOwner s o q →
      isSeen s e o q = false → canTake s e (40 + blocksOf 16 f.body.length) = true → winOf s rx = none →
      f.typ = 1 → f.sec = true → f.dir = true → openFlood s f o = .inl (p, none) → splitBody f p = some (es, x) →
      (∀ y ∈ es, elemOk y = true) →
    exec (.floodFrame rx) s = .next (dropWin rx (relayFlood e f o q n (forwardMesh (floodIngress s e o rx) x
      (insertSeen e o q (charge e (40 + blocksOf 16 f.body.length) s)))))) ∧
  (∀ x s, canTake s 0 10 = true → s.mesh.floods.length < 64 → floodEntries s x.scope x.grand ≠ [] →
      (∀ j ∈ floodEntries s x.scope x.grand, slotFits s x.frame.length j = true) →
    ∃ t, exec (.floodResend x) s = .next t ∧ paid 0 10 { s with mesh := { s.mesh with
      items := s.mesh.items + 1
      floods := s.mesh.floods ++ [{
        id := s.mesh.items, cmd := none, scope := x.scope, grand := x.grand, seq := x.seq, frame := x.frame
        sentIn := [], sentOk := 0, tries := [], fail := 0, planned := (floodEntries s x.scope x.grand).length
        lastTx := 0 }] } } t) ∧
  (∀ x s, canTake s 0 10 = true → 64 ≤ s.mesh.floods.length ∨
      (∃ j ∈ floodEntries s x.scope x.grand, slotFits s x.frame.length j = false) →
    ∃ u t, exec (.floodResend x) s = .next t ∧ paid 0 10 s u ∧
      regOnly 0x31020 (w32 (min 0xFFFFFFFF ((reg s 0x31020).toNat + 1))) u t) ∧
  (∀ x s e u, e = x.origin.toNat % 16 → canTake s e 10 = true →
      (∀ v ∈ s.mesh.uses, v.sent ≠ some (x.chain, x.seq)) → u = ledgerCorrect x s →
    ∃ t, exec (.transmitEndEntry x) s = .next t ∧ paid e 10 u t ∧
      u = withTx x.chain { tx s x.chain with
        ledger := (tx s x.chain).ledger.map fun g =>
          if g.seq == x.seq then { g with us := (sdiff64 x.endStamp x.curtain).toNat * 3 } else g
        shadow := (tx s x.chain).shadow.filter fun r => r.seq != x.seq } s) ∧
  (∀ i l s, canTake s 8 10 = true → mapLegal l = false →
    ∃ t, exec (.mapAllocation i l) s = .next t ∧ paid 8 10 s t) ∧
  (∀ i l s, canTake s 8 10 = true → mapLegal l = true → ∃ t, exec (.mapAllocation i l) s = .next t ∧
    paid 8 10 { s with mesh := { s.mesh with mapReqs := s.mesh.mapReqs ++ [(i, l)] } } t) ∧
  (∀ i s p, canTake s 0 10 = true → s.mesh.peers[i]? = some p → p.present = true → p.misses = 2 →
      1000 * (usTicks : Int) < sdiff64 s.proc.procStart p.expect →
    ∃ t, exec (.peerBeaconMiss i) s = .next t ∧ paid 0 10 (withRec 0 0x3005 0 0 0 0 { s with mesh := { s.mesh with
      peers := s.mesh.peers.set i { p with
        misses := 3, expect := plus p.expect (2 ^ p.log2 * cueTicks), present := false } } }) t) ∧
  (∀ i s p, canTake s 0 10 = true → s.mesh.peers[i]? = some p → p.misses < 2 →
      1000 * (usTicks : Int) < sdiff64 s.proc.procStart p.expect →
    ∃ t, exec (.peerBeaconMiss i) s = .next t ∧ paid 0 10 { s with mesh := { s.mesh with
      peers := s.mesh.peers.set i { p with
        misses := p.misses + 1, expect := plus p.expect (2 ^ p.log2 * cueTicks) } } } t) ∧
  (∀ i s p, canTake s 0 10 = true → s.mesh.peers[i]? = some p →
      (cfgU s recMesh 16 2 : Int) ≤ sdiff32 s.proc.procCue p.cue →
    ∃ t, exec (.peerSupervisionExpiry i) s = .next t ∧ paid 0 10 (withRec 0 0x3006 0 0 0 0 { s with mesh := { s.mesh with
      peers := s.mesh.peers.eraseIdx i } }) t) ∧
  (∀ i s p, canTake s 0 10 = true → s.mesh.peers[i]? = some p →
      sdiff32 s.proc.procCue p.cue < (cfgU s recMesh 16 2 : Int) →
    ∃ t, exec (.peerSupervisionExpiry i) s = .next t ∧ paid 0 10 s t)

/-- Auditions, joins and packets for nodes. The answer to an audition, the start and the repetition of a join,
the Box Office's answer with its keys and its ticket, the node context that a result makes, and a forwarded
packet. Where the spec is silent it says the model's own choice or reading: log entries 7, 24, 69, 70. (R230
to R234, R277, R442 to R446.) -/
def Obligations.AuditionsAndJoins : Prop :=
  (∀ rx s f es b st g p u, canTake s 8 120 = true → plainUplink s 3 16 true rx = some (f, es, b) → auditOk b = true →
      allocBlocked s = false → winOf s rx = none → auditAnswer (ctxView (charge 8 120 s)) b = (st, g, p) →
      u = { charge 8 120 s with mesh := { s.mesh with
        fresh := s.mesh.fresh + 1
        audits := s.mesh.audits.filter (fun x => x.eui != BitVec.ofNat 64 (uAt b 0 8)) ++ (if st = 0 then [{
          eui := BitVec.ofNat 64 (uAt b 0 8), caps := BitVec.ofNat 16 (uAt b 8 2), ppm := byteAt b 11
          wanted := BitVec.ofNat 8 (byteAt b 10), grand := g, pan := p }] else []) } } →
    exec (.auditionRequest rx) s = .next (dropWin rx (prompterSend (auditionChan s) rx { blankFrame 4 addrNone with
      body := slice b 0 8 ++ le 1 st ++ le 1 (if g then 2 else 1) ++ le 1 p ++ le 1 (joinChan s) ++
        le 2 (4 + 2 * s.mesh.joins) ++ le 2 0 } u))) ∧
  (∀ b s, joinPolicy s = 2 → (auditAnswer s b).1 = 4) ∧
  (∀ b s, joinPolicy s = 1 → nodeByEui s (BitVec.ofNat 64 (uAt b 0 8)) = none → (auditAnswer s b).1 = 3) ∧
  (∀ b s, joinPolicy s = 0 → uAt b 12 2 ≠ planCheck s → (auditAnswer s b).1 = 5) ∧
  (∀ rx s f es b a o, canTake s 8 400 = true → plainUplink s 5 16 false rx = some (f, es, b) →
      zeroAt b 10 6 = true → uAt b 8 2 ≤ 1 → allocBlocked s = false → bit (byteAt b 8) 0 = false → winOf s rx = none →
      auditFor (charge 8 400 s) (BitVec.ofNat 64 (uAt b 0 8)) = some a → offerOf es = some o →
      s.mesh.pendingJoin.contains (BitVec.ofNat 64 (uAt b 0 8)) = false →
    exec (.joinRequest rx) s = .next (dropWin rx (joinRetry rx f (startJoin a o (charge 8 400 s))))) ∧
  (∀ rx s f es b o, canTake s 8 400 = true → plainUplink s 5 16 false rx = some (f, es, b) →
      zeroAt b 10 6 = true → uAt b 8 2 ≤ 1 → allocBlocked s = false → bit (byteAt b 8) 0 = false → winOf s rx = none →
      auditFor (charge 8 400 s) (BitVec.ofNat 64 (uAt b 0 8)) = none ∨
        s.mesh.pendingJoin.contains (BitVec.ofNat 64 (uAt b 0 8)) = true → offerOf es = some o →
    exec (.joinRequest rx) s = .next (dropWin rx (joinRetry rx f (charge 8 400 s)))) ∧
  (∀ s e a, s.mesh.audits.find? (fun a => a.eui == e) = some a → auditFor s e = some a) ∧
  (∀ rx s f es b, canTake s 8 400 = true → plainUplink s 5 16 false rx = some (f, es, b) →
      zeroAt b 10 6 = true → uAt b 8 2 ≤ 1 → allocBlocked s = false → bit (byteAt b 8) 0 = true →
      s.mesh.results.find? (fun r => r.1 == BitVec.ofNat 64 (uAt b 0 8) && resultHolds s r) = none → winOf s rx = none →
    exec (.joinRequest rx) s = .next (dropWin rx (joinRetry rx f (charge 8 400 s)))) ∧
  (∀ j s c, (credSlotOk s j = false ∧ c = 10) ∨ (credSlotOk s j = true ∧ credSigOk s j = false ∧ c = 2600) →
      canTake s 11 c = true →
    ∃ u v t, exec (.joinHandoff j) s = .next t ∧ paid 11 c s u ∧
      regOnly 0x33118 (w32 (min 0xFFFFFFFF ((reg s 0x33118).toNat + 1))) u v ∧
      t = withOut 11 (.post 8 (.row (.joinResult (joinRefused j))) false)
        (withRec 11 0x8001 (j.eui.toNat % 2 ^ 32) (j.eui.toNat / 2 ^ 32) j.slot 0 v)) ∧
  (∀ j s, credSlotOk s j = true → credSigOk s j = true → canTake s 11 3800 = true →
    ∃ t k, exec (.joinHandoff j) s = .next t ∧ k = joinKeys s j ((drawOut 11 s).1.take 16) ∧
      k.kLink = (sha256 ((ecBytes (ecMul (routerScalar s) (ecPoint j.pubKey))).take 32 ++ j.nonceN ++
        (drawOut 11 s).1.take 16 ++ be 8 j.eui.toNat ++ be 2 (routerId s))).take 16 ∧
      t = withOut 11 (.post 8 (.row (.joinResult k)) false) { s with engs := t.engs } ∧
      (eng t 11).draws = (eng s 11).draws + 1) ∧
  (∀ r s, canTake s 8 10 = true → allocBlocked s = false → r.accepted = false →
    ∃ t, exec (.joinResult r) s = .next t ∧ paid 8 10 { s with mesh := { s.mesh with
      joins := s.mesh.joins - 1, pendingJoin := s.mesh.pendingJoin.erase r.req.eui
      results := s.mesh.results.filter (fun y => y.1 != r.req.eui && resultHolds s y) ++ [(r.req.eui, 6, (if r.req.grand then 2 else 1), [])]
      audits := s.mesh.audits.filter fun a => a.eui != r.req.eui } } t) ∧
  (∀ r s, canTake s 8 10 = true → allocBlocked s = true →
    ∃ t, exec (.joinResult r) s = .next t ∧ paid 8 10 { s with mesh := { s.mesh with
      joins := s.mesh.joins - 1, pendingJoin := s.mesh.pendingJoin.erase r.req.eui } } t) ∧
  (∀ r s i w, canTake s 8 10 = true → allocBlocked s = false → r.accepted = true →
      joinIndex r (charge 8 10 s) = (.inr i, w) →
    exec (.joinResult r) s = .next (withOut 8 (.post 11 (.ticket i r) false)
      { w with mesh := { w.mesh with ctxOps := w.mesh.ctxOps ++ [.join i r] } })) ∧
  (∀ i r s k x, ticketBody s i r = (k, x) →
    boxTicket i r s = withOut 11 (.post 8 (.ticketed i r k) false) x) ∧
  (∀ i r k s, (node s i).st = .joining → (node s i).eui = r.req.eui →
    joinDone i r k s = { s with mesh := { s.mesh with
      joins := s.mesh.joins - 1, pendingJoin := s.mesh.pendingJoin.erase r.req.eui
      results := s.mesh.results.filter (fun y => y.1 != r.req.eui && resultHolds s y) ++
        [(r.req.eui, 0, i, k ++ ([1] ++ le 1 r.keySeq ++ [0, 0] ++ r.keyCheck ++ r.wrapped))]
      audits := s.mesh.audits.filter fun a => a.eui != r.req.eui } }) ∧
  (∀ x s, canTake s (owner x.node) 10 = true → sendWrong (node s x.node) false = true →
    ∃ u t, exec (.forwardedPacket x) s = .next t ∧ paid (owner x.node) 10 s u ∧
      regOnly 0x31028 (w32 (min 0xFFFFFFFF ((reg s 0x31028).toNat + 1))) u t) ∧
  (∀ x s, canTake s (owner x.node) 10 = true → sendWrong (node s x.node) false = false →
      downRefusal s x.node (x.packet.length + 1) false = none →
    ∃ t, exec (.forwardedPacket x) s = .next t ∧ paid (owner x.node) 10 { s with mesh := { s.mesh with
      items := s.mesh.items + 1, nodes := t.mesh.nodes } } t ∧ (∀ j, j ≠ x.node → node t j = node s j) ∧
      node t x.node = { node s x.node with downs := (node s x.node).downs ++ [{
        id := s.mesh.items, cmd := none, dest := x.node, payload := (0x41 : Byte) :: x.packet, ack := false
        wake := false, coexPri := false, mic16 := false, tries := 3
        expiry := s.proc.procCue + BitVec.ofNat 32 (cfgU s recFwd 10 2) }] })

/-- The timers of the nodes and of the table locks. When each timer acts, what it then changes and completes,
and that it otherwise only costs its work units. Where the spec is silent it says the model's own choice or
reading: log entries 24, 66. (R236, R238, R247, R248, R252, R254, R262, R264, R299.) -/
def Obligations.NodeTimers : Prop :=
  (∀ i s, canTake s (owner i) 4 = true → supervisionDue s i = true →
    ∃ u t, exec (.supervisionTimeout i) s = .next t ∧
      nodeOnly i { node s i with st := .dormant, stCue := s.proc.procCue } s u ∧
      paid (owner i) 4 (withRec (owner i) 0x3002 i ((node s i).eui.toNat % 2 ^ 32) ((node s i).eui.toNat / 2 ^ 32)
        (node s i).lastCue.toNat u) t) ∧
  (∀ i s, canTake s (owner i) 4 = true → supervisionDue s i = false →
    ∃ t, exec (.supervisionTimeout i) s = .next t ∧ paid (owner i) 4 s t) ∧
  (∀ i s, canTake s (owner i) 10 = true → joinTimeoutDue s i = true → (node s i).byAdmit = true →
    ∃ u t, exec (.joinTimeout i) s = .next t ∧
      nodeOnly i { node s i with st := .admitted, stCue := s.proc.procCue } s u ∧ paid (owner i) 10 u t) ∧
  (∀ i s, canTake s (owner i) 10 = true → dormantDue s i = true → (node s i).downs = [] → (node s i).upd = none →
      (node s i).leave = none → (node s i).mapId = 0 → (node s i).grand = true →
    ∃ u t, exec (.dormantLimit i) s = .next t ∧ nodeOnly i {} s u ∧ paid (owner i) 10 { u with mesh := { u.mesh with
      ops := s.mesh.ops ++ [.delKey i false (node s i).eui, .delKey i true 0]
      freed := s.mesh.freed.filter (fun x => x.1 != i) ++ [(i, 2)] } } t) ∧
  (∀ i s, canTake s (owner i) 10 = true → overtureDue s i = true →
    ∃ u t r x, exec (.overtureRetry i) s = .next t ∧ x.item = s.mesh.items ∧ x.use = .other ∧ x.timed = none ∧
      nodeOnly i { node s i with ovCue := s.proc.procCue } s u ∧
      r = overtureReq s (owner i) (wakeOf s (node s i)).2 (plus s.proc.procStart (cueTicks + 500 * usTicks))
        (node s i).rho (cfgU s recMesh 12 1) (cfgU s recMesh 13 1) (wakeOf s (node s i)).1 (i % 65534 + 1) ∧
      paid (owner i) 10 (withOut (owner i) (.tx { r with item := s.mesh.items }) { u with mesh := { u.mesh with
        items := s.mesh.items + 1
        uses := s.mesh.uses ++ [x] } }) t) ∧
  (∀ i id s d c, canTake s (owner i) 10 = true → (node s i).downs.find? (fun d => d.id == id) = some d →
      0 < sdiff32 s.proc.procCue d.expiry → d.cmd = some c →
    ∃ u t, exec (.holdExpiry i id) s = .next t ∧
      nodeOnly i { node s i with downs := (node s i).downs.filter fun x => x.id != d.id } s u ∧
      paid (owner i) 10 (withOut (owner i) (.complete c 0x0020 stTimeout (le 1 2 ++ [0, 0, 0] ++ le 4 d.lastTx.toNat) [])
        u) t) ∧
  (∀ i id s d, canTake s (owner i) 10 = true → (node s i).downs.find? (fun d => d.id == id) = some d →
      sdiff32 s.proc.procCue d.expiry ≤ 0 →
    ∃ t, exec (.holdExpiry i id) s = .next t ∧ paid (owner i) 10 s t) ∧
  (∀ i s r c x, canTake s (owner i) 10 = true → (node s i).leave = some (r, some c, x) → (node s i).st = .leaving →
      0 < sdiff32 s.proc.procCue x → (node s i).downs = [] → (node s i).upd = none → (node s i).mapId = 0 →
      (node s i).grand = true →
    ∃ u t, exec (.leaveHoldExpiry i) s = .next t ∧ nodeOnly i {} s u ∧
      paid (owner i) 10 (withOut (owner i) (.complete c 0x0031 stOk [] []) { u with mesh := { u.mesh with
        ops := s.mesh.ops ++ [.delKey i false (node s i).eui, .delKey i true 0]
        freed := s.mesh.freed.filter (fun x => x.1 != i) ++ [(i, 2)] } }) t) ∧
  (∀ s, s.proc.hkDone = false → exec .lockExpiry s = .next s) ∧
  (∀ s l, s.proc.hkDone = true → s.mesh.locks = [l] → 3 ≤ sdiff32 s.proc.procCue l.cue →
    exec .lockExpiry s = .next (withRec (if l.table = 2 then 9 else 8) 0x4002 0 0 0 0
      { s with mesh := { s.mesh with locks := [] } })) ∧
  (∀ s, (∀ l ∈ s.mesh.locks, sdiff32 s.proc.procCue l.cue < 3) → exec .lockExpiry s = .next s)

/-- Pair frames: hello, record, acknowledgement. What each frame whose MIC, session and counter hold changes
on either side of a pair, what it answers, what a frame that fails its checks counts, and the new session
after the last counter. Where the spec is silent it says the model's own choice or reading: log entries 40,
44, 45. (R475 to R478, R500, R501.) -/
def Obligations.PairFrames : Prop :=
  (∀ s, isPaired s = true → s.pwr.eth1Up = true → 64 ≤ sdiff32 s.proc.cueNow s.pair.lastHello →
      s.pair.txCtr ≠ 0xFFFFFFFF →
    exec .helloDue s = .next { s with
      wire1 := s.wire1 ++ [⟨s.pair.session, s.pair.txCtr, .hello (helloOf s)⟩]
      pair := { s.pair with lastHello := s.proc.cueNow, txCtr := s.pair.txCtr + 1 } }) ∧
  (∀ s, isPaired s = true → s.pwr.eth1Up = true → 64 ≤ sdiff32 s.proc.cueNow s.pair.lastHello →
      s.pair.txCtr = 0xFFFFFFFF →
    ∃ t v h, exec .helloDue s = .next t ∧ t.pair.session = v ∧ t.pair.txCtr = 1 ∧ h.session = v ∧ h.counter = 0 ∧
      t.wire1 = s.wire1 ++ [⟨s.pair.session, 0xFFFFFFFF, .hello (helloOf s)⟩, ⟨v, 0, .hello h⟩]) ∧
  (∀ s, isPaired s = false ∨ sdiff32 s.proc.cueNow s.pair.lastHello < 64 → exec .helloDue s = .next s) ∧
  (∀ h s, pairOpen s = true → h.mic = pairMic ⟨h.session, h.counter, .hello h⟩ s →
      s.pair.rxSess ≠ some h.session ∨ s.pair.rxCtr.toNat < h.counter.toNat → agrees h s = true →
      isUnderstudy s = false → s.pair.covered = false →
    exec (.hello h) s = .next (withPair { s.pair with
      rxSess := some h.session, rxCtr := h.counter, agree := true, partner := h.role
      heardLead := s.pair.heardLead || h.role == 1 } s)) ∧
  (∀ h s, pairOpen s = true → h.mic = pairMic ⟨h.session, h.counter, .hello h⟩ s →
      s.pair.rxSess ≠ some h.session ∨ s.pair.rxCtr.toNat < h.counter.toNat → agrees h s = false →
      isUnderstudy s = false → s.pair.covered = false →
    exec (.hello h) s = .next (emitLocal 0x9004 208 0 0 0 0 (withPair { s.pair with
      rxSess := some h.session, rxCtr := h.counter, agree := false, partner := h.role
      heardLead := s.pair.heardLead || h.role == 1 } s))) ∧
  (∀ h s, pairOpen s = true → h.mic ≠ pairMic ⟨h.session, h.counter, .hello h⟩ s ∨
      (s.pair.rxSess = some h.session ∧ h.counter.toNat ≤ s.pair.rxCtr.toNat) →
    ∃ t, exec (.hello h) s = .next t ∧
      regOnly rUndLinkErrors (w32 (min 0xFFFFFFFF ((reg s rUndLinkErrors).toNat + 1))) s t) ∧
  (∀ h s, pairOpen s = false → exec (.hello h) s = .next s) ∧
  (∀ h c s, pairOpen s = true → pairTaken h (.ack c) s = false →
    ∃ t, exec (.ack h c) s = .next t ∧
      regOnly rUndLinkErrors (w32 (min 0xFFFFFFFF ((reg s rUndLinkErrors).toNat + 1))) s t) ∧
  (∀ h m s, pairTaken h m s = true ↔ pairOpen s = true ∧ h.mic = pairMic ⟨h.session, h.counter, m⟩ s ∧
    s.pair.rxSess = some h.session ∧ s.pair.rxCtr.toNat < h.counter.toNat) ∧
  (∀ h c b s, pairTaken h (.record c 0 1 b) s = true → s.pair.role = 2 → s.pair.promo = none → s.pair.segs = [] →
      s.pair.naks = [] → (∀ x ∈ s.pair.held, x.1 ≠ c) → s.pair.held.length < 8 → recordWhole b = true →
      uAt b 8 4 = b.length →
    ∃ u l, exec (.record h c 0 1 b) s = .next (sendPair (.ack c) u) ∧
      l = insertBy (fun x y => decide (sdiff32 x.1 y.1 < 0)) (c, b) s.pair.held ∧
      u = withPair { s.pair with
        rxCtr := h.counter, lastRec := s.proc.cueNow, held := l, role := if l.length ≤ 2 then 2 else 3 } s) ∧
  (∀ h c i n b s, pairTaken h (.record c i n b) s = true → s.pair.role ≠ 2 → s.pair.role ≠ 3 → s.pair.role ≠ 6 →
    exec (.record h c i n b) s = .next (withPair { s.pair with rxCtr := h.counter, lastRec := s.proc.cueNow } s)) ∧
  (∀ h c s, pairTaken h (.ack c) s = true → s.pair.role = 1 → s.pair.sweeping = false → s.pair.covered = true →
      s.pair.acked = none →
    exec (.ack h c) s = .next (releaseUpTo c (withPair { s.pair with rxCtr := h.counter, acked := some c } s))) ∧
  (∀ h c s, pairTaken h (.ack c) s = true → s.pair.role = 1 → s.pair.sweeping = true → s.pair.acked = none →
    exec (.ack h c) s = .next (releaseUpTo c (withPair { s.pair with
      rxCtr := h.counter, acked := some c, sweeping := false, covered := true, partner := 2 } s))) ∧
  (∀ h c i s b m, pairTaken h (.nak c i) s = true → s.pair.role = 1 →
      s.pair.sentRecs.find? (fun x => x.1 == c) = some (c, b) → (recordFrames c b)[i]? = some m →
    exec (.nak h c i) s = .next (sendPair m (withPair { s.pair with rxCtr := h.counter } s)))

/-- Digests, the state audit, time, resynchronisation and release. What each of these frames and deadlines
changes in the pair state: equal and unequal digests on either side, the audit, TIME samples, the sweep,
forwarded words and the release of held outputs. Where the spec is silent it says the model's own choice or
reading: log entries 40, 45, 46, 47, 49. (R479, R483, R484, R499 to R501.) -/
def Obligations.PairState : Prop :=
  (∀ h d s, pairTaken h (.digest d) s = true → s.pair.role = 1 ∨ s.pair.role = 2 ∨ s.pair.role = 3 →
      s.pair.mine = [d] → s.pair.theirs = [] →
    exec (.digest h d) s = .next (withPair { s.pair with rxCtr := h.counter, mine := [], theirs := [] } s)) ∧
  (∀ h d m s, pairTaken h (.digest d) s = true → s.pair.role = 1 → s.pair.mine = [m] → s.pair.theirs = [] →
      m.cue = d.cue → m ≠ d →
    exec (.digest h d) s = .next (withPair { s.pair with
      rxCtr := h.counter, mine := [], theirs := [], audit := true } s)) ∧
  (∀ h d m s, pairTaken h (.digest d) s = true → s.pair.role = 2 ∨ s.pair.role = 3 → s.pair.mine = [m] →
      s.pair.theirs = [] → m.cue = d.cue → m ≠ d →
    ∃ t u v, exec (.digest h d) s = .next (withPair { v.pair with audit := true } v) ∧
      regOnly rUndMismatch (w32 (min 0xFFFFFFFF ((reg s rUndMismatch).toNat + 1)))
        (withPair { s.pair with rxCtr := h.counter, mine := [], theirs := [] } s) t ∧
      u = emitLocal 0x9002 208 (m.state.toNat % 2 ^ 32) (m.state.toNat / 2 ^ 32) (d.state.toNat % 2 ^ 32)
        (d.state.toNat / 2 ^ 32) t ∧
      v = sendPair (.digest m) (withPair { u.pair with role := 4, held := [], segs := [], naks := [] } u)) ∧
  (∀ s, s.pair.audit = false → exec (.stateAuditEnd true) s = .next s ∧ exec (.stateAuditEnd false) s = .next s) ∧
  (∀ s, s.pair.audit = true → ∃ t, exec (.stateAuditEnd true) s = .next (emitLocal 0x7004 208 6 0 0 0 t) ∧
    regOnly rWngFaults (withField (reg s rWngFaults) 15 0 (min 0xFFFF (rbits s rWngFaults 15 0 + 1)))
      (withPair { s.pair with audit := false } s) t) ∧
  (∀ s, s.pair.audit = true → ∃ t, exec (.stateAuditEnd false) s = .next (forceSwap (emitLocal 0x7004 208 6 0 1 0 t)) ∧
    regOnly rWngFaults (withField (reg s rWngFaults) 31 16 (min 0xFFFF (rbits s rWngFaults 31 16 + 1)))
      (withPair { s.pair with audit := false, auditBad := true } s) t) ∧
  (∀ h a b c d s, pairTaken h (.time a 0 0) s = true → s.pair.role = 1 →
    exec (.time h a b c d) s = .next (sendPair (.time a b (plus s.proc.cueStart (cueTicks + 500 * usTicks)))
      (withPair { s.pair with rxCtr := h.counter } s))) ∧
  (∀ h a b c d s, pairTaken h (.time a b c) s = true → s.pair.role = 2 → s.pair.samples.length < 64 →
    ∃ l, exec (.time h a b c d) s = .next (withPair { s.pair with
        rxCtr := h.counter, samples := l, delta := fitAt l s.proc.cueNow } s) ∧
      l = s.pair.samples ++ [(s.proc.cueNow, (sdiff64 b a + sdiff64 c d) / 2)]) ∧
  (∀ h s, pairTaken h .resync s = true → s.pair.role = 1 →
    ∃ t, exec (.resync h) s = .next t ∧ regOnly rUndResyncs (w32 (min 0xFFFFFFFF ((reg s rUndResyncs).toNat + 1)))
      (withPair { s.pair with
        rxCtr := h.counter, sweeping := true, swept := 0, partner := 6, sweepPos := some (0, 0), sweepAgain := false
        fwdOut := [] } s) t) ∧
  (∀ h r o l c s, pairTaken h (.sweep r o l false) s = true → s.pair.role = 6 →
    exec (.sweep h r o l none c) s = .next (withPair { s.pair with
      rxCtr := h.counter, swept := sweptAt r o
      fwd := s.pair.fwd ++ l.mapIdx fun i w => ⟨r, o + 8 * i, w⟩ } s)) ∧
  (∀ h r o l p c s, pairTaken h (.sweep r o l true) s = true → s.pair.role = 6 →
    exec (.sweep h r o l (some p) c) s = .next (endResync p c (withPair { s.pair with rxCtr := h.counter } s))) ∧
  (∀ h l s, pairTaken h (.forward l) s = true → s.pair.role = 6 →
    exec (.forward h l) s = .next (withPair { s.pair with rxCtr := h.counter, fwd := (s.pair.fwd.filter fun x =>
      !l.any fun w => w.region == x.region && w.offset == x.offset) ++ l } s)) ∧
  (∀ s, s.pair.role ≠ 1 ∨ s.pair.covered = false ∨ s.pair.holdOuts = [] → exec .releaseDeadline s = .next s) ∧
  (∀ s x l t, s.pair.role = 1 → s.pair.covered = true → s.pair.holdOuts = x :: l → s.pair.fixedD = false →
      t = plus (s.proc.cueStart + BitVec.ofInt 64 (sdiff32 x.1 s.proc.cueNow * cueTicks)) (1400 * usTicks) →
      0 ≤ sdiff64 t (plus s.proc.cueStart cueTicks) → exec .releaseDeadline s = .next s) ∧
  (∀ s x l t, s.pair.role = 1 → s.pair.covered = true → s.pair.holdOuts = x :: l → s.pair.fixedD = false →
      t = plus (s.proc.cueStart + BitVec.ofInt 64 (sdiff32 x.1 s.proc.cueNow * cueTicks)) (1400 * usTicks) →
      sdiff64 t (plus s.proc.cueStart cueTicks) < 0 →
    ∃ u, exec .releaseDeadline s = .next (emitLocal 0x9003 208 0 0 0 0 (withPair { u.pair with
      covered := false, partner := 4 } u)) ∧ u = releaseHeld (atTime t s)) ∧
  (∀ s, isPaired s = true → s.pair.role = 2 ∨ s.pair.role = 3 ∨ s.pair.role = 6 →
      8 ≤ sdiff32 s.proc.cueNow s.pair.lastRec →
    exec .pairLinkLost s = .next (emitLocal 0x9005 208 0 0 0 0 (withPair { s.pair with
      role := 4, held := [], segs := [], naks := [] } s))) ∧
  (∀ s, sdiff32 s.proc.cueNow s.pair.lastRec < 8 → exec .pairLinkLost s = .next s)

/-- Promotion, demotion, relief and rehearsal. When the role wires change a role, what is then fixed and
recorded, and when nothing happens; the wires show the level of the line after every rise and fall; the first
live cue leads. Where the spec is silent it says the model's own choice or reading: log entries 30, 48, 108.
(R485, R489, R492, R493, R503, R504.) -/
def Obligations.ChangesOfRoles : Prop :=
  (∀ r k s, isPaired s = true → s.pair.role = 0 ∨ s.pair.role = 1 → 0 ≤ sdiff64 k r → sdiff64 k r ≤ 20 * usTicks →
    exec (.promote r k) s = .next (withPair { s.pair with leadIn := true, tickCue := some s.proc.cueNow } (atTime k s))) ∧
  (∀ r k s, isPaired s = true → s.pair.role = 2 → s.pair.promo = none → sdiff64 k r < 0 ∨ 20 * usTicks < sdiff64 k r →
    exec (.promote r k) s = .next (withPair { s.pair with leadIn := true } (atTime k s))) ∧
  (∀ r k s, isPaired s = true → s.pair.role = 4 → s.pair.promo = none → 0 ≤ sdiff64 k r → sdiff64 k r ≤ 20 * usTicks →
    exec (.promote r k) s = .next (emitLocal 0x9006 209 0 0 0 0
      (withPair { s.pair with leadIn := true, tickCue := some s.proc.cueNow } (atTime k s)))) ∧
  (∀ r k s, isPaired s = true → s.pair.role = 2 → s.pair.promo = none → 0 ≤ sdiff64 k r → sdiff64 k r ≤ 20 * usTicks →
      isFit s = true → s.pair.viewLow = none →
    ∃ u n live g y, exec (.promote r k) s = .next (emitLocal 0x9001 209 0 0 0 0 u) ∧
      n = s.pair.held.length ∧ live = s.proc.cueNow + 1 + BitVec.ofNat 32 (max n 2) ∧
      g = plus s.proc.cueStart ((1 + max n 2) * cueTicks) + BitVec.ofInt 64 (fitAt s.pair.samples s.proc.cueNow) ∧
      y = lastReplayed s ∧
      regOnly rUndSwaps (withField (reg s rUndSwaps) 7 0 (min 255 (rbits s rUndSwaps 7 0 + 1)))
        (withPair { s.pair with
          delta := fitAt s.pair.samples s.proc.cueNow, fixedD := true, leadIn := true, tickCue := some s.proc.cueNow
          k := sdiff32 (y.1 + BitVec.ofInt 32 (roundDiv (sdiff64 g y.2) cueTicks)) live
          promo := some (s.proc.cueNow, n, n), segs := [], naks := [] } (atTime k s)) u) ∧
  (∀ t s, isPaired s = false ∨ (s.pair.role ≠ 1 ∧ s.pair.promo = none) →
    exec (.demote t) s = .next (withPair { s.pair with leadIn := false } (atTime t s))) ∧
  (∀ t s, isPaired s = true → s.pair.role = 1 → s.pwr.restartReq = none →
    ∃ u v, exec (.demote t) s = .next (emitLocal 0x9001 209 0 0 0 0 v) ∧
      u = cutChains (plus s.proc.cueStart (2 * cueTicks)) (withPair { s.pair with
        leadIn := false, role := 4, demoting := true, covered := false, holdOuts := [], promo := none, viewLow := none }
        (atTime t s)) ∧
      v = countSwap 24 (restartNext 2 u) ∧ v.pwr.restartReq = some 2) ∧
  (∀ r k s, ∃ t, exec (.promote r k) s = .next t ∧ t.pair.leadIn = true) ∧
  (∀ t s, ∃ u, exec (.demote t) s = .next u ∧ u.pair.leadIn = false) ∧
  (∀ w s, 500 ≤ w → w ≤ 2000 →
    exec (.leadInTick w) s = .next (withPair { s.pair with tickCue := some s.proc.cueNow } s)) ∧
  (∀ w s, w < 500 ∨ 2000 < w → exec (.leadInTick w) s = .next s) ∧
  (∀ s, isPaired s = true → votePresent s = false →
    exec .directorLost s = .next (emitLocal 0x9007 209 0 0 0 0 s)) ∧
  (∀ s, isPaired s = false ∨ votePresent s = true → exec .directorLost s = .next s) ∧
  (∀ s c, s.pair.viewLow = some c → 64 ≤ sdiff32 s.proc.cueNow c →
    exec .reliefLapse s = .next (emitLocal 0x9008 209 0 0 0 0 (withPair { s.pair with viewLow := none } s))) ∧
  (∀ s, s.pair.viewLow = none → exec .reliefLapse s = .next s) ∧
  (∀ s, isPaired s = true → rehearsalDue s = true → isQuietBoundary s = true → s.pair.viewLow = none →
    ∃ t, exec .rehearsal s = .next (withRec 10 0x9009 0 0 0 0 t) ∧
      regOnly rUndSwaps (withField (reg s rUndSwaps) 23 16 (min 255 (rbits s rUndSwaps 23 16 + 1)))
        (withPair { s.pair with viewLow := some (s.proc.cueNow + 1) } s) t) ∧
  (∀ s, rehearsalDue s = false → exec .rehearsal s = .next s) ∧
  (∀ i s, s.proc.processing = true → liveNext s = true → exec (.firstLiveCue i) s = .next (cue i s)) ∧
  (∀ i s, s.pwr.mode = .full ∨ s.pwr.mode = .quiet → s.proc.processing = true → liveNext s = true →
      s.pwr.restartReq = none →
    ∃ u v, exec (.firstLiveCue i) s =
        .next (readTemps i.tPit i.tStage (hardwareCue i (processCue i (resumeEngines v)))) ∧
      u = goLive s ∧ u.pair.role = 1 ∧ u.pair.promo = none ∧
      v = { countCue u with proc := { (countCue u).proc with nextDraw := i.draw } }) ∧
  (∀ i s, s.proc.processing = false ∨ liveNext s = false → exec (.firstLiveCue i) s = .next s)

/-- What the Director judges from its inputs, and its state table. A pulse that outlasts the 0.5 µs filter is
the unit's last pulse; a unit is alive with a pulse in the last 2,000 µs, fit with its view high as well, and
pulses as Lead when the last pulse lasted 5 µs or more. What the Director drives and records at a cue start,
row by row, and when its hold ends. (R488, R490, R491.) -/
def Obligations.Director : Prop :=
  (∀ w v t s, isDirector s = true → 500 ≤ w →
    exec (.heartbeat false w v t) s = .next (withPair { s.pair with
      dirA := ⟨some (atTime t s).time.tb0, w, v⟩ } (atTime t s)) ∧
    exec (.heartbeat true w v t) s = .next (withPair { s.pair with
      dirB := ⟨some (atTime t s).time.tb0, w, v⟩ } (atTime t s))) ∧
  (∀ b w v t s, isDirector s = false ∨ w < 500 → exec (.heartbeat b w v t) s = .next (atTime t s)) ∧
  (∀ s x, (isAlive s x = true ↔ ∃ t, x.last = some t ∧ sdiff64 s.time.tb0 t ≤ 2000 * usTicks) ∧
    (unitFit s x = true ↔ isAlive s x = true ∧ x.view = true) ∧
    (pulsesLead x = true ↔ x.last.isSome = true ∧ 5000 ≤ x.width)) ∧
  (∀ s, s.pair.hold = true → 64 ≤ sdiff32 s.proc.cueNow s.pair.lastSwap →
    exec .directorHoldExpiry s = .next (withPair { s.pair with hold := false } s)) ∧
  (∀ s, s.pair.hold = false ∨ sdiff32 s.proc.cueNow s.pair.lastSwap < 64 → exec .directorHoldExpiry s = .next s) ∧
  (∀ s, isDirector s = true → s.pair.dir = .start → s.pair.dirCues = 3 → pulsesLead s.pair.dirA = true →
      pulsesLead s.pair.dirB = false → s.pair.lineA = none → s.pair.lineB = none →
    decideDirector s = withPair { s.pair with
      dirCues := 4, dir := .leadA, lineA := some true, lineB := some false, ticksA := 1, ticksB := 0 } s) ∧
  (∀ s, isDirector s = true → s.pair.dir = .leadA → isAlive s s.pair.dirA = false → unitFit s s.pair.dirB = true →
      s.pair.lineA = some true → s.pair.lineB = some false →
    decideDirector s = emitLocal 0x9001 210 1 0 0 0 (withPair { s.pair with
      dirCues := s.pair.dirCues + 1, dir := .leadB, lineA := some false, lineB := some true, ticksA := 1, ticksB := 2
      hold := true, lastSwap := s.proc.cueNow, reason := 1 } s)) ∧
  (∀ s, isDirector s = true → s.pair.dir = .leadA → isAlive s s.pair.dirA = true → s.pair.dirA.view = false →
      unitFit s s.pair.dirB = true → s.pair.hold = true → pulsesLead s.pair.dirB = false →
      s.pair.lineA = some true → s.pair.lineB = some false →
    decideDirector s = withPair { s.pair with dirCues := s.pair.dirCues + 1, ticksA := 1, ticksB := 1 } s) ∧
  (∀ s, isDirector s = true → s.pair.dir = .leadA → isAlive s s.pair.dirA = true → s.pair.dirA.view = false →
      unitFit s s.pair.dirB = true → s.pair.hold = false →
      s.pair.lineA = some true → s.pair.lineB = some false →
    decideDirector s = emitLocal 0x9001 210 2 0 0 0 (withPair { s.pair with
      dirCues := s.pair.dirCues + 1, dir := .leadB, lineA := some false, lineB := some true, ticksA := 1, ticksB := 2
      hold := true, lastSwap := s.proc.cueNow, reason := 2 } s)) ∧
  (∀ s, isDirector s = true → s.pair.dir = .leadA → isAlive s s.pair.dirA = true → s.pair.dirA.view = true →
      pulsesLead s.pair.dirB = true → s.pair.lineA = some true → s.pair.lineB = some false →
    decideDirector s = emitLocal 0x9006 210 0 0 0 0 (withPair { s.pair with
      dirCues := s.pair.dirCues + 1, ticksA := 1, ticksB := 1 } s)) ∧
  (∀ s, isDirector s = true → s.pair.dir = .none → rbit s rUndCtl 2 = false → unitFit s s.pair.dirA = true →
      s.pair.lineA = some false → s.pair.lineB = some false →
    decideDirector s = withPair { s.pair with
      dirCues := s.pair.dirCues + 1, dir := .leadA, lineA := some true, lineB := some false, ticksA := 2, ticksB := 1 } s)

/-- Little-endian fields and host memory. Fields are little-endian; a write of host memory changes exactly its
bytes, keeps the canonical form and changes nothing else. That unlisted memory reads 0 is the model's choice
(log entry 2). (R3.) -/
def Obligations.HostMemory : Prop :=
  (∀ n v, leNat (le n v) = v % 256 ^ n) ∧ (∀ n v, (le n v).length = n) ∧
  (∀ n v i, i < n → (le n v)[i]? = some (BitVec.ofNat 8 (v / 256 ^ i))) ∧
  (∀ v i, bit v i = (v / 2 ^ i % 2 == 1)) ∧
  (∀ a l s i, i < l.length → hostByte (hostWrite a l s) (a + i) = l.getD i 0) ∧
  (∀ a l s b, b < a ∨ a + l.length ≤ b → hostByte (hostWrite a l s) b = hostByte s b) ∧
  (∀ a l s, memWf s = true → memWf (hostWrite a l s) = true) ∧
  (∀ a l s, ∃ t, hostWrite a l s = t ∧ t = { s with hif := { s.hif with hostMem := t.hif.hostMem } })

/-- The replay window of a node. When an uplink counter passes and what the window then is, for every window
and counter; a join sets it to 0. (R453.) -/
def Obligations.ReplayWindow : Prop :=
  (∀ (h b c : Word32), h.toNat < c.toNat → c.toNat < h.toNat + 32 →
    replayTake h b c = some (c, (b <<< (c.toNat - h.toNat)) ||| 1)) ∧
  (∀ (h b c : Word32), h.toNat + 32 ≤ c.toNat → replayTake h b c = some (c, 1)) ∧
  (∀ (h b c : Word32), c.toNat + 32 ≤ h.toNat → replayTake h b c = none) ∧
  (∀ (h b c : Word32), c.toNat ≤ h.toNat → h.toNat < c.toNat + 32 → b.getLsbD (h.toNat - c.toNat) = true →
    replayTake h b c = none) ∧
  (∀ (h b c : Word32), c.toNat ≤ h.toNat → h.toNat < c.toNat + 32 → b.getLsbD (h.toNat - c.toNat) = false →
    replayTake h b c = some (h, b ||| BitVec.ofNat 32 (2 ^ (h.toNat - c.toNat)))) ∧
  (∀ i r s, ∃ x, nodeOnly i x s (joinContext i r s) ∧ x.win = 0 ∧ x.bits = 0)

/-- What a register write leaves in each bit. For every register whose fields do not overlap: a read-only or
write-only bit keeps its value, W1C and W1S bits clear and set by a 1, and an RW field takes a legal value and
keeps its own where the value is reserved. (R5, R6.) -/
def Obligations.AccessCodes : Prop :=
  ∀ (r : RegRow) (old v : Word32) (f : RegField),
    r.fields.Pairwise (fun a b => a.hi < b.lo ∨ b.hi < a.lo) → (∀ g ∈ r.fields, g.lo ≤ g.hi ∧ g.hi < 32) →
    f ∈ r.fields → ∀ n, f.lo ≤ n → n ≤ f.hi →
    (writeWord r old v 0).1.getLsbD n =
      match f.acc with
      | .ro => old.getLsbD n
      | .wo => old.getLsbD n
      | .w1c => old.getLsbD n && !v.getLsbD n
      | .w1s => old.getLsbD n || v.getLsbD n
      | .rw => if f.legal.holds (fieldOf v f.hi f.lo) = true then v.getLsbD n else old.getLsbD n

/-- Where a packet goes. The action of each look-up result, with hop limits, long packets and next hops that
are not valid, and that the entry found matches the address and the context. Where the spec is silent it says
the model's own choice or reading: log entry 71. (R273 to R276, R304.) -/
def Obligations.Forwarding : Prop :=
  (∀ g w ip s, lpmLookup s (BitVec.ofNat 128 (beNat (slice ip 24 16))) g.context = none →
    ∃ t, routeIp g w ip s = t ∧ regOnly 0x31020 (w32 (min 0xFFFFFFFF ((reg s 0x31020).toNat + 1))) s t) ∧
  (∀ g w ip s x, lpmLookup s (BitVec.ofNat 128 (beNat (slice ip 24 16))) g.context = some x → x.kind = 2 →
    routeIp g w ip s = withOut g.engine (.deliver x.param g.source 0 g.node g.arrival s.proc.itemCue g.context g.rssi
      g.line w) s) ∧
  (∀ g w ip s x, lpmLookup s (BitVec.ofNat 128 (beNat (slice ip 24 16))) g.context = some x → x.kind = 1 ∨ x.kind = 3 →
      byteAt ip 7 ≤ 1 →
    ∃ u, routeIp g w ip s = withOut g.engine (.deliver (defaultRing s) g.source 3 g.node g.arrival s.proc.itemCue
        g.context g.rssi g.line w) u ∧
      regOnly 0x31024 (w32 (min 0xFFFFFFFF ((reg s 0x31024).toNat + 1))) s u) ∧
  (∀ g h w ip s, 1500 < ip.length → toEth g h w ip s = withOut g.engine (.deliver (defaultRing s) g.source 4 g.node
    g.arrival s.proc.itemCue g.context g.rssi g.line w) s) ∧
  (∀ g h w ip s, ip.length ≤ 1500 → bit (cfgU s recFwd (16 + 8 * h + 6) 1) 0 = false →
    toEth g h w ip s = withOut g.engine (.deliver (defaultRing s) g.source 5 g.node g.arrival s.proc.itemCue g.context
      g.rssi g.line w) s) ∧
  (∀ g h w ip s, ip.length ≤ 1500 → bit (cfgU s recFwd (16 + 8 * h + 6) 1) 0 = true →
    toEth g h w ip s = withOut g.engine (.eth0 (((List.range 6).map fun k => cfgByte s recFwd (16 + 8 * h + k)) ++
      (List.range 6).map (cfgByte s recFwd) ++ [0x86, 0xDD] ++ setAt ip 7 (BitVec.ofNat 8 (byteAt ip 7 - 1)))) s) ∧
  (∀ s dst ctx x, lpmLookup s dst ctx = some x → (x.ctx = ctx ∨ x.ctx = 0xFFFF) ∧
    dst >>> (128 - x.len) = x.pfx >>> (128 - x.len)) ∧
  (∀ g w ip s x, lpmLookup s (BitVec.ofNat 128 (beNat (slice ip 24 16))) g.context = some x → x.kind = 3 →
      1 < byteAt ip 7 → routeIp g w ip s = toEth g x.param w ip s) ∧
  (∀ g w ip s x, lpmLookup s (BitVec.ofNat 128 (beNat (slice ip 24 16))) g.context = some x → x.kind = 3 →
      bit (cfgU s recFwd (16 + 8 * x.param + 6) 1) 0 = false →
    ∃ r u, routeIp g w ip s = withOut g.engine (.deliver (defaultRing s) g.source r g.node g.arrival s.proc.itemCue
      g.context g.rssi g.line w) u)

/-- Words of the banks, atomic operations, collisions and the BAR4 window. A word written is the word read,
and no other word changes; an atomic add or swap of a word or of a half answers the old value and leaves the
sum or the new value, the other half as it was, and writes nothing on a poisoned word; a BAR4 read answers the
word its window shows, 0 while BAR4 is closed; a collision counts, leaves its record and discards the write of
port B. Where the spec is silent it says the model's own choice or reading: log entries 5, 92. (R354, R407 to
R410, R413, R615.) -/
def Obligations.BankWords : Prop :=
  (∀ a v s, wordAtAddr (putWord a v s) a = v ∧ poisonedAt (putWord a v s) a = false) ∧
  (∀ a b v s, a / 8 ≠ b / 8 → wordAtAddr (putWord a v s) b = wordAtAddr s b) ∧
  (∀ who a s v, poisonedAt s a = false →
    ∃ t, atomicAdd v who .word a s = (some (wordAtAddr s a).toNat, t) ∧
      wordAtAddr t a = wordAtAddr s a + BitVec.ofNat 64 v ∧ t = putWord a (wordAtAddr t a) s) ∧
  (∀ who a s v h, poisonedAt s a = false →
    ∃ t, atomicAdd v who (.half h) a s = (some (getPart (.half h) (wordAtAddr s a)), t) ∧
      getPart (.half h) (wordAtAddr t a) = (getPart (.half h) (wordAtAddr s a) + v) % 2 ^ 32 ∧
      getPart (.half !h) (wordAtAddr t a) = getPart (.half !h) (wordAtAddr s a) ∧ t = putWord a (wordAtAddr t a) s) ∧
  (∀ who a s v, poisonedAt s a = false →
    atomicSwap v who .word a s = (some (wordAtAddr s a).toNat, putWord a (BitVec.ofNat 64 v) s)) ∧
  (∀ who a s v h, poisonedAt s a = false →
    ∃ t, atomicSwap v who (.half h) a s = (some (getPart (.half h) (wordAtAddr s a)), t) ∧
      getPart (.half h) (wordAtAddr t a) = v % 2 ^ 32 ∧
      getPart (.half !h) (wordAtAddr t a) = getPart (.half !h) (wordAtAddr s a) ∧ t = putWord a (wordAtAddr t a) s) ∧
  (∀ who p a s v, poisonedAt s a = true →
    atomicAdd v who p a s = (none, readPoisoned who false a s) ∧
    atomicSwap v who p a s = (none, readPoisoned who false a s)) ∧
  (∀ who portB a s, (readPoisoned who portB a s).wings.words = s.wings.words) ∧
  (∀ off s, bar4Open s = true → rbits s rHifDbgWin 1 0 ≠ 3 → off < 0x800000 →
    ∃ a, a = 0x800000 * rbits s rHifDbgWin 1 0 + off ∧
      (bar4Read off s).wings.bar4 = (wordAtAddr s a, poisonedAt s a)) ∧
  (∀ off s, bar4Open s = false → bar4Read off s = { s with wings := { s.wings with bar4 := (0, false) } }) ∧
  (∀ b w s, ∃ u, collide b w s = yieldPortB w (emitLocal 0x7003 (unitSource 0 b) 0 0 0 0 u) ∧
    regOnly rWngCollisions (w32 (min 0xFFFFFFFF ((reg s rWngCollisions).toNat + 1))) s u)

/-- What the coder, the interleaver, the symbols and the scrambler send is what is read. For every string of
input bits and every code rate, the decoder of an undisturbed code gives the input bits; grouping and
ungrouping give the coded bits, for every group size and symbol width; the value of a symbol comes back from
its shift for every spreading factor up to 12, symbol number and tag; scrambling twice gives the bits; the
bits of a subcarrier come back from its point. That generator taps begin at the new input is the model's own
choice. Where the spec is silent it says the model's own choice or reading: log entry 98. (R126 to R128, R137,
R139.) -/
def Obligations.AirCoding : Prop :=
  (∀ cr n u, u.length = n → decoded cr n (coded cr u) = some u) ∧
  (∀ m s l, l.length = m * s → frcUngroup m s (frcGroup m s l) = l) ∧
  (∀ sf s y i v, s ≤ sf → sf ≤ 12 → v < 2 ^ s → frcValue sf s y i (frcShift sf s y i v) = v) ∧
  (∀ st l, scramble st (scramble st l) = l) ∧
  (∀ c, c.length ∈ [0, 1, 2, 4, 6, 8] → pointBits c.length (lofdmPoint c).i (lofdmPoint c).q = c)
end

