-- ==== Sys2Proof/Laws/Aes.lean ====
section
/-! SUPPORT. AES by tables: the S-boxes and the products of the inverse MixColumns as lists of 256 values, equal to
the definitions by the field's arithmetic, so that a closed decryption evaluates quickly. -/

namespace Sys2Proof.Machine

/-- The S-box, value by value. -/
def aesSTab : List Byte :=
  [99, 124, 119, 123, 242, 107, 111, 197, 48, 1, 103, 43, 254, 215, 171, 118, 202, 130, 201, 125, 250, 89, 71, 240, 173, 212, 162, 175, 156, 164, 114, 192] ++
  [183, 253, 147, 38, 54, 63, 247, 204, 52, 165, 229, 241, 113, 216, 49, 21, 4, 199, 35, 195, 24, 150, 5, 154, 7, 18, 128, 226, 235, 39, 178, 117] ++
  [9, 131, 44, 26, 27, 110, 90, 160, 82, 59, 214, 179, 41, 227, 47, 132, 83, 209, 0, 237, 32, 252, 177, 91, 106, 203, 190, 57, 74, 76, 88, 207] ++
  [208, 239, 170, 251, 67, 77, 51, 133, 69, 249, 2, 127, 80, 60, 159, 168, 81, 163, 64, 143, 146, 157, 56, 245, 188, 182, 218, 33, 16, 255, 243, 210] ++
  [205, 12, 19, 236, 95, 151, 68, 23, 196, 167, 126, 61, 100, 93, 25, 115, 96, 129, 79, 220, 34, 42, 144, 136, 70, 238, 184, 20, 222, 94, 11, 219] ++
  [224, 50, 58, 10, 73, 6, 36, 92, 194, 211, 172, 98, 145, 149, 228, 121, 231, 200, 55, 109, 141, 213, 78, 169, 108, 86, 244, 234, 101, 122, 174, 8] ++
  [186, 120, 37, 46, 28, 166, 180, 198, 232, 221, 116, 31, 75, 189, 139, 138, 112, 62, 181, 102, 72, 3, 246, 14, 97, 53, 87, 185, 134, 193, 29, 158] ++
  [225, 248, 152, 17, 105, 217, 142, 148, 155, 30, 135, 233, 206, 85, 40, 223, 140, 161, 137, 13, 191, 230, 66, 104, 65, 153, 45, 15, 176, 84, 187, 22]

/-- The inverse S-box, value by value. -/
def aesInvSTab : List Byte :=
  [82, 9, 106, 213, 48, 54, 165, 56, 191, 64, 163, 158, 129, 243, 215, 251, 124, 227, 57, 130, 155, 47, 255, 135, 52, 142, 67, 68, 196, 222, 233, 203] ++
  [84, 123, 148, 50, 166, 194, 35, 61, 238, 76, 149, 11, 66, 250, 195, 78, 8, 46, 161, 102, 40, 217, 36, 178, 118, 91, 162, 73, 109, 139, 209, 37] ++
  [114, 248, 246, 100, 134, 104, 152, 22, 212, 164, 92, 204, 93, 101, 182, 146, 108, 112, 72, 80, 253, 237, 185, 218, 94, 21, 70, 87, 167, 141, 157, 132] ++
  [144, 216, 171, 0, 140, 188, 211, 10, 247, 228, 88, 5, 184, 179, 69, 6, 208, 44, 30, 143, 202, 63, 15, 2, 193, 175, 189, 3, 1, 19, 138, 107] ++
  [58, 145, 17, 65, 79, 103, 220, 234, 151, 242, 207, 206, 240, 180, 230, 115, 150, 172, 116, 34, 231, 173, 53, 133, 226, 249, 55, 232, 28, 117, 223, 110] ++
  [71, 241, 26, 113, 29, 41, 197, 137, 111, 183, 98, 14, 170, 24, 190, 27, 252, 86, 62, 75, 198, 210, 121, 32, 154, 219, 192, 254, 120, 205, 90, 244] ++
  [31, 221, 168, 51, 136, 7, 199, 49, 177, 18, 16, 89, 39, 128, 236, 95, 96, 81, 127, 169, 25, 181, 74, 13, 45, 229, 122, 159, 147, 201, 156, 239] ++
  [160, 224, 59, 77, 174, 42, 245, 176, 200, 235, 187, 60, 131, 83, 153, 97, 23, 43, 4, 126, 186, 119, 214, 38, 225, 105, 20, 99, 85, 33, 12, 125]

/-- The multiples of 9. -/
def gmulTab9 : List Byte :=
  [0, 9, 18, 27, 36, 45, 54, 63, 72, 65, 90, 83, 108, 101, 126, 119, 144, 153, 130, 139, 180, 189, 166, 175, 216, 209, 202, 195, 252, 245, 238, 231] ++
  [59, 50, 41, 32, 31, 22, 13, 4, 115, 122, 97, 104, 87, 94, 69, 76, 171, 162, 185, 176, 143, 134, 157, 148, 227, 234, 241, 248, 199, 206, 213, 220] ++
  [118, 127, 100, 109, 82, 91, 64, 73, 62, 55, 44, 37, 26, 19, 8, 1, 230, 239, 244, 253, 194, 203, 208, 217, 174, 167, 188, 181, 138, 131, 152, 145] ++
  [77, 68, 95, 86, 105, 96, 123, 114, 5, 12, 23, 30, 33, 40, 51, 58, 221, 212, 207, 198, 249, 240, 235, 226, 149, 156, 135, 142, 177, 184, 163, 170] ++
  [236, 229, 254, 247, 200, 193, 218, 211, 164, 173, 182, 191, 128, 137, 146, 155, 124, 117, 110, 103, 88, 81, 74, 67, 52, 61, 38, 47, 16, 25, 2, 11] ++
  [215, 222, 197, 204, 243, 250, 225, 232, 159, 150, 141, 132, 187, 178, 169, 160, 71, 78, 85, 92, 99, 106, 113, 120, 15, 6, 29, 20, 43, 34, 57, 48] ++
  [154, 147, 136, 129, 190, 183, 172, 165, 210, 219, 192, 201, 246, 255, 228, 237, 10, 3, 24, 17, 46, 39, 60, 53, 66, 75, 80, 89, 102, 111, 116, 125] ++
  [161, 168, 179, 186, 133, 140, 151, 158, 233, 224, 251, 242, 205, 196, 223, 214, 49, 56, 35, 42, 21, 28, 7, 14, 121, 112, 107, 98, 93, 84, 79, 70]

/-- The multiples of 11. -/
def gmulTab11 : List Byte :=
  [0, 11, 22, 29, 44, 39, 58, 49, 88, 83, 78, 69, 116, 127, 98, 105, 176, 187, 166, 173, 156, 151, 138, 129, 232, 227, 254, 245, 196, 207, 210, 217] ++
  [123, 112, 109, 102, 87, 92, 65, 74, 35, 40, 53, 62, 15, 4, 25, 18, 203, 192, 221, 214, 231, 236, 241, 250, 147, 152, 133, 142, 191, 180, 169, 162] ++
  [246, 253, 224, 235, 218, 209, 204, 199, 174, 165, 184, 179, 130, 137, 148, 159, 70, 77, 80, 91, 106, 97, 124, 119, 30, 21, 8, 3, 50, 57, 36, 47] ++
  [141, 134, 155, 144, 161, 170, 183, 188, 213, 222, 195, 200, 249, 242, 239, 228, 61, 54, 43, 32, 17, 26, 7, 12, 101, 110, 115, 120, 73, 66, 95, 84] ++
  [247, 252, 225, 234, 219, 208, 205, 198, 175, 164, 185, 178, 131, 136, 149, 158, 71, 76, 81, 90, 107, 96, 125, 118, 31, 20, 9, 2, 51, 56, 37, 46] ++
  [140, 135, 154, 145, 160, 171, 182, 189, 212, 223, 194, 201, 248, 243, 238, 229, 60, 55, 42, 33, 16, 27, 6, 13, 100, 111, 114, 121, 72, 67, 94, 85] ++
  [1, 10, 23, 28, 45, 38, 59, 48, 89, 82, 79, 68, 117, 126, 99, 104, 177, 186, 167, 172, 157, 150, 139, 128, 233, 226, 255, 244, 197, 206, 211, 216] ++
  [122, 113, 108, 103, 86, 93, 64, 75, 34, 41, 52, 63, 14, 5, 24, 19, 202, 193, 220, 215, 230, 237, 240, 251, 146, 153, 132, 143, 190, 181, 168, 163]

/-- The multiples of 13. -/
def gmulTab13 : List Byte :=
  [0, 13, 26, 23, 52, 57, 46, 35, 104, 101, 114, 127, 92, 81, 70, 75, 208, 221, 202, 199, 228, 233, 254, 243, 184, 181, 162, 175, 140, 129, 150, 155] ++
  [187, 182, 161, 172, 143, 130, 149, 152, 211, 222, 201, 196, 231, 234, 253, 240, 107, 102, 113, 124, 95, 82, 69, 72, 3, 14, 25, 20, 55, 58, 45, 32] ++
  [109, 96, 119, 122, 89, 84, 67, 78, 5, 8, 31, 18, 49, 60, 43, 38, 189, 176, 167, 170, 137, 132, 147, 158, 213, 216, 207, 194, 225, 236, 251, 246] ++
  [214, 219, 204, 193, 226, 239, 248, 245, 190, 179, 164, 169, 138, 135, 144, 157, 6, 11, 28, 17, 50, 63, 40, 37, 110, 99, 116, 121, 90, 87, 64, 77] ++
  [218, 215, 192, 205, 238, 227, 244, 249, 178, 191, 168, 165, 134, 139, 156, 145, 10, 7, 16, 29, 62, 51, 36, 41, 98, 111, 120, 117, 86, 91, 76, 65] ++
  [97, 108, 123, 118, 85, 88, 79, 66, 9, 4, 19, 30, 61, 48, 39, 42, 177, 188, 171, 166, 133, 136, 159, 146, 217, 212, 195, 206, 237, 224, 247, 250] ++
  [183, 186, 173, 160, 131, 142, 153, 148, 223, 210, 197, 200, 235, 230, 241, 252, 103, 106, 125, 112, 83, 94, 73, 68, 15, 2, 21, 24, 59, 54, 33, 44] ++
  [12, 1, 22, 27, 56, 53, 34, 47, 100, 105, 126, 115, 80, 93, 74, 71, 220, 209, 198, 203, 232, 229, 242, 255, 180, 185, 174, 163, 128, 141, 154, 151]

/-- The multiples of 14. -/
def gmulTab14 : List Byte :=
  [0, 14, 28, 18, 56, 54, 36, 42, 112, 126, 108, 98, 72, 70, 84, 90, 224, 238, 252, 242, 216, 214, 196, 202, 144, 158, 140, 130, 168, 166, 180, 186] ++
  [219, 213, 199, 201, 227, 237, 255, 241, 171, 165, 183, 185, 147, 157, 143, 129, 59, 53, 39, 41, 3, 13, 31, 17, 75, 69, 87, 89, 115, 125, 111, 97] ++
  [173, 163, 177, 191, 149, 155, 137, 135, 221, 211, 193, 207, 229, 235, 249, 247, 77, 67, 81, 95, 117, 123, 105, 103, 61, 51, 33, 47, 5, 11, 25, 23] ++
  [118, 120, 106, 100, 78, 64, 82, 92, 6, 8, 26, 20, 62, 48, 34, 44, 150, 152, 138, 132, 174, 160, 178, 188, 230, 232, 250, 244, 222, 208, 194, 204] ++
  [65, 79, 93, 83, 121, 119, 101, 107, 49, 63, 45, 35, 9, 7, 21, 27, 161, 175, 189, 179, 153, 151, 133, 139, 209, 223, 205, 195, 233, 231, 245, 251] ++
  [154, 148, 134, 136, 162, 172, 190, 176, 234, 228, 246, 248, 210, 220, 206, 192, 122, 116, 102, 104, 66, 76, 94, 80, 10, 4, 22, 24, 50, 60, 46, 32] ++
  [236, 226, 240, 254, 212, 218, 200, 198, 156, 146, 128, 142, 164, 170, 184, 182, 12, 2, 16, 30, 52, 58, 40, 38, 124, 114, 96, 110, 68, 74, 88, 86] ++
  [55, 57, 43, 37, 15, 1, 19, 29, 71, 73, 91, 85, 127, 113, 99, 109, 215, 217, 203, 197, 239, 225, 243, 253, 167, 169, 187, 181, 159, 145, 131, 141]

set_option maxRecDepth 100000 in
theorem aesS_table : aesS = fun x => aesSTab.getD x.toNat 0 :=
  funext (by decide +kernel : ∀ x : Byte, aesS x = aesSTab.getD x.toNat 0)

set_option maxRecDepth 100000 in
theorem aesInvS_table : aesInvS = fun x => aesInvSTab.getD x.toNat 0 :=
  funext (by decide +kernel : ∀ x : Byte, aesInvS x = aesInvSTab.getD x.toNat 0)

set_option maxRecDepth 100000 in
theorem gmul_nine : ∀ x : Byte, gmul 9 x = gmulTab9.getD x.toNat 0 := by decide +kernel

set_option maxRecDepth 100000 in
theorem gmul_eleven : ∀ x : Byte, gmul 11 x = gmulTab11.getD x.toNat 0 := by decide +kernel

set_option maxRecDepth 100000 in
theorem gmul_thirteen : ∀ x : Byte, gmul 13 x = gmulTab13.getD x.toNat 0 := by decide +kernel

set_option maxRecDepth 100000 in
theorem gmul_fourteen : ∀ x : Byte, gmul 14 x = gmulTab14.getD x.toNat 0 := by decide +kernel

/-- A product with the multiples of the inverse MixColumns looked up. -/
def gmulLook (a b : Byte) : Byte :=
  if a = 9 then gmulTab9.getD b.toNat 0
  else if a = 11 then gmulTab11.getD b.toNat 0
  else if a = 13 then gmulTab13.getD b.toNat 0
  else if a = 14 then gmulTab14.getD b.toNat 0
  else gmul a b

theorem gmul_look : gmul = gmulLook := by
  funext a b
  unfold gmulLook
  split
  · rename_i h; subst h; exact gmul_nine b
  · split
    · rename_i h; subst h; exact gmul_eleven b
    · split
      · rename_i h; subst h; exact gmul_thirteen b
      · split
        · rename_i h; subst h; exact gmul_fourteen b
        · rfl

/-- The next round key, with the S-box looked up. -/
def aesNextKeyLook (rc : Byte) (k : List Byte) : List Byte :=
  let g (i : Nat) := aesSTab.getD (k.getD i 0).toNat 0
  let t := [g 13 ^^^ rc, g 14, g 15, g 12]
  let w0 := xorBytes (k.take 4) t
  let w1 := xorBytes (slice k 4 4) w0
  let w2 := xorBytes (slice k 8 4) w1
  w0 ++ w1 ++ w2 ++ xorBytes (slice k 12 4) w2

theorem aesNextKey_look : aesNextKey = aesNextKeyLook := by
  funext rc k; simp only [aesNextKey, aesNextKeyLook, aesS_table]

/-- The round keys of AES-128 by tables. -/
def aesKeysLook (k : List Byte) : List (List Byte) :=
  ((List.range 10).foldl (fun (acc : List (List Byte) × List Byte × Byte) _ =>
    let n := aesNextKeyLook acc.2.2 acc.2.1
    (acc.1 ++ [n], n, xtime acc.2.2)) ([k], k, 1)).1

theorem aesKeys_look : aesKeys = aesKeysLook := by
  funext k; simp only [aesKeys, aesKeysLook, aesNextKey_look]

/-- The inverse MixColumns by tables. -/
def aesColsLook (c : List Byte) (s : List Byte) : List Byte :=
  (List.range 16).map fun i =>
    (List.range 4).foldl (fun a j => a ^^^ gmulLook (c.getD ((j + 4 - i % 4) % 4) 0) (s.getD (4 * (i / 4) + j) 0)) 0

theorem aesCols_look : aesCols = aesColsLook := by
  funext c s; simp only [aesCols, aesColsLook, gmul_look]

/-- AES-128 decryption by tables. -/
def aesDecLook (key block : List Byte) : List Byte :=
  let ks := aesKeysLook key
  let s0 := (aesRows 3 (xorBytes block (ks.getD 10 []))).map fun x => aesInvSTab.getD x.toNat 0
  let s9 := (List.range 9).foldl (fun s r =>
    (aesRows 3 (aesColsLook [14, 11, 13, 9] (xorBytes s (ks.getD (9 - r) [])))).map fun x =>
      aesInvSTab.getD x.toNat 0) s0
  xorBytes s9 (ks.getD 0 [])

theorem aesDec_look : aesDec = aesDecLook := by
  funext k b; simp only [aesDec, aesDecLook, aesKeys_look, aesCols_look, aesInvS_table]

/-- One step of the unwrap, by tables. -/
def unwrapStepLook (key : List Byte) (n t : Nat) (acc : List Byte × List (List Byte)) :
    List Byte × List (List Byte) :=
  let i := (t - 1) % n
  let b := aesDecLook key (xorBytes acc.1 (be 8 t) ++ acc.2.getD i [])
  (b.take 8, acc.2.set i (b.drop 8))

theorem unwrapStep_look : unwrapStep = unwrapStepLook := by
  funext k n t a; simp only [unwrapStep, unwrapStepLook, aesDec_look]

/-- AES key unwrap by tables. -/
def keyUnwrapLook (key blob : List Byte) : Option (List Byte) :=
  let n := blob.length / 8 - 1
  let r := (List.range (6 * n)).reverse.foldl (fun acc t => unwrapStepLook key n (t + 1) acc)
    (blob.take 8, chunks 8 (blob.drop 8))
  if r.1 = List.replicate 8 0xA6 then some r.2.flatten else none

theorem keyUnwrap_look : keyUnwrap = keyUnwrapLook := by
  funext k b; simp only [keyUnwrap, keyUnwrapLook, unwrapStep_look]

/-- A product with the multiples of MixColumns written out. -/
def gmulEnc (a b : Byte) : Byte :=
  if a = 1 then b else if a = 2 then xtime b else if a = 3 then xtime b ^^^ b else gmul a b

set_option maxRecDepth 100000 in
theorem gmul_small : ∀ x : Byte, gmul 1 x = x ∧ gmul 2 x = xtime x ∧ gmul 3 x = xtime x ^^^ x := by decide +kernel

theorem gmul_enc : gmul = gmulEnc := by
  funext a b
  unfold gmulEnc
  split
  · rename_i h; subst h; exact (gmul_small b).1
  · split
    · rename_i h; subst h; exact (gmul_small b).2.1
    · split
      · rename_i h; subst h; exact (gmul_small b).2.2
      · rfl

/-- MixColumns by tables. -/
def aesColsEnc (c : List Byte) (s : List Byte) : List Byte :=
  (List.range 16).map fun i =>
    (List.range 4).foldl (fun a j => a ^^^ gmulEnc (c.getD ((j + 4 - i % 4) % 4) 0) (s.getD (4 * (i / 4) + j) 0)) 0

theorem aesCols_enc : aesCols = aesColsEnc := by
  funext c s; simp only [aesCols, aesColsEnc, gmul_enc]

/-- AES-128 encryption by tables. -/
def aesEncLook (key block : List Byte) : List Byte :=
  let ks := aesKeysLook key
  let s0 := xorBytes block (ks.getD 0 [])
  let s9 := (List.range 9).foldl (fun s r =>
    xorBytes (aesColsEnc [2, 3, 1, 1] (aesRows 1 (s.map fun x => aesSTab.getD x.toNat 0))) (ks.getD (r + 1) [])) s0
  xorBytes (aesRows 1 (s9.map fun x => aesSTab.getD x.toNat 0)) (ks.getD 10 [])

theorem aesEnc_look : aesEnc = aesEncLook := by
  funext k b; simp only [aesEnc, aesEncLook, aesKeys_look, aesCols_enc, aesS_table]

/-- CBC-MAC by tables. -/
def cbcMacLook (key l : List Byte) : List Byte :=
  (chunks 16 l).foldl (fun x b => aesEncLook key (xorBytes x b)) (List.replicate 16 0)

theorem cbcMac_look : cbcMac = cbcMacLook := by
  funext k l; simp only [cbcMac, cbcMacLook, aesEnc_look]

/-- The MIC of CCM* by tables. -/
def ccmMicLook (m : Nat) (key nonce aad plain : List Byte) : List Byte :=
  let flags : Byte := BitVec.ofNat 8 (64 * ofBool (!aad.isEmpty) + 8 * ((m - 2) / 2) + 1)
  let b0 := [flags] ++ nonce ++ be 2 plain.length
  let a := if aad.isEmpty then [] else padMul 16 (be 2 aad.length ++ aad)
  (xorBytes (cbcMacLook key (b0 ++ a ++ padMul 16 plain)) (aesEncLook key ([0x01] ++ nonce ++ be 2 0))).take m

theorem ccmMic_look : ccmMic = ccmMicLook := by
  funext m k n a p; simp only [ccmMic, ccmMicLook, cbcMac_look, ccmStream, aesEnc_look]

end Sys2Proof.Machine
end

