-- ==== Sys2Proof/Laws/SMap.lean ====
section
/-! SUPPORT. The laws of sparse maps: read after write, other keys unchanged, and that every
operation keeps the canonical form. -/

namespace Sys2Proof.Machine

variable {α : Type}

theorem smAbove_cons (b k : Nat) (v : α) (r : SMap α) :
    smAbove b ((k, v) :: r) = (decide (b < k) && smAbove b r) := by
  simp [smAbove]

theorem smAbove_mono {a b : Nat} (h : a ≤ b) (m : SMap α) (hb : smAbove b m = true) :
    smAbove a m = true := by
  simp only [smAbove, List.all_eq_true, decide_eq_true_eq] at *
  intro x hx
  have := hb x hx
  omega

theorem smGet_of_above (d : α) (m : SMap α) (k : Nat) (h : smAbove k m = true) :
    smGet d m k = d := by
  induction m with
  | nil => rfl
  | cons e r ih =>
    obtain ⟨j, v⟩ := e
    rw [smAbove_cons] at h
    simp only [Bool.and_eq_true, decide_eq_true_eq] at h
    have hj : ¬ j = k := by omega
    simp only [smGet, hj, if_false]
    exact ih h.2

theorem smAbove_put (b k : Nat) (v : α) (m : SMap α) (hb : b < k) (h : smAbove b m = true) :
    smAbove b (smPut m k v) = true := by
  induction m with
  | nil => simp [smPut, smAbove, hb]
  | cons e r ih =>
    obtain ⟨j, w⟩ := e
    rw [smAbove_cons] at h
    simp only [Bool.and_eq_true, decide_eq_true_eq] at h
    unfold smPut
    split
    · simp [smAbove_cons, hb, h.2]
    · split
      · simp [smAbove_cons, hb, h.1, h.2]
      · simp [smAbove_cons, h.1, ih h.2]

theorem smAbove_del (b k : Nat) (m : SMap α) (h : smAbove b m = true) :
    smAbove b (smDel m k) = true := by
  simp only [smAbove, smDel, List.all_eq_true, List.mem_filter] at *
  exact fun x hx => h x hx.1

theorem smGet_del (d : α) (m : SMap α) (k j : Nat) :
    smGet d (smDel m k) j = if j = k then d else smGet d m j := by
  induction m with
  | nil => simp [smDel, smGet]
  | cons e r ih =>
    obtain ⟨i, w⟩ := e
    simp only [smDel] at ih
    by_cases h1 : i = k
    · subst h1
      by_cases h : j = i
      · subst h; simpa [smDel, smGet] using ih
      · have : ¬ i = j := fun e => h e.symm
        simpa [smDel, smGet, h, this] using ih
    · by_cases h : i = j
      · subst h; simp [smDel, smGet, h1]
      · simpa [smDel, smGet, h, h1] using ih

theorem smGet_put (d : α) (m : SMap α) (k j : Nat) (v : α) :
    smGet d (smPut m k v) j = if j = k then v else smGet d m j := by
  induction m with
  | nil =>
    by_cases h : j = k
    · subst h; simp [smPut, smGet]
    · have : ¬ k = j := fun e => h e.symm
      simp [smPut, smGet, h, this]
  | cons e r ih =>
    obtain ⟨i, w⟩ := e
    unfold smPut
    by_cases h1 : i = k
    · subst h1
      by_cases h : j = i
      · subst h; simp [smGet]
      · have : ¬ i = j := fun e => h e.symm
        simp [smGet, h, this]
    · by_cases h2 : k < i
      · simp only [h1, h2, if_false, if_true]
        by_cases h : j = k
        · subst h; simp [smGet]
        · have : ¬ k = j := fun e => h e.symm
          simp [smGet, h, this]
      · simp only [h1, h2, if_false]
        by_cases h : i = j
        · have : ¬ j = k := by omega
          simp [smGet, h, this]
        · simp [smGet, h, ih]

variable [DecidableEq α]

theorem smWf_cons (d : α) (k : Nat) (v : α) (r : SMap α) :
    smWf d ((k, v) :: r) = true ↔ v ≠ d ∧ smAbove k r = true ∧ smWf d r = true := by
  simp [smWf, and_assoc]

theorem smWf_put (d : α) (m : SMap α) (k : Nat) (v : α) (hv : v ≠ d) (hw : smWf d m = true) :
    smWf d (smPut m k v) = true := by
  induction m with
  | nil => simp [smPut, smWf, smAbove, hv]
  | cons e r ih =>
    obtain ⟨j, w⟩ := e
    rw [smWf_cons] at hw
    unfold smPut
    split
    · next h => subst h; rw [smWf_cons]; exact ⟨hv, hw.2.1, hw.2.2⟩
    · split
      · next h1 h2 =>
        rw [smWf_cons, smWf_cons, smAbove_cons]
        refine ⟨hv, ?_, hw⟩
        simp [h2, smAbove_mono (Nat.le_of_lt h2) r hw.2.1]
      · next h1 h2 =>
        rw [smWf_cons]
        exact ⟨hw.1, smAbove_put j k v r (by omega) hw.2.1, ih hw.2.2⟩

theorem smWf_del (d : α) (m : SMap α) (k : Nat) (hw : smWf d m = true) :
    smWf d (smDel m k) = true := by
  induction m with
  | nil => rfl
  | cons e r ih =>
    obtain ⟨j, w⟩ := e
    rw [smWf_cons] at hw
    by_cases h : j = k
    · simpa [smDel, h] using ih hw.2.2
    · have e : smDel ((j, w) :: r) k = (j, w) :: smDel r k := by simp [smDel, h]
      rw [e, smWf_cons]
      exact ⟨hw.1, smAbove_del j k r hw.2.1, ih hw.2.2⟩

/-- A read after a write gives the value written, at any other key what stood there. -/
theorem smGet_set (d : α) (m : SMap α) (k j : Nat) (v : α) :
    smGet d (smSet d m k v) j = if j = k then v else smGet d m j := by
  unfold smSet
  split
  · next h => subst h; exact smGet_del v m k j
  · exact smGet_put d m k j v

/-- A write keeps the canonical form. -/
theorem smWf_set (d : α) (m : SMap α) (k : Nat) (v : α) (hw : smWf d m = true) :
    smWf d (smSet d m k v) = true := by
  unfold smSet
  split
  · exact smWf_del d m k hw
  · next h => exact smWf_put d m k v h hw

theorem smWf_mod (d : α) (m : SMap α) (k : Nat) (f : α → α) (hw : smWf d m = true) :
    smWf d (smMod d m k f) = true := smWf_set d m k _ hw

@[simp] theorem smGet_set_same (d : α) (m : SMap α) (k : Nat) (v : α) :
    smGet d (smSet d m k v) k = v := by
  simp [smGet_set d m k k v]

theorem smGet_set_other (d : α) (m : SMap α) (k j : Nat) (v : α) (h : j ≠ k) :
    smGet d (smSet d m k v) j = smGet d m j := by
  simp [smGet_set d m k j v, h]

@[simp] theorem smGet_mod_same (d : α) (m : SMap α) (k : Nat) (f : α → α) :
    smGet d (smMod d m k f) k = f (smGet d m k) := smGet_set_same d m k _

theorem smGet_mod (d : α) (m : SMap α) (k j : Nat) (f : α → α) :
    smGet d (smMod d m k f) j = if j = k then f (smGet d m k) else smGet d m j := smGet_set d m k j _

theorem smWf_mapAll (d : α) (m : SMap α) (f : Nat → α → α) : smWf d (smMapAll d m f) = true := by
  unfold smMapAll
  induction m with
  | nil => rfl
  | cons e r ih => exact smWf_set d _ e.1 _ ih

theorem smGet_mapAll (d : α) (m : SMap α) (f : Nat → α → α) (k : Nat) (hf : f k d = d) :
    smGet d (smMapAll d m f) k = f k (smGet d m k) := by
  unfold smMapAll
  induction m with
  | nil => simp [smGet, hf]
  | cons e r ih =>
    obtain ⟨j, v⟩ := e
    simp only [List.foldr_cons, smGet_set, ih]
    by_cases h : k = j
    · subst h; simp [smGet]
    · have h2 : ¬ j = k := fun x => h x.symm
      simp [smGet, h, h2]

omit [DecidableEq α] in
/-- A map of which some keys are kept. -/
theorem smGet_filter (d : α) (m : SMap α) (p : Nat → Bool) (k : Nat) :
    smGet d (m.filter fun e => p e.1) k = if p k then smGet d m k else d := by
  induction m with
  | nil => simp [smGet]
  | cons e r ih =>
    obtain ⟨j, v⟩ := e
    by_cases hj : p j = true
    · rw [List.filter_cons_of_pos (by simpa using hj)]
      simp only [smGet]
      by_cases e : j = k
      · subst e; simp [hj]
      · simp only [if_neg e, ih]
    · rw [List.filter_cons_of_neg (by simpa using hj), ih]
      simp only [smGet]
      by_cases e : j = k
      · subst e; simp [hj]
      · simp only [if_neg e]

end Sys2Proof.Machine
end

