-- ==== Sys2Proof/Laws/Bits.lean ====
section
/-! SUPPORT. Bits and fields of register words, one law each: a bit is the bit of the word, a field
changed leaves the others, and what a register reads after another was written. -/

namespace Sys2Proof.Machine

theorem bit_testBit (v n : Nat) : bit v n = v.testBit n := by
  simp only [bit, Nat.testBit, Nat.shiftRight_eq_div_pow]
  have : v / 2 ^ n % 2 = 0 ∨ v / 2 ^ n % 2 = 1 := by omega
  rcases this with h | h <;> simp [h]

theorem bit_getLsbD (w : Word32) (n : Nat) : bit w.toNat n = w.getLsbD n := by
  rw [bit_testBit]; rfl

theorem bits_testBit (v hi lo i : Nat) : (bits v hi lo).testBit i = (decide (i < hi + 1 - lo) && v.testBit (lo + i)) := by
  simp only [bits, Nat.testBit_mod_two_pow, Nat.testBit_div_two_pow]
  rw [Nat.add_comm i lo]

/-- A field of a bitwise or. -/
theorem fieldOf_or (a b : Word32) (hi lo : Nat) : fieldOf (a ||| b) hi lo = fieldOf a hi lo ||| fieldOf b hi lo := by
  apply Nat.eq_of_testBit_eq
  intro i
  simp only [fieldOf, bits_testBit, BitVec.toNat_or, Nat.testBit_or]
  cases decide (i < hi + 1 - lo) <;> simp

theorem bit_or (a b : Word32) (n : Nat) : bit (a ||| b).toNat n = (bit a.toNat n || bit b.toNat n) := by
  simp [bit_testBit]

/-- A bit of a word with one field changed. -/
theorem withField_getLsbD (w : Word32) (hi lo v n : Nat) (h : n < 32) :
    (withField w hi lo v).getLsbD n =
      if lo ≤ n ∧ n ≤ hi then v.testBit (n - lo) else w.getLsbD n := by
  have hm : (maskOf hi lo).getLsbD n = decide (lo ≤ n ∧ n < lo + (hi + 1 - lo)) := by
    simp only [maskOf, BitVec.getLsbD_ofNat, h, decide_true, Bool.true_and, Nat.testBit_mul_two_pow,
      Nat.testBit_two_pow_sub_one]
    by_cases h1 : lo ≤ n <;> simp [h1]; omega
  have hv : (BitVec.ofNat 32 (v * 2 ^ lo)).getLsbD n = (decide (lo ≤ n) && v.testBit (n - lo)) := by
    simp only [BitVec.getLsbD_ofNat, h, decide_true, Bool.true_and, Nat.testBit_mul_two_pow]
  simp only [withField, BitVec.getLsbD_or, BitVec.getLsbD_and, BitVec.getLsbD_not, hm, hv, h, decide_true, Bool.true_and]
  by_cases h1 : lo ≤ n ∧ n ≤ hi
  · have : lo ≤ n ∧ n < lo + (hi + 1 - lo) := by omega
    simp [h1, this]
  · have : ¬ (lo ≤ n ∧ n < lo + (hi + 1 - lo)) := by omega
    simp [h1, this]

theorem reg_setReg (o : Nat) (v : Word32) (s : State) (j : Nat) : reg (setReg o v s) j = if j = o then v else reg s j := by
  simp only [reg, setReg, regGet, regSet, smSet]
  by_cases h : j = o
  · subst h
    split
    · rename_i e; simp [smGet_del, e]
    · simp [smGet_put]
  · split
    · simp [smGet_del, h]
    · simp [smGet_put, h]

/-- Registers of an address range put back to their reset values. -/
theorem regGet_outside (lo hi : Nat) (m : SMap Word32) (o : Nat) :
    regGet (regsOutside lo hi m) o = if o < lo ∨ hi ≤ o then regGet m o else regReset o := by
  simp only [regGet, regsOutside]
  induction m with
  | nil => simp [smGet]
  | cons e r ih =>
    obtain ⟨k, v⟩ := e
    simp only [List.filter_cons]
    by_cases hk : k < lo ∨ hi ≤ k
    · have : (decide (k < lo) || decide (hi ≤ k)) = true := by simpa using hk
      simp only [this, if_true, smGet]
      by_cases e : k = o
      · subst e; simp [hk]
      · simp [e, ih]
    · have : (decide (k < lo) || decide (hi ≤ k)) = false := by simpa using hk
      simp only [this, smGet]
      by_cases e : k = o
      · subst e; simpa [hk] using ih
      · simpa [e] using ih

end Sys2Proof.Machine
end

