-- ==== Sys2Proof/Laws/Commands.lean ====
section
/-! SUPPORT. What taking a host command does, once its judgements are made: its action runs on the charged
state. -/

namespace Sys2Proof.Machine
theorem paid_charge (e n : Nat) (s : State) : paid e n s (charge e n s) := by
  refine ⟨rfl, fun f => ?_⟩
  simp only [eng, charge, modEng, smGet_mod]
theorem paid_of {e n : Nat} {s u t : State} (h : t = { u with engs := (charge e n s).engs }) (hu : u.engs = s.engs): paid e n u t := by
  subst h
  refine ⟨rfl, fun f => ?_⟩
  have := (paid_charge e n s).2 f
  simp only [eng] at *
  rw [hu]; exact this
theorem ready_run {k : CmdSpec} {it : Item} {c : Sub} {s : State} (h : ready k c s = true)
   (hj : ∀ e n, judged k c (charge e n s) = judged k c s) (hc : ∀ e n, k.check c (charge e n s) = k.check c s)
   (ht : ∀ e n, tagOf (charge e n s) c = tagOf s c) :
   runCmd k it c s = k.act (k.engine c s) c (charge (k.engine c s) (k.cost c s) s) := by
  simp only [ready, canTake, clears, Bool.and_eq_true, Bool.not_eq_true', Option.isNone_iff_eq_none] at h
  obtain ⟨⟨ha, hp, he⟩, ⟨⟨h1, h2⟩, h3⟩, h4⟩ := h
  have e : cmdCost k c s = k.cost c s := by simp [cmdCost, h1, h2, h3, h4, cheap]
  rw [e] at he
  have hm : mustHold c (charge (k.engine c s) (k.cost c s) s) = false := h4
  simp [runCmd, ha, takeItem, hp, he, handle, hj, h1, ht, h2, accepted, hc, h3, hm, e]
theorem ready_aside {k : CmdSpec} {c : Sub} {s : State} (h : ready k c s = true) : c.aside = false := by
  simp only [ready, canTake, clears, Bool.and_eq_true, Bool.not_eq_true', Option.isNone_iff_eq_none] at h
  exact h.1.1
theorem ready_check {k : CmdSpec} {c : Sub} {s : State} (h : ready k c s = true) : k.check c s = none := by
  simp only [ready, canTake, clears, Bool.and_eq_true, Bool.not_eq_true', Option.isNone_iff_eq_none] at h
  exact h.2.1.2
theorem ready_wrong {k : CmdSpec} {c : Sub} {s : State} (h : ready k c s = true) : k.wrong c s = false := by
  simp only [ready, canTake, clears, Bool.and_eq_true, Bool.not_eq_true', Option.isNone_iff_eq_none] at h
  have := h.2.1.1.1
  unfold judged at this
  repeat' split at this
  all_goals simp_all
theorem ready_static {k : CmdSpec} {c : Sub} {s : State} (h : ready k c s = true) : flagsOk c && bufOk k.use c && k.static c = true := by
  simp only [ready, canTake, clears, Bool.and_eq_true, Bool.not_eq_true', Option.isNone_iff_eq_none] at h
  have := h.2.1.1.1
  unfold judged at this
  repeat' split at this
  all_goals simp_all
/-- An item that its engine takes now has its effect on the charged state. -/
theorem take_item {e cost : Nat} {it : Item} {eff : State → State} {s : State} (h : canTake s e cost = true) :
    takeItem e cost it eff s = eff (charge e cost s) := by
  simp only [canTake, Bool.and_eq_true, Bool.not_eq_true'] at h
  simp [takeItem, h.1, h.2]

/-- An ETH0 frame of an earlier cue reaches its engine. -/
theorem frame_taken {e cost st s body it take} (h : frameTaken e cost st s = true) :
    arrived st body it take s = take s := by
  simp only [frameTaken, Bool.and_eq_true, Bool.not_eq_true', decide_eq_true_eq] at h
  have : ¬ 0 ≤ sdiff64 st s.proc.procStart := by omega
  simp [arrived, h, this]

/-- A PTP message that the Stage Manager takes has its effect on the charged state. -/
theorem ptp_taken {cost k it m eff s} (h : ptpTaken cost m s = true) :
    ptpRow cost k it m eff s = .next (eff (charge 10 cost s)) := by
  simp only [ptpTaken, Bool.and_eq_true, beq_iff_eq] at h
  have hc : canTake s 10 cost = true := by
    have := h.1.1; simp only [frameTaken, Bool.and_eq_true] at this; exact this.1.1.1
  have a : ptpEn (charge 10 cost s) = true := h.1.2
  have b : cfgU (charge 10 cost s) recTime 2 1 = cfgU s recTime 2 1 := rfl
  simp [ptpRow, frame_taken h.1.1, take_item hc, ptpTake, a, b, h.2]

end Sys2Proof.Machine
end

