-- ==== Sys2Proof/Laws/Parts.lean ====
section
/-! SUPPORT. What each named change of one part of the state does: that part takes its new value, every
other part keeps its own. -/

namespace Sys2Proof.Machine

theorem regOnly_setReg (o : Nat) (v : Word32) (s : State) : regOnly o v s (setReg o v s) := by
  refine ⟨rfl, fun j => ?_⟩
  simp only [reg, setReg, regGet, regSet, smSet]
  by_cases h : j = o
  · subst h
    split
    · rename_i e; simp [smGet_del, e]
    · simp [smGet_put]
  · split
    · simp [smGet_del, h]
    · simp [smGet_put, h]

/-- A count register rises by `n` and stops at its top. -/
theorem regOnly_countReg (o n : Nat) (s : State) :
    regOnly o (w32 (min 0xFFFFFFFF ((reg s o).toNat + n))) s (countReg o n s) := by
  unfold countReg satAdd; exact regOnly_setReg _ _ _

theorem portOnly_modPort (p : Nat) (f : Port → Port) (s : State) : portOnly p (f (port s p)) s (modPort p f s) :=
  ⟨rfl, fun j => by simp only [port, modPort, smGet_mod]⟩

theorem lineOnly_modLine (n : Nat) (f : Line → Line) (s : State) : lineOnly n (f (line s n)) s (modLine n f s) :=
  ⟨rfl, fun j => by simp only [line, modLine, smGet_mod]⟩

theorem nodeOnly_modNode (i : Nat) (f : Node → Node) (s : State) : nodeOnly i (f (node s i)) s (modNode i f s) :=
  ⟨rfl, fun j => by simp only [node, modNode, smGet_mod]⟩

theorem engOnly_modEng (e : Nat) (f : Eng → Eng) (s : State) : engOnly e (f (eng s e)) s (modEng e f s) :=
  ⟨rfl, fun j => by simp only [eng, modEng, smGet_mod]⟩

theorem pinOnly_modPin (i : Nat) (f : Pin → Pin) (s : State) : pinOnly i (f (pin s i)) s (modPin i f s) :=
  ⟨rfl, fun j => by simp only [pin, modPin, smGet_mod]⟩

theorem sqOnly_modSq (q : Nat) (f : Sq → Sq) (s : State) : sqOnly q (f (sq s q)) s (modSq q f s) :=
  ⟨rfl, fun j => by simp only [sq, modSq, smGet_mod]⟩

theorem cqOnly_modCq (c : Nat) (f : Cq → Cq) (s : State) : cqOnly c (f (cq s c)) s (modCq c f s) :=
  ⟨rfl, fun j => by simp only [cq, modCq, smGet_mod]⟩

theorem hwqOnly_modHwq (q : Nat) (f : Hwq → Hwq) (s : State) : hwqOnly q (f (hwq s q)) s (modHwq q f s) :=
  ⟨rfl, fun j => by simp only [hwq, modHwq, smGet_mod]⟩
theorem marked_markPort (p : Nat) (fl : BitVec 16) (s : State) : marked p fl s (markPort p fl s) := by
  refine ⟨rfl, fun n => ?_⟩
  have e : line (markPort p fl s) n = _ := smGet_mapAll ({} : Line) s.lines (fun _ l =>
      if l.en && linePort l == p then
        { l with dets := smMapAll {} l.dets fun _ d =>
            if d.st = .idle then d else { d with flags := d.flags ||| fl } }
      else l) n rfl
  change line (markPort p fl s) n = (if (line s n).en && linePort (line s n) == p then
        { (line s n) with dets := smMapAll {} (line s n).dets fun _ d =>
            if d.st = .idle then d else { d with flags := d.flags ||| fl } }
      else (line s n)) at e
  refine ⟨?_, fun d => ?_⟩
  · rw [e]; split <;> rfl
  · unfold det
    rw [e]
    by_cases h : (line s n).en = true ∧ linePort (line s n) = p
    · have h' : ((line s n).en && linePort (line s n) == p) = true := by simp [h]
      rw [if_pos h']
      rw [smGet_mapAll _ _ _ _ (by rfl)]
      by_cases hd : (smGet ({} : Det) (line s n).dets d).st = .idle
      · rw [if_pos hd, if_neg (fun k => k.2.2 hd)]
      · rw [if_neg hd, if_pos ⟨h.1, h.2, hd⟩]
    · have h' : ¬ ((line s n).en && linePort (line s n) == p) = true := by simpa using h
      rw [if_neg h', if_neg]
      tauto


theorem detOnly_modDet (n d : Nat) (f : Det → Det) (s : State) : detOnly n d (f (det s n d)) s (modDet n d f s) := by
  refine ⟨rfl, fun j => ?_⟩
  have e := (lineOnly_modLine n (fun l => { l with dets := smMod {} l.dets d f }) s).2 j
  change line (modDet n d f s) j = _ at e
  refine ⟨?_, fun k => ?_⟩
  · rw [e]; by_cases h : j = n
    · subst h; simp
    · simp [h]
  · unfold det
    rw [e]
    by_cases h : j = n
    · subst h
      simp only [if_true, true_and, smGet_mod]
    · simp [h]

theorem withTx_modTx (c : Chain) (f : Tx → Tx) (s : State) : modTx c f s = withTx c (f (tx s c)) s := by
  cases c <;> rfl


theorem regOnly_of {o v s t} (h : t = setReg o v s) : regOnly o v s t := h ▸ regOnly_setReg o v s

theorem portOnly_of {p f x s t} (h : t = modPort p f s) (e : f (port s p) = x) : portOnly p x s t :=
  h ▸ e ▸ portOnly_modPort p f s

theorem lineOnly_of {n f x s t} (h : t = modLine n f s) (e : f (line s n) = x) : lineOnly n x s t :=
  h ▸ e ▸ lineOnly_modLine n f s

theorem detOnly_of {n d f x s t} (h : t = modDet n d f s) (e : f (det s n d) = x) : detOnly n d x s t :=
  h ▸ e ▸ detOnly_modDet n d f s

theorem nodeOnly_of {i f x s t} (h : t = modNode i f s) (e : f (node s i) = x) : nodeOnly i x s t :=
  h ▸ e ▸ nodeOnly_modNode i f s

theorem pinOnly_of {i f x s t} (h : t = modPin i f s) (e : f (pin s i) = x) : pinOnly i x s t :=
  h ▸ e ▸ pinOnly_modPin i f s

/-- Time passing changes the clock and nothing else. -/
theorem atTime_frame (t : Stamp) (s : State) :
    atTime t s = { s with time := { s.time with tb0 := (atTime t s).time.tb0 } } := by
  unfold atTime; split <;> rfl

end Sys2Proof.Machine
end

