-- ==== Sys2Proof/Laws/Records.lean ====
section
/-! SUPPORT. What a record may change, whoever writes it: the Call Board, the register words, host memory, the
event ring and the vectors; nothing else of the state. -/

namespace Sys2Proof.Machine

/-- The state with the parts that a record may change replaced. -/
def withRecord (s : State) (b : Board) (r : SMap Word32) (m : SMap Byte) (e : EvRing) (p d h : SMap Bool) (n : SMap Nat) (w : SMap Stamp) : State :=
  { s with board := b, regs := r, hif := { s.hif with
    hostMem := m, evr := e, pba := p, vecDue := d, vecHold := h, vecSent := n, vecEnd := w } }

/-- Only the parts that a record may change differ. -/
def recordOnly (s t : State) : Prop := ∃ b r m e p d h n w, t = withRecord s b r m e p d h n w

theorem recordOnly_refl (s : State) : recordOnly s s := ⟨_, _, _, _, _, _, _, _, _, rfl⟩

theorem recordOnly_trans {s t u : State} (h : recordOnly s t) (k : recordOnly t u) : recordOnly s u := by
  obtain ⟨_, _, _, _, _, _, _, _, _, rfl⟩ := h
  obtain ⟨_, _, _, _, _, _, _, _, _, rfl⟩ := k
  exact ⟨_, _, _, _, _, _, _, _, _, rfl⟩

theorem recordOnly_setReg (o : Nat) (v : Word32) (s : State) : recordOnly s (setReg o v s) :=
  ⟨_, _, _, _, _, _, _, _, _, rfl⟩

theorem recordOnly_hostWrite (a : Nat) (l : List Byte) (s : State) : recordOnly s (hostWrite a l s) :=
  ⟨_, _, _, _, _, _, _, _, _, rfl⟩

theorem recordOnly_vecSignal (v : Nat) (s : State) : recordOnly s (vecSignal v s) := by
  unfold vecSignal
  split
  · exact ⟨_, _, _, _, _, _, _, _, _, rfl⟩
  · split <;> exact ⟨_, _, _, _, _, _, _, _, _, rfl⟩

theorem recordOnly_evWrite (src : Nat) (l : List Word32) (s : State) : recordOnly s (evWrite src l s) := by
  unfold evWrite
  split
  · exact recordOnly_refl s
  · split <;> exact ⟨_, _, _, _, _, _, _, _, _, rfl⟩

theorem recordOnly_evBatch (src : Nat) (s : State) : recordOnly s (evBatch src s) := by
  unfold evBatch
  split
  · refine recordOnly_trans ?_ (recordOnly_vecSignal _ _)
    unfold evWriteback
    split
    · exact recordOnly_hostWrite _ _ _
    · exact recordOnly_refl s
  · exact recordOnly_refl s

theorem recordOnly_emitWords (src : Nat) (l : List Word32) (s : State) : recordOnly s (emitWords src l s) :=
  recordOnly_trans (recordOnly_trans ⟨_, _, _, _, _, _, _, _, _, rfl⟩ (recordOnly_evWrite src l _)) (recordOnly_evBatch src _)

theorem recordOnly_emitLocal (code src a b c d : Nat) (s : State) : recordOnly s (emitLocal code src a b c d s) :=
  recordOnly_emitWords _ _ _

theorem recordOnly_emitLocalAt (t : Stamp) (code src a b c d : Nat) (s : State) :
    recordOnly s (emitLocalAt t code src a b c d s) :=
  recordOnly_emitWords _ _ _

end Sys2Proof.Machine
end

