-- ==== Sys2Proof/Laws/State.lean ====
section
/-! SUPPORT. Each field of State after each named update: the field the update is of, and every field it leaves
alone. A proof about a state reads its fields through these and unfolds no record update. -/

namespace Sys2Proof.Machine

/-! ### setReg -/

@[simp] theorem setReg_pending (o : Nat) (v : Word32) (s : State) : (setReg o v s).pending = s.pending := rfl
@[simp] theorem setReg_regs (o : Nat) (v : Word32) (s : State) : (setReg o v s).regs = regSet s.regs o v := rfl
@[simp] theorem setReg_proc (o : Nat) (v : Word32) (s : State) : (setReg o v s).proc = s.proc := rfl
@[simp] theorem setReg_engs (o : Nat) (v : Word32) (s : State) : (setReg o v s).engs = s.engs := rfl
@[simp] theorem setReg_ports (o : Nat) (v : Word32) (s : State) : (setReg o v s).ports = s.ports := rfl
@[simp] theorem setReg_lines (o : Nat) (v : Word32) (s : State) : (setReg o v s).lines = s.lines := rfl
@[simp] theorem setReg_txa (o : Nat) (v : Word32) (s : State) : (setReg o v s).txa = s.txa := rfl
@[simp] theorem setReg_txb (o : Nat) (v : Word32) (s : State) : (setReg o v s).txb = s.txb := rfl
@[simp] theorem setReg_mesh (o : Nat) (v : Word32) (s : State) : (setReg o v s).mesh = s.mesh := rfl
@[simp] theorem setReg_time (o : Nat) (v : Word32) (s : State) : (setReg o v s).time = s.time := rfl
@[simp] theorem setReg_hif (o : Nat) (v : Word32) (s : State) : (setReg o v s).hif = s.hif := rfl
@[simp] theorem setReg_wings (o : Nat) (v : Word32) (s : State) : (setReg o v s).wings = s.wings := rfl
@[simp] theorem setReg_sec (o : Nat) (v : Word32) (s : State) : (setReg o v s).sec = s.sec := rfl
@[simp] theorem setReg_pair (o : Nat) (v : Word32) (s : State) : (setReg o v s).pair = s.pair := rfl
@[simp] theorem setReg_board (o : Nat) (v : Word32) (s : State) : (setReg o v s).board = s.board := rfl
@[simp] theorem setReg_upd (o : Nat) (v : Word32) (s : State) : (setReg o v s).upd = s.upd := rfl
@[simp] theorem setReg_updP (o : Nat) (v : Word32) (s : State) : (setReg o v s).updP = s.updP := rfl
@[simp] theorem setReg_cfgs (o : Nat) (v : Word32) (s : State) : (setReg o v s).cfgs = s.cfgs := rfl
@[simp] theorem setReg_pwr (o : Nat) (v : Word32) (s : State) : (setReg o v s).pwr = s.pwr := rfl
@[simp] theorem setReg_wire0 (o : Nat) (v : Word32) (s : State) : (setReg o v s).wire0 = s.wire0 := rfl
@[simp] theorem setReg_wire1 (o : Nat) (v : Word32) (s : State) : (setReg o v s).wire1 = s.wire1 := rfl

/-! ### modEng -/

@[simp] theorem modEng_pending (e : Nat) (f : Eng → Eng) (s : State) : (modEng e f s).pending = s.pending := rfl
@[simp] theorem modEng_regs (e : Nat) (f : Eng → Eng) (s : State) : (modEng e f s).regs = s.regs := rfl
@[simp] theorem modEng_proc (e : Nat) (f : Eng → Eng) (s : State) : (modEng e f s).proc = s.proc := rfl
@[simp] theorem modEng_ports (e : Nat) (f : Eng → Eng) (s : State) : (modEng e f s).ports = s.ports := rfl
@[simp] theorem modEng_lines (e : Nat) (f : Eng → Eng) (s : State) : (modEng e f s).lines = s.lines := rfl
@[simp] theorem modEng_txa (e : Nat) (f : Eng → Eng) (s : State) : (modEng e f s).txa = s.txa := rfl
@[simp] theorem modEng_txb (e : Nat) (f : Eng → Eng) (s : State) : (modEng e f s).txb = s.txb := rfl
@[simp] theorem modEng_mesh (e : Nat) (f : Eng → Eng) (s : State) : (modEng e f s).mesh = s.mesh := rfl
@[simp] theorem modEng_time (e : Nat) (f : Eng → Eng) (s : State) : (modEng e f s).time = s.time := rfl
@[simp] theorem modEng_hif (e : Nat) (f : Eng → Eng) (s : State) : (modEng e f s).hif = s.hif := rfl
@[simp] theorem modEng_wings (e : Nat) (f : Eng → Eng) (s : State) : (modEng e f s).wings = s.wings := rfl
@[simp] theorem modEng_sec (e : Nat) (f : Eng → Eng) (s : State) : (modEng e f s).sec = s.sec := rfl
@[simp] theorem modEng_pair (e : Nat) (f : Eng → Eng) (s : State) : (modEng e f s).pair = s.pair := rfl
@[simp] theorem modEng_board (e : Nat) (f : Eng → Eng) (s : State) : (modEng e f s).board = s.board := rfl
@[simp] theorem modEng_upd (e : Nat) (f : Eng → Eng) (s : State) : (modEng e f s).upd = s.upd := rfl
@[simp] theorem modEng_updP (e : Nat) (f : Eng → Eng) (s : State) : (modEng e f s).updP = s.updP := rfl
@[simp] theorem modEng_cfgs (e : Nat) (f : Eng → Eng) (s : State) : (modEng e f s).cfgs = s.cfgs := rfl
@[simp] theorem modEng_pwr (e : Nat) (f : Eng → Eng) (s : State) : (modEng e f s).pwr = s.pwr := rfl
@[simp] theorem modEng_wire0 (e : Nat) (f : Eng → Eng) (s : State) : (modEng e f s).wire0 = s.wire0 := rfl
@[simp] theorem modEng_wire1 (e : Nat) (f : Eng → Eng) (s : State) : (modEng e f s).wire1 = s.wire1 := rfl

/-! ### charge -/

@[simp] theorem charge_pending (e n : Nat) (s : State) : (charge e n s).pending = s.pending := rfl
@[simp] theorem charge_regs (e n : Nat) (s : State) : (charge e n s).regs = s.regs := rfl
@[simp] theorem charge_proc (e n : Nat) (s : State) : (charge e n s).proc = s.proc := rfl
@[simp] theorem charge_ports (e n : Nat) (s : State) : (charge e n s).ports = s.ports := rfl
@[simp] theorem charge_lines (e n : Nat) (s : State) : (charge e n s).lines = s.lines := rfl
@[simp] theorem charge_txa (e n : Nat) (s : State) : (charge e n s).txa = s.txa := rfl
@[simp] theorem charge_txb (e n : Nat) (s : State) : (charge e n s).txb = s.txb := rfl
@[simp] theorem charge_mesh (e n : Nat) (s : State) : (charge e n s).mesh = s.mesh := rfl
@[simp] theorem charge_time (e n : Nat) (s : State) : (charge e n s).time = s.time := rfl
@[simp] theorem charge_hif (e n : Nat) (s : State) : (charge e n s).hif = s.hif := rfl
@[simp] theorem charge_wings (e n : Nat) (s : State) : (charge e n s).wings = s.wings := rfl
@[simp] theorem charge_sec (e n : Nat) (s : State) : (charge e n s).sec = s.sec := rfl
@[simp] theorem charge_pair (e n : Nat) (s : State) : (charge e n s).pair = s.pair := rfl
@[simp] theorem charge_board (e n : Nat) (s : State) : (charge e n s).board = s.board := rfl
@[simp] theorem charge_upd (e n : Nat) (s : State) : (charge e n s).upd = s.upd := rfl
@[simp] theorem charge_updP (e n : Nat) (s : State) : (charge e n s).updP = s.updP := rfl
@[simp] theorem charge_cfgs (e n : Nat) (s : State) : (charge e n s).cfgs = s.cfgs := rfl
@[simp] theorem charge_pwr (e n : Nat) (s : State) : (charge e n s).pwr = s.pwr := rfl
@[simp] theorem charge_wire0 (e n : Nat) (s : State) : (charge e n s).wire0 = s.wire0 := rfl
@[simp] theorem charge_wire1 (e n : Nat) (s : State) : (charge e n s).wire1 = s.wire1 := rfl

/-! ### modPort -/

@[simp] theorem modPort_pending (p : Nat) (f : Port → Port) (s : State) : (modPort p f s).pending = s.pending := rfl
@[simp] theorem modPort_regs (p : Nat) (f : Port → Port) (s : State) : (modPort p f s).regs = s.regs := rfl
@[simp] theorem modPort_proc (p : Nat) (f : Port → Port) (s : State) : (modPort p f s).proc = s.proc := rfl
@[simp] theorem modPort_engs (p : Nat) (f : Port → Port) (s : State) : (modPort p f s).engs = s.engs := rfl
@[simp] theorem modPort_lines (p : Nat) (f : Port → Port) (s : State) : (modPort p f s).lines = s.lines := rfl
@[simp] theorem modPort_txa (p : Nat) (f : Port → Port) (s : State) : (modPort p f s).txa = s.txa := rfl
@[simp] theorem modPort_txb (p : Nat) (f : Port → Port) (s : State) : (modPort p f s).txb = s.txb := rfl
@[simp] theorem modPort_mesh (p : Nat) (f : Port → Port) (s : State) : (modPort p f s).mesh = s.mesh := rfl
@[simp] theorem modPort_time (p : Nat) (f : Port → Port) (s : State) : (modPort p f s).time = s.time := rfl
@[simp] theorem modPort_hif (p : Nat) (f : Port → Port) (s : State) : (modPort p f s).hif = s.hif := rfl
@[simp] theorem modPort_wings (p : Nat) (f : Port → Port) (s : State) : (modPort p f s).wings = s.wings := rfl
@[simp] theorem modPort_sec (p : Nat) (f : Port → Port) (s : State) : (modPort p f s).sec = s.sec := rfl
@[simp] theorem modPort_pair (p : Nat) (f : Port → Port) (s : State) : (modPort p f s).pair = s.pair := rfl
@[simp] theorem modPort_board (p : Nat) (f : Port → Port) (s : State) : (modPort p f s).board = s.board := rfl
@[simp] theorem modPort_upd (p : Nat) (f : Port → Port) (s : State) : (modPort p f s).upd = s.upd := rfl
@[simp] theorem modPort_updP (p : Nat) (f : Port → Port) (s : State) : (modPort p f s).updP = s.updP := rfl
@[simp] theorem modPort_cfgs (p : Nat) (f : Port → Port) (s : State) : (modPort p f s).cfgs = s.cfgs := rfl
@[simp] theorem modPort_pwr (p : Nat) (f : Port → Port) (s : State) : (modPort p f s).pwr = s.pwr := rfl
@[simp] theorem modPort_wire0 (p : Nat) (f : Port → Port) (s : State) : (modPort p f s).wire0 = s.wire0 := rfl
@[simp] theorem modPort_wire1 (p : Nat) (f : Port → Port) (s : State) : (modPort p f s).wire1 = s.wire1 := rfl

/-! ### modLine -/

@[simp] theorem modLine_pending (n : Nat) (f : Line → Line) (s : State) : (modLine n f s).pending = s.pending := rfl
@[simp] theorem modLine_regs (n : Nat) (f : Line → Line) (s : State) : (modLine n f s).regs = s.regs := rfl
@[simp] theorem modLine_proc (n : Nat) (f : Line → Line) (s : State) : (modLine n f s).proc = s.proc := rfl
@[simp] theorem modLine_engs (n : Nat) (f : Line → Line) (s : State) : (modLine n f s).engs = s.engs := rfl
@[simp] theorem modLine_ports (n : Nat) (f : Line → Line) (s : State) : (modLine n f s).ports = s.ports := rfl
@[simp] theorem modLine_txa (n : Nat) (f : Line → Line) (s : State) : (modLine n f s).txa = s.txa := rfl
@[simp] theorem modLine_txb (n : Nat) (f : Line → Line) (s : State) : (modLine n f s).txb = s.txb := rfl
@[simp] theorem modLine_mesh (n : Nat) (f : Line → Line) (s : State) : (modLine n f s).mesh = s.mesh := rfl
@[simp] theorem modLine_time (n : Nat) (f : Line → Line) (s : State) : (modLine n f s).time = s.time := rfl
@[simp] theorem modLine_hif (n : Nat) (f : Line → Line) (s : State) : (modLine n f s).hif = s.hif := rfl
@[simp] theorem modLine_wings (n : Nat) (f : Line → Line) (s : State) : (modLine n f s).wings = s.wings := rfl
@[simp] theorem modLine_sec (n : Nat) (f : Line → Line) (s : State) : (modLine n f s).sec = s.sec := rfl
@[simp] theorem modLine_pair (n : Nat) (f : Line → Line) (s : State) : (modLine n f s).pair = s.pair := rfl
@[simp] theorem modLine_board (n : Nat) (f : Line → Line) (s : State) : (modLine n f s).board = s.board := rfl
@[simp] theorem modLine_upd (n : Nat) (f : Line → Line) (s : State) : (modLine n f s).upd = s.upd := rfl
@[simp] theorem modLine_updP (n : Nat) (f : Line → Line) (s : State) : (modLine n f s).updP = s.updP := rfl
@[simp] theorem modLine_cfgs (n : Nat) (f : Line → Line) (s : State) : (modLine n f s).cfgs = s.cfgs := rfl
@[simp] theorem modLine_pwr (n : Nat) (f : Line → Line) (s : State) : (modLine n f s).pwr = s.pwr := rfl
@[simp] theorem modLine_wire0 (n : Nat) (f : Line → Line) (s : State) : (modLine n f s).wire0 = s.wire0 := rfl
@[simp] theorem modLine_wire1 (n : Nat) (f : Line → Line) (s : State) : (modLine n f s).wire1 = s.wire1 := rfl

/-! ### modDet -/

@[simp] theorem modDet_pending (n d : Nat) (f : Det → Det) (s : State) : (modDet n d f s).pending = s.pending := rfl
@[simp] theorem modDet_regs (n d : Nat) (f : Det → Det) (s : State) : (modDet n d f s).regs = s.regs := rfl
@[simp] theorem modDet_proc (n d : Nat) (f : Det → Det) (s : State) : (modDet n d f s).proc = s.proc := rfl
@[simp] theorem modDet_engs (n d : Nat) (f : Det → Det) (s : State) : (modDet n d f s).engs = s.engs := rfl
@[simp] theorem modDet_ports (n d : Nat) (f : Det → Det) (s : State) : (modDet n d f s).ports = s.ports := rfl
@[simp] theorem modDet_txa (n d : Nat) (f : Det → Det) (s : State) : (modDet n d f s).txa = s.txa := rfl
@[simp] theorem modDet_txb (n d : Nat) (f : Det → Det) (s : State) : (modDet n d f s).txb = s.txb := rfl
@[simp] theorem modDet_mesh (n d : Nat) (f : Det → Det) (s : State) : (modDet n d f s).mesh = s.mesh := rfl
@[simp] theorem modDet_time (n d : Nat) (f : Det → Det) (s : State) : (modDet n d f s).time = s.time := rfl
@[simp] theorem modDet_hif (n d : Nat) (f : Det → Det) (s : State) : (modDet n d f s).hif = s.hif := rfl
@[simp] theorem modDet_wings (n d : Nat) (f : Det → Det) (s : State) : (modDet n d f s).wings = s.wings := rfl
@[simp] theorem modDet_sec (n d : Nat) (f : Det → Det) (s : State) : (modDet n d f s).sec = s.sec := rfl
@[simp] theorem modDet_pair (n d : Nat) (f : Det → Det) (s : State) : (modDet n d f s).pair = s.pair := rfl
@[simp] theorem modDet_board (n d : Nat) (f : Det → Det) (s : State) : (modDet n d f s).board = s.board := rfl
@[simp] theorem modDet_upd (n d : Nat) (f : Det → Det) (s : State) : (modDet n d f s).upd = s.upd := rfl
@[simp] theorem modDet_updP (n d : Nat) (f : Det → Det) (s : State) : (modDet n d f s).updP = s.updP := rfl
@[simp] theorem modDet_cfgs (n d : Nat) (f : Det → Det) (s : State) : (modDet n d f s).cfgs = s.cfgs := rfl
@[simp] theorem modDet_pwr (n d : Nat) (f : Det → Det) (s : State) : (modDet n d f s).pwr = s.pwr := rfl
@[simp] theorem modDet_wire0 (n d : Nat) (f : Det → Det) (s : State) : (modDet n d f s).wire0 = s.wire0 := rfl
@[simp] theorem modDet_wire1 (n d : Nat) (f : Det → Det) (s : State) : (modDet n d f s).wire1 = s.wire1 := rfl

/-! ### modNode -/

@[simp] theorem modNode_pending (i : Nat) (f : Node → Node) (s : State) : (modNode i f s).pending = s.pending := rfl
@[simp] theorem modNode_regs (i : Nat) (f : Node → Node) (s : State) : (modNode i f s).regs = s.regs := rfl
@[simp] theorem modNode_proc (i : Nat) (f : Node → Node) (s : State) : (modNode i f s).proc = s.proc := rfl
@[simp] theorem modNode_engs (i : Nat) (f : Node → Node) (s : State) : (modNode i f s).engs = s.engs := rfl
@[simp] theorem modNode_ports (i : Nat) (f : Node → Node) (s : State) : (modNode i f s).ports = s.ports := rfl
@[simp] theorem modNode_lines (i : Nat) (f : Node → Node) (s : State) : (modNode i f s).lines = s.lines := rfl
@[simp] theorem modNode_txa (i : Nat) (f : Node → Node) (s : State) : (modNode i f s).txa = s.txa := rfl
@[simp] theorem modNode_txb (i : Nat) (f : Node → Node) (s : State) : (modNode i f s).txb = s.txb := rfl
@[simp] theorem modNode_time (i : Nat) (f : Node → Node) (s : State) : (modNode i f s).time = s.time := rfl
@[simp] theorem modNode_hif (i : Nat) (f : Node → Node) (s : State) : (modNode i f s).hif = s.hif := rfl
@[simp] theorem modNode_wings (i : Nat) (f : Node → Node) (s : State) : (modNode i f s).wings = s.wings := rfl
@[simp] theorem modNode_sec (i : Nat) (f : Node → Node) (s : State) : (modNode i f s).sec = s.sec := rfl
@[simp] theorem modNode_pair (i : Nat) (f : Node → Node) (s : State) : (modNode i f s).pair = s.pair := rfl
@[simp] theorem modNode_board (i : Nat) (f : Node → Node) (s : State) : (modNode i f s).board = s.board := rfl
@[simp] theorem modNode_upd (i : Nat) (f : Node → Node) (s : State) : (modNode i f s).upd = s.upd := rfl
@[simp] theorem modNode_updP (i : Nat) (f : Node → Node) (s : State) : (modNode i f s).updP = s.updP := rfl
@[simp] theorem modNode_cfgs (i : Nat) (f : Node → Node) (s : State) : (modNode i f s).cfgs = s.cfgs := rfl
@[simp] theorem modNode_pwr (i : Nat) (f : Node → Node) (s : State) : (modNode i f s).pwr = s.pwr := rfl
@[simp] theorem modNode_wire0 (i : Nat) (f : Node → Node) (s : State) : (modNode i f s).wire0 = s.wire0 := rfl
@[simp] theorem modNode_wire1 (i : Nat) (f : Node → Node) (s : State) : (modNode i f s).wire1 = s.wire1 := rfl

/-! ### modMesh -/

@[simp] theorem modMesh_pending (f : Mesh → Mesh) (s : State) : (modMesh f s).pending = s.pending := rfl
@[simp] theorem modMesh_regs (f : Mesh → Mesh) (s : State) : (modMesh f s).regs = s.regs := rfl
@[simp] theorem modMesh_proc (f : Mesh → Mesh) (s : State) : (modMesh f s).proc = s.proc := rfl
@[simp] theorem modMesh_engs (f : Mesh → Mesh) (s : State) : (modMesh f s).engs = s.engs := rfl
@[simp] theorem modMesh_ports (f : Mesh → Mesh) (s : State) : (modMesh f s).ports = s.ports := rfl
@[simp] theorem modMesh_lines (f : Mesh → Mesh) (s : State) : (modMesh f s).lines = s.lines := rfl
@[simp] theorem modMesh_txa (f : Mesh → Mesh) (s : State) : (modMesh f s).txa = s.txa := rfl
@[simp] theorem modMesh_txb (f : Mesh → Mesh) (s : State) : (modMesh f s).txb = s.txb := rfl
@[simp] theorem modMesh_mesh (f : Mesh → Mesh) (s : State) : (modMesh f s).mesh = f s.mesh := rfl
@[simp] theorem modMesh_time (f : Mesh → Mesh) (s : State) : (modMesh f s).time = s.time := rfl
@[simp] theorem modMesh_hif (f : Mesh → Mesh) (s : State) : (modMesh f s).hif = s.hif := rfl
@[simp] theorem modMesh_wings (f : Mesh → Mesh) (s : State) : (modMesh f s).wings = s.wings := rfl
@[simp] theorem modMesh_sec (f : Mesh → Mesh) (s : State) : (modMesh f s).sec = s.sec := rfl
@[simp] theorem modMesh_pair (f : Mesh → Mesh) (s : State) : (modMesh f s).pair = s.pair := rfl
@[simp] theorem modMesh_board (f : Mesh → Mesh) (s : State) : (modMesh f s).board = s.board := rfl
@[simp] theorem modMesh_upd (f : Mesh → Mesh) (s : State) : (modMesh f s).upd = s.upd := rfl
@[simp] theorem modMesh_updP (f : Mesh → Mesh) (s : State) : (modMesh f s).updP = s.updP := rfl
@[simp] theorem modMesh_cfgs (f : Mesh → Mesh) (s : State) : (modMesh f s).cfgs = s.cfgs := rfl
@[simp] theorem modMesh_pwr (f : Mesh → Mesh) (s : State) : (modMesh f s).pwr = s.pwr := rfl
@[simp] theorem modMesh_wire0 (f : Mesh → Mesh) (s : State) : (modMesh f s).wire0 = s.wire0 := rfl
@[simp] theorem modMesh_wire1 (f : Mesh → Mesh) (s : State) : (modMesh f s).wire1 = s.wire1 := rfl

/-! ### modProc -/

@[simp] theorem modProc_pending (f : Proc → Proc) (s : State) : (modProc f s).pending = s.pending := rfl
@[simp] theorem modProc_regs (f : Proc → Proc) (s : State) : (modProc f s).regs = s.regs := rfl
@[simp] theorem modProc_proc (f : Proc → Proc) (s : State) : (modProc f s).proc = f s.proc := rfl
@[simp] theorem modProc_engs (f : Proc → Proc) (s : State) : (modProc f s).engs = s.engs := rfl
@[simp] theorem modProc_ports (f : Proc → Proc) (s : State) : (modProc f s).ports = s.ports := rfl
@[simp] theorem modProc_lines (f : Proc → Proc) (s : State) : (modProc f s).lines = s.lines := rfl
@[simp] theorem modProc_txa (f : Proc → Proc) (s : State) : (modProc f s).txa = s.txa := rfl
@[simp] theorem modProc_txb (f : Proc → Proc) (s : State) : (modProc f s).txb = s.txb := rfl
@[simp] theorem modProc_mesh (f : Proc → Proc) (s : State) : (modProc f s).mesh = s.mesh := rfl
@[simp] theorem modProc_time (f : Proc → Proc) (s : State) : (modProc f s).time = s.time := rfl
@[simp] theorem modProc_hif (f : Proc → Proc) (s : State) : (modProc f s).hif = s.hif := rfl
@[simp] theorem modProc_wings (f : Proc → Proc) (s : State) : (modProc f s).wings = s.wings := rfl
@[simp] theorem modProc_sec (f : Proc → Proc) (s : State) : (modProc f s).sec = s.sec := rfl
@[simp] theorem modProc_pair (f : Proc → Proc) (s : State) : (modProc f s).pair = s.pair := rfl
@[simp] theorem modProc_board (f : Proc → Proc) (s : State) : (modProc f s).board = s.board := rfl
@[simp] theorem modProc_upd (f : Proc → Proc) (s : State) : (modProc f s).upd = s.upd := rfl
@[simp] theorem modProc_updP (f : Proc → Proc) (s : State) : (modProc f s).updP = s.updP := rfl
@[simp] theorem modProc_cfgs (f : Proc → Proc) (s : State) : (modProc f s).cfgs = s.cfgs := rfl
@[simp] theorem modProc_pwr (f : Proc → Proc) (s : State) : (modProc f s).pwr = s.pwr := rfl
@[simp] theorem modProc_wire0 (f : Proc → Proc) (s : State) : (modProc f s).wire0 = s.wire0 := rfl
@[simp] theorem modProc_wire1 (f : Proc → Proc) (s : State) : (modProc f s).wire1 = s.wire1 := rfl

/-! ### modHif -/

@[simp] theorem modHif_pending (f : Hif → Hif) (s : State) : (modHif f s).pending = s.pending := rfl
@[simp] theorem modHif_regs (f : Hif → Hif) (s : State) : (modHif f s).regs = s.regs := rfl
@[simp] theorem modHif_proc (f : Hif → Hif) (s : State) : (modHif f s).proc = s.proc := rfl
@[simp] theorem modHif_engs (f : Hif → Hif) (s : State) : (modHif f s).engs = s.engs := rfl
@[simp] theorem modHif_ports (f : Hif → Hif) (s : State) : (modHif f s).ports = s.ports := rfl
@[simp] theorem modHif_lines (f : Hif → Hif) (s : State) : (modHif f s).lines = s.lines := rfl
@[simp] theorem modHif_txa (f : Hif → Hif) (s : State) : (modHif f s).txa = s.txa := rfl
@[simp] theorem modHif_txb (f : Hif → Hif) (s : State) : (modHif f s).txb = s.txb := rfl
@[simp] theorem modHif_mesh (f : Hif → Hif) (s : State) : (modHif f s).mesh = s.mesh := rfl
@[simp] theorem modHif_time (f : Hif → Hif) (s : State) : (modHif f s).time = s.time := rfl
@[simp] theorem modHif_hif (f : Hif → Hif) (s : State) : (modHif f s).hif = f s.hif := rfl
@[simp] theorem modHif_wings (f : Hif → Hif) (s : State) : (modHif f s).wings = s.wings := rfl
@[simp] theorem modHif_sec (f : Hif → Hif) (s : State) : (modHif f s).sec = s.sec := rfl
@[simp] theorem modHif_pair (f : Hif → Hif) (s : State) : (modHif f s).pair = s.pair := rfl
@[simp] theorem modHif_board (f : Hif → Hif) (s : State) : (modHif f s).board = s.board := rfl
@[simp] theorem modHif_upd (f : Hif → Hif) (s : State) : (modHif f s).upd = s.upd := rfl
@[simp] theorem modHif_updP (f : Hif → Hif) (s : State) : (modHif f s).updP = s.updP := rfl
@[simp] theorem modHif_cfgs (f : Hif → Hif) (s : State) : (modHif f s).cfgs = s.cfgs := rfl
@[simp] theorem modHif_pwr (f : Hif → Hif) (s : State) : (modHif f s).pwr = s.pwr := rfl
@[simp] theorem modHif_wire0 (f : Hif → Hif) (s : State) : (modHif f s).wire0 = s.wire0 := rfl
@[simp] theorem modHif_wire1 (f : Hif → Hif) (s : State) : (modHif f s).wire1 = s.wire1 := rfl

/-! ### modTime -/

@[simp] theorem modTime_pending (f : Time → Time) (s : State) : (modTime f s).pending = s.pending := rfl
@[simp] theorem modTime_regs (f : Time → Time) (s : State) : (modTime f s).regs = s.regs := rfl
@[simp] theorem modTime_proc (f : Time → Time) (s : State) : (modTime f s).proc = s.proc := rfl
@[simp] theorem modTime_engs (f : Time → Time) (s : State) : (modTime f s).engs = s.engs := rfl
@[simp] theorem modTime_ports (f : Time → Time) (s : State) : (modTime f s).ports = s.ports := rfl
@[simp] theorem modTime_lines (f : Time → Time) (s : State) : (modTime f s).lines = s.lines := rfl
@[simp] theorem modTime_txa (f : Time → Time) (s : State) : (modTime f s).txa = s.txa := rfl
@[simp] theorem modTime_txb (f : Time → Time) (s : State) : (modTime f s).txb = s.txb := rfl
@[simp] theorem modTime_mesh (f : Time → Time) (s : State) : (modTime f s).mesh = s.mesh := rfl
@[simp] theorem modTime_time (f : Time → Time) (s : State) : (modTime f s).time = f s.time := rfl
@[simp] theorem modTime_hif (f : Time → Time) (s : State) : (modTime f s).hif = s.hif := rfl
@[simp] theorem modTime_wings (f : Time → Time) (s : State) : (modTime f s).wings = s.wings := rfl
@[simp] theorem modTime_sec (f : Time → Time) (s : State) : (modTime f s).sec = s.sec := rfl
@[simp] theorem modTime_pair (f : Time → Time) (s : State) : (modTime f s).pair = s.pair := rfl
@[simp] theorem modTime_board (f : Time → Time) (s : State) : (modTime f s).board = s.board := rfl
@[simp] theorem modTime_upd (f : Time → Time) (s : State) : (modTime f s).upd = s.upd := rfl
@[simp] theorem modTime_updP (f : Time → Time) (s : State) : (modTime f s).updP = s.updP := rfl
@[simp] theorem modTime_cfgs (f : Time → Time) (s : State) : (modTime f s).cfgs = s.cfgs := rfl
@[simp] theorem modTime_pwr (f : Time → Time) (s : State) : (modTime f s).pwr = s.pwr := rfl
@[simp] theorem modTime_wire0 (f : Time → Time) (s : State) : (modTime f s).wire0 = s.wire0 := rfl
@[simp] theorem modTime_wire1 (f : Time → Time) (s : State) : (modTime f s).wire1 = s.wire1 := rfl

/-! ### modPtp -/

@[simp] theorem modPtp_pending (f : PtpC → PtpC) (s : State) : (modPtp f s).pending = s.pending := rfl
@[simp] theorem modPtp_regs (f : PtpC → PtpC) (s : State) : (modPtp f s).regs = s.regs := rfl
@[simp] theorem modPtp_proc (f : PtpC → PtpC) (s : State) : (modPtp f s).proc = s.proc := rfl
@[simp] theorem modPtp_engs (f : PtpC → PtpC) (s : State) : (modPtp f s).engs = s.engs := rfl
@[simp] theorem modPtp_ports (f : PtpC → PtpC) (s : State) : (modPtp f s).ports = s.ports := rfl
@[simp] theorem modPtp_lines (f : PtpC → PtpC) (s : State) : (modPtp f s).lines = s.lines := rfl
@[simp] theorem modPtp_txa (f : PtpC → PtpC) (s : State) : (modPtp f s).txa = s.txa := rfl
@[simp] theorem modPtp_txb (f : PtpC → PtpC) (s : State) : (modPtp f s).txb = s.txb := rfl
@[simp] theorem modPtp_mesh (f : PtpC → PtpC) (s : State) : (modPtp f s).mesh = s.mesh := rfl
@[simp] theorem modPtp_hif (f : PtpC → PtpC) (s : State) : (modPtp f s).hif = s.hif := rfl
@[simp] theorem modPtp_wings (f : PtpC → PtpC) (s : State) : (modPtp f s).wings = s.wings := rfl
@[simp] theorem modPtp_sec (f : PtpC → PtpC) (s : State) : (modPtp f s).sec = s.sec := rfl
@[simp] theorem modPtp_pair (f : PtpC → PtpC) (s : State) : (modPtp f s).pair = s.pair := rfl
@[simp] theorem modPtp_board (f : PtpC → PtpC) (s : State) : (modPtp f s).board = s.board := rfl
@[simp] theorem modPtp_upd (f : PtpC → PtpC) (s : State) : (modPtp f s).upd = s.upd := rfl
@[simp] theorem modPtp_updP (f : PtpC → PtpC) (s : State) : (modPtp f s).updP = s.updP := rfl
@[simp] theorem modPtp_cfgs (f : PtpC → PtpC) (s : State) : (modPtp f s).cfgs = s.cfgs := rfl
@[simp] theorem modPtp_pwr (f : PtpC → PtpC) (s : State) : (modPtp f s).pwr = s.pwr := rfl
@[simp] theorem modPtp_wire0 (f : PtpC → PtpC) (s : State) : (modPtp f s).wire0 = s.wire0 := rfl
@[simp] theorem modPtp_wire1 (f : PtpC → PtpC) (s : State) : (modPtp f s).wire1 = s.wire1 := rfl

/-! ### modWings -/

@[simp] theorem modWings_pending (f : Wings → Wings) (s : State) : (modWings f s).pending = s.pending := rfl
@[simp] theorem modWings_regs (f : Wings → Wings) (s : State) : (modWings f s).regs = s.regs := rfl
@[simp] theorem modWings_proc (f : Wings → Wings) (s : State) : (modWings f s).proc = s.proc := rfl
@[simp] theorem modWings_engs (f : Wings → Wings) (s : State) : (modWings f s).engs = s.engs := rfl
@[simp] theorem modWings_ports (f : Wings → Wings) (s : State) : (modWings f s).ports = s.ports := rfl
@[simp] theorem modWings_lines (f : Wings → Wings) (s : State) : (modWings f s).lines = s.lines := rfl
@[simp] theorem modWings_txa (f : Wings → Wings) (s : State) : (modWings f s).txa = s.txa := rfl
@[simp] theorem modWings_txb (f : Wings → Wings) (s : State) : (modWings f s).txb = s.txb := rfl
@[simp] theorem modWings_mesh (f : Wings → Wings) (s : State) : (modWings f s).mesh = s.mesh := rfl
@[simp] theorem modWings_time (f : Wings → Wings) (s : State) : (modWings f s).time = s.time := rfl
@[simp] theorem modWings_hif (f : Wings → Wings) (s : State) : (modWings f s).hif = s.hif := rfl
@[simp] theorem modWings_wings (f : Wings → Wings) (s : State) : (modWings f s).wings = f s.wings := rfl
@[simp] theorem modWings_sec (f : Wings → Wings) (s : State) : (modWings f s).sec = s.sec := rfl
@[simp] theorem modWings_pair (f : Wings → Wings) (s : State) : (modWings f s).pair = s.pair := rfl
@[simp] theorem modWings_board (f : Wings → Wings) (s : State) : (modWings f s).board = s.board := rfl
@[simp] theorem modWings_upd (f : Wings → Wings) (s : State) : (modWings f s).upd = s.upd := rfl
@[simp] theorem modWings_updP (f : Wings → Wings) (s : State) : (modWings f s).updP = s.updP := rfl
@[simp] theorem modWings_cfgs (f : Wings → Wings) (s : State) : (modWings f s).cfgs = s.cfgs := rfl
@[simp] theorem modWings_pwr (f : Wings → Wings) (s : State) : (modWings f s).pwr = s.pwr := rfl
@[simp] theorem modWings_wire0 (f : Wings → Wings) (s : State) : (modWings f s).wire0 = s.wire0 := rfl
@[simp] theorem modWings_wire1 (f : Wings → Wings) (s : State) : (modWings f s).wire1 = s.wire1 := rfl

/-! ### modSec -/

@[simp] theorem modSec_pending (f : Sec → Sec) (s : State) : (modSec f s).pending = s.pending := rfl
@[simp] theorem modSec_regs (f : Sec → Sec) (s : State) : (modSec f s).regs = s.regs := rfl
@[simp] theorem modSec_proc (f : Sec → Sec) (s : State) : (modSec f s).proc = s.proc := rfl
@[simp] theorem modSec_engs (f : Sec → Sec) (s : State) : (modSec f s).engs = s.engs := rfl
@[simp] theorem modSec_ports (f : Sec → Sec) (s : State) : (modSec f s).ports = s.ports := rfl
@[simp] theorem modSec_lines (f : Sec → Sec) (s : State) : (modSec f s).lines = s.lines := rfl
@[simp] theorem modSec_txa (f : Sec → Sec) (s : State) : (modSec f s).txa = s.txa := rfl
@[simp] theorem modSec_txb (f : Sec → Sec) (s : State) : (modSec f s).txb = s.txb := rfl
@[simp] theorem modSec_mesh (f : Sec → Sec) (s : State) : (modSec f s).mesh = s.mesh := rfl
@[simp] theorem modSec_time (f : Sec → Sec) (s : State) : (modSec f s).time = s.time := rfl
@[simp] theorem modSec_hif (f : Sec → Sec) (s : State) : (modSec f s).hif = s.hif := rfl
@[simp] theorem modSec_wings (f : Sec → Sec) (s : State) : (modSec f s).wings = s.wings := rfl
@[simp] theorem modSec_sec (f : Sec → Sec) (s : State) : (modSec f s).sec = f s.sec := rfl
@[simp] theorem modSec_pair (f : Sec → Sec) (s : State) : (modSec f s).pair = s.pair := rfl
@[simp] theorem modSec_board (f : Sec → Sec) (s : State) : (modSec f s).board = s.board := rfl
@[simp] theorem modSec_upd (f : Sec → Sec) (s : State) : (modSec f s).upd = s.upd := rfl
@[simp] theorem modSec_updP (f : Sec → Sec) (s : State) : (modSec f s).updP = s.updP := rfl
@[simp] theorem modSec_cfgs (f : Sec → Sec) (s : State) : (modSec f s).cfgs = s.cfgs := rfl
@[simp] theorem modSec_pwr (f : Sec → Sec) (s : State) : (modSec f s).pwr = s.pwr := rfl
@[simp] theorem modSec_wire0 (f : Sec → Sec) (s : State) : (modSec f s).wire0 = s.wire0 := rfl
@[simp] theorem modSec_wire1 (f : Sec → Sec) (s : State) : (modSec f s).wire1 = s.wire1 := rfl

/-! ### modPair -/

@[simp] theorem modPair_pending (f : Pair → Pair) (s : State) : (modPair f s).pending = s.pending := rfl
@[simp] theorem modPair_regs (f : Pair → Pair) (s : State) : (modPair f s).regs = s.regs := rfl
@[simp] theorem modPair_proc (f : Pair → Pair) (s : State) : (modPair f s).proc = s.proc := rfl
@[simp] theorem modPair_engs (f : Pair → Pair) (s : State) : (modPair f s).engs = s.engs := rfl
@[simp] theorem modPair_ports (f : Pair → Pair) (s : State) : (modPair f s).ports = s.ports := rfl
@[simp] theorem modPair_lines (f : Pair → Pair) (s : State) : (modPair f s).lines = s.lines := rfl
@[simp] theorem modPair_txa (f : Pair → Pair) (s : State) : (modPair f s).txa = s.txa := rfl
@[simp] theorem modPair_txb (f : Pair → Pair) (s : State) : (modPair f s).txb = s.txb := rfl
@[simp] theorem modPair_mesh (f : Pair → Pair) (s : State) : (modPair f s).mesh = s.mesh := rfl
@[simp] theorem modPair_time (f : Pair → Pair) (s : State) : (modPair f s).time = s.time := rfl
@[simp] theorem modPair_hif (f : Pair → Pair) (s : State) : (modPair f s).hif = s.hif := rfl
@[simp] theorem modPair_wings (f : Pair → Pair) (s : State) : (modPair f s).wings = s.wings := rfl
@[simp] theorem modPair_sec (f : Pair → Pair) (s : State) : (modPair f s).sec = s.sec := rfl
@[simp] theorem modPair_pair (f : Pair → Pair) (s : State) : (modPair f s).pair = f s.pair := rfl
@[simp] theorem modPair_board (f : Pair → Pair) (s : State) : (modPair f s).board = s.board := rfl
@[simp] theorem modPair_upd (f : Pair → Pair) (s : State) : (modPair f s).upd = s.upd := rfl
@[simp] theorem modPair_updP (f : Pair → Pair) (s : State) : (modPair f s).updP = s.updP := rfl
@[simp] theorem modPair_cfgs (f : Pair → Pair) (s : State) : (modPair f s).cfgs = s.cfgs := rfl
@[simp] theorem modPair_pwr (f : Pair → Pair) (s : State) : (modPair f s).pwr = s.pwr := rfl
@[simp] theorem modPair_wire0 (f : Pair → Pair) (s : State) : (modPair f s).wire0 = s.wire0 := rfl
@[simp] theorem modPair_wire1 (f : Pair → Pair) (s : State) : (modPair f s).wire1 = s.wire1 := rfl

/-! ### modBoard -/

@[simp] theorem modBoard_pending (f : Board → Board) (s : State) : (modBoard f s).pending = s.pending := rfl
@[simp] theorem modBoard_regs (f : Board → Board) (s : State) : (modBoard f s).regs = s.regs := rfl
@[simp] theorem modBoard_proc (f : Board → Board) (s : State) : (modBoard f s).proc = s.proc := rfl
@[simp] theorem modBoard_engs (f : Board → Board) (s : State) : (modBoard f s).engs = s.engs := rfl
@[simp] theorem modBoard_ports (f : Board → Board) (s : State) : (modBoard f s).ports = s.ports := rfl
@[simp] theorem modBoard_lines (f : Board → Board) (s : State) : (modBoard f s).lines = s.lines := rfl
@[simp] theorem modBoard_txa (f : Board → Board) (s : State) : (modBoard f s).txa = s.txa := rfl
@[simp] theorem modBoard_txb (f : Board → Board) (s : State) : (modBoard f s).txb = s.txb := rfl
@[simp] theorem modBoard_mesh (f : Board → Board) (s : State) : (modBoard f s).mesh = s.mesh := rfl
@[simp] theorem modBoard_time (f : Board → Board) (s : State) : (modBoard f s).time = s.time := rfl
@[simp] theorem modBoard_hif (f : Board → Board) (s : State) : (modBoard f s).hif = s.hif := rfl
@[simp] theorem modBoard_wings (f : Board → Board) (s : State) : (modBoard f s).wings = s.wings := rfl
@[simp] theorem modBoard_sec (f : Board → Board) (s : State) : (modBoard f s).sec = s.sec := rfl
@[simp] theorem modBoard_pair (f : Board → Board) (s : State) : (modBoard f s).pair = s.pair := rfl
@[simp] theorem modBoard_board (f : Board → Board) (s : State) : (modBoard f s).board = f s.board := rfl
@[simp] theorem modBoard_upd (f : Board → Board) (s : State) : (modBoard f s).upd = s.upd := rfl
@[simp] theorem modBoard_updP (f : Board → Board) (s : State) : (modBoard f s).updP = s.updP := rfl
@[simp] theorem modBoard_cfgs (f : Board → Board) (s : State) : (modBoard f s).cfgs = s.cfgs := rfl
@[simp] theorem modBoard_pwr (f : Board → Board) (s : State) : (modBoard f s).pwr = s.pwr := rfl
@[simp] theorem modBoard_wire0 (f : Board → Board) (s : State) : (modBoard f s).wire0 = s.wire0 := rfl
@[simp] theorem modBoard_wire1 (f : Board → Board) (s : State) : (modBoard f s).wire1 = s.wire1 := rfl

/-! ### modUpd -/

@[simp] theorem modUpd_pending (f : Upd → Upd) (s : State) : (modUpd f s).pending = s.pending := rfl
@[simp] theorem modUpd_regs (f : Upd → Upd) (s : State) : (modUpd f s).regs = s.regs := rfl
@[simp] theorem modUpd_proc (f : Upd → Upd) (s : State) : (modUpd f s).proc = s.proc := rfl
@[simp] theorem modUpd_engs (f : Upd → Upd) (s : State) : (modUpd f s).engs = s.engs := rfl
@[simp] theorem modUpd_ports (f : Upd → Upd) (s : State) : (modUpd f s).ports = s.ports := rfl
@[simp] theorem modUpd_lines (f : Upd → Upd) (s : State) : (modUpd f s).lines = s.lines := rfl
@[simp] theorem modUpd_txa (f : Upd → Upd) (s : State) : (modUpd f s).txa = s.txa := rfl
@[simp] theorem modUpd_txb (f : Upd → Upd) (s : State) : (modUpd f s).txb = s.txb := rfl
@[simp] theorem modUpd_mesh (f : Upd → Upd) (s : State) : (modUpd f s).mesh = s.mesh := rfl
@[simp] theorem modUpd_time (f : Upd → Upd) (s : State) : (modUpd f s).time = s.time := rfl
@[simp] theorem modUpd_hif (f : Upd → Upd) (s : State) : (modUpd f s).hif = s.hif := rfl
@[simp] theorem modUpd_wings (f : Upd → Upd) (s : State) : (modUpd f s).wings = s.wings := rfl
@[simp] theorem modUpd_sec (f : Upd → Upd) (s : State) : (modUpd f s).sec = s.sec := rfl
@[simp] theorem modUpd_pair (f : Upd → Upd) (s : State) : (modUpd f s).pair = s.pair := rfl
@[simp] theorem modUpd_board (f : Upd → Upd) (s : State) : (modUpd f s).board = s.board := rfl
@[simp] theorem modUpd_upd (f : Upd → Upd) (s : State) : (modUpd f s).upd = f s.upd := rfl
@[simp] theorem modUpd_updP (f : Upd → Upd) (s : State) : (modUpd f s).updP = s.updP := rfl
@[simp] theorem modUpd_cfgs (f : Upd → Upd) (s : State) : (modUpd f s).cfgs = s.cfgs := rfl
@[simp] theorem modUpd_pwr (f : Upd → Upd) (s : State) : (modUpd f s).pwr = s.pwr := rfl
@[simp] theorem modUpd_wire0 (f : Upd → Upd) (s : State) : (modUpd f s).wire0 = s.wire0 := rfl
@[simp] theorem modUpd_wire1 (f : Upd → Upd) (s : State) : (modUpd f s).wire1 = s.wire1 := rfl

/-! ### modPwr -/

@[simp] theorem modPwr_pending (f : Pwr → Pwr) (s : State) : (modPwr f s).pending = s.pending := rfl
@[simp] theorem modPwr_regs (f : Pwr → Pwr) (s : State) : (modPwr f s).regs = s.regs := rfl
@[simp] theorem modPwr_proc (f : Pwr → Pwr) (s : State) : (modPwr f s).proc = s.proc := rfl
@[simp] theorem modPwr_engs (f : Pwr → Pwr) (s : State) : (modPwr f s).engs = s.engs := rfl
@[simp] theorem modPwr_ports (f : Pwr → Pwr) (s : State) : (modPwr f s).ports = s.ports := rfl
@[simp] theorem modPwr_lines (f : Pwr → Pwr) (s : State) : (modPwr f s).lines = s.lines := rfl
@[simp] theorem modPwr_txa (f : Pwr → Pwr) (s : State) : (modPwr f s).txa = s.txa := rfl
@[simp] theorem modPwr_txb (f : Pwr → Pwr) (s : State) : (modPwr f s).txb = s.txb := rfl
@[simp] theorem modPwr_mesh (f : Pwr → Pwr) (s : State) : (modPwr f s).mesh = s.mesh := rfl
@[simp] theorem modPwr_time (f : Pwr → Pwr) (s : State) : (modPwr f s).time = s.time := rfl
@[simp] theorem modPwr_hif (f : Pwr → Pwr) (s : State) : (modPwr f s).hif = s.hif := rfl
@[simp] theorem modPwr_wings (f : Pwr → Pwr) (s : State) : (modPwr f s).wings = s.wings := rfl
@[simp] theorem modPwr_sec (f : Pwr → Pwr) (s : State) : (modPwr f s).sec = s.sec := rfl
@[simp] theorem modPwr_pair (f : Pwr → Pwr) (s : State) : (modPwr f s).pair = s.pair := rfl
@[simp] theorem modPwr_board (f : Pwr → Pwr) (s : State) : (modPwr f s).board = s.board := rfl
@[simp] theorem modPwr_upd (f : Pwr → Pwr) (s : State) : (modPwr f s).upd = s.upd := rfl
@[simp] theorem modPwr_updP (f : Pwr → Pwr) (s : State) : (modPwr f s).updP = s.updP := rfl
@[simp] theorem modPwr_cfgs (f : Pwr → Pwr) (s : State) : (modPwr f s).cfgs = s.cfgs := rfl
@[simp] theorem modPwr_pwr (f : Pwr → Pwr) (s : State) : (modPwr f s).pwr = f s.pwr := rfl
@[simp] theorem modPwr_wire0 (f : Pwr → Pwr) (s : State) : (modPwr f s).wire0 = s.wire0 := rfl
@[simp] theorem modPwr_wire1 (f : Pwr → Pwr) (s : State) : (modPwr f s).wire1 = s.wire1 := rfl

/-! ### modPin -/

@[simp] theorem modPin_pending (i : Nat) (f : Pin → Pin) (s : State) : (modPin i f s).pending = s.pending := rfl
@[simp] theorem modPin_regs (i : Nat) (f : Pin → Pin) (s : State) : (modPin i f s).regs = s.regs := rfl
@[simp] theorem modPin_proc (i : Nat) (f : Pin → Pin) (s : State) : (modPin i f s).proc = s.proc := rfl
@[simp] theorem modPin_engs (i : Nat) (f : Pin → Pin) (s : State) : (modPin i f s).engs = s.engs := rfl
@[simp] theorem modPin_ports (i : Nat) (f : Pin → Pin) (s : State) : (modPin i f s).ports = s.ports := rfl
@[simp] theorem modPin_lines (i : Nat) (f : Pin → Pin) (s : State) : (modPin i f s).lines = s.lines := rfl
@[simp] theorem modPin_txa (i : Nat) (f : Pin → Pin) (s : State) : (modPin i f s).txa = s.txa := rfl
@[simp] theorem modPin_txb (i : Nat) (f : Pin → Pin) (s : State) : (modPin i f s).txb = s.txb := rfl
@[simp] theorem modPin_mesh (i : Nat) (f : Pin → Pin) (s : State) : (modPin i f s).mesh = s.mesh := rfl
@[simp] theorem modPin_hif (i : Nat) (f : Pin → Pin) (s : State) : (modPin i f s).hif = s.hif := rfl
@[simp] theorem modPin_wings (i : Nat) (f : Pin → Pin) (s : State) : (modPin i f s).wings = s.wings := rfl
@[simp] theorem modPin_sec (i : Nat) (f : Pin → Pin) (s : State) : (modPin i f s).sec = s.sec := rfl
@[simp] theorem modPin_pair (i : Nat) (f : Pin → Pin) (s : State) : (modPin i f s).pair = s.pair := rfl
@[simp] theorem modPin_board (i : Nat) (f : Pin → Pin) (s : State) : (modPin i f s).board = s.board := rfl
@[simp] theorem modPin_upd (i : Nat) (f : Pin → Pin) (s : State) : (modPin i f s).upd = s.upd := rfl
@[simp] theorem modPin_updP (i : Nat) (f : Pin → Pin) (s : State) : (modPin i f s).updP = s.updP := rfl
@[simp] theorem modPin_cfgs (i : Nat) (f : Pin → Pin) (s : State) : (modPin i f s).cfgs = s.cfgs := rfl
@[simp] theorem modPin_pwr (i : Nat) (f : Pin → Pin) (s : State) : (modPin i f s).pwr = s.pwr := rfl
@[simp] theorem modPin_wire0 (i : Nat) (f : Pin → Pin) (s : State) : (modPin i f s).wire0 = s.wire0 := rfl
@[simp] theorem modPin_wire1 (i : Nat) (f : Pin → Pin) (s : State) : (modPin i f s).wire1 = s.wire1 := rfl

/-! ### modSq -/

@[simp] theorem modSq_pending (q : Nat) (f : Sq → Sq) (s : State) : (modSq q f s).pending = s.pending := rfl
@[simp] theorem modSq_regs (q : Nat) (f : Sq → Sq) (s : State) : (modSq q f s).regs = s.regs := rfl
@[simp] theorem modSq_proc (q : Nat) (f : Sq → Sq) (s : State) : (modSq q f s).proc = s.proc := rfl
@[simp] theorem modSq_engs (q : Nat) (f : Sq → Sq) (s : State) : (modSq q f s).engs = s.engs := rfl
@[simp] theorem modSq_ports (q : Nat) (f : Sq → Sq) (s : State) : (modSq q f s).ports = s.ports := rfl
@[simp] theorem modSq_lines (q : Nat) (f : Sq → Sq) (s : State) : (modSq q f s).lines = s.lines := rfl
@[simp] theorem modSq_txa (q : Nat) (f : Sq → Sq) (s : State) : (modSq q f s).txa = s.txa := rfl
@[simp] theorem modSq_txb (q : Nat) (f : Sq → Sq) (s : State) : (modSq q f s).txb = s.txb := rfl
@[simp] theorem modSq_mesh (q : Nat) (f : Sq → Sq) (s : State) : (modSq q f s).mesh = s.mesh := rfl
@[simp] theorem modSq_time (q : Nat) (f : Sq → Sq) (s : State) : (modSq q f s).time = s.time := rfl
@[simp] theorem modSq_wings (q : Nat) (f : Sq → Sq) (s : State) : (modSq q f s).wings = s.wings := rfl
@[simp] theorem modSq_sec (q : Nat) (f : Sq → Sq) (s : State) : (modSq q f s).sec = s.sec := rfl
@[simp] theorem modSq_pair (q : Nat) (f : Sq → Sq) (s : State) : (modSq q f s).pair = s.pair := rfl
@[simp] theorem modSq_board (q : Nat) (f : Sq → Sq) (s : State) : (modSq q f s).board = s.board := rfl
@[simp] theorem modSq_upd (q : Nat) (f : Sq → Sq) (s : State) : (modSq q f s).upd = s.upd := rfl
@[simp] theorem modSq_updP (q : Nat) (f : Sq → Sq) (s : State) : (modSq q f s).updP = s.updP := rfl
@[simp] theorem modSq_cfgs (q : Nat) (f : Sq → Sq) (s : State) : (modSq q f s).cfgs = s.cfgs := rfl
@[simp] theorem modSq_pwr (q : Nat) (f : Sq → Sq) (s : State) : (modSq q f s).pwr = s.pwr := rfl
@[simp] theorem modSq_wire0 (q : Nat) (f : Sq → Sq) (s : State) : (modSq q f s).wire0 = s.wire0 := rfl
@[simp] theorem modSq_wire1 (q : Nat) (f : Sq → Sq) (s : State) : (modSq q f s).wire1 = s.wire1 := rfl

/-! ### modCq -/

@[simp] theorem modCq_pending (c : Nat) (f : Cq → Cq) (s : State) : (modCq c f s).pending = s.pending := rfl
@[simp] theorem modCq_regs (c : Nat) (f : Cq → Cq) (s : State) : (modCq c f s).regs = s.regs := rfl
@[simp] theorem modCq_proc (c : Nat) (f : Cq → Cq) (s : State) : (modCq c f s).proc = s.proc := rfl
@[simp] theorem modCq_engs (c : Nat) (f : Cq → Cq) (s : State) : (modCq c f s).engs = s.engs := rfl
@[simp] theorem modCq_ports (c : Nat) (f : Cq → Cq) (s : State) : (modCq c f s).ports = s.ports := rfl
@[simp] theorem modCq_lines (c : Nat) (f : Cq → Cq) (s : State) : (modCq c f s).lines = s.lines := rfl
@[simp] theorem modCq_txa (c : Nat) (f : Cq → Cq) (s : State) : (modCq c f s).txa = s.txa := rfl
@[simp] theorem modCq_txb (c : Nat) (f : Cq → Cq) (s : State) : (modCq c f s).txb = s.txb := rfl
@[simp] theorem modCq_mesh (c : Nat) (f : Cq → Cq) (s : State) : (modCq c f s).mesh = s.mesh := rfl
@[simp] theorem modCq_time (c : Nat) (f : Cq → Cq) (s : State) : (modCq c f s).time = s.time := rfl
@[simp] theorem modCq_wings (c : Nat) (f : Cq → Cq) (s : State) : (modCq c f s).wings = s.wings := rfl
@[simp] theorem modCq_sec (c : Nat) (f : Cq → Cq) (s : State) : (modCq c f s).sec = s.sec := rfl
@[simp] theorem modCq_pair (c : Nat) (f : Cq → Cq) (s : State) : (modCq c f s).pair = s.pair := rfl
@[simp] theorem modCq_board (c : Nat) (f : Cq → Cq) (s : State) : (modCq c f s).board = s.board := rfl
@[simp] theorem modCq_upd (c : Nat) (f : Cq → Cq) (s : State) : (modCq c f s).upd = s.upd := rfl
@[simp] theorem modCq_updP (c : Nat) (f : Cq → Cq) (s : State) : (modCq c f s).updP = s.updP := rfl
@[simp] theorem modCq_cfgs (c : Nat) (f : Cq → Cq) (s : State) : (modCq c f s).cfgs = s.cfgs := rfl
@[simp] theorem modCq_pwr (c : Nat) (f : Cq → Cq) (s : State) : (modCq c f s).pwr = s.pwr := rfl
@[simp] theorem modCq_wire0 (c : Nat) (f : Cq → Cq) (s : State) : (modCq c f s).wire0 = s.wire0 := rfl
@[simp] theorem modCq_wire1 (c : Nat) (f : Cq → Cq) (s : State) : (modCq c f s).wire1 = s.wire1 := rfl

/-! ### modHwq -/

@[simp] theorem modHwq_pending (q : Nat) (f : Hwq → Hwq) (s : State) : (modHwq q f s).pending = s.pending := rfl
@[simp] theorem modHwq_regs (q : Nat) (f : Hwq → Hwq) (s : State) : (modHwq q f s).regs = s.regs := rfl
@[simp] theorem modHwq_proc (q : Nat) (f : Hwq → Hwq) (s : State) : (modHwq q f s).proc = s.proc := rfl
@[simp] theorem modHwq_engs (q : Nat) (f : Hwq → Hwq) (s : State) : (modHwq q f s).engs = s.engs := rfl
@[simp] theorem modHwq_ports (q : Nat) (f : Hwq → Hwq) (s : State) : (modHwq q f s).ports = s.ports := rfl
@[simp] theorem modHwq_lines (q : Nat) (f : Hwq → Hwq) (s : State) : (modHwq q f s).lines = s.lines := rfl
@[simp] theorem modHwq_txa (q : Nat) (f : Hwq → Hwq) (s : State) : (modHwq q f s).txa = s.txa := rfl
@[simp] theorem modHwq_txb (q : Nat) (f : Hwq → Hwq) (s : State) : (modHwq q f s).txb = s.txb := rfl
@[simp] theorem modHwq_mesh (q : Nat) (f : Hwq → Hwq) (s : State) : (modHwq q f s).mesh = s.mesh := rfl
@[simp] theorem modHwq_time (q : Nat) (f : Hwq → Hwq) (s : State) : (modHwq q f s).time = s.time := rfl
@[simp] theorem modHwq_wings (q : Nat) (f : Hwq → Hwq) (s : State) : (modHwq q f s).wings = s.wings := rfl
@[simp] theorem modHwq_sec (q : Nat) (f : Hwq → Hwq) (s : State) : (modHwq q f s).sec = s.sec := rfl
@[simp] theorem modHwq_pair (q : Nat) (f : Hwq → Hwq) (s : State) : (modHwq q f s).pair = s.pair := rfl
@[simp] theorem modHwq_board (q : Nat) (f : Hwq → Hwq) (s : State) : (modHwq q f s).board = s.board := rfl
@[simp] theorem modHwq_upd (q : Nat) (f : Hwq → Hwq) (s : State) : (modHwq q f s).upd = s.upd := rfl
@[simp] theorem modHwq_updP (q : Nat) (f : Hwq → Hwq) (s : State) : (modHwq q f s).updP = s.updP := rfl
@[simp] theorem modHwq_cfgs (q : Nat) (f : Hwq → Hwq) (s : State) : (modHwq q f s).cfgs = s.cfgs := rfl
@[simp] theorem modHwq_pwr (q : Nat) (f : Hwq → Hwq) (s : State) : (modHwq q f s).pwr = s.pwr := rfl
@[simp] theorem modHwq_wire0 (q : Nat) (f : Hwq → Hwq) (s : State) : (modHwq q f s).wire0 = s.wire0 := rfl
@[simp] theorem modHwq_wire1 (q : Nat) (f : Hwq → Hwq) (s : State) : (modHwq q f s).wire1 = s.wire1 := rfl

/-! ### modTx -/

@[simp] theorem modTx_txa (f : Tx → Tx) (s : State) : (modTx .a f s).txa = f s.txa := rfl
@[simp] theorem modTx_txb (f : Tx → Tx) (s : State) : (modTx .b f s).txb = f s.txb := rfl
@[simp] theorem modTx_txa_other (f : Tx → Tx) (s : State) : (modTx .b f s).txa = s.txa := rfl
@[simp] theorem modTx_txb_other (f : Tx → Tx) (s : State) : (modTx .a f s).txb = s.txb := rfl
@[simp] theorem modTx_pending (c : Chain) (f : Tx → Tx) (s : State) : (modTx c f s).pending = s.pending := by cases c <;> rfl
@[simp] theorem modTx_regs (c : Chain) (f : Tx → Tx) (s : State) : (modTx c f s).regs = s.regs := by cases c <;> rfl
@[simp] theorem modTx_proc (c : Chain) (f : Tx → Tx) (s : State) : (modTx c f s).proc = s.proc := by cases c <;> rfl
@[simp] theorem modTx_engs (c : Chain) (f : Tx → Tx) (s : State) : (modTx c f s).engs = s.engs := by cases c <;> rfl
@[simp] theorem modTx_ports (c : Chain) (f : Tx → Tx) (s : State) : (modTx c f s).ports = s.ports := by cases c <;> rfl
@[simp] theorem modTx_lines (c : Chain) (f : Tx → Tx) (s : State) : (modTx c f s).lines = s.lines := by cases c <;> rfl
@[simp] theorem modTx_mesh (c : Chain) (f : Tx → Tx) (s : State) : (modTx c f s).mesh = s.mesh := by cases c <;> rfl
@[simp] theorem modTx_time (c : Chain) (f : Tx → Tx) (s : State) : (modTx c f s).time = s.time := by cases c <;> rfl
@[simp] theorem modTx_hif (c : Chain) (f : Tx → Tx) (s : State) : (modTx c f s).hif = s.hif := by cases c <;> rfl
@[simp] theorem modTx_wings (c : Chain) (f : Tx → Tx) (s : State) : (modTx c f s).wings = s.wings := by cases c <;> rfl
@[simp] theorem modTx_sec (c : Chain) (f : Tx → Tx) (s : State) : (modTx c f s).sec = s.sec := by cases c <;> rfl
@[simp] theorem modTx_pair (c : Chain) (f : Tx → Tx) (s : State) : (modTx c f s).pair = s.pair := by cases c <;> rfl
@[simp] theorem modTx_board (c : Chain) (f : Tx → Tx) (s : State) : (modTx c f s).board = s.board := by cases c <;> rfl
@[simp] theorem modTx_upd (c : Chain) (f : Tx → Tx) (s : State) : (modTx c f s).upd = s.upd := by cases c <;> rfl
@[simp] theorem modTx_updP (c : Chain) (f : Tx → Tx) (s : State) : (modTx c f s).updP = s.updP := by cases c <;> rfl
@[simp] theorem modTx_cfgs (c : Chain) (f : Tx → Tx) (s : State) : (modTx c f s).cfgs = s.cfgs := by cases c <;> rfl
@[simp] theorem modTx_pwr (c : Chain) (f : Tx → Tx) (s : State) : (modTx c f s).pwr = s.pwr := by cases c <;> rfl
@[simp] theorem modTx_wire0 (c : Chain) (f : Tx → Tx) (s : State) : (modTx c f s).wire0 = s.wire0 := by cases c <;> rfl
@[simp] theorem modTx_wire1 (c : Chain) (f : Tx → Tx) (s : State) : (modTx c f s).wire1 = s.wire1 := by cases c <;> rfl

end Sys2Proof.Machine
end

