-- ==== Sys2Proof/Machine/Balls.lean ====
section
/-! DEFINITION. The output balls (R589, R591, R593, R610): what the device shows on each in a state, at the stamp of TB0.
Ticks of the lead lines (R488) and data on the serial links, the flash and the stage door pass within a command and are
no level of a state. -/

namespace Sys2Proof.Machine

/-- What stands on a ball. -/
inductive BallLevel where
  | off                    -- high-impedance, no pull
  | pulledLow              -- high-impedance with the internal pull-down
  | low
  | high
  | steps (n : Nat)        -- n × 1.8 V / 1,023
  | radiating              -- an RF output with its curtain up
  | outputOff              -- an RF output with its curtain down
  | idle                   -- electrical idle
  | link                   -- an enabled serial link
  deriving DecidableEq, Repr

/-- The output balls of R589 and R591; the role balls AE20 to AE25 by number 0 to 5. -/
inductive Ball where
  | rfout (c : Chain)
  | paen (c : Chain)
  | pactl (c : Chain)
  | coexReq (m : Fin 4)
  | coexPri
  | tpulse (i : Fin 8)
  | role (n : Fin 6)
  | xspiCs
  | xspiClk
  | xspiDq (n : Fin 8)
  | mgtMiso
  | tdo
  | peTx
  | ethTx (eth1 : Bool)
  deriving DecidableEq, Repr

/-- A driven level. -/
def drive (b : Bool) : BallLevel := if b then .high else .low

/-- PAIR_HB_OUT: a pulse from the cue start on (R487). -/
def heartbeatHigh (s : State) : Bool :=
  s.pair.hbOut != 0 && decide (sdiff64 s.time.tb0 (plus s.proc.cueStart (s.pair.hbOut * usTicks)) < 0)

/-- A TPULSE ball: low without a program; the inactive level in Retention (R593). -/
def tpulseLevel (s : State) (i : Nat) : BallLevel :=
  match (pin s i).prog with
  | none => .low
  | some q => drive (q.activeLow != ((pin s i).active && s.pwr.mode != .retention))

/-- A role ball while the device processes (R487, R488, R591); an input shows nothing, a lead line before the first
decision neither. -/
def roleLevel (s : State) (n : Nat) : BallLevel :=
  let lead (l : Option Bool) : BallLevel := match l with
    | some b => drive b
    | none => .off
  match s.pair.mode, n with
  | 1, 0 => drive (s.proc.processing && heartbeatHigh s)
  | 1, 1 => drive (isFit s)
  | 1, 2 => .off
  | 2, 2 => lead s.pair.lineA
  | 2, 5 => lead s.pair.lineB
  | _, 2 => .off
  | _, 5 => .off
  | _, _ => .pulledLow

/-- The balls from reset to processing start (R593). -/
def startBall (b : Ball) : BallLevel :=
  match b with
  | .rfout _ => .outputOff
  | .paen _ | .coexReq _ | .coexPri | .tpulse _ => .pulledLow
  | .pactl _ => .steps 0
  | .role n => if n.val = 2 ∨ n.val = 5 then .off else .pulledLow
  | .xspiCs => .high
  | .xspiClk | .xspiDq _ => .low
  | .mgtMiso | .tdo => .off
  | .peTx | .ethTx _ => .idle

/-- The balls in Full, Quiet and Retention (R593). -/
def runBall (s : State) (b : Ball) : BallLevel :=
  let full := s.pwr.mode == .full
  match b with
  | .rfout c => if full && curtainUp (tx s c) then .radiating else .outputOff
  | .paen c => drive (full && (tx s c).paen)
  | .pactl c => .steps (if s.pwr.mode = .retention then 0 else pactlLevel s c)
  | .coexReq m => drive (full && (coexReq s).getLsbD m.val)
  | .coexPri => drive (full && coexPri s)
  | .tpulse i => tpulseLevel s i.val
  | .role n => roleLevel s n.val
  | .xspiCs => .high
  | .xspiClk | .xspiDq _ => .low
  | .mgtMiso | .tdo => .off
  | .peTx => if s.pwr.mode = .retention then .idle else .link
  | .ethTx e => if s.pwr.mode ≠ .retention ∧ rbit s (ethCfg e) 0 = true then .link else .idle

/-- What stands on a ball (R593); with VIN absent every ball is off (R610). -/
def ballLevel (s : State) (b : Ball) : BallLevel :=
  match s.pwr.mode with
  | .off | .keepOnly => .off
  | .startup => startBall b
  | _ => runBall s b

end Sys2Proof.Machine
end

