-- ==== Sys2Proof/Tests/Base.lean ====
section
/-! SUPPORT. Small states and operands that the tests and witnesses share: a unit in processing whose engines
have budget, and a latched submission entry with every field 0. -/

namespace Sys2Proof.Tests
open Sys2Proof.Machine

/-- A Solo unit in the Work of cue 5. -/
def live : State :=
  { proc := { processing := true, hkDone := false, phase := .work, cueNow := 5, procCue := 5, lastCue := 4, itemCue := 5 }
    engs := (List.range 12).map fun e => (e, { left := 100000, hkLeft := 100000 })
    board := { scanned := true }
    pwr := { mode := .full, vin := true, rom := true, bootDone := true } }

/-- The same unit with processing stopped. -/
def still : State := modProc (fun p => { p with processing := false }) live

/-- A member of a pair in a role. -/
def inRole (r : Nat) : State := modPair (fun p => { p with mode := 1, role := r, rxSess := some 7 }) live

/-- A submission entry of ring 0 with every other field 0. -/
def sub : Sub :=
  { ring := 0, flags := 0, length := 0, tag := 0, bufAddr := 0, bufLen := 0, target := 0
    params := List.replicate 32 0, data := [], accept := 4, aside := false }

/-- Parameter bytes from entry offset `o` (32 to 63) on. -/
def par (o : Nat) (l : List Nat) (c : Sub) : Sub :=
  let b := l.map fun x => BitVec.ofNat 8 x
  { c with params := c.params.take (o - 32) ++ b ++ c.params.drop (o - 32 + b.length) }

/-- A buffer to read with its bytes. -/
def buf (l : List Byte) (c : Sub) : Sub := { c with length := l.length, bufLen := l.length, data := l }

/-- A configuration record in effect. -/
def withCfg (t : Nat) (b : List Byte) (s : State) : State :=
  { s with cfgs := smSet {} s.cfgs t { bytes := b, gen := 1 } }

/-- Bytes of a record: values at offsets over zeros. -/
def recBytes (n : Nat) (l : List (Nat × Nat × Nat)) : List Byte :=
  l.foldl (fun b x => b.take x.1 ++ le x.2.1 x.2.2 ++ b.drop (x.1 + x.2.1)) (List.replicate n 0)

/-- A mesh record: PAN 0 and the Grand network on channel 0, two plan entries, one beacon and one flood entry. -/
def meshBytes : List Byte :=
  recBytes 740 [(0, 4, 0x1234), (12, 1, 0), (15, 1, 4), (16, 2, 8192), (22, 2, 16384), (24, 1, 1), (28, 2, 1024), (32, 2, 8192),
    (34, 1, 4), (36, 1, 3), (56, 1, 2), (57, 1, 2), (58, 1, 10), (59, 1, 255), (64, 1, 1), (68, 2, 100), (70, 2, 4096),
    (192, 4, 0x03010001), (208, 4, 0x01010002), (704, 8, 868000000), (712, 4, 0x400), (718, 1, 0x10),
    (720, 8, 869000000), (728, 4, 0x400), (734, 1, 0x10)]

/-- The live unit with that mesh. -/
def meshed : State := withCfg 1 meshBytes live

/-- That unit with one active Grand node, index 8. -/
def noded : State := modNode 8 (fun n => { n with st := .active, grand := true, eui := 0xE8, caps := 0x1F }) meshed

/-- The words of some registers. -/
def regsAt (l : List (Nat × Word32)) (s : State) : State := l.foldl (fun s x => setReg x.1 x.2 s) s

/-- Ring 63 of a kind enabled, with 16 entries. -/
def ringOn (r : Nat) (s : State) : State := setReg (r + 0x20 * 63) 9 s

/-- Ring 63 with one entry to fetch and room for its completion. -/
def fetching : State := modSq 63 (fun x => { x with tail := 1 }) (ringOn rHifSqCfg (ringOn rHifCqCfg live))

/-- A Tour that asks for block 3. -/
def tour1 : Tour :=
  { id := 1, round := 1, scope := 1, grand := true, mic16 := false, flog := 6, ttl := 1, caps := 0, limit := 5, silent := 1
    applyAt := 0, hash := [], length := 1, blocks := 4, need := [3], nextNeed := [], frags := [], pos := 0, asked := 1
    announce := false, sub := sub, nodes := [8], ending := none, taken := 4 }

/-- The unit with that Tour in progress. -/
def touring : State := modUpd (fun u => { u with tour := some tour1 }) noded

/-- Recovery, with the stage door served. -/
def recov : State := modHif (fun h => { h with recovery := true }) live

/-- ROOT programmed, with octets 0. -/
def rooted : State := modSec (fun x => { x with fuses := { x.fuses with root := some (List.replicate 16 0) } }) live

/-- A unit that has booted and whose START is set. -/
def starting : State := setReg rSysCtl 1 still

/-- The update-end entry of an IMAGE_STAGE with an outcome. -/
def staged (outcome : Nat) : UpdEnd := { ring := 0, opcode := 0x80, outcome := outcome, step := 0, bytes := 0, tag := 0 }

/-- A roll from cue 0 with some steps done. -/
def roll1 (step : Nat) : Roll :=
  { cue := 0, sub := some sub, step := step, version := 2, rclass := 0, ends := [], old := ⟨0, 0, false, 0, 0, 1, 0⟩ }

/-- A roll in cue `c`. -/
def rolling (c : CueNo) (step : Nat) : State :=
  modProc (fun p => { p with procCue := c }) (modUpd (fun u => { u with roll := some (roll1 step) }) live)

/-- A valid descriptor. -/
def desc1 : List Byte :=
  let b := le 2 0x5A46 ++ List.replicate 28 0
  b ++ le 2 (crc16 b).toNat

/-- A request of chain B for a start stamp at cue 10. -/
def req1 : TxReq :=
  { chain := .b, start := 1024000000, carrier := 4800000000, offset := 0, power := 0, pers := 0x30, tag := 0, phy := 0, length := 5
    ramps := 0, flags := 0, frameAddr := 0, seq := 0, origin := 9, frame := [] }

/-- A listening window of cue 10. -/
def win1 : Window := { start := 1024000000, endStamp := 1024100000, nco := 0, port := 3, bw := 6, pers := 0x10, id := 7 }

/-- Line 95 enabled on port 3 for FSK. -/
def detecting : State :=
  modLine 95 (fun l => { l with en := true, port := 3, pers := 0x10 }) (setReg (rxfReg 3 0) 1 live)

/-- One pulse at TB0 1. -/
def pulse1 : Pulse :=
  { base := 0, mode := 1, activeLow := false, notify := true, width := 10, first := 1, period := 102400, count := 1, k := 0 }

/-- A program on TPULSE7. -/
def live2 (p : Pulse) : State := modPin 15 (fun x => { x with prog := some p }) live

/-- A PTP message of domain 0 from clock 9. -/
def ptpM : Ptp :=
  { domain := 0, seqId := 0, source := 9, stamp := -1, seconds := 0, nanos := 0, corr := 0, twoStep := false, logIntv := 0
    prio1 := 0, clkClass := 6, accuracy := 0, variance := 0, prio2 := 0, grand := 9, steps := 0, utc := 0, utcValid := false
    leap61 := false, leap59 := false }

/-- The client follows that clock, and the Stage Manager can spend `n`. -/
def ptpS (n : Nat) : State :=
  modEng 10 (fun e => { e with left := n }) (modPtp (fun x => { x with master := some 9, st := .locked })
    (withCfg 3 (recBytes 64 [(0, 2, 1)]) live))

/-- A Sync that waits for its Follow_Up. -/
def wait0 : SyncWait := ⟨0, 0, none, 0, 0, 4⟩

/-- A good FSK reception outside a window. -/
def rxW (psdu : List Byte) : Reception :=
  { outcome := 0, status := 0, flags := 0, line := 95, port := 3, pers := 0x10, gain := 0, arrival := 0, endStamp := 0
    windowId := 0xFFFFFFFF, offset := 0, rssi := 0, snr := 0, floor := 0, phyInfo := 0, displaced := 0, dispRssi := 0, ext := []
    psdu := psdu }

/-- A frame from link address 0 to router 0x1234, with a type and control bits and no payload yet. -/
def frameHead (ctl : Nat) : List Byte := le 2 (ctl + 2048) ++ [0] ++ le 2 0x1234 ++ le 3 0

/-- Such a frame with its payload and two FCS octets. -/
def plainFrame (typ : Nat) (body : List Byte) : List Byte := frameHead typ ++ body ++ [0, 0]

/-- An audition request of node 1 for any network, at 1 ppm. -/
def auditBody : List Byte := le 8 1 ++ le 2 0 ++ [0, 1] ++ le 2 0 ++ le 2 0

/-- A join request of node 1. -/
def joinBody (poll : Nat) : List Byte := le 8 1 ++ le 2 poll ++ List.replicate 6 0

/-- A join request's frame up to its payload, with an offer element. -/
def offerFrame : List Byte := frameHead (5 + 128) ++ [6, 148] ++ List.replicate 148 0 ++ [0, 0]

/-- A beacon of another router. -/
def beaconFrame : List Byte := le 2 (6 + 64 + 2048) ++ [0] ++ le 2 0x4321 ++ le 3 0xFFFFFF ++ List.replicate 24 0

/-- A flood frame with origin `o`, sequence 3 and TTL 1. -/
def floodBytes (o : Nat) : List Byte := frameHead (1 + 512) ++ le 3 o ++ le 2 3 ++ [1] ++ [0]

/-- A planned window of node 8 on line 95. -/
def wine : WinEnt := ⟨7, 8, 0, 95, 0, false⟩

/-- The meshed unit with node 8 and that window. -/
def winned : State := modMesh (fun m => { m with wins := [wine] }) noded

/-- An uplink of node 8 outside a window. -/
def upl : Uplink :=
  ⟨8, { typ := 1, sec := true, ackReq := false, dir := false, ie := false, more := false, seq := 0, router := 0x1234, link := 8
        body := [] }, [], [], rxW [], none⟩

/-- A peer router with some misses whose beacon was expected `late` ticks ago. -/
def peer1 (misses late : Nat) : Peer :=
  ⟨0x4321, 0, true, 0, 0 - BitVec.ofNat 64 late, 10, 0, 0, 0, misses, 4⟩

/-- The unit with that peer. -/
def peered (misses late : Nat) : State := modMesh (fun m => { m with peers := [peer1 misses late] }) meshed

/-- The meshed unit with a join policy. -/
def policy (n : Nat) : State := withCfg 1 (recBytes 740 [(0, 2, 0x1234), (3, 1, n)]) live

/-- A join of node 1. -/
def join1 : JoinReq :=
  { eui := 1, grand := true, pan := 0, caps := 0, ppm := 1, wanted := 0, slot := 0, nonceN := List.replicate 16 0
    pubKey := ecBytes g256, credSig := List.replicate 64 0, offer := [] }

/-- The Box Office's answer to it. -/
def joinRes : JoinRes :=
  { req := join1, accepted := true, kLink := List.replicate 16 0, keyCheck := [], wrapped := [], nonceR := [], keySeq := 0 }

/-- A downlink of node 8 that ends after cue 4. -/
def down2 : Downlink :=
  { id := 2, cmd := none, dest := 8, payload := [], ack := false, wake := false, coexPri := false, mic16 := false, tries := 1, expiry := 4 }

/-- A member of a pair with its link up. -/
def paired (r : Nat) : State := modPwr (fun p => { p with eth1Up := true }) (inRole r)

/-- The next frame of the partner's session, with its MIC. -/
def hdr1 (m : PairMsg) (s : State) : PairHdr := ⟨7, 1, pairMic ⟨7, 1, m⟩ s⟩

/-- That frame passes where the link is up. -/
theorem taken1 (m : PairMsg) (s : State) (h : (pairOpen s && s.pair.rxSess == some 7 && s.pair.rxCtr == 0) = true) :
    pairTaken (hdr1 m s) m s = true := by
  simp only [Bool.and_eq_true, beq_iff_eq] at h
  simp [pairTaken, hdr1, h.1.1, h.1.2, h.2]

/-- A HELLO of a new session, with its MIC. -/
def hello1 (s : State) : Hello :=
  let h : Hello := ⟨8, 0, 0, 0, 2, 1, []⟩
  { h with mic := pairMic ⟨8, 1, .hello h⟩ s }

/-- Its MIC is good: the MIC covers no MIC. -/
theorem hello1_mic (s : State) :
    (hello1 s).mic = pairMic ⟨(hello1 s).session, (hello1 s).counter, .hello (hello1 s)⟩ s := by
  simp only [hello1, pairMic, pairNonce, pairHeader, pairBody]

/-- A record of 32 bytes of cue 4. -/
def record32 : List Byte := le 2 1 ++ le 2 0 ++ le 4 4 ++ le 4 32 ++ List.replicate 20 0

/-- A Director in a state. -/
def director (d : DirSt) : State := modPair (fun p => { p with mode := 2, role := 7, dir := d }) live

/-- An LPM entry for every address and context. -/
def lpm1 (kind : Nat) : Lpm := ⟨0, 0xFFFF, 0, kind, 0, 0⟩

/-- The unit with that entry. -/
def routed (kind : Nat) : State := modMesh (fun m => { m with lpm := [(0, some (lpm1 kind))] }) live

/-- A packet's ingress. -/
def ingress1 : Ingress := ⟨0, 0, none, 0, 0, 0, 0⟩

/-- A key of 16 zeros, wrapped under the K_inst of a ROOT of zeros (RFC 3394). -/
def blob3 : List Byte :=
  [118, 68, 206, 17, 167, 16, 47, 133, 22, 43, 166, 88, 247, 78, 52, 183, 77, 244, 59, 32, 126, 200, 111, 25]

/-- The scalar 1, wrapped under the same key. -/
def blob1 : List Byte :=
  [134, 1, 157, 9, 161, 172, 128, 44, 24, 65, 134, 114, 37, 126, 185, 251, 131, 177, 46, 240, 173, 230, 24, 158, 233, 159, 233, 5,
    252, 57, 21, 111, 235, 201, 134, 216, 162, 104, 146, 187]

/-- The node of the meshed unit with a link key of zeros, and a current group key of zeros with sequence 1. -/
def linked : State :=
  modSec (fun x => { x with
    fuses := { x.fuses with root := some (List.replicate 16 0) }
    keys := { x.keys with cur := some ⟨blob3, 1⟩ } })
  (modNode 8 (fun n => { n with
    keyed := true, keySeq := 0
    wrapped := [202, 236, 121, 3, 173, 99, 71, 42, 108, 141, 170, 102, 112, 150, 179, 58] }) noded)

/-- A secured uplink of node 8 with no payload: header, security header of counter 1, MIC, FCS. -/
def upRx : Reception :=
  rxW (le 2 (1 + 16 + 2048) ++ [0] ++ le 2 0x1234 ++ le 3 8 ++ [0] ++ le 4 1 ++ [173, 85, 16, 122, 43, 105, 76, 21] ++ [0, 0])

/-- That frame. -/
def upFrame : Frame := (parseFrame (rxFrame upRx)).get (by decide +kernel)

/-- A secured Reply of node 8 without the octets that a Reply has. -/
def shortReply : Reception :=
  rxW (le 2 (2 + 16 + 2048) ++ [0] ++ le 2 0x1234 ++ le 3 8 ++ [0] ++ le 4 1 ++ [243, 113, 61, 162, 157, 242, 164, 61] ++ [0, 0])

/-- That frame. -/
def shortFrame : Frame := (parseFrame (rxFrame shortReply)).get (by decide +kernel)

/-- A flood of router 0x4321 under the group key, with no payload. -/
def floodRx : Reception :=
  rxW (le 2 (1 + 16 + 64 + 512 + 2048) ++ [0] ++ le 2 0x4321 ++ le 3 0 ++ [10] ++ le 4 1 ++ le 3 0x804321 ++ le 2 3 ++ [1] ++
    [78, 85, 87, 106, 240, 222, 24, 83] ++ [0, 0])

/-- That frame. -/
def floodFrame1 : Frame := (parseFrame (rxFrame floodRx)).get (by decide +kernel)

/-- A P-256 key and a signature that verifies under it over the hash of 32 ones and SYS_ID, as octets. -/
def unlockResp : List Byte :=
  be 32 0x3c500de26b55aaf05357add08d352b3a4ebc14d4c1e46a99cfe9c4ecef4063b2 ++
  be 32 0xe35f67fd343673c521fb7c19b42ff4e7edadc33cf86cc809d4e5ac0e981e1088 ++
  be 32 0xefac6a23f675e72489aee283bf6da4cce77ee6ef00e12cf577d9b279f01964c ++
  be 32 0xefac6a23f675e72489aee283bf6da4cce77ee6ef00e12cf577d9b279f01964c

/-- A unit whose debug unlock that response passes. -/
def challenged : State :=
  modSec (fun x => { x with
    chal := List.replicate 32 1
    chalUsed := false
    resp := (List.range 32).foldl (fun m i => smSet 0 m i (w32 (leNat (slice unlockResp (4 * i) 4)))) x.resp
    fuses := { x.fuses with dbg := 1, dbgHash := sha256 (unlockResp.take 64) } }) still

/-- The join of node 4, with a credential of issuer slot 0. -/
def joinSigned : JoinReq :=
  { join1 with
    eui := 4
    credSig := be 32 0xe13aaaa84dd1bca24582f32b9996388ed5c3e6e53eafd06357df80e882a9a804 ++
      be 32 0xe13aaaa84dd1bca24582f32b9996388ed5c3e6e53eafd06357df80e882a9a804 }

/-- A unit whose issuer slot 0 is in use, with the key that credential verifies under. -/
def issued : State :=
  modSec (fun x => { x with
    keys := { x.keys with issuers := smSet [] x.keys.issuers 0 (
      be 32 0x4b3990b1053317050a7cba88dde4b9683cde5d08f184dfefd50644c7ea6ae964 ++
      be 32 0x8c7de435a85e38d26b7c45db205a84812913203a58a091c30d21ae9b60c55bc8) } }) rooted

/-- An image whose checks all pass. -/
def image1 : ImageIn :=
  { magicOk := true, keyOk := true, keySlot := 0, revoke := 0, sigOk := true, secVersion := 1, hashesOk := true, steppings := [] }

/-- A bundle with that manifest and no requirement. -/
def bundle1 : BundleInfo := { version := 1, rclass := 0, versions := [], requires := [], kinds := [], image := image1 }

/-- What the ROM reads of that image in the boot block and in both slots. -/
def verify1 : VerifyIn :=
  { octal := true, bootBlock := image1, imageA := image1, imageB := image1, bundleA := 1, classA := 0, bundleB := 1, classB := 0 }

end Sys2Proof.Tests
end

