-- ==== Sys2Proof/Tests/Keys.lean ====
section
/-! SUPPORT. Frames and blobs that open under keys of the test states, evaluated once for the witnesses. -/

namespace Sys2Proof.Tests
open Sys2Proof.Machine

set_option maxRecDepth 100000
set_option Elab.async false

/-! ### Blobs -/

theorem kInst_linked :
    kInst linked = [163, 252, 93, 189, 74, 223, 233, 25, 48, 161, 63, 157, 65, 231, 240, 12] := by decide +kernel

theorem blob3_key : keyUnwrap [163, 252, 93, 189, 74, 223, 233, 25, 48, 161, 63, 157, 65, 231, 240, 12] blob3 =
    some (List.replicate 16 0) := by
  rw [keyUnwrap_look]; decide +kernel

theorem blob1_key : keyUnwrap [163, 252, 93, 189, 74, 223, 233, 25, 48, 161, 63, 157, 65, 231, 240, 12] blob1 =
    some (List.replicate 31 0 ++ [1]) := by
  rw [keyUnwrap_look]; decide +kernel

/-! ### Frames -/

theorem linkKey_linked : linkKey linked 8 = List.replicate 16 0 := by
  unfold linkKey; rw [aesDec_look]; decide +kernel

theorem open_upFrame : openFrame (List.replicate 16 0) (linkSource 0xE8) upFrame = some [] := by
  unfold openFrame; rw [ccmMic_look]; decide +kernel

theorem open_floodFrame : openFrame (List.replicate 16 0) (groupSource 0x804321) floodFrame1 = some [] := by
  unfold openFrame; rw [ccmMic_look]; decide +kernel

theorem linkKey_charge (e n i : Nat) (s : State) : linkKey (charge e n s) i = linkKey s i := rfl

/-- A frame opens from a node when its key, its counter and its MIC are good. -/
theorem openFrom_of {s : State} {i : Nat} {f : Frame} {k src p : List Byte} {h b : Word32}
    (hk : nodeKey s i f = some (k, src)) (hr : replayTake (node s i).win (node s i).bits (BitVec.ofNat 32 f.ctr) = some (h, b))
    (ho : openFrame k src f = some p) : openFrom s i f = .inl (p, h, b) := by
  simp only [openFrom, hk, hr, ho]

theorem nodeKey_of {s : State} {i : Nat} {f : Frame} {k src : List Byte} (h1 : f.group = false)
    (h2 : ((node s i).keyed && (node s i).keySeq == f.keySeq) = true) (h3 : linkKey s i = k)
    (h4 : linkSource (node s i).eui = src) : nodeKey s i f = some (k, src) := by
  simp only [nodeKey, h1, h2, h3, h4, if_true, Bool.false_eq_true, if_false]

theorem groupKeyOf_of {s : State} {g : GroupKey} {k x : List Byte} (h1 : kInst s = k) (h2 : keyUnwrap k g.wrapped = some x) :
    groupKeyOf s g = x := by
  simp only [groupKeyOf, h1, h2, Option.getD_some]

/-- A flood frame opens under a group key when its origin is no node. -/
theorem openFlood_of {s : State} {f : Frame} {o : Nat} {g : GroupKey} {k p : List Byte} (h1 : nodeByAddr s o = none)
    (h2 : f.group = true) (h3 : groupKeyBySeq s f.keySeq = some g) (h4 : groupKeyOf s g = k)
    (h5 : openFrame k (groupSource (groupOrigin f)) f = some p) : openFlood s f o = .inl (p, none) := by
  simp only [openFlood, h1, h2, h3, h4, h5, if_true]

theorem open_linked : openFrom linked 8 upFrame = .inl ([], 1, 1) :=
  openFrom_of (nodeKey_of (by decide +kernel) (by decide +kernel) linkKey_linked (by decide +kernel)) (by decide +kernel)
    open_upFrame

theorem open_short : openFrom linked 8 shortFrame = .inl ([], 1, 1) :=
  openFrom_of (k := List.replicate 16 0) (src := linkSource 0xE8)
    (nodeKey_of (by decide +kernel) (by decide +kernel) linkKey_linked (by decide +kernel)) (by decide +kernel)
    (by unfold openFrame; rw [ccmMic_look]; decide +kernel)

theorem open_charged : openFrom (charge 0 60 linked) 8 upFrame = .inl ([], 1, 1) :=
  openFrom_of (nodeKey_of (by decide +kernel) (by decide +kernel) ((linkKey_charge _ _ _ _).trans linkKey_linked)
    (by decide +kernel)) (by decide +kernel) open_upFrame

theorem openFlood_linked : openFlood linked floodFrame1 0x804321 = .inl ([], none) :=
  openFlood_of (g := ⟨blob3, 1⟩) (by decide +kernel) (by decide +kernel) (by decide +kernel)
    (groupKeyOf_of kInst_linked blob3_key) open_floodFrame

/-! ### Powers -/

/-- Whatever the calibration: 6 dB more at the converter are 6 dB more in the air. -/
theorem lineDbm_above : lineDbm detecting (line detecting 95) 0 + 100 * 6 ≤ lineDbm detecting (line detecting 95) 600 := by
  simp only [lineDbm]; omega

/-! ### Acceptance -/

/-- An uplink is accepted when its node is known, it is secured towards this router, it opens and its elements
parse. -/
theorem acceptUplink_of {rx : Reception} {s : State} {f : Frame} {i : Nat} {p q : List Byte} {es : List (Nat × List Byte)}
    {h b : Word32} (h1 : parseFrame (rxFrame rx) = some f) (h2 : nodeByAddr s (uplinkNode f) = some i)
    (h3 : (!f.sec || f.dir || f.router != routerId s) = false) (h4 : openFrom s i f = .inl (p, h, b))
    (h5 : splitBody f p = some (es, q)) (h6 : (es.all elemOk && payloadOk f.typ q) = true) :
    acceptUplink rx s = (some ⟨i, f, es, q, rx, winOf s rx⟩, takeCounter i f h b s) := by
  simp only [acceptUplink, h1, h2, h3, h4, h5, h6, Bool.false_eq_true, if_false, if_true]

theorem accept_charged : acceptUplink upRx (charge 0 60 linked) =
    (some ⟨8, upFrame, [], [], upRx, winOf (charge 0 60 linked) upRx⟩, takeCounter 8 upFrame 1 1 (charge 0 60 linked)) :=
  acceptUplink_of (by decide +kernel) (by decide +kernel) (by decide +kernel) open_charged (by decide +kernel) (by decide +kernel)

theorem owner_upRx : rxOwner linked upRx = 0 := by decide +kernel

theorem cost_upRx : rxCost linked upRx = 60 := by decide +kernel

theorem accept_rx : acceptUplink upRx (charge (rxOwner linked upRx) (rxCost linked upRx) linked) =
    (some ⟨8, upFrame, [], [], upRx, winOf (charge 0 60 linked) upRx⟩, takeCounter 8 upFrame 1 1 (charge 0 60 linked)) := by
  rw [owner_upRx, cost_upRx]; exact accept_charged

/-! ### Keys to install -/

/-- The install of the group key of sequence 2 with a lead of one Scene. -/
def install3 : Sub := par 32 [3, 0, 2, 1] (buf blob3 sub)

/-- The install of a router key. -/
def install1 : Sub := par 32 [1] (buf blob1 sub)

/-- The unit whose ROOT is zeros, before any group key, that goes on from sequence 1 when `cur` says so. -/
def keyless : State := modSec (fun x => { x with keys := { x.keys with cur := none } }) linked

theorem kInst_keyless :
    kInst keyless = [163, 252, 93, 189, 74, 223, 233, 25, 48, 161, 63, 157, 65, 231, 240, 12] := by decide +kernel

/-- The judgements of R378 one by one. -/
theorem ready_of {k : CmdSpec} {c : Sub} {s : State}
    (h1 : (!c.aside && canTake s (k.engine c s) (k.cost c s)) = true)
    (h2 : (isUnderstudy s && c.aside && !k.aside) = false) (h3 : fetchFailed c = false)
    (h4 : (!(flagsOk c && bufOk k.use c && k.static c) || (c.target != 0 && decide (65536 < targetDiff c))) = false)
    (h5 : k.wrong c s = false) (h6 : (c.target != 0 && decide (targetDiff c < 0)) = false)
    (h7 : tagOf s c = none) (h8 : k.check c s = none) (h9 : mustHold c s = false) : ready k c s = true := by
  have hj : judged k c s = none := by
    simp only [judged, h2, h3, h4, h5, h6, h9, Bool.false_eq_true, if_false, Bool.false_and]
  have hc : cmdCost k c s = k.cost c s := by
    simp only [cmdCost, hj, h7, h8, h9, cheap, Option.isSome_none, Option.any_none]
    rfl
  rw [ready, hc, h1, clears, hj, h7, h8, h9]
  rfl

theorem keyCheckSt_of {c : Sub} {s : State} {x : List Byte} (h1 : blobBad c s = false) (h2 : blobKey c s = some x) :
    keyCheckSt c s = none := by
  simp only [keyCheckSt, h1, h2, Bool.false_eq_true, if_false, Option.isNone_some, and_false]

theorem blobBad_one {c : Sub} {s : State} {d : List Byte} (h1 : pU c 32 1 = 1) (h2 : blobKey c s = some d)
    (h3 : (beNat d == 0 || decide (n256 ≤ beNat d)) = false) : blobBad c s = false := by
  simp only [blobBad, h1, h2, h3, Bool.and_false]

theorem keyWrong_one {c : Sub} {s : State} (h1 : s.sec.fuses.root.isNone = false) (h2 : (pU c 32 1 == 3) = false) :
    keyWrong c s = false := by
  simp only [keyWrong, h1, h2, Bool.false_and, Bool.or_false, Bool.and_false]

theorem blobKey_of {c : Sub} {s : State} {k b x : List Byte} (h1 : kInst s = k) (h2 : c.data = b) (h3 : keyUnwrap k b = some x) :
    blobKey c s = some x := by
  simp only [blobKey, h1, h2, h3]

theorem install_check (c : Sub) (s : State) : cmdKeyInstall.check c s = keyCheckSt c s := rfl

theorem install_wrong (c : Sub) (s : State) : cmdKeyInstall.wrong c s = keyWrong c s := rfl

theorem check_first : keyCheckSt install3 keyless = none :=
  keyCheckSt_of (c := install3) (s := keyless) (by decide +kernel) (blobKey_of kInst_keyless (by decide +kernel) blob3_key)

theorem check_next : keyCheckSt install3 linked = none :=
  keyCheckSt_of (c := install3) (s := linked) (by decide +kernel) (blobKey_of kInst_linked (by decide +kernel) blob3_key)

theorem blobKey_one : blobKey install1 linked = some (List.replicate 31 0 ++ [1]) :=
  blobKey_of kInst_linked (by decide +kernel) blob1_key

theorem blob_one_good : blobBad install1 linked = false :=
  blobBad_one (c := install1) (s := linked) (by decide +kernel) blobKey_one (by decide +kernel)

theorem check_router : keyCheckSt install1 linked = none := keyCheckSt_of blob_one_good blobKey_one

theorem wrong_router : keyWrong install1 linked = false :=
  keyWrong_one (c := install1) (s := linked) (by decide +kernel) (by decide +kernel)

theorem ready_install_first : ready cmdKeyInstall install3 keyless = true :=
  ready_of (k := cmdKeyInstall) (c := install3) (s := keyless) (by decide +kernel) (by decide +kernel) (by decide +kernel)
    (by decide +kernel) (by decide +kernel) (by decide +kernel) (by decide +kernel) ((install_check _ _).trans check_first) (by decide +kernel)

theorem ready_install_next : ready cmdKeyInstall install3 linked = true :=
  ready_of (k := cmdKeyInstall) (c := install3) (s := linked) (by decide +kernel) (by decide +kernel) (by decide +kernel)
    (by decide +kernel) (by decide +kernel) (by decide +kernel) (by decide +kernel) ((install_check _ _).trans check_next) (by decide +kernel)

theorem ready_install_router : ready cmdKeyInstall install1 linked = true :=
  ready_of (k := cmdKeyInstall) (c := install1) (s := linked) (by decide +kernel) (by decide +kernel) (by decide +kernel)
    (by decide +kernel) ((install_wrong _ _).trans wrong_router) (by decide +kernel) (by decide +kernel) ((install_check _ _).trans check_router) (by decide +kernel)

end Sys2Proof.Tests
end

