-- ==== Sys2Proof/Tests/Slice0.lean ====
section
/-! SUPPORT. The model's own tests: a term that each check of WellFormed refuses, published vectors of the
standards the manual names, the manual's worked examples, and one step of commands of every family. -/

namespace Sys2Proof.Tests
open Sys2Proof.Machine

set_option maxRecDepth 100000
set_option Elab.async false

/-- The next state of an outcome; the reset state when there is none. -/
def after (o : Host.Outcome State Fault Refusal) : State :=
  match o with
  | .next s => s
  | _ => State.reset

/-- The engines' last output of this cue. -/
def lastOut (s : State) : Option (Nat × Out) := s.proc.outs.getLast?

/-- A bundle whose manifest lists six components. -/
def bundle6 : BundleInfo := { bundle1 with versions := List.replicate 6 0, requires := List.replicate 6 (List.replicate 6 0) }

/-! ### WellFormed refuses -/

theorem test_wf_sub_ring : wellFormed (.nop { sub with ring := 64 }) = false := by decide +kernel
theorem test_wf_sub_params : wellFormed (.nop { sub with params := [] }) = false := by decide +kernel
theorem test_wf_selftest_fails : wellFormed (.selftestRun sub 65536) = false := by decide +kernel
theorem test_wf_cue_draw : wellFormed (.cue { draw := List.replicate 31 0, meas := [], tPit := 0, tStage := 0, replay := [] }) = false := by decide +kernel
theorem test_wf_cue_port : wellFormed (.cue { draw := List.replicate 32 0, meas := [⟨4, true, 0, 0⟩], tPit := 0, tStage := 0, replay := [] }) = false := by decide +kernel
theorem test_wf_firstLive_draw : wellFormed (.firstLiveCue { draw := List.replicate 0 0, meas := [], tPit := 0, tStage := 0, replay := [] }) = false := by decide +kernel
theorem test_wf_ecc_bank : wellFormed (.workPhase [.error ⟨98, 0, 0, 0, false, false, .scrubber, 0⟩]) = false := by decide +kernel
theorem test_wf_ecc_bit : wellFormed (.housekeepingPhase [.error ⟨0, 0, 0, 72, false, false, .scrubber, 0⟩]) = false := by decide +kernel
theorem test_wf_ecc_row : wellFormed (.workPhase [.error ⟨0, 2048, 0, 0, false, false, .scrubber, 0⟩]) = false := by decide +kernel
theorem test_wf_ecc_word : wellFormed (.workPhase [.error ⟨0, 0, 16, 0, false, false, .scrubber, 0⟩]) = false := by decide +kernel
theorem test_wf_collision : wellFormed (.workPhase [.collision 98 .image]) = false := by decide +kernel
theorem test_wf_word : wellFormed (.workPhase [.write 0x1800000 0]) = false := by decide +kernel
theorem test_wf_atomic : wellFormed (.workPhase [.atomicAdd .scrubber 0x1800000 .word 1]) = false := by decide +kernel
theorem test_wf_bar4_read : wellFormed (.workPhase [.bar4Read 0x800000]) = false := by decide +kernel
theorem test_wf_queue : wellFormed (.workPhase [.queueRewind 256]) = false := by decide +kernel
theorem test_wf_updEnd_ring : wellFormed (.updateEnd { staged 0 with ring := 64 }) = false := by decide +kernel
theorem test_wf_updEnd_opcode : wellFormed (.flashOperationEnd { staged 0 with opcode := 65536 }) = false := by decide +kernel
theorem test_wf_bundle_versions : wellFormed (.imageVerify sub { bundle6 with versions := [] }) = false := by decide +kernel
theorem test_wf_bundle_requires : wellFormed (.imageVerify sub { bundle6 with requires := List.replicate 6 [] }) = false := by decide +kernel
theorem test_wf_bundle_image : wellFormed (.imageVerify sub { bundle6 with image := { image1 with keySlot := 4 } }) = false := by decide +kernel
theorem test_wf_tourBlock : wellFormed (.tourBlock 65536 true []) = false := by decide +kernel
theorem test_wf_fetch_ring : wellFormed (.submissionFetch 64) = false := by decide +kernel
theorem test_wf_fetch_entry : wellFormed (.fetchComplete 0 .ok [] []) = false := by decide +kernel
theorem test_wf_doorbell_ring : wellFormed (.submissionDoorbell 64 0) = false := by decide +kernel
theorem test_wf_doorbell_value : wellFormed (.completionDoorbell 0 4294967296) = false := by decide +kernel
theorem test_wf_eventDoorbell : wellFormed (.eventDoorbell 4294967296) = false := by decide +kernel
theorem test_wf_vector : wellFormed (.vectorHoldExpiry ⟨64, 0⟩) = false := by decide +kernel
theorem test_wf_unmask : wellFormed (.msixUnmask 64) = false := by decide +kernel
theorem test_wf_bar4 : wellFormed (.bar4Write 33554432 0) = false := by decide +kernel
theorem test_wf_register : wellFormed (.registerWrite 1048576 0) = false := by decide +kernel
theorem test_wf_newChal : wellFormed (.newChal []) = false := by decide +kernel
theorem test_wf_boot_image : wellFormed (.boot [] { image1 with secVersion := 65 }) = false := by decide +kernel
theorem test_wf_lane_up : wellFormed (.laneError false 33) = false := by decide +kernel
theorem test_wf_lane_down : wellFormed (.lanePatternTestEnd true 5 true) = false := by decide +kernel
theorem test_wf_bins : wellFormed (.spotlightSummary 0 (List.replicate 4097 0) [] [1] 0) = false := by decide +kernel
theorem test_wf_bin_count : wellFormed (.spotlightSummary 0 [] [] [1] 1001) = false := by decide +kernel
theorem test_wf_block : wellFormed (.sampleBlockCrcFail ⟨0, 16383⟩) = false := by decide +kernel
theorem test_wf_pin : wellFormed (.pinCapture ⟨8, 0, true, 0, 0⟩) = false := by decide +kernel
theorem test_wf_result : wellFormed (.transmitEndEntry ⟨.a, 0, 16, 0, 0, 0, 0, 0⟩) = false := by decide +kernel
theorem test_wf_rx_line : wellFormed (.data { rxW [] with line := 96 }) = false := by decide +kernel
theorem test_wf_rx_port : wellFormed (.beacon { rxW [] with port := 4 }) = false := by decide +kernel
theorem test_wf_rx_rssi : wellFormed (.windowOutcome { rxW [] with rssi := 32768 }) = false := by decide +kernel
theorem test_wf_join_slot : wellFormed (.joinHandoff { join1 with slot := 4 }) = false := by decide +kernel
theorem test_wf_join_nonce : wellFormed (.joinResult { joinRes with req := { join1 with nonceN := [] } }) = false := by decide +kernel
theorem test_wf_forwarded : wellFormed (.forwardedPacket ⟨131072, []⟩) = false := by decide +kernel
theorem test_wf_resend_ttl : wellFormed (.floodResend ⟨0, 0, 256, 0, true, false, []⟩) = false := by decide +kernel
theorem test_wf_node : wellFormed (.supervisionTimeout 131072) = false := by decide +kernel
theorem test_wf_map_node : wellFormed (.mapAllocation 131072 []) = false := by decide +kernel
theorem test_wf_peer : wellFormed (.peerBeaconMiss 32) = false := by decide +kernel
theorem test_wf_ptp_domain : wellFormed (.sync { ptpM with domain := 256 }) = false := by decide +kernel
theorem test_wf_ptp_nanos : wellFormed (.announce { ptpM with nanos := 1000000000 }) = false := by decide +kernel
theorem test_wf_hello : wellFormed (.hello ⟨8, 0, 0, 0, 8, 1, []⟩) = false := by decide +kernel
theorem test_wf_segment : wellFormed (.record ⟨7, 1, []⟩ 0 1 1 []) = false := by decide +kernel
theorem test_wf_nak : wellFormed (.nak ⟨7, 1, []⟩ 0 65536) = false := by decide +kernel
theorem test_wf_sweep : wellFormed (.sweep ⟨7, 1, []⟩ 7 0 [] none 0) = false := by decide +kernel
theorem test_wf_forward : wellFormed (.forward ⟨7, 1, []⟩ (List.replicate 513 ⟨0, 0, 0⟩)) = false := by decide +kernel
theorem test_wf_module_bytes : wellFormed (.moduleReadEnd 0 (List.replicate 33 0)) = false := by decide +kernel
theorem test_wf_module_addr : wellFormed (.moduleEvent ⟨0, 8, []⟩) = false := by decide +kernel
theorem test_wf_module_kind : wellFormed (.moduleEvent ⟨3, 0, []⟩) = false := by decide +kernel
theorem test_wf_rom : wellFormed (.romStart { verify1 with bootBlock := { image1 with keySlot := 4 } }) = false := by decide +kernel
theorem test_wf_report : wellFormed (.tourReport ⟨131072, 0, true, false, false, 0, 0, 0⟩) = false := by decide +kernel
theorem test_wf_accepts : (wellFormed (.nop sub) && wellFormed (.data (rxW [])) && wellFormed (.laneError true 4)) = true := by
  decide +kernel

/-! ### Published vectors -/

/-- FIPS 180-4: SHA-256 of "abc". -/
theorem test_sha256 : sha256 (ascii "abc") =
    be 32 0xba7816bf8f01cfea414140de5dae2223b00361a396177a9cb410ff61f20015ad := by decide +kernel

/-- FIPS 197, Appendix C.1. -/
theorem test_aes : aesEnc (be 16 0x000102030405060708090a0b0c0d0e0f) (be 16 0x00112233445566778899aabbccddeeff) =
    be 16 0x69c4e0d86a7b0430d8cdb78070b4c55a := by
  rw [aesEnc_look]; decide +kernel

/-- The same block decrypted. -/
theorem test_aes_decrypt : aesDec (be 16 0x000102030405060708090a0b0c0d0e0f) (be 16 0x69c4e0d86a7b0430d8cdb78070b4c55a) =
    be 16 0x00112233445566778899aabbccddeeff := by
  rw [aesDec_look]; decide +kernel

/-- RFC 3610, packet vector 1: the MIC of CCM with L = 2 and M = 8. -/
theorem test_ccm_mic : ccmMic 8 (be 16 0xC0C1C2C3C4C5C6C7C8C9CACBCCCDCECF) (be 13 0x00000003020100A0A1A2A3A4A5)
    (be 8 0x0001020304050607) (be 23 0x08090A0B0C0D0E0F101112131415161718191A1B1C1D1E) = be 8 0x17E8D12CFDF926E0 := by
  rw [ccmMic_look]; decide +kernel

/-- RFC 3610, packet vector 1: the cipher text. -/
theorem test_ccm_crypt : ccmCrypt (be 16 0xC0C1C2C3C4C5C6C7C8C9CACBCCCDCECF) (be 13 0x00000003020100A0A1A2A3A4A5)
    (be 23 0x08090A0B0C0D0E0F101112131415161718191A1B1C1D1E) = be 23 0x588C979A61C663D2F066D0C2C0F989806D5F6B61DAC384 := by
  unfold ccmCrypt ccmStream; rw [aesEnc_look]; decide +kernel

/-- P-256: twice the base point, from the published multiples of G. -/
theorem test_ec_double : ecMul 2 g256 = some
    (0x7cf27b188d034f7e8a52380304b51ac3c08969e277f21b35a60b48fc47669978,
     0x07775510db8ed040293d9ac69f7430dbba7dade63ce982299e04b79d227873d1) := by decide +kernel

/-- The published check value of a CRC-16 with this polynomial and initial value (R129). -/
theorem test_crc16 : crc16 (ascii "123456789") = 0x6F91#16 := by decide +kernel

/-! ### Worked examples of the manual -/

/-- The example under R3: cue 100,000 little-endian. -/
theorem test_little_endian : le 4 100000 = [0xA0, 0x86, 0x01, 0x00] := by decide +kernel

/-- The example under R95: 868.3 MHz. -/
theorem test_nco : ncoOf 1736600000 = 0x22BB645A := by decide +kernel

/-- The pre-compensation example: 869.1 MHz at 18 ppm goes 31,288 half hertz high. -/
theorem test_precompensation : wTx 1738200000 19791209 = 1738200000 + 31288 := by decide +kernel

/-- The example under R130: 20 bytes at SF12, 125 kHz, with CRC and 12 preamble symbols last 1,572.864 ms. -/
theorem test_frc_time : frameTime 0x85 (12 * 65536 + 32) 20 0 = 1572864 * u3PerUs := by decide +kernel

/-- The same example: 230 coded payload bits, which take 24 symbols of 10 bits. -/
theorem test_frc_symbols : (coded 0 (frcPayloadBits true (List.replicate 20 0x31) ++ List.replicate 8 false)).length = 230 ∧
    (frcPayloadSyms 12 10 0x5A 0 true (List.replicate 20 0x31)).length = 24 := by decide +kernel

/-- R126 to R129: the payload symbols of a sender are read back, its CRC-16 with them. -/
theorem test_frc_payload : frcPayloadRead 7 5 0x5A 2 3 true (frcPayloadSyms 7 5 0x5A 2 true [1, 2, 0xFF]) =
    some ([1, 2, 0xFF] ++ le 2 (crc16 [1, 2, 0xFF]).toNat) := by decide +kernel

/-- The downlink example: 60 PSDU bytes of personality 0x11 with 8 preamble octets take 5,920 µs. -/
theorem test_fsk_time : frameTime 0x11 (8 * 256) 60 0 = 5920 * u3PerUs := by decide +kernel

/-- The lost request of the Overture example: 29 PSDU octets at 50 kb/s take 6,560 µs. -/
theorem test_fsk_time_slow : frameTime 0x10 (8 * 256) 27 0 = 6560 * u3PerUs := by decide +kernel

/-- The map example under R144: 60 subcarriers at 26 dB, 30 at 20 dB, 10 at 14 dB, 4 at 5 dB make a sum of 500. -/
theorem test_map_sum : mapSum (List.replicate 60 4 ++ List.replicate 30 3 ++ List.replicate 10 2 ++ List.replicate 4 0) = 500 := by
  decide +kernel

/-- The same example: 1,200 PSDU bytes at that sum last 5,450 µs, and 12,200 µs on map 0. -/
theorem test_lofdm_time : frameTime 0x40 0 1196 500 = 5450 * u3PerUs ∧ frameTime 0x40 0 1196 (mapSum map0) = 12200 * u3PerUs := by
  decide +kernel

/-- The table under R453, first and last rows. -/
theorem test_replay_accepts : replayTake 1000 1 1003 = some (1003, 9) ∧ replayTake 1003 9 1001 = some (1003, 0xD) ∧
    replayTake 1003 0xD 1002 = some (1003, 0xF) := by decide +kernel

/-- The same table: a set bit and a counter 43 behind. -/
theorem test_replay_rejects : replayTake 1003 0xD 1003 = none ∧ replayTake 1003 0xD 960 = none := by decide +kernel

/-- The battery sensor of the supervision example, with the state of an event `k` intervals after its contact. -/
def sensor : Node :=
  { st := .active, grand := true, ppm := 40, intv := 1024, arrival := 300 * 102400, event := 0 }

/-- The guards of that example: 394.064 µs with no miss and 960.160 µs after one (rounded up to ticks). -/
theorem test_guard : guardOf (withCfg 1 (recBytes 740 [(2, 1, 2), (4, 2, 4000)]) live) sensor 4 = (40352154, false) ∧
    guardOf (withCfg 1 (recBytes 740 [(2, 1, 2), (4, 2, 4000)]) live) { sensor with misses := 1 } 5 = (98320384, false) := by
  decide +kernel

/-- The mains example under R347: F and the lag of its report, from the crossings of the window on TB2. -/
def mained : State :=
  modTime (fun t => { t with
    mains := { t.mains with
      onTb2 := true
      cross := [14335999938197997312, 14336000040626677350]
      prev := some (499861, 14336000030383809346) }
    ptp := { t.ptp with era := 9 } })
  (withCfg 3 (recBytes 64 [(0, 2, 17), (48, 2, 50), (50, 2, 5)]) live)

theorem test_mains_report : lastOut (mainsReport 14336000040626677350 0 mained) =
    some (10, .record ⟨0x500A, 10, 0, 5, live.proc.procStart, 499860, 2173995621, 0 - 10, 0x10000⟩) := by decide +kernel

/-! ### One step of commands of each family -/

/-- The input of a live Cue with nothing measured. -/
def cue0 : CueIn := { draw := List.replicate 32 0, meas := [], tPit := 0, tStage := 0, replay := [] }

/-- R30: the cue counter rises by one at each cue start, from any value. -/
theorem test_cue : (after (exec (.cue cue0) (modProc (fun p => { p with cueNow := 0xFFFFFFFF }) live))).proc.cueNow = 0 := by
  decide +kernel

/-- R376: NOP is taken by Prompter 0, engine 8, and completes with OK. -/
theorem test_nop : lastOut (after (exec (.nop sub) live)) = some (8, .complete sub 1 0 [] []) := by decide +kernel

/-- R376: a reserved opcode completes with BAD_PARAM, status 2. -/
theorem test_reserved_opcode : lastOut (after (exec (.reservedOpcode 0x0002 sub) live)) = some (8, .complete sub 2 2 [] []) := by
  decide +kernel

/-- R622: an item reaches no engine while processing is stopped. -/
theorem test_nop_stopped : after (exec (.nop sub) still) = still := by decide +kernel

/-- R366 to R368: a submission doorbell moves the tail of an enabled ring. -/
theorem test_doorbell : (sq (after (exec (.submissionDoorbell 63 5) (ringOn rHifSqCfg live))) 63).tail = 5 := by decide +kernel

/-- R5, R6: a write of a read-only register leaves it. -/
theorem test_write_read_only : readReg .pcie (after (exec (.registerWrite rSysId 0) live)) rSysId = readReg .pcie live rSysId := by
  decide +kernel

/-- R27: part number 0x4100 and stepping B0 stand in the low 24 bits of SYS_ID. -/
theorem test_sys_id : (readReg .pcie live rSysId).toNat % 2 ^ 24 = 0x104100 := by decide +kernel

/-- R397: a byte that is no command sets BAD_CMD. -/
theorem test_door_bad : (after (exec (.badCmd 0x77) live)).hif.badCmd = true := by decide +kernel

/-- R27, R397: IDENT answers SYS_ID, low byte first, grade IT, and the status word with PROCESSING and the role of a
Solo unit. -/
theorem test_door_ident : (after (exec .ident live)).hif.miso = [0x00, 0x41, 0x10, 0x01, 0x60, 0, 0, 0] := by decide +kernel

/-- R397: LOAD is denied outside recovery; its frame here is the command byte, offset 0, one byte and its CRC. -/
theorem test_door_load :
    (after (exec (.load (le 4 0 ++ [1] ++ le 2 (crc16 ([0x30] ++ le 4 0 ++ [1])).toNat)) live)).hif.denied = true := by
  decide +kernel

/-- R86: an enabled port starts at MAN_GAIN, which resets to 40. -/
theorem test_port_enable : (port (after (exec (.portEnable 1) (modPort 1 (fun p => { p with gain := 7 }) live))) 1).gain = 40 := by
  decide +kernel

/-- R175: an enabled chain starts its calibration. -/
theorem test_chain_enable : (tx (after (exec (.chainEnable .a) live)) .a).st ≠ .off := by decide +kernel

/-- R13: a lane that the device does not have stops the machine. -/
theorem test_lane : exec (.laneError true 5) live = .fault .noSuchUnit := rfl

/-- R490: a pulse of 5 µs is the last pulse that the Director knows of the unit. -/
theorem test_heartbeat : (after (exec (.heartbeat false 5000 true live.time.tb0) (director .start))).pair.dirA ≠
    (director .start).pair.dirA := by decide +kernel

/-- R437: ROOT is not programmed while processing runs, and REFUSED is set. -/
theorem test_root_refused : (after (exec .rootProgram live)).sec.rootRef = true ∧
    (after (exec .rootProgram live)).sec.fuses.root = none := by decide +kernel

/-- R464: an UNLOCK with a used challenge opens nothing. -/
theorem test_unlock : (after (exec .unlock still)).sec.jtag = false := by decide +kernel

/-- R426: an engine exception takes the engine out of work. -/
theorem test_engine_exception : (eng (after (exec (.engineException 3) live)) 3).paused = true := by decide +kernel

/-- R565: a lost clock stops processing at once. -/
theorem test_clock_lost : (after (exec (.clockLost 0 0) live)).proc.processing = false := by decide +kernel

/-- R570: with the main supply lost the unit falls to Keep-only. -/
theorem test_vin_lost : (after (exec .vinLost live)).pwr.mode = .keepOnly := by decide +kernel

/-- R248: a node whose supervision has run out becomes dormant. -/
theorem test_supervision : (node (after (exec (.supervisionTimeout 8)
    (modNode 8 (fun n => { n with sup := 1, lastCue := 0 }) noded))) 8).st = .dormant := by decide +kernel

/-- R499: a lost pair link ends the session of the partner. -/
theorem test_link_lost : (after (exec .pairLinkLost (paired 2))).pair.linkUp = false := by decide +kernel

/-- The idle step (log entry 1). -/
theorem test_idle : step live = .next live := rfl

/-- The front of the queue is taken. -/
theorem test_front : (after (step { live with pending := [.badCmd 0, .ident] })).pending = [.ident] := by decide +kernel

end Sys2Proof.Tests
end

