-- ==== Sys2Proof/Tests/Witness1.lean ====
section
/-! SUPPORT. Witnesses of statements StepRunsFront to TableCommands: for each clause a state and operands that meet
all its hypotheses together. -/

namespace Sys2Proof.Tests
open Sys2Proof.Machine

set_option maxRecDepth 100000
set_option Elab.async false

theorem witness_StepRunsFront :
    (∃ (s : State), (s.pending = [])) :=
    ⟨State.reset, by decide +kernel⟩

theorem witness_EveryCommandAnswers :
    (∃ (i : Instr), (unitExists i = true)) ∧
    (∃ (i : Instr), (unitExists i = false)) :=
  ⟨⟨.submissionFetch 63, by decide +kernel⟩,
    ⟨.submissionFetch 64, by decide +kernel⟩⟩

theorem witness_StepKeeps :
    (∃ (s : State) (t : _), (step s = .next t)) :=
    ⟨State.reset, State.reset, rfl⟩

theorem witness_ResetState :
    (∃ (q : Nat), (q < 64)) :=
    ⟨63, by decide +kernel⟩

theorem witness_HostCommandOutcomes :
    (∃ (i : Instr) (k : CmdSpec) (c : Sub) (s : State), (rowSpec i = some (k, c)) ∧ (c.aside = false) ∧ (s.proc.processing =
    false)) ∧
    (∃ (i : Instr) (k : CmdSpec) (c : Sub) (s : State), (rowSpec i = some (k, c)) ∧ ((∀ x n, i ≠ .selftestRun x n)) ∧ (c.aside =
    false) ∧ (s.proc.processing = true) ∧ (engHeld s (k.engine c s) (cmdCost k c s) = true)) ∧
    (∃ (i : Instr) (k : CmdSpec) (c : Sub) (s : State) (x : _), (rowSpec i = some (k, c)) ∧ ((∀ x n, i ≠ .selftestRun x n)) ∧
    (c.aside = false) ∧ (canTake s (k.engine c s) 10 = true) ∧ (judged k c s = some x) ∧ (tagOf s c = none) ∧ (x ≠ stWrongState)) ∧
    (∃ (i : Instr) (k : CmdSpec) (c : Sub) (s : State), (rowSpec i = some (k, c)) ∧ ((∀ x n, i ≠ .selftestRun x n)) ∧ (c.aside =
    false) ∧ (canTake s (k.engine c s) 10 = true) ∧ (judged k c s = some stWrongState) ∧ (tagOf s c = none)) ∧
    (∃ (i : Instr) (k : CmdSpec) (c : Sub) (s : State), (rowSpec i = some (k, c)) ∧ ((∀ x n, i ≠ .selftestRun x n)) ∧ (c.aside =
    false) ∧ (canTake s (k.engine c s) 10 = true) ∧ (judged k c s = none) ∧ (tagOf s c = none) ∧ (k.check c s = none) ∧ (mustHold
    c s = true)) ∧
    (∃ (i : Instr) (k : CmdSpec) (c : Sub) (s : State), (rowSpec i = some (k, c)) ∧ ((∀ x n, i ≠ .selftestRun x n)) ∧ (ready k c s
    = true)) ∧
    (∃ (i : Instr) (k : CmdSpec) (c : Sub), (rowSpec i = some (k, c)) ∧ ((∀ x n, i ≠ .selftestRun x n)) ∧ (c.aside = true)) ∧
    (∃ (s : State), (s.proc.processing = true)) ∧
    (∃ (i : Instr) (k : CmdSpec) (c : Sub) (s : State), (rowSpec i = some (k, c)) ∧ (c.aside = true) ∧ (isUnderstudy s = true) ∧
    (k.aside = false)) ∧
    (∃ (i : Instr) (k : CmdSpec) (c : Sub), (rowSpec i = some (k, c))) ∧
    (∃ (c : Sub) (s : State), (epochOk s c = false) ∧ (c.partner = true)) :=
  ⟨⟨.nop sub, cmdNop, sub, still, rfl, by decide +kernel, by decide +kernel⟩,
    ⟨.nop sub, cmdNop, sub, modEng 8 (fun e => { e with left := 9 }) live, rfl, by simp, by decide +kernel, by decide +kernel,
    by decide +kernel⟩,
    ⟨.nop { sub with length := 1 }, cmdNop, { sub with length := 1 }, modEng 8 (fun e => { e with left := 10 }) live, stBadParam,
    rfl, by simp, by decide +kernel, by decide +kernel, by decide +kernel, by decide +kernel, by decide +kernel⟩,
    ⟨.tableUnlock sub, cmdTableUnlock, sub, live, rfl, by simp, by decide +kernel, by decide +kernel, by decide +kernel,
    by decide +kernel⟩,
    ⟨.nop { sub with target := 65540 }, cmdNop, { sub with target := 65540 }, live, rfl, by simp, by decide +kernel,
    by decide +kernel, by decide +kernel, by decide +kernel, by decide +kernel, by decide +kernel⟩,
    ⟨.nop sub, cmdNop, sub, live, rfl, by simp, by decide +kernel⟩,
    ⟨.nop { sub with aside := true }, cmdNop, { sub with aside := true }, rfl, by simp, by decide +kernel⟩,
    ⟨live, by decide +kernel⟩,
    ⟨.nodeSend { sub with aside := true }, cmdNodeSend, { sub with aside := true }, inRole 2, rfl, by decide +kernel,
    by decide +kernel, by decide +kernel⟩,
    ⟨.nop sub, cmdNop, sub, rfl⟩,
    ⟨{ sub with partner := true }, live, by decide +kernel, by decide +kernel⟩⟩

theorem witness_JudgingOrder :
    (∃ (k : CmdSpec) (c : Sub) (s : State), (isUnderstudy s = true) ∧ (c.aside = true) ∧ (k.aside = false)) ∧
    (∃ (k : CmdSpec) (c : Sub) (s : State), ((isUnderstudy s = false ∨ c.aside = false ∨ k.aside = true)) ∧ (fetchFailed c = true)) ∧
    (∃ (k : CmdSpec) (c : Sub) (s : State), ((isUnderstudy s = false ∨ c.aside = false ∨ k.aside = true)) ∧ (fetchFailed c =
    false) ∧ (flagsOk c = false ∨ bufOk k.use c = false ∨ k.static c = false ∨ (c.target ≠ 0 ∧ 65536 < targetDiff c))) ∧
    (∃ (k : CmdSpec) (c : Sub) (s : State), ((isUnderstudy s = false ∨ c.aside = false ∨ k.aside = true)) ∧ (fetchFailed c =
    false) ∧ (flagsOk c = true) ∧ (bufOk k.use c = true) ∧ (k.static c = true) ∧ ((c.target = 0 ∨ targetDiff c ≤ 65536)) ∧
    (k.wrong c s = true)) ∧
    (∃ (k : CmdSpec) (c : Sub) (s : State), ((isUnderstudy s = false ∨ c.aside = false ∨ k.aside = true)) ∧ (fetchFailed c =
    false) ∧ (flagsOk c = true) ∧ (bufOk k.use c = true) ∧ (k.static c = true) ∧ (k.wrong c s = false) ∧ (c.target ≠ 0) ∧
    (targetDiff c < 0)) ∧
    (∃ (k : CmdSpec) (c : Sub) (s : State), ((isUnderstudy s = false ∨ c.aside = false ∨ k.aside = true)) ∧ (fetchFailed c =
    false) ∧ (flagsOk c = true) ∧ (bufOk k.use c = true) ∧ (k.static c = true) ∧ (k.wrong c s = false) ∧ (mustHold c s = true) ∧
    (targetDiff c ≤ 65536) ∧ (1024 ≤ heldCount s (k.engine c s))) ∧
    (∃ (c : Sub) (s : State), (isUnderstudy s = false) ∧ (fetchFailed c = false)) ∧
    (∃ (c : Sub), (c.aside = false)) ∧
    (∃ (x : _) (c : Sub), (c.aside = false) ∧ (x ≠ stWrongState)) ∧
    (∃ (k : CmdSpec) (c : Sub) (s : State), ((isUnderstudy s = false ∨ c.aside = false ∨ k.aside = true)) ∧ (fetchFailed c =
    false) ∧ (flagsOk c = true) ∧ (bufOk k.use c = true) ∧ (k.static c = true) ∧ (k.wrong c s = false) ∧ (c.target = 0 ∨ 0 ≤
    targetDiff c ∧ targetDiff c ≤ 65536) ∧ (mustHold c s = false ∨ heldCount s (k.engine c s) < 1024)) ∧
    (∃ (k : CmdSpec) (c : Sub) (s : State) (x : _), (tagOf s c = none) ∧ (judged k c s = some x)) ∧
    (∃ (k : CmdSpec) (c : Sub) (s : State) (x : _), (tagOf s c = none) ∧ (judged k c s = none) ∧ (k.check c s = some x)) :=
  ⟨⟨cmdNodeSend, { sub with aside := true }, inRole 2, by decide +kernel, by decide +kernel, by decide +kernel⟩,
    ⟨cmdNop, { sub with flags := 0x8000 }, live, by decide +kernel, by decide +kernel⟩,
    ⟨cmdNop, { sub with target := 65541 }, live, by decide +kernel, by decide +kernel, by decide +kernel⟩,
    ⟨cmdTableUnlock, { sub with target := 65540 }, live, by decide +kernel, by decide +kernel, by decide +kernel,
    by decide +kernel, by decide +kernel, by decide +kernel, by decide +kernel⟩,
    ⟨cmdNop, { sub with target := 3 }, live, by decide +kernel, by decide +kernel, by decide +kernel, by decide +kernel,
    by decide +kernel, by decide +kernel, by decide +kernel, by decide +kernel⟩,
    ⟨cmdNop, { sub with target := 65540 }, modProc (fun p => { p with held := List.replicate 1024 ⟨8, 9, 1, sub⟩ }) live,
    by decide +kernel, by decide +kernel, by decide +kernel, by decide +kernel, by decide +kernel, by decide +kernel,
    by decide +kernel, by decide +kernel, by decide +kernel⟩,
    ⟨sub, live, by decide +kernel, by decide +kernel⟩,
    ⟨sub, by decide +kernel⟩,
    ⟨stBadParam, sub, by decide +kernel, by decide +kernel⟩,
    ⟨cmdNop, { sub with target := 65540 }, modProc (fun p => { p with held := List.replicate 1023 ⟨8, 9, 1, sub⟩ }) live,
    by decide +kernel, by decide +kernel, by decide +kernel, by decide +kernel, by decide +kernel, by decide +kernel,
    by decide +kernel, by decide +kernel⟩,
    ⟨cmdNop, { sub with length := 1 }, live, stBadParam, by decide +kernel, by decide +kernel⟩,
    ⟨cmdConfigRead, par 32 [1] sub, live, stBadParam, by decide +kernel, by decide +kernel, by decide +kernel⟩⟩

theorem witness_SimpleHostCommands :
    (∃ (c : Sub) (s : State), (ready cmdNop c s = true)) ∧
    (∃ (c : Sub) (s : State), (c.aside = false) ∧ (fetchFailed c = false) ∧ (tagOf s c = none) ∧ (canTake s 8 10 = true)) ∧
    (∃ (c : Sub) (s : State), (ready cmdConfigApply c s = true)) ∧
    (∃ (c : Sub) (s : State), (ready cmdConfigRead c s = true) ∧ (pU c 34 2 = 0)) ∧
    (∃ (c : Sub) (s : State) (b : _) (g : _) (n : _), (ready cmdConfigRead c s = true) ∧ (pU c 34 2 = 1) ∧ ((cfgOf s (pU c 32
    2)).wait = some (b, g, n))) ∧
    (∃ (c : Sub) (s : State), (ready cmdRxPost c s = true)) :=
  ⟨⟨sub, live, by decide +kernel⟩,
    ⟨sub, live, by decide +kernel, by decide +kernel, by decide +kernel, by decide +kernel⟩,
    ⟨par 32 [4, 0, 1, 0, 255, 255, 255, 255] (buf (cfgBytes live 4) sub), live, by decide +kernel⟩,
    ⟨par 32 [4] { sub with bufLen := 64 }, live, by decide +kernel, by decide +kernel⟩,
    ⟨par 32 [4, 0, 1] { sub with bufLen := 64 }, { live with cfgs := [(4, { wait := some ([], 1, 9) })] }, [], 1, 9,
    by decide +kernel, by decide +kernel, by decide +kernel⟩,
    ⟨{ sub with bufLen := 2080 }, live, by decide +kernel⟩⟩

theorem witness_RequestAndTimeCommands :
    (∃ (c : Sub) (s : State), (ready cmdRawTx c s = true)) ∧
    (∃ (c : Sub) (s : State), (ready cmdOvertureSend c s = true)) ∧
    (∃ (c : Sub) (s : State), (ready cmdTimeSet c s = true) ∧ (pU c 33 1 = 0) ∧ (pU c 32 1 = 3)) ∧
    (∃ (c : Sub) (s : State), (ready cmdPulseProgram c s = true)) ∧
    (∃ (c : Sub) (s : State), (ready cmdCapture c s = true) ∧ (sdiff32 s.proc.procCue (if c.target = 0 then c.accept + 1 else
    c.target) < 0)) :=
  ⟨⟨par 32 [0, 163, 225, 17] (par 44 [0, 8] (par 51 [16] (buf [1, 2, 3] sub))), live, by decide +kernel⟩,
    ⟨par 32 [0, 163, 225, 17] (par 44 [1, 0, 0, 0, 1] sub), live, by decide +kernel⟩,
    ⟨par 32 [3] sub, live, by decide +kernel, by decide +kernel, by decide +kernel⟩,
    ⟨par 32 [7] sub, live, by decide +kernel⟩,
    ⟨par 40 [1] { sub with bufLen := 200000, accept := 5 }, live, by decide +kernel, by decide +kernel⟩⟩

theorem witness_NodeCommands :
    (∃ (c : Sub) (s : State), (ready cmdNodeSend c s = true) ∧ (downRefusal s (cmdNode c) c.data.length (bit (pU c 36 2) 3) =
    none) ∧ (((node s (cmdNode c)).st = .dormant → bit (pU c 36 2) 1 = false))) ∧
    (∃ (c : Sub) (s : State), (ready cmdFloodSend c s = true) ∧ (bit (pU c 33 1) 1 = false)) ∧
    (∃ (c : Sub) (s : State) (i : Nat) (s1 : State), (ready cmdNodeAdmit c s = true) ∧ (allocNode (BitVec.ofNat 64 (pU c 32 8))
    (pU c 40 1 == 1) (pU c 41 1) .admitted true (charge 8 10 s) = (.inr i, s1))) ∧
    (∃ (c : Sub) (s : State), (ready cmdNodeEvict c s = true) ∧ (bit (pU c 37 1) 0 = true) ∧ ((node s (cmdNode c)).downs = []) ∧
    ((node s (cmdNode c)).upd = none)) ∧
    (∃ (c : Sub) (s : State), (ready cmdNodeQuery c s = true)) ∧
    (∃ (c : Sub) (s : State), (ready cmdScheduleSet c s = true) ∧ ((node s (cmdNode c)).upd = none)) :=
  ⟨⟨par 32 [8, 0, 0, 0, 0, 0, 0, 0, 1] (buf [1] sub), noded, by decide +kernel, by decide +kernel, by decide +kernel⟩,
    ⟨par 32 [1] (buf [1] sub), meshed, by decide +kernel, by decide +kernel⟩,
    ⟨par 32 [9] sub, meshed, 0, (allocNode 9 false 0 .admitted true (charge 8 10 meshed)).2, by decide +kernel,
    by decide +kernel⟩,
    ⟨par 32 [8, 0, 0, 0, 0, 1] sub, noded, by decide +kernel, by decide +kernel, by decide +kernel, by decide +kernel⟩,
    ⟨par 32 [8] { sub with bufLen := 64 }, noded, by decide +kernel⟩,
    ⟨par 32 [8, 0, 0, 0, 1, 0, 0, 0, 10, 0] sub, noded, by decide +kernel, by decide +kernel⟩⟩

theorem witness_TableCommands :
    (∃ (c : Sub) (s : State), (ready cmdTableRead c s = true) ∧ (bit (pU c 33 1) 0 = false) ∧ (pU c 32 1 ≠ 2)) ∧
    (∃ (c : Sub) (s : State), (ready cmdTableRead c s = true) ∧ (bit (pU c 33 1) 0 = true) ∧ (pU c 32 1 ≠ 2)) ∧
    (∃ (c : Sub) (s : State), (ready cmdTableWrite c s = true) ∧ (pU c 32 1 = 0)) ∧
    (∃ (c : Sub) (s : State), (ready cmdTableWrite c s = true) ∧ (pU c 32 1 = 2)) ∧
    (∃ (c : Sub) (s : State), (ready cmdTableWrite c s = true)) ∧
    (∃ (c : Sub) (s : State), (ready cmdTableUnlock c s = true)) :=
  ⟨⟨par 40 [1] { sub with bufLen := 16 }, live, by decide +kernel, by decide +kernel, by decide +kernel⟩,
    ⟨par 32 [0, 1, 7, 0, 63, 96] (par 40 [1] { sub with bufLen := 16 }), live, by decide +kernel, by decide +kernel,
    by decide +kernel⟩,
    ⟨par 36 [1] (buf [1, 0, 0, 0, 0, 0, 0, 0, 8, 0, 0, 0, 1, 0, 0, 0] sub), noded, by decide +kernel, by decide +kernel⟩,
    ⟨par 32 [2, 0, 0, 0, 1] (buf (List.replicate 32 0) sub), live, by decide +kernel, by decide +kernel⟩,
    ⟨par 36 [1] (buf [1, 0, 0, 0, 0, 0, 0, 0, 8, 0, 0, 0, 1, 0, 0, 0] sub), noded, by decide +kernel⟩,
    ⟨sub, modMesh (fun m => { m with locks := [⟨0, 0, 4⟩] }) live, by decide +kernel⟩⟩

end Sys2Proof.Tests
end

