-- ==== Sys2Proof/Tests/Witness2.lean ====
section
/-! SUPPORT. Witnesses of statements ImageCommands to ModeWritesAndExport: for each clause a state and operands that meet
all its hypotheses together. -/

namespace Sys2Proof.Tests
open Sys2Proof.Machine

set_option maxRecDepth 100000
set_option Elab.async false

theorem witness_ImageCommands :
    (∃ (c : Sub) (s : State), (ready cmdImageStage c s = true) ∧ (c.partner = false)) ∧
    (∃ (c : Sub) (b : BundleInfo) (s : State), (ready (cmdImageVerify b) c s = true) ∧ (c.partner = false)) ∧
    (∃ (c : Sub) (b : BundleInfo) (s : State), (ready cmdImageActivate c s = true) ∧ (c.partner = false) ∧ (s.upd.bundle = some b)) ∧
    (∃ (c : Sub) (s : State), (ready cmdImageConfirm c s = true) ∧ (c.partner = false)) :=
  ⟨⟨buf [1] sub, live, by decide +kernel, by decide +kernel⟩,
    ⟨sub, bundle1, modUpd (fun u => { u with sel0 := some ⟨0, 0, false, 0, 1, 0, 0⟩ }) live, by decide +kernel,
    by decide +kernel⟩,
    ⟨sub, bundle1, modUpd (fun u => { u with verified := true, bundle := some bundle1 }) live, by decide +kernel,
    by decide +kernel, by decide +kernel⟩,
    ⟨sub, modUpd (fun u => { u with sel0 := some ⟨0, 0, true, 0, 1, 0, 0⟩ }) live, by decide +kernel, by decide +kernel⟩⟩

theorem witness_TourCommands :
    (∃ (c : Sub) (s : State), (ready cmdTourStart c s = true) ∧ (tourNodes c s ≠ [])) ∧
    (∃ (s : State) (tour : Tour), (s.upd.tour = some tour) ∧ (tour.marked = false)) ∧
    (∃ (c : Sub) (s : State), (ready cmdTourStart c s = true) ∧ (tourNodes c s = [])) ∧
    (∃ (s : State), (s.proc.processing = true) ∧ (engHeld s 0 10 = false) ∧ (s.upd.tour = none)) ∧
    (∃ (b : Nat) (s : State) (x : Tour), (s.proc.processing = true) ∧ (engHeld s 0 10 = false) ∧ (s.upd.tour = some x) ∧ (x.ending
    = none) ∧ (b ∈ x.need.take x.asked) ∧ ((∀ f ∈ x.frags, f.1 ≠ b))) ∧
    (∃ (b : Nat) (s : State) (x : Tour), (s.proc.processing = true) ∧ (engHeld s 0 10 = false) ∧ (s.upd.tour = some x) ∧ (x.ending
    = none) ∧ (b ∈ x.need.take x.asked) ∧ ((∀ f ∈ x.frags, f.1 ≠ b))) ∧
    (∃ (r : TourRep) (s : State) (x : Tour), (s.proc.processing = true) ∧ (engHeld s 0 10 = false) ∧ (s.upd.tour = some x) ∧
    (x.ending = none) ∧ (r.tour = x.id) ∧ (inTour x.id (node s r.node) = true) ∧ (tourField (node s r.node) 1 ≠ 3) ∧ (r.complete
    = true)) ∧
    (∃ (r : TourRep) (s : State) (x : Tour), (s.proc.processing = true) ∧ (engHeld s 0 10 = false) ∧ (s.upd.tour = some x) ∧
    (r.tour ≠ x.id)) :=
  ⟨⟨par 32 [1, 1, 6, 0, 0, 0, 1, 1] (buf [1] sub), noded, by decide +kernel, by decide +kernel⟩,
    ⟨modUpd (fun u => { u with tour := some tour1 }) noded, tour1, by decide +kernel, by decide +kernel⟩,
    ⟨par 32 [1, 0, 6, 0, 0, 0, 1, 1] (buf [1] sub), noded, by decide +kernel, by decide +kernel⟩,
    ⟨live, by decide +kernel, by decide +kernel, by decide +kernel⟩,
    ⟨3, touring, tour1, by decide +kernel, by decide +kernel, by decide +kernel, by decide +kernel, by decide +kernel,
    by decide +kernel⟩,
    ⟨3, touring, tour1, by decide +kernel, by decide +kernel, by decide +kernel, by decide +kernel, by decide +kernel,
    by decide +kernel⟩,
    ⟨⟨8, 1, true, false, false, 0, 0, 0⟩, modNode 8 (fun n => { n with tour := [1, 1, 0, 0, 0, 0] }) touring, tour1,
    by decide +kernel, by decide +kernel, by decide +kernel, by decide +kernel, by decide +kernel, by decide +kernel,
    by decide +kernel, by decide +kernel⟩,
    ⟨⟨8, 2, true, false, false, 0, 0, 0⟩, touring, tour1, by decide +kernel, by decide +kernel, by decide +kernel,
    by decide +kernel⟩⟩

theorem witness_RoleReadAndTestCommands :
    (∃ (c : Sub) (s : State), (ready cmdRoleRequest c s = true) ∧ (pU c 32 1 = 0)) ∧
    (∃ (c : Sub) (s : State), (ready cmdRoleRequest c s = true) ∧ (pU c 32 1 = 1) ∧ (c.partner = false)) ∧
    (∃ (c : Sub) (s : State), (ready cmdCallboardRead c s = true)) :=
  ⟨⟨sub, inRole 1, by decide +kernel, by decide +kernel⟩,
    ⟨par 32 [1] sub, inRole 1, by decide +kernel, by decide +kernel, by decide +kernel⟩,
    ⟨par 36 [1] { sub with bufLen := 40 }, live, by decide +kernel⟩⟩

theorem witness_Doorbells :
    (∃ (q : Nat) (s : State), (q < 64) ∧ (sqEn s q = false)) ∧
    (∃ (q : Nat) (v : Nat) (s : State), (q < 64) ∧ (sqEn s q = true) ∧ (v < 2 ^ 32) ∧ (2 * sqSize s q ≤ v ∨ sqSize s q < (v + 2 *
    sqSize s q - (sq s q).head) % (2 * sqSize s q))) ∧
    (∃ (q : Nat) (v : Nat) (s : State), (q < 64) ∧ (sqEn s q = true) ∧ (v < 2 * sqSize s q) ∧ (v < 2 ^ 32) ∧ ((v + 2 * sqSize s q
    - (sq s q).head) % (2 * sqSize s q) ≤ sqSize s q)) ∧
    (∃ (q : Nat), (64 ≤ q)) ∧
    (∃ (c : Nat) (s : State), (c < 64) ∧ (cqEn s c = false)) ∧
    (∃ (c : Nat) (v : Nat) (s : State), (c < 64) ∧ (cqEn s c = true) ∧ (v < 2 ^ 32) ∧ (2 * cqSize s c ≤ v ∨ cqCount s c < ((cq s
    c).tail + 2 * cqSize s c - v) % (2 * cqSize s c))) ∧
    (∃ (c : Nat) (v : Nat) (s : State), (c < 64) ∧ (cqEn s c = true) ∧ (v < 2 * cqSize s c) ∧ (v < 2 ^ 32) ∧ (((cq s c).tail + 2 *
    cqSize s c - v) % (2 * cqSize s c) ≤ cqCount s c)) ∧
    (∃ (c : Nat), (64 ≤ c)) ∧
    (∃ (s : State), (evEn s = false)) ∧
    (∃ (v : Nat) (s : State), (evEn s = true) ∧ (v < 2 ^ 32) ∧ (2 * evSize s ≤ v ∨ evCount s < (s.hif.evr.tail + 2 * evSize s - v)
    % (2 * evSize s))) ∧
    (∃ (v : Nat) (s : State), (evEn s = true) ∧ (v < 2 * evSize s) ∧ (v < 2 ^ 32) ∧ ((s.hif.evr.tail + 2 * evSize s - v) % (2 *
    evSize s) ≤ evCount s) ∧ (s.hif.evr.lost = 0)) ∧
    (∃ (v : Nat) (s : State), (evEn s = true) ∧ (v < 2 * evSize s) ∧ (v < 2 ^ 32) ∧ ((s.hif.evr.tail + 2 * evSize s - v) % (2 *
    evSize s) < evSize s - 1) ∧ ((s.hif.evr.tail + 2 * evSize s - v) % (2 * evSize s) ≤ evCount s) ∧ (s.hif.evr.lost ≠ 0)) :=
  ⟨⟨63, live, by decide +kernel, by decide +kernel⟩,
    ⟨63, 4294967295, ringOn rHifSqCfg live, by decide +kernel, by decide +kernel, by decide +kernel, by decide +kernel⟩,
    ⟨63, 16, ringOn rHifSqCfg live, by decide +kernel, by decide +kernel, by decide +kernel, by decide +kernel,
    by decide +kernel⟩,
    ⟨64, by decide +kernel⟩,
    ⟨63, live, by decide +kernel, by decide +kernel⟩,
    ⟨63, 32, ringOn rHifCqCfg live, by decide +kernel, by decide +kernel, by decide +kernel, by decide +kernel⟩,
    ⟨63, 0, ringOn rHifCqCfg live, by decide +kernel, by decide +kernel, by decide +kernel, by decide +kernel, by decide +kernel⟩,
    ⟨64, by decide +kernel⟩,
    ⟨live, by decide +kernel⟩,
    ⟨32, setReg rHifEqCfg 9 live, by decide +kernel, by decide +kernel, by decide +kernel⟩,
    ⟨0, setReg rHifEqCfg 9 live, by decide +kernel, by decide +kernel, by decide +kernel, by decide +kernel, by decide +kernel⟩,
    ⟨0, modHif (fun h => { h with evr := { h.evr with tail := 14, lost := 1 } }) (setReg rHifEqCfg 9 live), by decide +kernel,
    by decide +kernel, by decide +kernel, by decide +kernel, by decide +kernel, by decide +kernel⟩⟩

theorem witness_RingEnablesAndDisables :
    (∃ (k : RingKind) (q : Fin 64) (s : State), (rbit s (ringCfg k q) 0 = true)) ∧
    (∃ (q : Fin 64) (s : State), (rbit s (ringCfg .submission q) 0 = false)) ∧
    (∃ (q : Fin 64) (s : State), (rbit s (ringCfg .completion q) 0 = false)) ∧
    (∃ (s : State), (rbit s rHifEqCfg 0 = false) ∧ (s.hif.evr.lost = 0)) ∧
    (∃ (s : State), (rbit s rHifEqCfg 0 = false) ∧ (s.hif.evr.lost ≠ 0) ∧ (1 ≤ rbits s rHifEqCfg 5 1)) ∧
    (∃ (s : State), (rbit s rHifEqCfg 0 = false) ∧ (rbits s rHifEqCfg 5 1 = 0)) ∧
    (∃ (k : RingKind), (k ≠ .submission)) :=
  ⟨⟨.event, 63, setReg rHifEqCfg 9 live, by decide +kernel⟩,
    ⟨63, live, by decide +kernel⟩,
    ⟨63, live, by decide +kernel⟩,
    ⟨live, by decide +kernel, by decide +kernel⟩,
    ⟨setReg rHifEqCfg 8 (modHif (fun h => { h with evr := { h.evr with lost := 1 } }) live), by decide +kernel,
    by decide +kernel, by decide +kernel⟩,
    ⟨setReg rHifEqCfg 0 live, by decide +kernel, by decide +kernel⟩,
    ⟨.event, by decide +kernel⟩⟩

theorem witness_SubmissionFetches :
    (∃ (q : Nat) (s : State), (q < 64) ∧ (nextRing s = some q)) ∧
    (∃ (q : Nat) (s : State), (q < 64) ∧ (nextRing s ≠ some q)) ∧
    (∃ (q : Nat) (s : State), (nextRing s = some q)) ∧
    (∃ (q : Nat), (64 ≤ q)) ∧
    (∃ (q : Nat), (64 ≤ q)) ∧
    (∃ (q : Nat) (r : FetchResult) (e : List Byte) (d : List Byte) (s : State), (q < 64) ∧ ((sq s q).flight = 0) ∧ (isBlockFetch s
    q r e d = false)) ∧
    (∃ (q : Nat) (e : List Byte) (d : List Byte) (s : State), (q < 64) ∧ ((sq s q).flight ≠ 0) ∧ (isBlockFetch s q
    .entryReadFailed e d = false)) ∧
    (∃ (q : Nat) (e : List Byte) (d : List Byte) (s : State) (b0 : List Byte) (l : List Byte), (q < 64) ∧ ((sq s q).flight ≠ 0) ∧
    (isBlockFetch s q .ok e d = false) ∧ (servedAside s (uAt e 0 2) = false) ∧ (takesInputs s = true) ∧ (b0 = latchFlags (cq s
    q).epoch false (padTo 64 (e.take 64))) ∧ (entryData (uAt e 0 2) (subOf q 0 false false b0) d = some l)) ∧
    (∃ (q : Nat) (e : List Byte) (d : List Byte) (s : State) (b0 : List Byte) (l : List Byte), (q < 64) ∧ ((sq s q).flight ≠ 0) ∧
    (isBlockFetch s q .ok e d = false) ∧ (servedAside s (uAt e 0 2) = true) ∧ (b0 = latchFlags (cq s q).epoch false (padTo 64
    (e.take 64))) ∧ (entryData (uAt e 0 2) (subOf q 0 false false b0) d = some l)) ∧
    (∃ (q : Nat) (e : List Byte) (d : List Byte) (s : State), (q < 64) ∧ ((sq s q).flight ≠ 0) ∧ (isBlockFetch s q .ok e d =
    false) ∧ (entryData (uAt e 0 2) (subOf q 0 false false (latchFlags (cq s q).epoch false (padTo 64 (e.take 64)))) d = none)) ∧
    (∃ (op : Nat) (c : Sub) (d : List Byte) (l : List Byte), (entryData op c d = some l)) ∧
    (∃ (op : Nat) (c : Sub) (d : List Byte), (entryData op c d = none)) :=
  ⟨⟨63, fetching, by decide +kernel, by decide +kernel⟩,
    ⟨62, fetching, by decide +kernel, by decide +kernel⟩,
    ⟨63, fetching, by decide +kernel⟩,
    ⟨64, by decide +kernel⟩,
    ⟨64, by decide +kernel⟩,
    ⟨63, .ok, [], [], fetching, by decide +kernel, by decide +kernel, by decide +kernel⟩,
    ⟨63, [], [], modSq 63 (fun x => { x with flight := 1 }) fetching, by decide +kernel, by decide +kernel, by decide +kernel⟩,
    ⟨63, [], [], modSq 63 (fun x => { x with flight := 1 }) fetching, _, [], by decide +kernel, by decide +kernel,
    by decide +kernel, by decide +kernel, by decide +kernel, rfl, by decide +kernel⟩,
    ⟨63, [0xB0], [], modSq 63 (fun x => { x with flight := 1 }) fetching, _, [], by decide +kernel, by decide +kernel,
    by decide +kernel, by decide +kernel, rfl, by decide +kernel⟩,
    ⟨63, le 2 0x10 ++ [0, 0] ++ le 4 8 ++ le 8 0 ++ le 8 0 ++ le 4 8, [], modSq 63 (fun x => { x with flight := 1 }) fetching,
    by decide +kernel, by decide +kernel, by decide +kernel, by decide +kernel⟩,
    ⟨0x10, { buf [1, 2] sub with data := [] }, [1, 2, 3], [1, 2], by decide +kernel⟩,
    ⟨0x10, { buf [1, 2] sub with data := [] }, [1], by decide +kernel⟩⟩

theorem witness_HostLinks :
    (∃ (v : Nat) (t : Stamp) (s : State), (v < 64) ∧ (smGet false s.hif.vecHold v = true) ∧ (later64 (smGet 0 s.hif.vecEnd v)
    (atTime t s).time.tb0 = true)) ∧
    (∃ (v : Nat) (t : Stamp) (s : State), (v < 64) ∧ (smGet false s.hif.vecHold v = false ∨ later64 (smGet 0 s.hif.vecEnd v)
    (atTime t s).time.tb0 = false)) ∧
    (∃ (v : Nat) (s : State), (v < 64) ∧ (smGet false s.hif.pba v = true) ∧ (smGet false s.hif.vecHold v = false)) ∧
    (∃ (v : Nat) (s : State), (v < 64) ∧ (smGet false s.hif.pba v = true) ∧ (smGet false s.hif.vecHold v = true)) ∧
    (∃ (v : Nat) (s : State), (v < 64) ∧ (smGet false s.hif.pba v = false)) ∧
    (∃ (v : Nat), (64 ≤ v)) ∧
    (∃ (b : Bool) (v : Word32) (s : State) (m : Word32) (w : Word32), (pathUp .pcie s = true) ∧ (m = (if b then 0xF01#32 else
    0xF0F#32)) ∧ (fieldOf v 11 8 ≤ 10) ∧ (fieldOf v 2 1 ≤ 2) ∧ (w = (reg s (ethCfg b) &&& ~~~ m) ||| (v &&& m)) ∧ ((reg s (ethCfg
    b) ^^^ w) &&& 7#32 = 0)) ∧
    (∃ (b : Bool) (v : Word32) (s : State) (m : Word32) (w : Word32), (pathUp .pcie s = true) ∧ (m = (if b then 0xF01#32 else
    0xF0F#32)) ∧ (fieldOf v 11 8 ≤ 10) ∧ (fieldOf v 2 1 ≤ 2) ∧ (w = (reg s (ethCfg b) &&& ~~~ m) ||| (v &&& m)) ∧ ((reg s (ethCfg
    b) ^^^ w) &&& 7#32 ≠ 0) ∧ (ethUp s b = true)) ∧
    (∃ (s : State), (rbit s rPadEth0Cfg 0 = true) ∧ (isPowered s = true) ∧ (s.pwr.mode ≠ .retention)) ∧
    (∃ (s : State), (rbit s rPadEth1Cfg 0 = true) ∧ (isPowered s = true) ∧ (s.pwr.mode ≠ .retention) ∧ (s.proc.processing = false)) ∧
    (∃ (b : Bool) (s : State), (rbit s (ethCfg b) 0 = false)) :=
  ⟨⟨63, 500, modHif (fun h => { h with vecHold := [(63, true)], vecEnd := [(63, 600)] }) live, by decide +kernel,
    by decide +kernel, by decide +kernel⟩,
    ⟨63, 500, live, by decide +kernel, by decide +kernel⟩,
    ⟨63, modHif (fun h => { h with pba := [(63, true)] }) live, by decide +kernel, by decide +kernel, by decide +kernel⟩,
    ⟨63, modHif (fun h => { h with pba := [(63, true)], vecHold := [(63, true)] }) live, by decide +kernel, by decide +kernel,
    by decide +kernel⟩,
    ⟨63, live, by decide +kernel, by decide +kernel⟩,
    ⟨64, by decide +kernel⟩,
    ⟨true, 0x100#32 ||| regReset rPadEth1Cfg, live, 0xF01#32, 0x100#32 ||| regReset rPadEth1Cfg, by decide +kernel,
    by decide +kernel, by decide +kernel, by decide +kernel, by decide +kernel, by decide +kernel⟩,
    ⟨true, regReset rPadEth1Cfg ^^^ 1#32, modPwr (fun p => { p with eth1Up := true }) live, 0xF01#32, regReset rPadEth1Cfg ^^^
    1#32, by decide +kernel, by decide +kernel, by decide +kernel, by decide +kernel, by decide +kernel, by decide +kernel,
    by decide +kernel⟩,
    ⟨setReg rPadEth0Cfg 1 live, by decide +kernel, by decide +kernel, by decide +kernel⟩,
    ⟨setReg rPadEth1Cfg 1 still, by decide +kernel, by decide +kernel, by decide +kernel, by decide +kernel⟩,
    ⟨true, live, by decide +kernel⟩⟩

theorem witness_HardwareQueues :
    (∃ (q : Fin 256) (s : State), ((hwq s q).waiting = true) ∧ (hwqSink (hwq s q) = true ∨ hwqLevel (hwq s q) + (packetWords (hwq
    s q)).length < 2 ^ (fieldOf (hwqCfg s q) 20 17 + 4))) ∧
    (∃ (q : Fin 256) (s : State), ((hwq s q).waiting = false ∨ hwqSink (hwq s q) = false ∧ 2 ^ (fieldOf (hwqCfg s q) 20 17 + 4) ≤
    hwqLevel (hwq s q) + (packetWords (hwq s q)).length)) ∧
    (∃ (q : Fin 256) (s : State), ((hwq s q).flush = true) ∧ ((hwq s q).writing = []) ∧ ((hwq s q).skip = false) ∧ ((hwq s
    q).consuming = 0) ∧ (hwqHigh s q = 0) ∧ (hwqLow s q = 0)) ∧
    (∃ (q : Fin 256) (s : State), ((hwq s q).flush = false ∨ (hwq s q).writing ≠ [] ∨ (hwq s q).skip = true ∨ (hwq s q).consuming
    ≠ 0)) ∧
    (∃ (q : Fin 256) (s : State), ((hwq s q).testing = false) ∧ ((hwq s q).quarantined = false) ∧ (hwqHigh s q = 0) ∧ (hwqLow s q
    = 0)) ∧
    (∃ (q : Fin 256) (s : State), ((hwq s q).testing = true)) ∧
    (∃ (q : Fin 256) (s : State), (hwqHigh s q = 0 ∨ hwqLevel (hwq s q) ≤ hwqHigh s q)) ∧
    (∃ (q : Fin 256) (s : State), (hwqHigh s q ≠ 0) ∧ (hwqHigh s q < hwqLevel (hwq s q))) ∧
    (∃ (q : Fin 256) (s : State), (hwqLow s q = 0 ∨ hwqLow s q ≤ hwqLevel (hwq s q))) ∧
    (∃ (q : Fin 256) (s : State), (hwqLow s q ≠ 0) ∧ (hwqLevel (hwq s q) < hwqLow s q)) ∧
    (∃ (q : Nat) (s : State) (x : Hwq), (x = hwq s q) ∧ (x.skip = false) ∧ (x.waiting = false) ∧ (x.testing = false) ∧
    (x.quarantined = false) ∧ (hwqHigh s q = 0) ∧ (hwqLow s q = 0)) ∧
    (∃ (q : Nat) (s : State) (x : Hwq), (x = hwq s q) ∧ (x.writing ≠ []) ∧ (x.consuming ≤ (x.packets.map List.length).sum) ∧
    (x.skip = false) ∧ (x.waiting = false) ∧ (x.testing = false) ∧ (x.quarantined = false) ∧ (hwqHigh s q = 0) ∧ (hwqLow s q = 0)) ∧
    (∃ (q : Nat) (s : State) (x : Hwq), (x = hwq s q) ∧ (x.skip = false) ∧ (x.waiting = false) ∧ (2 ^ (fieldOf (hwqCfg s q) 20 17
    + 4) - 1 < (packetWords x).length + 1)) ∧
    (∃ (q : Nat) (s : State) (x : Hwq), (x = hwq s q) ∧ (x.skip = false) ∧ (x.writing ≠ [])) :=
  ⟨⟨255, modHwq 255 (fun x => { x with waiting := true, packets := [List.replicate 14 0] }) live, by decide +kernel,
    by decide +kernel⟩,
    ⟨255, modHwq 255 (fun x => { x with waiting := true, packets := [List.replicate 16 0] }) live, by decide +kernel⟩,
    ⟨255, modHwq 255 (fun x => { x with flush := true, packets := [List.replicate 16 0] }) live, by decide +kernel,
    by decide +kernel, by decide +kernel, by decide +kernel, by decide +kernel, by decide +kernel⟩,
    ⟨255, modHwq 255 (fun x => { x with flush := true, packets := [List.replicate 16 0], writing := [0] }) live,
    by decide +kernel⟩,
    ⟨255, live, by decide +kernel, by decide +kernel, by decide +kernel, by decide +kernel⟩,
    ⟨255, modHwq 255 (fun x => { x with testing := true }) live, by decide +kernel⟩,
    ⟨255, modHwq 255 (fun x => { x with packets := [List.replicate 4 0] }) (setReg (rHifQWm + 0x20 * 255) 4 live),
    by decide +kernel⟩,
    ⟨255, modHwq 255 (fun x => { x with packets := [List.replicate 5 0] }) (setReg (rHifQWm + 0x20 * 255) 4 live),
    by decide +kernel, by decide +kernel⟩,
    ⟨255, modHwq 255 (fun x => { x with packets := [List.replicate 4 0] }) (setReg (rHifQWm + 0x20 * 255) 0x40000 live),
    by decide +kernel⟩,
    ⟨255, modHwq 255 (fun x => { x with packets := [List.replicate 3 0] }) (setReg (rHifQWm + 0x20 * 255) 0x40000 live),
    by decide +kernel, by decide +kernel⟩,
    ⟨255, modHwq 255 (fun x => { x with packets := [List.replicate 3 0] }) live, _, rfl, by decide +kernel, by decide +kernel,
    by decide +kernel, by decide +kernel, by decide +kernel, by decide +kernel⟩,
    ⟨255, modHwq 255 (fun x => { x with packets := [List.replicate 3 0], writing := [0, 1] }) live, _, rfl, by decide +kernel,
    by decide +kernel, by decide +kernel, by decide +kernel, by decide +kernel, by decide +kernel, by decide +kernel,
    by decide +kernel⟩,
    ⟨255, modHwq 255 (fun x => { x with writing := List.replicate 15 0 }) live, _, rfl, by decide +kernel, by decide +kernel,
    by decide +kernel⟩,
    ⟨255, modHwq 255 (fun x => { x with writing := [0] }) live, _, rfl, by decide +kernel, by decide +kernel⟩⟩

theorem witness_RegisterAccesses :
    (∃ (s : State), (pathUp .pcie s = false)) ∧
    (∃ (o : _) (s : State), (pathUp .pcie s = true) ∧ (o % 4 ≠ 0)) ∧
    (∃ (o : _) (s : State), (pathUp .pcie s = true) ∧ (o % 4 = 0) ∧ (regLookup o = none)) ∧
    (∃ (s : State), (pathUp .pcie s = true)) ∧
    (∃ (s : State), (pathUp .pcie s = true)) ∧
    (∃ (s : State), (pathUp .pcie s = true)) ∧
    (∃ (s : State), (pathUp .pcie s = true)) ∧
    (∃ (s : State), (pathUp .door s = true)) ∧
    (∃ (s : State), (pathUp .pcie s = true)) ∧
    (∃ (s : State), (pathUp .door s = true)) ∧
    (∃ (p : _) (s : State), (pathUp p s = false)) :=
  ⟨⟨State.reset, by decide +kernel⟩,
    ⟨0x20001, live, by decide +kernel, by decide +kernel⟩,
    ⟨0xFFFFC, live, by decide +kernel, by decide +kernel, by decide +kernel⟩,
    ⟨live, by decide +kernel⟩,
    ⟨live, by decide +kernel⟩,
    ⟨live, by decide +kernel⟩,
    ⟨live, by decide +kernel⟩,
    ⟨live, by decide +kernel⟩,
    ⟨live, by decide +kernel⟩,
    ⟨live, by decide +kernel⟩,
    ⟨.pcie, State.reset, by decide +kernel⟩⟩

theorem witness_ModeWritesAndExport :
    (∃ (p : _) (s : State), (pathUp p s = false)) ∧
    (∃ (v : Nat) (s : State), (pathUp .pcie s = true) ∧ (s.proc.processing = false) ∧ (fieldOf v 1 0 ≤ 2) ∧ (20 ≤ fieldOf v 12 8)
    ∧ (fieldOf v 12 8 ≤ 30)) ∧
    (∃ (v : Nat) (s : State), (pathUp .pcie s = true) ∧ (s.proc.processing = true) ∧ (fieldOf v 1 0 ≤ 2) ∧ (20 ≤ fieldOf v 12 8) ∧
    (fieldOf v 12 8 ≤ 30)) ∧
    (∃ (v : Nat) (s : State), (pathUp .door s = true) ∧ (s.proc.processing = false) ∧ (fieldOf v 1 0 ≤ 2)) ∧
    (∃ (v : Nat) (s : State), (pathUp .door s = true) ∧ (s.proc.processing = true) ∧ (fieldOf v 1 0 ≤ 2)) ∧
    (∃ (s : State), (pathUp .pcie s = false)) ∧
    (∃ (s : State), (pathUp .pcie s = true) ∧ (s.proc.processing = false ∨ s.proc.bookMode = 2)) ∧
    (∃ (s : State), (pathUp .pcie s = true) ∧ (s.proc.processing = true) ∧ (s.proc.bookMode ≠ 2)) ∧
    (∃ (s : State), (pathUp .pcie s = true) ∧ (s.proc.processing = false ∨ s.proc.bookMode ≠ 2)) ∧
    (∃ (s : State), (pathUp .pcie s = true) ∧ (s.proc.processing = true) ∧ (s.proc.bookMode = 2)) :=
  ⟨⟨.pcie, State.reset, by decide +kernel⟩,
    ⟨0x1402, still, by decide +kernel, by decide +kernel, by decide +kernel, by decide +kernel, by decide +kernel⟩,
    ⟨0x1E02, live, by decide +kernel, by decide +kernel, by decide +kernel, by decide +kernel, by decide +kernel⟩,
    ⟨2, still, by decide +kernel, by decide +kernel, by decide +kernel⟩,
    ⟨2, live, by decide +kernel, by decide +kernel, by decide +kernel⟩,
    ⟨State.reset, by decide +kernel⟩,
    ⟨still, by decide +kernel, by decide +kernel⟩,
    ⟨live, by decide +kernel, by decide +kernel, by decide +kernel⟩,
    ⟨live, by decide +kernel, by decide +kernel⟩,
    ⟨modProc (fun p => { p with bookMode := 2 }) live, by decide +kernel, by decide +kernel, by decide +kernel⟩⟩

end Sys2Proof.Tests
end

