-- ==== Sys2Proof/Tests/Witness3.lean ====
section
/-! SUPPORT. Witnesses of statements ModeAndPowerRequests to PhasesAndItems: for each clause a state and operands that meet
all its hypotheses together. -/

namespace Sys2Proof.Tests
open Sys2Proof.Machine

set_option maxRecDepth 100000
set_option Elab.async false

theorem witness_ModeAndPowerRequests :
    (∃ (s : State), (s.pwr.mode = .full)) ∧
    (∃ (s : State), (s.pwr.mode = .quiet)) ∧
    (∃ (s : State), (s.pwr.mode = .retention)) ∧
    (∃ (s : State), (retentionOk s = true) ∧ (s.pwr.wakeIn = none)) ∧
    (∃ (s : State) (c : CueNo), (retentionOk s = true) ∧ (s.pwr.wakeIn = some c)) ∧
    (∃ (s : State), (s.pwr.mode ≠ .full ∧ s.pwr.mode ≠ .quiet ∨ s.pwr.retReq.isSome = true)) ∧
    (∃ (s : State), (s.pwr.mode = .full ∨ s.pwr.mode = .quiet) ∧ (s.pwr.retReq = none) ∧ (s.pair.mode ≠ 0 ∨ (∃ q, q < 64 ∧ sqEn s
    q = true) ∨ s.hif.outstanding ≠ [] ∨ s.hif.capture.isSome = true)) ∧
    (∃ (s : State), (s.pwr.mode = .off)) ∧
    (∃ (s : State), (s.pwr.mode ≠ .off)) ∧
    (∃ (s : State), (s.upd.selBusy = none) ∧ (s.upd.setBusy = none) ∧ (s.upd.confirming = none) ∧ (s.board.copied = false)) ∧
    (∃ (s : State) (b : Bool), (s.upd.selBusy = some b) ∧ (s.upd.setBusy = none) ∧ (s.upd.confirming = none) ∧ (s.board.copied =
    false)) ∧
    (∃ (f : Fuses) (v : Nat), (f.secVer ≤ v)) ∧
    (∃ (a : Int) (b : Int) (s : State), (s.pwr.mode = .keepOnly) ∧ (a < 100) ∧ (b < 100)) ∧
    (∃ (a : Int) (b : Int) (s : State), (s.pwr.mode = .keepOnly) ∧ (100 ≤ a ∨ 100 ≤ b)) ∧
    (∃ (a : Int) (b : Int) (s : State), (s.pwr.mode = .keepOnly) ∧ (s.pwr.vin = true) ∧ (a < 100) ∧ (b < 100)) ∧
    (∃ (s : State), (s.pwr.mode ≠ .off) ∧ (s.pwr.vin = true) ∧ (s.proc.processing = false)) :=
  ⟨⟨live, by decide +kernel⟩,
    ⟨modPwr (fun p => { p with mode := .quiet }) live, by decide +kernel⟩,
    ⟨modPwr (fun p => { p with mode := .retention }) live, by decide +kernel⟩,
    ⟨live, by decide +kernel, by decide +kernel⟩,
    ⟨modPwr (fun p => { p with wakeIn := some 9 }) live, 9, by decide +kernel, by decide +kernel⟩,
    ⟨modPwr (fun p => { p with mode := .off }) live, by decide +kernel⟩,
    ⟨inRole 1, by decide +kernel, by decide +kernel, by decide +kernel⟩,
    ⟨modPwr (fun p => { p with mode := .off }) live, by decide +kernel⟩,
    ⟨live, by decide +kernel⟩,
    ⟨live, by decide +kernel, by decide +kernel, by decide +kernel, by decide +kernel⟩,
    ⟨modUpd (fun u => { u with selBusy := some true }) live, true, by decide +kernel, by decide +kernel, by decide +kernel,
    by decide +kernel⟩,
    ⟨{}, 0, by decide +kernel⟩,
    ⟨99, -40, State.reset, by decide +kernel, by decide +kernel, by decide +kernel⟩,
    ⟨99, 100, State.reset, by decide +kernel, by decide +kernel⟩,
    ⟨99, 99, modPwr (fun p => { p with vin := true }) State.reset, by decide +kernel, by decide +kernel, by decide +kernel,
    by decide +kernel⟩,
    ⟨still, by decide +kernel, by decide +kernel, by decide +kernel⟩⟩

theorem witness_RestartsAndResets :
    (∃ (s : State), (s.proc.processing = true) ∧ (s.pwr.restartReq = none) ∧ (s.pwr.retReq = none ∨ s.pwr.mode = .retention)) ∧
    (∃ (s : State), (s.proc.processing = true) ∧ (s.pwr.restartReq = none) ∧ (s.pwr.retReq.isSome = true) ∧ (s.pwr.mode ≠
    .retention)) ∧
    (∃ (s : State), (s.proc.processing = false ∨ s.pwr.restartReq.isSome = true)) ∧
    (∃ (s : State), (s.board.snapDue = true)) ∧
    (∃ (s : State), (s.board.snapDue = false)) ∧
    (∃ (s : State), (isPowered s = true)) ∧
    (∃ (s : State), (isPowered s = true)) ∧
    (∃ (s : State), (isPowered s = false)) ∧
    (∃ (s : State), (isPowered s = true)) :=
  ⟨⟨live, by decide +kernel, by decide +kernel, by decide +kernel⟩,
    ⟨modPwr (fun p => { p with retReq := some 5 }) live, by decide +kernel, by decide +kernel, by decide +kernel,
    by decide +kernel⟩,
    ⟨still, by decide +kernel⟩,
    ⟨{ live with board := { live.board with snapDue := true } }, by decide +kernel⟩,
    ⟨live, by decide +kernel⟩,
    ⟨live, by decide +kernel⟩,
    ⟨live, by decide +kernel⟩,
    ⟨State.reset, by decide +kernel⟩,
    ⟨live, by decide +kernel⟩⟩

theorem witness_StageDoor :
    (∃ (s : State), (pathUp .door s = false)) ∧
    (∃ (s : State), (pathUp .door s = false)) ∧
    (∃ (s : State), (pathUp .door s = true)) ∧
    (∃ (s : State), (pathUp .door s = true)) ∧
    (∃ (b : _) (s : State), (pathUp .door s = true) ∧ (b ∉ [0x9F#8, 0x05#8, 0x0B#8, 0x02#8, 0x30#8, 0x31#8])) ∧
    (∃ (b : _) (s : State), (pathUp .door s = true) ∧ (5 ≤ b.length) ∧ (uAt b 0 4 % 4 = 0) ∧ (uAt b 0 4 ≠ rTimTb0Lo) ∧ (uAt b 0 4
    ≠ rUndOffsetLo)) ∧
    (∃ (b : _) (s : State), (pathUp .door s = true) ∧ (b.length < 10 ∨ b.length % 4 ≠ 2 ∨ doorCrcOk 0x02 b = false)) ∧
    (∃ (b : _) (s : State), (pathUp .door s = true) ∧ (b.length = 10) ∧ (doorCrcOk 0x02 b = true) ∧ (doorReaches (uAt b 0 4) =
    false)) ∧
    (∃ (b : _) (s : State), (pathUp .door s = true) ∧ (b.length = 10) ∧ (doorCrcOk 0x02 b = true) ∧ (uAt b 0 4 = rPwrWakeCue)) ∧
    (∃ (s : State), (pathUp .door s = true) ∧ (s.hif.recovery = false)) ∧
    (∃ (b : _) (s : State), (pathUp .door s = true) ∧ (s.hif.recovery = true) ∧ (6 ≤ b.length) ∧ (doorCrcOk 0x30 b = true) ∧ (uAt
    b 0 4 + (b.length - 6) ≤ 262144)) ∧
    (∃ (b : _) (r : ImageIn) (s : State), (pathUp .door s = true) ∧ (s.hif.recovery = true) ∧ (b.length = 2) ∧ (doorCrcOk 0x31 b =
    true) ∧ (imageReason s r = 0)) ∧
    (∃ (b : _) (r : ImageIn) (s : State), (pathUp .door s = true) ∧ (s.hif.recovery = true) ∧ (b.length = 2) ∧ (doorCrcOk 0x31 b =
    true) ∧ (imageReason s r ≠ 0)) :=
  ⟨⟨State.reset, by decide +kernel⟩,
    ⟨State.reset, by decide +kernel⟩,
    ⟨live, by decide +kernel⟩,
    ⟨live, by decide +kernel⟩,
    ⟨0xFF, live, by decide +kernel, by decide +kernel⟩,
    ⟨[0, 0, 0, 0, 0], live, by decide +kernel, by decide +kernel, by decide +kernel, by decide +kernel, by decide +kernel⟩,
    ⟨[0, 0, 0, 0, 0, 0, 0, 0, 0, 0], live, by decide +kernel, by decide +kernel⟩,
    ⟨[0, 0x40, 0, 0] ++ le 4 1 ++ le 2 (crc16 ([0x02, 0, 0x40, 0, 0] ++ le 4 1)).toNat, live, by decide +kernel,
    by decide +kernel, by decide +kernel, by decide +kernel⟩,
    ⟨le 4 rPwrWakeCue ++ le 4 1 ++ le 2 (crc16 ([0x02] ++ le 4 rPwrWakeCue ++ le 4 1)).toNat, live, by decide +kernel,
    by decide +kernel, by decide +kernel, by decide +kernel⟩,
    ⟨live, by decide +kernel, by decide +kernel⟩,
    ⟨le 4 262144 ++ le 2 (crc16 ([0x30] ++ le 4 262144)).toNat, recov, by decide +kernel, by decide +kernel, by decide +kernel,
    by decide +kernel, by decide +kernel⟩,
    ⟨le 2 (crc16 [0x31]).toNat, image1, recov, by decide +kernel, by decide +kernel, by decide +kernel, by decide +kernel,
    by decide +kernel⟩,
    ⟨le 2 (crc16 [0x31]).toNat, { image1 with sigOk := false }, recov, by decide +kernel, by decide +kernel, by decide +kernel,
    by decide +kernel, by decide +kernel⟩⟩

theorem witness_WatchdogsClocksAndWake :
    (∃ (s : State), (s.pwr.rom = true) ∧ (s.pwr.bootDone = false) ∧ (s.hif.recovery = false) ∧ (s.pwr.recImage = false)) ∧
    (∃ (s : State), (s.pwr.rom = false ∨ s.pwr.bootDone = true ∨ s.hif.recovery = true ∨ s.pwr.recImage = true)) ∧
    (∃ (s : State), (s.proc.processing = true) ∧ (8 ≤ s.pwr.keepWd)) ∧
    (∃ (s : State), (rbits s rSysWdt 15 0 ≠ 0) ∧ (rbits s rSysWdt 15 0 ≤ s.pwr.hostWd) ∧ (rbit s rSysWdt 16 = false)) ∧
    (∃ (s : State), (rbits s rSysWdt 15 0 = 0 ∨ s.pwr.hostWd < rbits s rSysWdt 15 0)) ∧
    (∃ (s : State), (isPowered s = true)) ∧
    (∃ (d : Fin 14) (s : State), (isPowered s = true) ∧ (hasPll d.val = false)) ∧
    (∃ (d : Fin 14) (s : State), (isPowered s = true) ∧ (hasPll d.val = true) ∧ (s.pwr.mode ≠ .retention) ∧ (s.proc.processing =
    true)) ∧
    (∃ (s : State), (s.pwr.clocks = 0)) ∧
    (∃ (s : State), (s.pwr.clocks ≠ 0) ∧ (s.pwr.mode = .full) ∧ (s.pwr.restarting = false)) ∧
    (∃ (s : State), (s.pwr.mode = .retention) ∧ (s.pwr.clocks.getLsbD 0 = false) ∧ (s.pwr.doorFull = true)) ∧
    (∃ (s : State), (s.pwr.mode ≠ .retention)) ∧
    (∃ (s : State), (s.pwr.restarting = false) ∧ (s.proc.processing = false)) ∧
    (∃ (s : State), (s.pwr.restarting = true)) :=
  ⟨⟨modPwr (fun p => { p with bootDone := false }) live, by decide +kernel, by decide +kernel, by decide +kernel,
    by decide +kernel⟩,
    ⟨live, by decide +kernel⟩,
    ⟨modPwr (fun p => { p with keepWd := 8 }) live, by decide +kernel, by decide +kernel⟩,
    ⟨modPwr (fun p => { p with hostWd := 3 }) (setReg rSysWdt 3 live), by decide +kernel, by decide +kernel, by decide +kernel⟩,
    ⟨modPwr (fun p => { p with hostWd := 2 }) (setReg rSysWdt 3 live), by decide +kernel⟩,
    ⟨live, by decide +kernel⟩,
    ⟨6, live, by decide +kernel, by decide +kernel⟩,
    ⟨11, live, by decide +kernel, by decide +kernel, by decide +kernel, by decide +kernel⟩,
    ⟨live, by decide +kernel⟩,
    ⟨modPwr (fun p => { p with clocks := 1 }) live, by decide +kernel, by decide +kernel, by decide +kernel⟩,
    ⟨modPwr (fun p => { p with mode := .retention, doorFull := true }) live, by decide +kernel, by decide +kernel,
    by decide +kernel⟩,
    ⟨live, by decide +kernel⟩,
    ⟨still, by decide +kernel, by decide +kernel⟩,
    ⟨modPwr (fun p => { p with restarting := true }) live, by decide +kernel⟩⟩

theorem witness_KeyInstall :
    (∃ (c : Sub) (s : State), (ready cmdKeyInstall c s = true) ∧ (pU c 32 1 = 1)) ∧
    (∃ (c : Sub) (s : State), (ready cmdKeyInstall c s = true) ∧ (pU c 32 1 = 2)) ∧
    (∃ (c : Sub) (s : State), (ready cmdKeyInstall c s = true) ∧ (pU c 32 1 = 3) ∧ ((keysNext s).cur = none)) ∧
    (∃ (c : Sub) (s : State), (ready cmdKeyInstall c s = true) ∧ (pU c 32 1 = 3) ∧ ((keysNext s).cur.isSome = true)) ∧
    (∃ (c : Sub) (s : State), (ready cmdKeyInstall c s = true)) :=
  ⟨⟨install1, linked, ready_install_router, by decide +kernel⟩,
    ⟨par 32 [2, 3] (buf (ecBytes g256) sub), rooted, by decide +kernel, by decide +kernel⟩,
    ⟨install3, keyless, ready_install_first, by decide +kernel, by decide +kernel⟩,
    ⟨install3, linked, ready_install_next, by decide +kernel, by decide +kernel⟩,
    ⟨par 32 [2, 3] (buf (ecBytes g256) sub), rooted, by decide +kernel⟩⟩

theorem witness_FusesDebugAndRandomness :
    (∃ (s : State), (s.sec.fuses.root = none) ∧ (s.proc.processing = false)) ∧
    (∃ (s : State), (s.sec.fuses.root.isSome = true)) ∧
    (∃ (s : State), (s.sec.fuses.root = none) ∧ (s.proc.processing = true)) ∧
    (∃ (s : State), (s.sec.fusing = true)) ∧
    (∃ (s : State), (s.sec.fusing = false)) ∧
    (∃ (d : List Byte) (s : State), (s.proc.processing = false) ∧ (d.length = 32)) ∧
    (∃ (s : State), (s.proc.processing = true)) ∧
    (∃ (s : State), (unlockOk s = true)) ∧
    (∃ (s : State), (unlockOk s = false)) ∧
    (∃ (s : State), (s.proc.processing = true ∨ s.sec.fuses.dbg ≠ 1 ∨ s.sec.chalUsed = true)) ∧
    (∃ (s : State), (s.sec.trngTest = false)) ∧
    (∃ (s : State), (s.sec.trngTest = true)) ∧
    (∃ (s : State), (s.sec.trngTest = true) ∧ (s.proc.processing = false)) :=
  ⟨⟨still, by decide +kernel, by decide +kernel⟩,
    ⟨rooted, by decide +kernel⟩,
    ⟨live, by decide +kernel, by decide +kernel⟩,
    ⟨modSec (fun x => { x with fusing := true }) still, by decide +kernel⟩,
    ⟨live, by decide +kernel⟩,
    ⟨List.replicate 32 0, still, by decide +kernel, by decide +kernel⟩,
    ⟨live, by decide +kernel⟩,
    ⟨challenged, by decide +kernel⟩,
    ⟨live, by decide +kernel⟩,
    ⟨live, by decide +kernel⟩,
    ⟨live, by decide +kernel⟩,
    ⟨modSec (fun x => { x with trngTest := true }) live, by decide +kernel⟩,
    ⟨modSec (fun x => { x with trngTest := true }) still, by decide +kernel, by decide +kernel⟩⟩

theorem witness_EngineFaultsAndSelfTest :
    (∃ (s : State), (s.proc.processing = false)) ∧
    (∃ (s : State), (s.proc.processing = true) ∧ (s.pair.role ≠ 2) ∧ (s.pair.role ≠ 3)) ∧
    (∃ (s : State), (s.proc.processing = true) ∧ (s.pair.role = 2 ∨ s.pair.role = 3)) ∧
    (∃ (e : Fin 12) (s : State), (s.pwr.restarting = true ∨ s.pwr.rom = true ∧ s.pwr.bootDone = false) ∧ (s.pwr.coreTests.contains
    e.val = true)) ∧
    (∃ (e : Fin 12) (s : State), (s.pwr.restarting = true ∨ s.pwr.rom = true ∧ s.pwr.bootDone = false) ∧ (s.pwr.coreTests.contains
    e.val = true)) ∧
    (∃ (e : Fin 12) (s : State), (s.pwr.coreTests.contains e.val = false) ∧ (s.proc.processing = false)) ∧
    (∃ (s : State), (s.proc.processing = false)) ∧
    (∃ (c : Sub) (n : Nat) (s : State), (s.proc.processing = true) ∧ (judged (cmdSelftest n) { c with aside := true } s = none) ∧
    ((cmdSelftest n).check { c with aside := true } s = none) ∧ (pU c 32 1 = 0)) ∧
    (∃ (c : Sub) (n : Nat) (s : State), (s.proc.processing = true) ∧ (judged (cmdSelftest n) { c with aside := true } s = none) ∧
    ((cmdSelftest n).check { c with aside := true } s = none) ∧ (pU c 32 1 = 4) ∧ ((eng s (pU c 34 2)).retired = false)) ∧
    (∃ (c : Sub) (n : Nat) (s : State), (s.proc.processing = true) ∧ (judged (cmdSelftest n) { c with aside := true } s = none) ∧
    ((cmdSelftest n).check { c with aside := true } s = none) ∧ (1 ≤ pU c 32 1) ∧ (pU c 32 1 ≠ 4 ∨ (eng s (pU c 34 2)).retired =
    true) ∧ (n ≠ 0)) ∧
    (∃ (c : Sub) (s : State), (s.proc.processing = true) ∧ (judged (cmdSelftest 0) { c with aside := true } s = none) ∧
    ((cmdSelftest 0).check { c with aside := true } s = none) ∧ (1 ≤ pU c 32 1) ∧ (pU c 32 1 ≠ 4 ∨ (eng s (pU c 34 2)).retired =
    true) ∧ (bit (pU c 33 1) 0 = true)) ∧
    (∃ (c : Sub), (c.aside = true) ∧ (bit (pU c 33 1) 0 = false)) ∧
    (∃ (c : Sub) (n : Nat) (s : State), (c.aside = true) ∧ (n ≠ 0) ∧ (pU c 32 1 = 0) ∧ (bankState s (pU c 34 2) = 0)) ∧
    (∃ (s : State), (s.pair.role ≠ 1)) :=
  ⟨⟨still, by decide +kernel⟩,
    ⟨live, by decide +kernel, by decide +kernel, by decide +kernel⟩,
    ⟨inRole 3, by decide +kernel, by decide +kernel⟩,
    ⟨11, modPwr (fun p => { p with restarting := true, coreTests := [11] }) still, by decide +kernel, by decide +kernel⟩,
    ⟨11, modPwr (fun p => { p with restarting := true, coreTests := [11] }) still, by decide +kernel, by decide +kernel⟩,
    ⟨11, still, by decide +kernel, by decide +kernel⟩,
    ⟨still, by decide +kernel⟩,
    ⟨par 32 [0, 0, 11] sub, 1, inRole 2, by decide +kernel, by decide +kernel, by decide +kernel, by decide +kernel⟩,
    ⟨par 32 [4, 0, 11] sub, 1, inRole 2, by decide +kernel, by decide +kernel, by decide +kernel, by decide +kernel,
    by decide +kernel⟩,
    ⟨par 32 [4, 0, 11] sub, 1, modEng 11 (fun e => { e with retired := true }) (inRole 2), by decide +kernel, by decide +kernel,
    by decide +kernel, by decide +kernel, by decide +kernel, by decide +kernel⟩,
    ⟨par 32 [4, 1, 11] sub, modEng 11 (fun e => { e with retired := true }) (inRole 2), by decide +kernel, by decide +kernel,
    by decide +kernel, by decide +kernel, by decide +kernel, by decide +kernel⟩,
    ⟨{ sub with aside := true }, by decide +kernel, by decide +kernel⟩,
    ⟨{ sub with aside := true }, 1, live, by decide +kernel, by decide +kernel, by decide +kernel, by decide +kernel⟩,
    ⟨live, by decide +kernel⟩⟩

theorem witness_CueCountsAndIntake :
    (∃ (s : State), (s.pwr.mode = .off)) ∧
    (∃ (s : State), (s.pwr.mode = .keepOnly ∨ s.pwr.mode = .retention)) ∧
    (∃ (s : State), (s.pwr.mode = .startup)) ∧
    (∃ (s : State), (s.pwr.mode = .full ∨ s.pwr.mode = .quiet) ∧ (s.pair.promo = none) ∧ (s.pwr.restartReq = none) ∧
    (s.proc.processing = false)) ∧
    (∃ (s : State) (k : _), (s.pwr.mode = .full ∨ s.pwr.mode = .quiet) ∧ (s.pair.promo = none) ∧ (s.pwr.restartReq = some k)) ∧
    (∃ (s : State), (s.pwr.mode = .full ∨ s.pwr.mode = .quiet) ∧ (s.pair.promo = none) ∧ (s.pwr.restartReq = none) ∧
    (s.proc.processing = true) ∧ (s.pair.role = 0) ∧ (s.proc.bookMode ≠ 2) ∧ (s.pwr.retReq = none) ∧ (s.pwr.wakeIn = none)) ∧
    (∃ (s : State), (s.pair.fixedD = false) ∧ (s.pair.role = 0)) :=
  ⟨⟨modPwr (fun p => { p with mode := .off }) live, by decide +kernel⟩,
    ⟨State.reset, by decide +kernel⟩,
    ⟨modPwr (fun p => { p with mode := .startup }) live, by decide +kernel⟩,
    ⟨still, by decide +kernel, by decide +kernel, by decide +kernel, by decide +kernel⟩,
    ⟨modPwr (fun p => { p with restartReq := some 4 }) live, 4, by decide +kernel, by decide +kernel, by decide +kernel⟩,
    ⟨live, by decide +kernel, by decide +kernel, by decide +kernel, by decide +kernel, by decide +kernel, by decide +kernel,
    by decide +kernel, by decide +kernel⟩,
    ⟨live, by decide +kernel, by decide +kernel⟩⟩

theorem witness_ProcessingStarts :
    (∃ (s : State), (startDue s = false)) ∧
    (∃ (s : State), (startDue s = true)) ∧
    (∃ (s : State), (startDue s = true)) ∧
    (∃ (s : State), (rbits s rUndCtl 1 0 = 0)) ∧
    (∃ (s : State), (rbits s rUndCtl 1 0 = 1)) ∧
    (∃ (s : State), (rbits s rUndCtl 1 0 = 2)) :=
  ⟨⟨live, by decide +kernel⟩,
    ⟨starting, by decide +kernel⟩,
    ⟨starting, by decide +kernel⟩,
    ⟨starting, by decide +kernel⟩,
    ⟨setReg rUndCtl 1 starting, by decide +kernel⟩,
    ⟨setReg rUndCtl 2 starting, by decide +kernel⟩⟩

theorem witness_PhasesAndItems :
    (∃ (s : State), (s.proc.processing = true) ∧ (s.proc.hkDone = false) ∧ (s.proc.phase = .intake)) ∧
    (∃ (s : State), (s.proc.processing = true) ∧ (s.proc.hkDone = false) ∧ (s.proc.phase = .work)) ∧
    (∃ (s : State), (s.proc.processing = true) ∧ (s.proc.hkDone = false) ∧ (s.proc.phase = .publish)) ∧
    (∃ (s : State), (s.proc.processing = false ∨ s.proc.hkDone = true)) ∧
    (∃ (s : State), (s.proc.phase ≠ .intake)) ∧
    (∃ (s : State), (s.proc.phase ≠ .work)) ∧
    (∃ (s : State), (s.proc.phase ≠ .publish)) ∧
    (∃ (s : State), (s.proc.processing = false)) ∧
    (∃ (e : Nat) (cost : _) (s : State), (s.proc.processing = true) ∧ (engHeld s e cost = true)) ∧
    (∃ (e : Nat) (cost : _) (s : State), (s.proc.processing = true) ∧ (engHeld s e cost = false)) ∧
    (∃ (e : Nat) (cost : _) (s : State), ((eng s e).left < cost ∨ (eng s e).blocked = true ∨ (eng s e).paused = true)) :=
  ⟨⟨modProc (fun p => { p with phase := .intake }) live, by decide +kernel, by decide +kernel, by decide +kernel⟩,
    ⟨live, by decide +kernel, by decide +kernel, by decide +kernel⟩,
    ⟨modProc (fun p => { p with phase := .publish }) live, by decide +kernel, by decide +kernel, by decide +kernel⟩,
    ⟨still, by decide +kernel⟩,
    ⟨live, by decide +kernel⟩,
    ⟨modProc (fun p => { p with phase := .publish }) live, by decide +kernel⟩,
    ⟨live, by decide +kernel⟩,
    ⟨still, by decide +kernel⟩,
    ⟨11, 11, modEng 11 (fun e => { e with left := 10 }) live, by decide +kernel, by decide +kernel⟩,
    ⟨11, 10, modEng 11 (fun e => { e with left := 10 }) live, by decide +kernel, by decide +kernel⟩,
    ⟨11, 11, modEng 11 (fun e => { e with left := 10 }) live, by decide +kernel⟩⟩

end Sys2Proof.Tests
end

