-- ==== Sys2Proof/Tests/Witness4.lean ====
section
/-! SUPPORT. Witnesses of statements SceneAndHeldCommands to Receptions: for each clause a state and operands that meet
all its hypotheses together. -/

namespace Sys2Proof.Tests
open Sys2Proof.Machine

set_option maxRecDepth 100000
set_option Elab.async false

theorem witness_SceneAndHeldCommands :
    (∃ (s : State), (s.proc.processing = true) ∧ (s.proc.hkDone = false) ∧ (s.proc.phase = .work) ∧ (isBoundary s s.proc.procCue =
    false)) ∧
    (∃ (s : State), (s.proc.processing = true) ∧ (s.proc.hkDone = false) ∧ (s.proc.phase = .work) ∧ (isBoundary s s.proc.procCue =
    true) ∧ (s.proc.sceneAt ≠ some s.proc.procCue) ∧ (tb1Follow s = false) ∧ (s.upd.tour = none)) ∧
    (∃ (s : State), (s.proc.processing = true) ∧ (s.proc.hkDone = false) ∧ (s.proc.phase = .work)) :=
  ⟨⟨live, by decide +kernel, by decide +kernel, by decide +kernel, by decide +kernel⟩,
    ⟨modProc (fun p => { p with procCue := 1024 }) live, by decide +kernel, by decide +kernel, by decide +kernel,
    by decide +kernel, by decide +kernel, by decide +kernel, by decide +kernel⟩,
    ⟨live, by decide +kernel, by decide +kernel, by decide +kernel⟩⟩

theorem witness_UpdateSteps :
    (∃ (s : State), (s.proc.processing = false)) ∧
    (∃ (u : UpdEnd) (s : State), (s.proc.processing = true) ∧ (opOf s.upd u = none) ∧ (opOf s.updP u = none)) ∧
    (∃ (u : UpdEnd) (c : Sub) (s : State), (s.proc.processing = true) ∧ (u.opcode = 0x80) ∧ (opOf s.upd u = some c) ∧ (c.aside =
    false) ∧ (c.partner = false) ∧ (u.outcome = 0)) ∧
    (∃ (u : UpdEnd) (c : Sub) (s : State), (s.proc.processing = true) ∧ (u.opcode = 0x80) ∧ (opOf s.upd u = some c) ∧ (c.aside =
    false) ∧ (c.partner = false) ∧ (u.outcome ≠ 0)) ∧
    (∃ (u : UpdEnd) (s : State), (opOf s.upd u = none)) ∧
    (∃ (u : UpdEnd) (c : Sub) (s : State), (opOf s.upd u = some c) ∧ (c.aside = false) ∧ (u.opcode = 0x80) ∧ (u.outcome ≠ 8) ∧
    (takesInputs s = true) ∧ (u.outcome ≠ 0 ∨ s.upd.stageHit = false)) ∧
    (∃ (u : UpdEnd) (c : Sub) (s : State), (opOf s.upd u = some c) ∧ (c.aside = false) ∧ (u.opcode = 0x80) ∧ (u.outcome = 0) ∧
    (takesInputs s = true) ∧ (s.upd.stageHit = true)) ∧
    (∃ (u : UpdEnd) (c : Sub) (s : State) (x : Nat × BitVec 4), (opOf s.upd u = some c) ∧ (c.aside = false) ∧ (u.opcode = 0x83) ∧
    (u.outcome = 0) ∧ (takesInputs s = true) ∧ (x = confirmImage s.upd)) ∧
    (∃ (r : Roll) (s : State), (s.proc.processing = true) ∧ (s.upd.roll = some r) ∧ (s.updP.roll = none) ∧ (stepDue s r = true) ∧
    (r.step < 12) ∧ (r.ends.any (fun x => x.1 == r.step + 1 && x.2 == 0) = true) ∧ (stepDue s { r with step := r.step + 1 } =
    false)) ∧
    (∃ (s : State), (s.proc.processing = true) ∧ (s.upd.roll = none) ∧ (s.updP.roll = none)) ∧
    (∃ (r : Roll) (s : State), (s.proc.processing = true) ∧ (s.upd.roll = some r) ∧ (s.updP.roll = none) ∧ (stepDue s r = false)) ∧
    (∃ (s : State), (s.proc.processing = false)) ∧
    (∃ (r : Roll) (s : State), (s.upd.roll = some r) ∧ (stepDue s r = true) ∧ (r.step < 12) ∧ (r.ends.any (fun x => x.1 == r.step
    + 1 && x.2 == 0) = true)) ∧
    (∃ (r : Roll) (s : State), (s.upd.roll = some r) ∧ (stepDue s r = true) ∧ (r.step < 12) ∧ (r.ends.any (fun x => x.1 == r.step
    + 1 && x.2 == 0) = false)) ∧
    (∃ (r : Roll) (s : State), (s.upd.roll = some r) ∧ (stepDue s r = true) ∧ (r.step = 12)) :=
  ⟨⟨still, by decide +kernel⟩,
    ⟨staged 0, live, by decide +kernel, by decide +kernel, by decide +kernel⟩,
    ⟨staged 0, sub, modUpd (fun u => { u with staging := some sub }) live, by decide +kernel, by decide +kernel,
    by decide +kernel, by decide +kernel, by decide +kernel, by decide +kernel⟩,
    ⟨staged 1, sub, modUpd (fun u => { u with staging := some sub }) live, by decide +kernel, by decide +kernel,
    by decide +kernel, by decide +kernel, by decide +kernel, by decide +kernel⟩,
    ⟨staged 0, live, by decide +kernel⟩,
    ⟨staged 7, sub, modUpd (fun u => { u with staging := some sub }) live, by decide +kernel, by decide +kernel,
    by decide +kernel, by decide +kernel, by decide +kernel, by decide +kernel⟩,
    ⟨staged 0, sub, modUpd (fun u => { u with staging := some sub, stageHit := true }) live, by decide +kernel,
    by decide +kernel, by decide +kernel, by decide +kernel, by decide +kernel, by decide +kernel⟩,
    ⟨{ staged 0 with opcode := 0x83 }, sub, modUpd (fun u => { u with confirming := some sub }) live, _, by decide +kernel,
    by decide +kernel, by decide +kernel, by decide +kernel, by decide +kernel, rfl⟩,
    ⟨{ roll1 0 with ends := [(1, 0)] }, modUpd (fun u => { u with roll := some { roll1 0 with ends := [(1, 0)] } }) (rolling 10
    0), by decide +kernel, by decide +kernel, by decide +kernel, by decide +kernel, by decide +kernel, by decide +kernel,
    by decide +kernel⟩,
    ⟨live, by decide +kernel, by decide +kernel, by decide +kernel⟩,
    ⟨roll1 0, rolling 5 0, by decide +kernel, by decide +kernel, by decide +kernel, by decide +kernel⟩,
    ⟨still, by decide +kernel⟩,
    ⟨{ roll1 0 with ends := [(1, 0)] }, modUpd (fun u => { u with roll := some { roll1 0 with ends := [(1, 0)] } }) (rolling 300
    0), by decide +kernel, by decide +kernel, by decide +kernel, by decide +kernel⟩,
    ⟨roll1 11, rolling 300 11, by decide +kernel, by decide +kernel, by decide +kernel, by decide +kernel⟩,
    ⟨roll1 12, rolling 300 12, by decide +kernel, by decide +kernel, by decide +kernel⟩⟩

theorem witness_RomAndBoot :
    (∃ (s : State), (s.pwr.mode ≠ .startup ∨ s.pwr.rom = true)) ∧
    (∃ (v : VerifyIn) (s : State), (s.pwr.mode = .startup) ∧ (s.pwr.rom = false) ∧ (v.octal = true) ∧ (imageReason s v.bootBlock =
    0) ∧ ((selNow s.upd).trial = false) ∧ (slotReason s v (selNow s.upd).slot = 0)) ∧
    (∃ (v : VerifyIn) (s : State), (s.pwr.mode = .startup) ∧ (s.pwr.rom = false) ∧ (v.octal = false)) ∧
    (∃ (v : VerifyIn) (s : State), (s.pwr.mode = .startup) ∧ (s.pwr.rom = false) ∧ (v.octal = true) ∧ (imageReason s v.bootBlock ≠
    0)) ∧
    (∃ (v : VerifyIn) (s : State), (s.pwr.mode = .startup) ∧ (s.pwr.rom = false) ∧ (v.octal = true) ∧ (imageReason s v.bootBlock =
    0) ∧ ((selNow s.upd).trial = false) ∧ (slotReason s v (selNow s.upd).slot ≠ 0) ∧ (slotReason s v (1 - (selNow s.upd).slot) ≠
    0)) ∧
    (∃ (s : State), (settingsHi s.upd = none)) ∧
    (∃ (s : State), (s.pwr.mode = .startup) ∧ (s.pwr.rom = true) ∧ (s.pwr.bootDone = false) ∧ (s.hif.recovery = false) ∧
    (s.pwr.recImage = false) ∧ (s.pwr.coreTests = [])) ∧
    (∃ (s : State), (s.pwr.mode = .startup) ∧ (s.pwr.rom = true) ∧ (s.pwr.bootDone = false) ∧ (s.hif.recovery = false) ∧
    (s.pwr.recImage = false) ∧ (s.pwr.coreTests = [])) ∧
    (∃ (s : State), (s.pwr.mode ≠ .startup ∨ s.pwr.rom = false ∨ s.pwr.bootDone = true ∨ s.pwr.coreTests ≠ [])) :=
  ⟨⟨live, by decide +kernel⟩,
    ⟨verify1, modPwr (fun p => { p with mode := .startup }) State.reset, by decide +kernel, by decide +kernel, by decide +kernel,
    by decide +kernel, by decide +kernel, by decide +kernel⟩,
    ⟨{ verify1 with octal := false }, modPwr (fun p => { p with mode := .startup }) State.reset, by decide +kernel,
    by decide +kernel, by decide +kernel⟩,
    ⟨{ verify1 with bootBlock := { image1 with keyOk := false } }, modPwr (fun p => { p with mode := .startup }) State.reset,
    by decide +kernel, by decide +kernel, by decide +kernel, by decide +kernel⟩,
    ⟨{ verify1 with imageA := { image1 with steppings := [255] }, imageB := { image1 with magicOk := false } }, modPwr (fun p =>
    { p with mode := .startup }) State.reset, by decide +kernel, by decide +kernel, by decide +kernel, by decide +kernel,
    by decide +kernel, by decide +kernel, by decide +kernel⟩,
    ⟨State.reset, by decide +kernel⟩,
    ⟨modPwr (fun p => { p with mode := .startup, rom := true }) State.reset, by decide +kernel, by decide +kernel,
    by decide +kernel, by decide +kernel, by decide +kernel, by decide +kernel⟩,
    ⟨modPwr (fun p => { p with mode := .startup, rom := true }) State.reset, by decide +kernel, by decide +kernel,
    by decide +kernel, by decide +kernel, by decide +kernel, by decide +kernel⟩,
    ⟨live, by decide +kernel⟩⟩

theorem witness_Modules :
    (∃ (s : State), (isPowered s = false ∨ s.pwr.mode = .retention)) ∧
    (∃ (a : Fin 8) (b : List Byte) (s : State), (isPowered s = true) ∧ (s.pwr.mode ≠ .retention) ∧ (s.proc.processing = true) ∧ (b
    ≠ []) ∧ (s.pwr.feidDue.contains a.val = false)) ∧
    (∃ (a : Fin 8) (b : List Byte) (s : State), (isPowered s = true) ∧ (s.pwr.mode ≠ .retention) ∧ (s.proc.processing = true) ∧
    (s.pwr.feidDue.contains a.val = true) ∧ (descOk b = true) ∧ (smGet false s.pwr.feidSeen a = true) ∧ (descAt s a = b)) ∧
    (∃ (a : Fin 8) (b : List Byte) (s : State), (isPowered s = true) ∧ (s.pwr.mode ≠ .retention) ∧ (takesInputs s = true) ∧
    (s.pwr.feidDue.contains a.val = true) ∧ (descOk b = true) ∧ (smGet false s.pwr.feidSeen a = false)) ∧
    (∃ (s : State), (s.proc.processing = true) ∧ (engHeld s 10 10 = false)) :=
  ⟨⟨State.reset, by decide +kernel⟩,
    ⟨7, [0], live, by decide +kernel, by decide +kernel, by decide +kernel, by decide +kernel, by decide +kernel⟩,
    ⟨7, desc1, modPwr (fun p => { p with feidDue := [7], feidSeen := [(7, true)], feid := [(7, desc1)] }) live,
    by decide +kernel, by decide +kernel, by decide +kernel, by decide +kernel, by decide +kernel, by decide +kernel,
    by decide +kernel⟩,
    ⟨7, desc1, modPwr (fun p => { p with feidDue := [7] }) live, by decide +kernel, by decide +kernel, by decide +kernel,
    by decide +kernel, by decide +kernel, by decide +kernel⟩,
    ⟨live, by decide +kernel, by decide +kernel⟩⟩

theorem witness_LocalRecords :
    (∃ (src : Nat) (s : State), (evEn s = false) ∧ (evMasked s src = false)) ∧
    (∃ (src : Nat) (s : State), (evMasked s src = true)) ∧
    (∃ (src : Nat) (s : State), (evMasked s src = false) ∧ (evRoom s = true)) ∧
    (∃ (b : Board), (b.scanned = true)) ∧
    (∃ (b : Board), (b.scanned = false) ∧ (b.waiting.length < 64)) ∧
    (∃ (b : Board), (b.scanned = false) ∧ (64 ≤ b.waiting.length)) ∧
    (∃ (s : State), (s.board.scanned = true)) ∧
    (∃ (s : State), (s.board.scanned = false) ∧ (evEn s = false)) ∧
    (∃ (b : Board), (b.jnlSeq ≠ b.next) ∧ (b.paused = false) ∧ (b.ahead = some ((b.jnlSeq.toNat % 262144 / 8192 + 1) % 32))) ∧
    (∃ (b : Board), (b.jnlSeq = b.next ∨ b.paused = true)) ∧
    (∃ (b : Board) (n : _), (n = b.jnlSeq.toNat % 262144 / 8192) ∧ (b.jnlSeq ≠ b.next) ∧ (b.paused = false) ∧ (b.ahead ≠ some ((n
    + 1) % 32)) ∧ (b.erasing.isSome = true)) ∧
    (∃ (b : Board) (n : _), (n = b.jnlSeq.toNat % 262144 / 8192) ∧ (b.jnlSeq ≠ b.next) ∧ (b.paused = false) ∧ (b.ahead = some n) ∧
    (b.erasing = none)) ∧
    (∃ (s : State), (s.board.scanned = true) ∧ ((s.board.next - s.board.jnlSeq).toInt ≤ 16384)) :=
  ⟨⟨14, live, by decide +kernel, by decide +kernel⟩,
    ⟨14, setReg rHifEvMask 0x4000 live, by decide +kernel⟩,
    ⟨14, setReg rHifEqCfg 9 live, by decide +kernel, by decide +kernel⟩,
    ⟨{ scanned := true }, by decide +kernel⟩,
    ⟨{ waiting := List.replicate 63 [] }, by decide +kernel, by decide +kernel⟩,
    ⟨{ waiting := List.replicate 64 [] }, by decide +kernel, by decide +kernel⟩,
    ⟨live, by decide +kernel⟩,
    ⟨State.reset, by decide +kernel, by decide +kernel⟩,
    ⟨{ next := 1, ahead := some 1 }, by decide +kernel, by decide +kernel, by decide +kernel⟩,
    ⟨{}, by decide +kernel⟩,
    ⟨{ next := 1, erasing := some 5 }, 0, by decide +kernel, by decide +kernel, by decide +kernel, by decide +kernel,
    by decide +kernel⟩,
    ⟨{ next := 1, ahead := some 0 }, 0, by decide +kernel, by decide +kernel, by decide +kernel, by decide +kernel,
    by decide +kernel⟩,
    ⟨live, by decide +kernel, by decide +kernel⟩⟩

theorem witness_ReceivePortsAndBlanking :
    (∃ (p : Fin 4) (s : State), (rbit s (rxfReg p 0) 0 = true)) ∧
    (∃ (p : Fin 4) (s : State), (rbit s (rxfReg p 0) 0 = false)) ∧
    (∃ (p : Fin 4) (s : State), (rbit s (rxfReg p 0) 0 = false)) ∧
    (∃ (p : Fin 4) (s : State), (rbit s (rxfReg p 0) 0 = true)) ∧
    (∃ (p : Fin 4) (s : State) (c : Capture), (s.hif.capture = some c) ∧ (c.gain.isSome = true) ∧ (byteAt c.sub.params 0 = p)) ∧
    (∃ (p : Fin 4) (s : State), (rbit s (rxfReg p 0) 3 = true) ∧ (portOn s p = true)) ∧
    (∃ (p : Fin 4) (s : State), (rbit s (rxfReg p 0) 3 = false ∨ portOn s p = false)) ∧
    (∃ (p : Fin 4) (g : _) (s : State), ((port s p).gain = g)) ∧
    (∃ (p : Fin 4) (g : _) (s : State), ((port s p).gain ≠ g)) ∧
    (∃ (p : Fin 4) (n : _) (s : State), (portOn s p = false ∨ isBlanked (port s p) = true ∨ rbit s (rxfReg p 8) 0 = false ∨ n ≤
    rbits s (rxfReg p 8) 15 8)) ∧
    (∃ (p : Fin 4) (n : _) (s : State), (portOn s p = true) ∧ (isBlanked (port s p) = false) ∧ (rbits s (rxfReg p 8) 15 8 < n) ∧
    (rbit s (rxfReg p 8) 0 = true) ∧ (0 < (port s p).gain)) ∧
    (∃ (p : Fin 4) (n : _) (s : State), (portOn s p = true) ∧ (isBlanked (port s p) = false) ∧ (rbits s (rxfReg p 8) 15 8 < n) ∧
    (rbit s (rxfReg p 8) 0 = true) ∧ ((port s p).gain = 0)) ∧
    (∃ (c : Chain) (t : Stamp) (s : State), ((∀ r ∈ waitingReqs (tx s c), (tx s c).blankOf = some r.seq ∨ later64 (minus (ownStamp
    s r.start) (rbits s 0x20004 7 0 * usTicks)) t = true))) ∧
    (∃ (c : Chain) (t : Stamp) (s : State) (r : TxReq) (l : List TxReq), (waitingReqs (tx s c) = r :: l) ∧ ((tx s c).blankOf ≠
    some r.seq) ∧ (later64 (minus (ownStamp s r.start) (rbits s 0x20004 7 0 * usTicks)) t = false)) ∧
    (∃ (c : Chain) (s : State), (rbits s 0x20000 (if c = .a then 3 else 7) (if c = .a then 0 else 4) = 0)) ∧
    (∃ (s : State), (rbits s 0x20000 3 0 = 4)) ∧
    (∃ (c : Chain) (s : State), ((tx s c).blankFrom = none)) ∧
    (∃ (c : Chain) (t : Stamp) (s : State) (e : Stamp), ((tx s c).blankFrom = some e) ∧ ((tx s c).blank = false ∨ later64 (plus e
    ((tx s c).blankPost * usTicks)) t = true)) ∧
    (∃ (c : Chain) (t : Stamp) (s : State) (e : Stamp), ((tx s c).blankFrom = some e) ∧ ((tx s c).blank = true) ∧ (later64 (plus e
    ((tx s c).blankPost * usTicks)) t = false) ∧ (later64 (plus s.proc.cueStart (960 * usTicks)) (atTime t s).time.tb0 = true)) :=
  ⟨⟨3, setReg (rxfReg 3 0) 1 live, by decide +kernel⟩,
    ⟨3, live, by decide +kernel⟩,
    ⟨3, live, by decide +kernel⟩,
    ⟨3, setReg (rxfReg 3 0) 1 live, by decide +kernel⟩,
    ⟨3, modHif (fun h => { h with capture := some ⟨par 32 [3] sub, 1, 4, some 40, false⟩ }) live, ⟨par 32 [3] sub, 1, 4, some 40,
    false⟩, by decide +kernel, by decide +kernel, by decide +kernel⟩,
    ⟨3, setReg (rxfReg 3 0) 9 live, by decide +kernel, by decide +kernel⟩,
    ⟨3, setReg (rxfReg 3 0) 1 live, by decide +kernel⟩,
    ⟨3, 40, live, by decide +kernel⟩,
    ⟨3, 5, live, by decide +kernel⟩,
    ⟨3, 0, setReg (rxfReg 3 0) 1 live, by decide +kernel⟩,
    ⟨3, 5, setReg (rxfReg 3 8) 0x401 (setReg (rxfReg 3 0) 1 live), by decide +kernel, by decide +kernel, by decide +kernel,
    by decide +kernel, by decide +kernel⟩,
    ⟨3, 5, modPort 3 (fun x => { x with gain := 0 }) (setReg (rxfReg 3 8) 0x401 (setReg (rxfReg 3 0) 1 live)), by decide +kernel,
    by decide +kernel, by decide +kernel, by decide +kernel, by decide +kernel⟩,
    ⟨.b, 0, modTx .b (fun x => { x with st := .waiting, cur := some req1 }) live, by decide +kernel⟩,
    ⟨.b, 1024000000, modTx .b (fun x => { x with st := .waiting, cur := some req1 }) live, req1, [], by decide +kernel,
    by decide +kernel, by decide +kernel⟩,
    ⟨.b, setReg 0x20000 0 live, by decide +kernel⟩,
    ⟨setReg 0x20000 4 live, by decide +kernel⟩,
    ⟨.b, live, by decide +kernel⟩,
    ⟨.b, 0, modTx .b (fun x => { x with blankFrom := some 1000 }) live, 1000, by decide +kernel, by decide +kernel⟩,
    ⟨.b, 10, modTx .b (fun x => { x with blankFrom := some 0, blank := true }) live, 0, by decide +kernel, by decide +kernel,
    by decide +kernel, by decide +kernel⟩⟩

theorem witness_ChorusLines :
    (∃ (n : Fin 96) (s : State), ((line s n).queue = [])) ∧
    (∃ (n : Fin 96) (t : Stamp) (s : State) (w : Window) (r : List Window), ((line s n).queue = w :: r) ∧ (later64 (retuneTime s
    w) t = true)) ∧
    (∃ (n : Fin 96) (t : Stamp) (s : State) (w : Window) (r : List Window), ((line s n).queue = w :: r) ∧ (later64 (retuneTime s
    w) t = false) ∧ (lineBusy (line s n) = true)) ∧
    (∃ (n : Fin 96) (t : Stamp) (s : State) (w : Window) (r : List Window), ((line s n).queue = w :: r) ∧ (later64 (retuneTime s
    w) t = false) ∧ (lineBusy (line s n) = false) ∧ ((line s n).serving = none)) ∧
    (∃ (n : Fin 96) (t : Stamp) (s : State) (w : Window) (x : Window) (r : List Window), ((line s n).queue = w :: r) ∧ (later64
    (retuneTime s w) t = false) ∧ (lineBusy (line s n) = false) ∧ ((line s n).serving = some x)) ∧
    (∃ (n : Fin 96) (t : Stamp) (s : State) (w : Window), ((line s n).serving = some w) ∧ ((line s n).retuning = true) ∧ (later64
    (ownStamp s w.start) t = false)) ∧
    (∃ (n : Fin 96) (s : State), ((line s n).serving = none)) ∧
    (∃ (n : Fin 96) (t : Stamp) (s : State) (w : Window), ((line s n).serving = some w) ∧ (later64 (ownStamp s w.endStamp) t =
    true)) ∧
    (∃ (n : Fin 96) (t : Stamp) (s : State) (w : Window), ((line s n).serving = some w) ∧ (later64 (ownStamp s w.endStamp) t =
    false) ∧ (lineBusy (line s n) = true)) ∧
    (∃ (n : Fin 96) (t : Stamp) (s : State) (w : Window), ((line s n).serving = some w) ∧ (later64 (ownStamp s w.endStamp) t =
    false) ∧ (lineBusy (line s n) = false)) ∧
    (∃ (s : State), (takesInputs s = true)) ∧
    (∃ (s : State), (takesInputs s = false)) :=
  ⟨⟨95, live, by decide +kernel⟩,
    ⟨95, 0, modLine 95 (fun l => { l with queue := [win1] }) live, win1, [], by decide +kernel, by decide +kernel⟩,
    ⟨95, 1024000000, modDet 95 5 (fun d => { d with st := .frozen }) (modLine 95 (fun l => { l with queue := [win1] }) live),
    win1, [], by decide +kernel, by decide +kernel, by decide +kernel⟩,
    ⟨95, 1024000000, modLine 95 (fun l => { l with queue := [win1] }) live, win1, [], by decide +kernel, by decide +kernel,
    by decide +kernel, by decide +kernel⟩,
    ⟨95, 1024000000, modLine 95 (fun l => { l with queue := [win1], serving := some win1 }) live, win1, win1, [],
    by decide +kernel, by decide +kernel, by decide +kernel, by decide +kernel⟩,
    ⟨95, 1024000000, modLine 95 (fun l => { l with serving := some win1, retuning := true }) live, win1, by decide +kernel,
    by decide +kernel, by decide +kernel⟩,
    ⟨95, live, by decide +kernel⟩,
    ⟨95, 0, modLine 95 (fun l => { l with serving := some win1 }) live, win1, by decide +kernel, by decide +kernel⟩,
    ⟨95, 1024100000, modDet 95 5 (fun d => { d with st := .frozen }) (modLine 95 (fun l => { l with serving := some win1 })
    live), win1, by decide +kernel, by decide +kernel, by decide +kernel⟩,
    ⟨95, 1024100000, modLine 95 (fun l => { l with serving := some win1 }) live, win1, by decide +kernel, by decide +kernel,
    by decide +kernel⟩,
    ⟨live, by decide +kernel⟩,
    ⟨still, by decide +kernel⟩⟩

theorem witness_DieLink :
    (∃ (p : Fin 4) (s : State), (portOn s p = false)) ∧
    (∃ (p : Fin 4) (s : State), (portOn s p = true)) ∧
    (∃ (d : Bool) (l : Nat), (laneCount d ≤ l)) ∧
    (∃ (l : Nat) (s : State), (l < 32) ∧ (s.wings.laneMap = []) ∧ (s.wings.spareUp = some 32) ∧ (s.wings.laneTest = [])) ∧
    (∃ (l : Nat) (s : State), (l < 4) ∧ (s.wings.laneMap = []) ∧ (s.wings.spareDown = some 4) ∧ (s.wings.laneTest = [])) ∧
    (∃ (d : Bool) (l : Nat) (s : State), (l < laneCount d) ∧ (spareLane s d = none)) ∧
    (∃ (d : Bool) (l : Nat) (s : State), (l < laneCount d) ∧ ((d, l) ∉ s.wings.laneTest)) ∧
    (∃ (d : Bool) (l : Nat) (s : State), (l < laneCount d) ∧ ((d, l) ∈ s.wings.laneTest)) ∧
    (∃ (d : Bool) (l : Nat) (s : State), (l < laneCount d) ∧ ((d, l) ∈ s.wings.laneTest)) ∧
    (∃ (p : Fin 4) (s : State) (u : State), (u = spotRoll (atTime (plus s.proc.cueStart (990 * usTicks)) s)) ∧ ((port u
    p).spotDone = none ∨ portOn u p = false)) ∧
    (∃ (p : Fin 4) (s : State) (u : State) (i : Spot), (u = spotRoll (atTime (plus s.proc.cueStart (990 * usTicks)) s)) ∧ ((port u
    p).spotDone = some i) ∧ (portOn u p = true)) ∧
    (∃ (s : State), (later64 (plus s.proc.cueStart (960 * usTicks)) s.time.tb0 = true)) ∧
    (∃ (s : State), (later64 (plus s.proc.cueStart (960 * usTicks)) s.time.tb0 = false)) :=
  ⟨⟨3, live, by decide +kernel⟩,
    ⟨3, setReg (rxfReg 3 0) 1 live, by decide +kernel⟩,
    ⟨false, 33, by decide +kernel⟩,
    ⟨31, live, by decide +kernel, by decide +kernel, by decide +kernel, by decide +kernel⟩,
    ⟨3, live, by decide +kernel, by decide +kernel, by decide +kernel, by decide +kernel⟩,
    ⟨true, 3, modWings (fun w => { w with spareDown := none }) live, by decide +kernel, by decide +kernel⟩,
    ⟨false, 32, live, by decide +kernel, by decide +kernel⟩,
    ⟨true, 4, modWings (fun w => { w with laneTest := [(true, 4)] }) live, by decide +kernel, by decide +kernel⟩,
    ⟨false, 0, modWings (fun w => { w with laneTest := [(true, 0), (false, 0)] }) live, by decide +kernel, by decide +kernel⟩,
    ⟨3, live, _, rfl, by decide +kernel⟩,
    ⟨3, setReg (rxfReg 3 0) 1 live, _, _, rfl, rfl, by decide +kernel⟩,
    ⟨live, by decide +kernel⟩,
    ⟨modTime (fun x => { x with tb0 := 102400000 }) live, by decide +kernel⟩⟩

theorem witness_Detectors :
    (∃ (n : Fin 96) (d : Fin 6) (i : DetIn) (s : State), (lineDetects s n d = true) ∧ ((det s n d).st = .idle) ∧ (100 * ((line s
    n).detLevel : Int) < i.metric) ∧ (detNeeded (line s n) ≤ i.count)) ∧
    (∃ (n : Fin 96) (d : Fin 6) (i : DetIn) (s : State), (lineDetects s n d = false ∨ (det s n d).st ≠ .idle ∨ i.metric ≤ 100 *
    ((line s n).detLevel : Int) ∨ i.count < detNeeded (line s n))) ∧
    (∃ (n : Fin 96) (d : Fin 6) (i : DetIn) (s : State), ((line s n).watchEn = true) ∧ (lineHears s n d = true) ∧ (declares (line
    s n) i = true) ∧ ((det s n d).st = .detecting) ∧ ((det s n d).cand + 100 * ((line s n).captThr : Int) ≤ lineDbm s (line s n)
    i.pow)) ∧
    (∃ (n : Fin 96) (d : Fin 6) (i : DetIn) (s : State), ((line s n).watchEn = true) ∧ (lineHears s n d = true) ∧ (declares (line
    s n) i = true) ∧ ((det s n d).st = .frozen) ∧ ((∀ w, (det s n d).watch = some w → w.pow + 100 * ((line s n).captThr : Int) ≤
    lineDbm s (line s n) i.pow))) ∧
    (∃ (n : Fin 96) (d : Fin 6) (i : DetIn) (s : State), ((line s n).watchEn = false ∨ lineHears s n d = false ∨ declares (line s
    n) i = false ∨ (det s n d).st = .idle)) ∧
    (∃ (n : Fin 96) (d : Fin 6) (t : Stamp) (s : State), ((det s n d).st = .detecting) ∧ ((line s n).serving = none) ∧ (later64
    (plus (det s n d).since (detTimeout (line s n) d / 3)) t = false)) ∧
    (∃ (n : Fin 96) (d : Fin 6) (t : Stamp) (s : State), ((det s n d).st ≠ .detecting ∨ later64 (plus (det s n d).since
    (detTimeout (line s n) d / 3)) t = true)) ∧
    (∃ (n : Fin 96) (d : Fin 6) (i : SyncIn) (s : State), ((det s n d).st ≠ .detecting ∨ acquires (line s n) i.offset = false ∨
    tagOurs (line s n) d i.tag = false)) ∧
    (∃ (n : Fin 96) (d : Fin 6) (i : SyncIn) (s : State), ((det s n d).st = .detecting) ∧ ((line s n).serving = none) ∧ (acquires
    (line s n) i.offset = true) ∧ (tagOurs (line s n) d i.tag = true)) ∧
    (∃ (l : Line), (phyOf (linePers l) = .frc)) :=
  ⟨⟨95, 0, ⟨600, 0, 100, 16⟩, detecting, by decide +kernel, by decide +kernel, by decide +kernel, by decide +kernel⟩,
    ⟨95, 1, ⟨600, 0, 100, 16⟩, detecting, by decide +kernel⟩,
    ⟨95, 0, ⟨600, 0, 100, 16⟩, modDet 95 0 (fun d =>
    { d with st := .detecting, cand := lineDbm detecting (line detecting 95) 0 }) detecting, by decide +kernel,
    by decide +kernel, by decide +kernel, by decide +kernel, lineDbm_above⟩,
    ⟨95, 0, ⟨600, 0, 100, 16⟩, modDet 95 0 (fun d => { d with st := .frozen }) detecting, by decide +kernel, by decide +kernel,
    by decide +kernel, by decide +kernel, (by intro w h; cases h)⟩,
    ⟨95, 0, ⟨600, 0, 100, 15⟩, detecting, by decide +kernel⟩,
    ⟨95, 0, 2048000000, modDet 95 0 (fun d => { d with st := .detecting }) detecting, by decide +kernel, by decide +kernel,
    by decide +kernel⟩,
    ⟨95, 0, 2047999999, modDet 95 0 (fun d => { d with st := .detecting }) detecting, by decide +kernel⟩,
    ⟨95, 0, ⟨0, 0, 100000000, false, false, []⟩, modDet 95 0 (fun d => { d with st := .detecting }) detecting, by decide +kernel⟩,
    ⟨95, 0, ⟨0, 0, 0, false, false, []⟩, modDet 95 0 (fun d => { d with st := .detecting }) detecting, by decide +kernel,
    by decide +kernel, by decide +kernel, by decide +kernel⟩,
    ⟨{ pers := 0x87 }, by decide +kernel⟩⟩

theorem witness_Receptions :
    (∃ (n : Fin 96) (d : Fin 6) (s : State), ((det s n d).st ≠ .frozen ∨ (det s n d).header = true)) ∧
    (∃ (n : Fin 96) (d : Fin 6) (i : HeaderIn) (s : State) (h : Nat), ((det s n d).st = .frozen) ∧ ((det s n d).header = false) ∧
    (phyOf (linePers (line s n)) = .frc) ∧ (frcHeaderRead (7 + d) (line s n).tag.toNat i.shifts = some h) ∧ (frcHeaderOk h =
    true)) ∧
    (∃ (n : Fin 96) (d : Fin 6) (i : HeaderIn) (t : Stamp) (s : State), ((det s n d).st = .frozen) ∧ ((det s n d).header = false)
    ∧ ((line s n).serving = none) ∧ ((det s n d).watch = none) ∧ ((judgeHeader s (line s n) d (det s n d).phyInfo.toNat
    (headerBits (line s n) d i t) i = .fail ∨ ∃ k, judgeHeader s (line s n) d (det s n d).phyInfo.toNat (headerBits (line s n) d
    i t) i = .unsupported k))) ∧
    (∃ (n : Fin 96) (d : Fin 6) (i : HeaderIn) (t : Stamp) (s : State) (k : Nat) (w : Window), ((det s n d).st = .frozen) ∧ ((det
    s n d).header = false) ∧ ((line s n).serving = some w) ∧ (judgeHeader s (line s n) d (det s n d).phyInfo.toNat (headerBits
    (line s n) d i t) i = .unsupported k)) ∧
    (∃ (n : Fin 96) (d : Fin 6) (s : State), ((det s n d).st ≠ .frozen ∨ (det s n d).watch = none ∨ (line s n).watchEn = false)) ∧
    (∃ (n : Fin 96) (d : Fin 6) (s : State) (w : Watch), ((det s n d).st = .frozen) ∧ ((det s n d).watch = some w) ∧ ((line s
    n).watchEn = true) ∧ ((det s n d).pref + 100 * ((line s n).captThr : Int) ≤ w.pow) ∧ ((det s n d).header = true) ∧ ((line s
    n).serving = none)) ∧
    (∃ (n : Fin 96) (d : Fin 6) (i : CommitIn) (t : Stamp) (s : State), ((det s n d).st ≠ .frozen ∨ (det s n d).header = false ∨
    psduOf s (line s n) d (det s n d) i t = none)) ∧
    (∃ (n : Fin 96) (s : State), ((phyOf (linePers (line s n)) = .ofdm ∨ phyOf (linePers (line s n)) = .oqpsk))) ∧
    (∃ (n : Fin 96) (s : State), (phyOf (linePers (line s n)) = .fsk)) ∧
    (∃ (n : Fin 96) (d : Fin 6) (i : CommitIn) (t : Stamp) (s : State) (psdu : List Byte) (st : Nat), ((det s n d).st = .frozen) ∧
    ((det s n d).header = true) ∧ ((line s n).serving = none) ∧ ((det s n d).watch = none) ∧ (psduOf s (line s n) d (det s n d) i
    t = some psdu) ∧ ((st = if phyOf (linePers (line s n)) = .frc ∧ (det s n d).phyInfo.getLsbD 5 = false then 5 else if fcsGood
    (linePers (line s n)) (det s n d).phyInfo.toNat psdu then 0 else 1))) ∧
    (∃ (n : Fin 96) (d : Fin 6) (i : CommitIn) (t : Stamp) (s : State) (psdu : List Byte) (w : Window) (st : Nat), ((det s n d).st
    = .frozen) ∧ ((det s n d).header = true) ∧ ((line s n).serving = some w) ∧ (psduOf s (line s n) d (det s n d) i t = some
    psdu) ∧ ((st = if phyOf (linePers (line s n)) = .frc ∧ (det s n d).phyInfo.getLsbD 5 = false then 5 else if fcsGood (linePers
    (line s n)) (det s n d).phyInfo.toNat psdu then 0 else 1))) :=
  ⟨⟨95, 5, live, by decide +kernel⟩,
    ⟨95, 0, ⟨false, [], frcHeaderSyms 7 0x5A 7798794, [], [], []⟩, modDet 95 0 (fun d => { d with st := .frozen }) (modLine 95
    (fun l => { l with pers := 0x87 }) live), 7798794, by decide +kernel, by decide +kernel, by decide +kernel,
    by decide +kernel, by decide +kernel⟩,
    ⟨95, 0, ⟨false, [], [], [], [], []⟩, 0, modDet 95 0 (fun d => { d with st := .frozen }) detecting, by decide +kernel,
    by decide +kernel, by decide +kernel, by decide +kernel, Or.inl rfl⟩,
    ⟨95, 0, ⟨true, List.replicate 16 true, [], [], [], []⟩, 0, modDet 95 0 (fun d => { d with st := .frozen }) (modLine 95 (fun l
    => { l with serving := some win1 }) detecting), 4, win1, by decide +kernel, by decide +kernel, by decide +kernel, rfl⟩,
    ⟨95, 5, live, by decide +kernel⟩,
    ⟨95, 0, modDet 95 0 (fun d => { d with st := .frozen, watch := some ⟨600, 0, 0⟩, header := true }) detecting, ⟨600, 0, 0⟩,
    by decide +kernel, by decide +kernel, by decide +kernel, by decide +kernel, by decide +kernel, by decide +kernel⟩,
    ⟨95, 0, ⟨0, [0], [], []⟩, 0, modDet 95 0 (fun d => { d with st := .frozen, header := true }) detecting, by decide +kernel⟩,
    ⟨95, modLine 95 (fun l => { l with pers := 0x20 }) live, by decide +kernel⟩,
    ⟨95, detecting, by decide +kernel⟩,
    ⟨95, 0, ⟨0, [], [], []⟩, 0, modDet 95 0 (fun d => { d with st := .frozen, header := true }) detecting, [], 1,
    by decide +kernel, by decide +kernel, by decide +kernel, by decide +kernel, by decide +kernel, by decide +kernel⟩,
    ⟨95, 0, ⟨0, [], [], []⟩, 0, modDet 95 0 (fun d => { d with st := .frozen, header := true }) (modLine 95 (fun l =>
    { l with serving := some win1 }) detecting), [], win1, 1, by decide +kernel, by decide +kernel, by decide +kernel,
    by decide +kernel, by decide +kernel⟩⟩

end Sys2Proof.Tests
end

