-- ==== Sys2Proof/Tests/Witness5.lean ====
section
/-! SUPPORT. Witnesses of statements ChainPreparation to NodeTimers: for each clause a state and operands that meet
all its hypotheses together. -/

namespace Sys2Proof.Tests
open Sys2Proof.Machine

set_option maxRecDepth 100000
set_option Elab.async false

theorem witness_ChainPreparation :
    (∃ (c : Chain) (s : State), ((tx s c).cut = none)) ∧
    (∃ (c : Chain) (t : Stamp) (s : State) (k : Stamp) (u : State), ((tx s c).cut = some k) ∧ (onAir (tx s c) = true) ∧ (later64
    (plannedEnd (tx s c)) k = true) ∧ (u = atTime t s) ∧ (later64 (minus k (rampUs 0 * usTicks)) (atPa u c u.time.tb0) = false)) ∧
    (∃ (s : State), (s.pwr.mode = .quiet)) ∧
    (∃ (c : Chain) (s : State), (s.pwr.mode ≠ .quiet) ∧ ((tx s c).st = .off) ∧ (rbit s (txReg c 0) 0 = false) ∧ (inReplay s =
    false)) ∧
    (∃ (c : Chain) (s : State), (s.pwr.mode ≠ .quiet) ∧ ((tx s c).st ≠ .off ∨ rbit s (txReg c 0) 0 = true ∨ inReplay s = true)) ∧
    (∃ (c : Chain) (t : Stamp) (s : State) (z : State), (z = chainAt c t s) ∧ ((tx z c).cur = none) ∧ ((tx z c).queue = []) ∧
    (curtainUp (tx z c) = false)) ∧
    (∃ (c : Chain) (t : Stamp) (s : State) (z : State), (z = chainAt c t s) ∧ (((tx z c).st ≠ .idle ∧ ((tx z c).st ≠ .waiting ∨
    (tx z c).cur.isSome = true)) ∨ (tx z c).queue = [])) ∧
    (∃ (c : Chain) (t : Stamp) (s : State) (z : State) (r : TxReq) (q : List TxReq), (z = chainAt c t s) ∧ ((tx z c).queue = r ::
    q) ∧ (later64 (retuneAt z r false) t = true) ∧ (later64 (retuneAt z r true) t = true)) ∧
    (∃ (c : Chain) (t : Stamp) (s : State) (z : State) (r : TxReq) (q : List TxReq), (z = chainAt c t s) ∧ ((tx z c).st = .idle ∨
    ((tx z c).st = .waiting ∧ (tx z c).cur = none)) ∧ ((tx z c).queue = r :: q) ∧ ((tx z c).locked = true) ∧ ((tx z c).parked =
    reqWord r) ∧ (later64 (retuneAt z r false) t = false)) ∧
    (∃ (c : Chain) (t : Stamp) (s : State) (z : State) (r : TxReq) (q : List TxReq) (b : Bool), (z = chainAt c t s) ∧ ((tx z c).st
    = .idle ∨ ((tx z c).st = .waiting ∧ (tx z c).cur = none)) ∧ ((tx z c).queue = r :: q) ∧ ((tx z c).locked = false ∨ (tx z
    c).parked ≠ reqWord r) ∧ (b = recalNeeded z (tx z c) (reqWord r)) ∧ (later64 (retuneAt z r b) t = false)) ∧
    (∃ (c : Chain) (t : Stamp) (s : State) (z : State), (z = chainAt c t s) ∧ ((tx z c).tune = some false)) ∧
    (∃ (c : Chain) (t : Stamp) (s : State) (z : State), (z = chainAt c t s) ∧ ((tx z c).tune = some true)) ∧
    (∃ (c : Chain) (t : Stamp) (s : State) (z : State), (z = chainAt c t s) ∧ ((tx z c).tune = none)) :=
  ⟨⟨.b, live, by decide +kernel⟩,
    ⟨.b, 1000, modTx .b (fun x => { x with st := .on, cur := some req1, cut := some 1000 }) live, 1000, _, by decide +kernel,
    by decide +kernel, by decide +kernel, rfl, by decide +kernel⟩,
    ⟨modPwr (fun p => { p with mode := .quiet }) live, by decide +kernel⟩,
    ⟨.b, live, by decide +kernel, by decide +kernel, by decide +kernel, by decide +kernel⟩,
    ⟨.b, modTx .b (fun x => { x with st := .idle }) live, by decide +kernel, by decide +kernel⟩,
    ⟨.b, 0, live, _, rfl, by decide +kernel, by decide +kernel, by decide +kernel⟩,
    ⟨.b, 0, modTx .b (fun x => { x with st := .on, queue := [req1] }) live, _, rfl, by decide +kernel⟩,
    ⟨.b, 0, modTx .b (fun x => { x with st := .idle, queue := [req1] }) live, _, req1, [], rfl, by decide +kernel,
    by decide +kernel, by decide +kernel⟩,
    ⟨.b, 1024000000, modTx .b (fun x => { x with st := .idle, queue := [req1], locked := true, parked := reqWord req1 }) live, _,
    req1, [], rfl, by decide +kernel, by decide +kernel, by decide +kernel, by decide +kernel, by decide +kernel⟩,
    ⟨.b, 1024000000, modTx .b (fun x => { x with st := .idle, queue := [req1] }) live, _, req1, [], _, rfl, by decide +kernel,
    by decide +kernel, by decide +kernel, rfl, by decide +kernel⟩,
    ⟨.b, 0, modTx .b (fun x => { x with st := .retuning, tune := some false }) live, _, rfl, by decide +kernel⟩,
    ⟨.b, 0, modTx .b (fun x => { x with st := .retuning, tune := some true }) live, _, rfl, by decide +kernel⟩,
    ⟨.b, 0, live, _, rfl, by decide +kernel⟩⟩

theorem witness_ChainLaunch :
    (∃ (c : Chain) (t : Stamp) (s : State) (z : State) (r : TxReq) (l : List TxReq), (z = chainAt c t s) ∧ (waitingReqs (tx z c) =
    r :: l) ∧ ((tx z c).paenOf ≠ some r.seq) ∧ (later64 (minus (ownStamp z r.start) (fieldOf (cfgWord z c 8) 15 10 * usTicks)) t
    = false)) ∧
    (∃ (c : Chain) (t : Stamp) (s : State) (z : State), (z = chainAt c t s) ∧ ((∀ r ∈ waitingReqs (tx z c), (tx z c).paenOf = some
    r.seq ∨ later64 (minus (ownStamp z r.start) (fieldOf (cfgWord z c 8) 15 10 * usTicks)) t = true))) ∧
    (∃ (c : Chain) (t : Stamp) (s : State) (z : State) (r : TxReq) (l : List TxReq), (z = chainAt c t s) ∧ (waitingReqs (tx z c) =
    r :: l) ∧ ((∀ k ∈ (tx z c).claims, k.seq ≠ r.seq)) ∧ (later64 (minus (ownStamp z r.start) (fieldOf (cfgWord z c 0x10) 15 8 *
    usTicks)) t = false)) ∧
    (∃ (c : Chain) (t : Stamp) (s : State) (z : State), (z = chainAt c t s) ∧ ((∀ r ∈ waitingReqs (tx z c), (∃ k ∈ (tx z
    c).claims, k.seq = r.seq) ∨ later64 (minus (ownStamp z r.start) (fieldOf (cfgWord z c 0x10) 15 8 * usTicks)) t = true))) ∧
    (∃ (c : Chain) (t : Stamp) (s : State) (z : State) (e : Stamp), (z = chainAt c t s) ∧ ((tx z c).paenFrom = some e) ∧ (later64
    (plus e (fieldOf (cfgWord z c 8) 21 16 * usTicks)) t = false)) ∧
    (∃ (c : Chain) (t : Stamp) (s : State) (z : State), (z = chainAt c t s) ∧ ((∀ e, (tx z c).paenFrom = some e → later64 (plus e
    (fieldOf (cfgWord z c 8) 21 16 * usTicks)) t = true))) ∧
    (∃ (c : Chain) (g : BitVec 4) (h : Bool) (t : Stamp) (s : State) (z : State) (r : TxReq) (a : Stamp), (z = chainAt c t s) ∧
    ((tx z c).st = .waiting) ∧ ((tx z c).cur = some r) ∧ ((tx z c).locked = true) ∧ (a = plus t (nsTicks (fieldOf (cfgWord z c 8)
    29 22))) ∧ (0 ≤ sdiff64 a (ownStamp z r.start)) ∧ (later64 a (deadlineOf z r) = false) ∧ (grantsOk (cfgWord z c 0x10) g =
    true) ∧ ((h = true → obeys (cfgWord z c 0x10) = false))) ∧
    (∃ (c : Chain) (g : BitVec 4) (h : Bool) (t : Stamp) (s : State) (z : State) (r : TxReq) (a : Stamp), (z = chainAt c t s) ∧
    ((tx z c).cur = some r) ∧ (a = plus t (nsTicks (fieldOf (cfgWord z c 8) 29 22))) ∧ ((tx z c).st ≠ .waiting ∨ (tx z c).locked
    = false ∨ sdiff64 a (ownStamp z r.start) < 0 ∨ later64 a (deadlineOf z r) = true ∨ grantsOk (cfgWord z c 0x10) g = false ∨ (h
    = true ∧ obeys (cfgWord z c 0x10) = true))) ∧
    (∃ (c : Chain) (r : TxReq) (s : State) (u : State) (p : Int), (u = (if (tx s c).hopped then s else latchCfg c s)) ∧ (p =
    clampPower (cfgWord u c 8) r)) ∧
    (∃ (c : Chain) (g : BitVec 4) (h : Bool) (t : Stamp) (s : State) (z : State) (r : TxReq) (k : Nat), (z = chainAt c t s) ∧ ((tx
    z c).cur = some r) ∧ (curtainUp (tx z c) = false) ∧ (later64 (deadlineOf z r) t = false) ∧ (deadlineResult (tx z c) (cfgWord
    z c 0x10) g h = some k)) ∧
    (∃ (c : Chain) (t : Stamp) (s : State) (z : State) (r : TxReq) (q : List TxReq) (b : TxReq), (z = chainAt c t s) ∧ ((tx z
    c).cur = some b) ∧ (curtainUp (tx z c) = true) ∧ ((tx z c).queue = r :: q) ∧ (later64 (deadlineOf z r) t = false)) ∧
    (∃ (c : Chain) (t : Stamp) (s : State) (z : State) (r : TxReq) (q : List TxReq), (z = chainAt c t s) ∧ ((tx z c).cur = none) ∧
    ((tx z c).queue = r :: q) ∧ (later64 (deadlineOf z r) t = false) ∧ ((tx z c).locked = false ∨ (tx z c).parked ≠ reqWord r)) ∧
    (∃ (c : Chain) (t : Stamp) (s : State) (z : State), (z = chainAt c t s) ∧ ((tx z c).cur = none) ∧ ((tx z c).queue = [])) ∧
    (∃ (x : Tx), (x.locked = false)) ∧
    (∃ (x : Tx) (w : Word32) (g : BitVec 4), (x.locked = true) ∧ (grantsOk w g = false)) ∧
    (∃ (x : Tx) (w : Word32) (g : BitVec 4), (x.locked = true) ∧ (grantsOk w g = true) ∧ (obeys w = true)) ∧
    (∃ (x : Tx) (w : Word32) (g : BitVec 4) (h : Bool), (x.locked = true) ∧ (grantsOk w g = true) ∧ ((h = true → obeys w = false))) :=
  ⟨⟨.b, 1024000000, modTx .b (fun x => { x with st := .waiting, cur := some req1 }) live, _, req1, [], rfl, by decide +kernel,
    by decide +kernel, by decide +kernel⟩,
    ⟨.b, 0, modTx .b (fun x => { x with queue := [req1] }) live, _, rfl, by decide +kernel⟩,
    ⟨.b, 1024000000, modTx .b (fun x => { x with st := .waiting, cur := some req1 }) live, _, req1, [], rfl, by decide +kernel,
    by decide +kernel, by decide +kernel⟩,
    ⟨.b, 0, modTx .b (fun x => { x with queue := [req1] }) live, _, rfl, by decide +kernel⟩,
    ⟨.b, 1024000000, modTx .b (fun x => { x with paenFrom := some 0 }) live, _, 0, rfl, by decide +kernel, by decide +kernel⟩,
    ⟨.b, 0, live, _, rfl, (by intro e h; cases h)⟩,
    ⟨.b, 15, false, 1024000000, modTx .b (fun x => { x with st := .waiting, cur := some req1, locked := true }) live, _, req1, _,
    rfl, by decide +kernel, by decide +kernel, by decide +kernel, rfl, by decide +kernel, by decide +kernel, by decide +kernel,
    by decide +kernel⟩,
    ⟨.b, 15, false, 1024000000 + 25600001, modTx .b (fun x => { x with st := .waiting, cur := some req1, locked := true }) live,
    _, req1, _, rfl, by decide +kernel, rfl, by decide +kernel⟩,
    ⟨.b, req1, live, _, _, rfl, rfl⟩,
    ⟨.b, 15, false, 1024000000 + 25600000, modTx .b (fun x => { x with st := .waiting, cur := some req1 }) live, _, req1, 3, rfl,
    by decide +kernel, by decide +kernel, by decide +kernel, by decide +kernel⟩,
    ⟨.b, 1024000000 + 25600000, modTx .b (fun x => { x with st := .on, cur := some req1, queue := [req1] }) live, _, req1, [],
    req1, rfl, by decide +kernel, by decide +kernel, by decide +kernel, by decide +kernel⟩,
    ⟨.b, 1024000000 + 25600000, modTx .b (fun x => { x with queue := [req1] }) live, _, req1, [], rfl, by decide +kernel,
    by decide +kernel, by decide +kernel, by decide +kernel⟩,
    ⟨.b, 0, live, _, rfl, by decide +kernel, by decide +kernel⟩,
    ⟨{}, by decide +kernel⟩,
    ⟨{ locked := true }, 0x10, 14, by decide +kernel, by decide +kernel⟩,
    ⟨{ locked := true }, 0x20010, 1, by decide +kernel, by decide +kernel, by decide +kernel⟩,
    ⟨{ locked := true }, 0x20010, 1, false, by decide +kernel, by decide +kernel, by decide +kernel⟩⟩

theorem witness_ChainOnAir :
    (∃ (c : Chain) (t : Stamp) (s : State) (z : State) (r : TxReq), (z = chainAt c t s) ∧ ((tx z c).st = .rising) ∧ ((tx z c).cur
    = some r) ∧ (later64 (plus (tx z c).curtain (riseUs r * usTicks)) (atPa z c t) = false)) ∧
    (∃ (c : Chain) (t : Stamp) (s : State) (z : State), (z = chainAt c t s) ∧ ((tx z c).st ≠ .rising ∨ (∃ r, (tx z c).cur = some r
    ∧ later64 (plus (tx z c).curtain (riseUs r * usTicks)) (atPa z c t) = true))) ∧
    (∃ (c : Chain) (t : Stamp) (s : State) (z : State) (r : TxReq), (z = chainAt c t s) ∧ ((tx z c).st = .on) ∧ ((tx z c).cur =
    some r) ∧ (later64 (minus (plus (tx z c).curtain (airTime r / 3)) (fallUs r * usTicks)) (atPa z c t) = false)) ∧
    (∃ (c : Chain) (t : Stamp) (s : State) (z : State), (z = chainAt c t s) ∧ ((tx z c).st ≠ .on ∨ (∃ r, (tx z c).cur = some r ∧
    later64 (minus (plus (tx z c).curtain (airTime r / 3)) (fallUs r * usTicks)) (atPa z c t) = true))) ∧
    (∃ (c : Chain) (t : Stamp) (s : State) (z : State), (z = chainAt c t s) ∧ ((tx z c).st ≠ .falling ∨ (tx z c).cur = none ∨
    later64 (plus (tx z c).fallAt ((tx z c).fallUs * usTicks)) (atPa z c t) = true)) ∧
    (∃ (c : Chain) (t : Stamp) (s : State) (z : State) (r : TxReq) (a : Stamp), (z = chainAt c t s) ∧ ((tx z c).st = .falling) ∧
    ((tx z c).cur = some r) ∧ (a = atPa z c t) ∧ (later64 (plus (tx z c).fallAt ((tx z c).fallUs * usTicks)) a = false) ∧
    (fieldOf (cfgWord z c 8) 1 0 = 2)) ∧
    (∃ (c : Chain) (m : Int) (s : State) (r : TxReq) (e : Int), ((tx s c).cur = some r) ∧ (fieldOf (cfgWord s c 8) 1 0 ≠ 2) ∧ (m ≠
    -32768) ∧ (r.flags.getLsbD 1 = false) ∧ (e = clampPower (cfgWord s c 8) r - m)) ∧
    (∃ (c : Chain) (g : BitVec 4) (t : Stamp) (s : State) (z : State), (z = chainAt c t s) ∧ (onAir (tx z c) = true) ∧ (bit
    (cfgWord z c 0x10).toNat 16 = true) ∧ (grantsOk (cfgWord z c 0x10) g = false)) ∧
    (∃ (c : Chain) (g : BitVec 4) (t : Stamp) (s : State) (z : State), (z = chainAt c t s) ∧ (onAir (tx z c) = false ∨ bit
    (cfgWord z c 0x10).toNat 16 = false ∨ grantsOk (cfgWord z c 0x10) g = true)) ∧
    (∃ (t : Stamp) (s : State) (z : State), (z = chainAt .b t (chainAt .a t s)) ∧ (obeys (cfgWord z .a 0x10) = false ∨ (onAir
    z.txa = false ∧ z.txa.st ≠ .falling)) ∧ (obeys (cfgWord z .b 0x10) = false ∨ (onAir z.txb = false ∧ z.txb.st ≠ .falling))) ∧
    (∃ (t : Stamp) (s : State) (z : State), (z = chainAt .b t (chainAt .a t s)) ∧ (obeys (cfgWord z .a 0x10) = false ∨ (onAir
    z.txa = false ∧ z.txa.st ≠ .falling)) ∧ (obeys (cfgWord z .b 0x10) = true) ∧ (onAir z.txb = true)) ∧
    (∃ (c : Chain) (t : Stamp) (s : State) (z : State), (z = chainAt c t s) ∧ ((tx z c).st = .off ∨ (tx z c).st = .outOfService ∨
    (tx z c).locked = false)) ∧
    (∃ (c : Chain) (t : Stamp) (s : State) (z : State), (z = chainAt c t s) ∧ ((tx z c).locked = true) ∧ (onAir (tx z c) = true)) ∧
    (∃ (c : Chain) (t : Stamp) (s : State) (z : State) (r : TxReq), (z = chainAt c t s) ∧ ((tx z c).locked = true) ∧ ((tx z c).st
    = .waiting) ∧ ((tx z c).cur = some r)) ∧
    (∃ (c : Chain) (t : Stamp) (s : State) (z : State), (z = chainAt c t s) ∧ ((tx z c).test = false)) ∧
    (∃ (c : Chain) (t : Stamp) (s : State) (z : State), (z = chainAt c t s) ∧ ((tx z c).test = true) ∧ ((tx z c).st =
    .calibrating)) ∧
    (∃ (c : Chain) (t : Stamp) (s : State) (z : State), (z = chainAt c t s) ∧ ((tx z c).test = true)) :=
  ⟨⟨.b, 1024000000, modTx .b (fun x => { x with st := .rising, cur := some req1 }) live, _, req1, rfl, by decide +kernel,
    by decide +kernel, by decide +kernel⟩,
    ⟨.b, 0, modTx .b (fun x => { x with st := .rising, cur := some req1 }) live, _, rfl, Or.inr ⟨req1, by decide +kernel,
    by decide +kernel⟩⟩,
    ⟨.b, 1024000000, modTx .b (fun x => { x with st := .on, cur := some req1 }) live, _, req1, rfl, by decide +kernel,
    by decide +kernel, by decide +kernel⟩,
    ⟨.b, 0, modTx .b (fun x => { x with st := .on, cur := some req1 }) live, _, rfl, Or.inr ⟨req1, by decide +kernel,
    by decide +kernel⟩⟩,
    ⟨.b, 0, live, _, rfl, by decide +kernel⟩,
    ⟨.b, 1024000000, modTx .b (fun x => { x with st := .falling, cur := some req1, cfg := [(txReg .b 8, 2)] }) live, _, req1, _,
    rfl, by decide +kernel, by decide +kernel, rfl, by decide +kernel, by decide +kernel⟩,
    ⟨.b, 0, modTx .b (fun x => { x with cur := some req1 }) live, req1, _, by decide +kernel, by decide +kernel,
    by decide +kernel, by decide +kernel, rfl⟩,
    ⟨.b, 14, 0, modTx .b (fun x => { x with st := .on, cfg := [(txReg .b 0x10, 0x10010)] }) live, _, rfl, by decide +kernel,
    by decide +kernel, by decide +kernel⟩,
    ⟨.b, 15, 0, modTx .b (fun x => { x with st := .on, cfg := [(txReg .b 0x10, 0x10010)] }) live, _, rfl, by decide +kernel⟩,
    ⟨0, live, _, rfl, by decide +kernel, by decide +kernel⟩,
    ⟨0, modTx .b (fun x => { x with st := .on, cfg := [(txReg .b 0x10, 0x20000)] }) live, _, rfl, by decide +kernel,
    by decide +kernel, by decide +kernel⟩,
    ⟨.b, 0, live, _, rfl, by decide +kernel⟩,
    ⟨.b, 0, modTx .b (fun x => { x with st := .on, locked := true }) live, _, rfl, by decide +kernel, by decide +kernel⟩,
    ⟨.b, 0, modTx .b (fun x => { x with st := .waiting, locked := true, cur := some req1 }) live, _, req1, rfl,
    by decide +kernel, by decide +kernel, by decide +kernel⟩,
    ⟨.b, 0, live, _, rfl, by decide +kernel⟩,
    ⟨.b, 0, modTx .b (fun x => { x with st := .calibrating, test := true }) live, _, rfl, by decide +kernel, by decide +kernel⟩,
    ⟨.b, 0, modTx .b (fun x => { x with st := .idle, test := true }) live, _, rfl, by decide +kernel⟩⟩

theorem witness_PinCapturesAndPulses :
    (∃ (i : Fin 8) (r : Bool) (w : Nat) (s : State), (capTakes s i r w = false)) ∧
    (∃ (i : Fin 8) (r : Bool) (w : Nat) (t : Stamp) (s : State), (capTakes s i r w = true) ∧ ((pin s i).caps < bits (capCfg s i)
    21 16) ∧ ((∀ e, (pin s i).lastCap = some e → 1024 ≤ (sdiff64 t e).natAbs))) ∧
    (∃ (i : Fin 8) (r : Bool) (w : Nat) (t : Stamp) (s : State), (capTakes s i r w = true) ∧ (bits (capCfg s i) 21 16 ≤ (pin s
    i).caps ∨ (∃ e, (pin s i).lastCap = some e ∧ (sdiff64 t e).natAbs < 1024))) ∧
    (∃ (x : PinCap) (s : State), (canTake s 10 10 = true) ∧ ((mainsEn s = false ∨ x.pin ≠ cfgU s recTime 43 1 ∨ x.rising = false))
    ∧ (reportBase s x.pin = 0)) ∧
    (∃ (x : PinCap) (s : State) (v : Word64) (k : Nat), (canTake s 10 10 = true) ∧ (mainsEn s = false) ∧ (reportBase s x.pin = k)
    ∧ (k ≠ 0) ∧ (convert s k x.stamp = some v) ∧ ((tbAt (tbOf s k) x.stamp).steps ≠ (tbOf s k).shown)) ∧
    (∃ (i : Fin 8) (t : Stamp) (s : State) (e : Stamp), ((pin s (8 + i)).lastEdge = some e) ∧ (10 * sdiff64 t e < 1024 * ((pin s
    (8 + i)).width : Int))) ∧
    (∃ (i : Fin 8) (t : Stamp) (s : State), ((∀ e, (pin s (8 + i)).lastEdge = some e → 1024 * ((pin s (8 + i)).width : Int) ≤ 10 *
    sdiff64 t e))) ∧
    (∃ (i : Fin 8) (s : State), ((pin s (8 + i)).prog = none)) ∧
    (∃ (i : Fin 8) (t : Stamp) (s : State) (p : Pulse), ((pin s (8 + i)).prog = some p) ∧ (pinsRun s = false ∨ pulseReached s (pin
    s (8 + i)) p (recStamp s t) = false)) ∧
    (∃ (i : Fin 8) (t : Stamp) (s : State) (p : Pulse), ((pin s (8 + i)).prog = some p) ∧ (pinsRun s = true) ∧ (pulseReached s
    (pin s (8 + i)) p (recStamp s t) = true) ∧ (p.mode ≠ 1 ∨ p.notify = false ∨ isUnderstudy s = true ∨ inReplay s = true)) ∧
    (∃ (i : Fin 8) (t : Stamp) (s : State) (p : Pulse), ((pin s (8 + i)).prog = some p) ∧ (pinsRun s = true) ∧ (pulseReached s
    (pin s (8 + i)) p (recStamp s t) = true) ∧ (p.mode = 1) ∧ (p.notify = true) ∧ (p.count = 1) ∧ (p.k = 0) ∧ (isUnderstudy s =
    false) ∧ (inReplay s = false)) ∧
    (∃ (s : State) (p : Pulse) (t : Stamp) (u : Word64) (v : Word64), (p.mode ≠ 3) ∧ (convert s p.base (t - 1) = some u) ∧
    (convert s p.base (t + 1) = some v)) ∧
    (∃ (p : Pulse), (p.mode = 1)) ∧
    (∃ (p : Pulse) (v : Word64), (p.mode = 1) ∧ (0 < sdiff64 v (pulseInstant p p.k))) ∧
    (∃ (p : Pulse) (v : Word64), (p.mode = 2) ∧ (p.count = 0) ∧ (p.period ≠ 0) ∧ (0 < sdiff64 v (pulseInstant p p.k))) ∧
    (∃ (s : State), (tb2Wraps s (nextStart s) = true) ∧ (s.time.ptp.wrapped = false)) ∧
    (∃ (s : State), (tb2Wraps s (nextStart s) = false ∨ s.time.ptp.wrapped = true)) :=
  ⟨⟨7, true, 1000000, live, by decide +kernel⟩,
    ⟨7, true, 160, 1000, modPin 7 (fun p => { p with cfg := some 0x101003, lastCap := some 2024 }) live, by decide +kernel,
    by decide +kernel, (by intro e h; cases h; decide)⟩,
    ⟨7, true, 160, 1000, modPin 7 (fun p => { p with cfg := some 0x101003, lastCap := some 2023 }) live, by decide +kernel,
    Or.inr ⟨2023, rfl, by decide⟩⟩,
    ⟨⟨7, 0, true, 0, 0⟩, live, by decide +kernel, by decide +kernel, by decide +kernel⟩,
    ⟨⟨7, 0, true, 0, 0⟩, modTime (fun x => { x with tb3 := { x.tb3 with valid := true, steps := 1 } }) (withCfg 3 (recBytes 64
    [(52, 2, 0xC000)]) live), 0, 3, by decide +kernel, by decide +kernel, by decide +kernel, by decide +kernel,
    by decide +kernel, by decide +kernel⟩,
    ⟨7, 0, modPin 15 (fun p => { p with lastEdge := some 0, width := 10 }) live, 0, by decide +kernel, by decide +kernel⟩,
    ⟨7, 1024, modPin 15 (fun p => { p with lastEdge := some 0, width := 10 }) live, (by intro e h; cases h; decide)⟩,
    ⟨7, live, by decide +kernel⟩,
    ⟨7, 1, live2 { pulse1 with first := 2000 }, { pulse1 with first := 2000 }, by decide +kernel, by decide +kernel⟩,
    ⟨7, 1, live2 { pulse1 with mode := 2 }, { pulse1 with mode := 2 }, by decide +kernel, by decide +kernel, by decide +kernel,
    by decide +kernel⟩,
    ⟨7, 1, live2 pulse1, pulse1, by decide +kernel, by decide +kernel, by decide +kernel, by decide +kernel, by decide +kernel,
    by decide +kernel, by decide +kernel, by decide +kernel, by decide +kernel⟩,
    ⟨live, pulse1, 5, 4, 6, by decide +kernel, by decide +kernel, by decide +kernel⟩,
    ⟨pulse1, by decide +kernel⟩,
    ⟨pulse1, 2, by decide +kernel, by decide +kernel⟩,
    ⟨{ pulse1 with mode := 2, count := 0 }, 2, by decide +kernel, by decide +kernel, by decide +kernel, by decide +kernel⟩,
    ⟨modTime (fun x => { x with tb2 := { x.tb2 with valid := true, v := -1 } }) live, by decide +kernel, by decide +kernel⟩,
    ⟨live, by decide +kernel⟩⟩

theorem witness_PtpMessages :
    (∃ (m : Ptp) (s : State), (ptpTaken 40 m s = true) ∧ (fromMaster s m = true) ∧ (s.time.ptp.lost = false)) ∧
    (∃ (m : Ptp) (s : State) (w : SyncWait), (ptpTaken 10 m s = true) ∧ (fromMaster s m = true) ∧ (s.time.ptp.sync = some w) ∧
    (w.seqId = m.seqId) ∧ (w.t1 = none)) ∧
    (∃ (m : Ptp) (s : State) (w : SyncWait) (o : PtpTs) (t3 : Stamp) (d : Int) (t4 : Word64) (t1 : Word64) (raw : Int), (ptpTaken
    10 m s = true) ∧ (m.req.toNat = ownClock s) ∧ (fromMaster s m = true) ∧ (bit (cfgU s recTime 0 2) 1 = false) ∧
    (s.time.ptp.dreq = some (m.seqId, t3)) ∧ (s.time.ptp.sync = some w) ∧ (w.t1 = some o) ∧ (t4 = ptpTicks m.seconds m.nanos
    (-m.corr)) ∧ (t1 = ptpTicks o.sec o.nano (o.corr + w.corr)) ∧ (d = sdiff64 (tb2At s w.t2) t1) ∧ (raw = (sdiff64 (tb2At s
    w.t2) (tb2At s t3) + sdiff64 t4 t1).tdiv 2)) ∧
    (∃ (m : Ptp) (s : State), (ptpTaken 40 m s = true)) ∧
    (∃ (m : Ptp) (s : State), (ptpTaken 10 m s = true) ∧ (m.req.toNat ≠ ownClock s)) ∧
    (∃ (m : Ptp) (s : State) (t1 : Stamp), (ptpTaken 40 m s = true) ∧ (m.req.toNat = ownClock s) ∧ (bit (cfgU s recTime 0 2) 1 =
    true) ∧ (s.time.ptp.dreq = some (m.seqId, t1)) ∧ (m.twoStep = true)) ∧
    (∃ (m : Ptp) (s : State) (t1 : Stamp) (w : PdelWait), (ptpTaken 10 m s = true) ∧ (m.req.toNat = ownClock s) ∧ (s.time.ptp.dreq
    = some (m.seqId, t1)) ∧ (s.time.ptp.pdel = some w) ∧ (w.seqId = m.seqId) ∧ (s.time.ptp.sync = none)) ∧
    (∃ (m : Ptp) (s : State), (frameTaken 10 10 m.stamp s = true) ∧ (ptpEn s = true) ∧ (m.domain ≠ cfgU s recTime 2 1)) ∧
    (∃ (st : Stamp) (f : List Byte) (s : State), (frameTaken 9 10 st s = true) ∧ (ptpPart s f = none) ∧ (slice f 0 6 = (List.range
    6).map (cfgByte s recFwd)) ∧ (beNat (slice f 12 2) ≠ 0x86DD)) ∧
    (∃ (st : Stamp) (f : List Byte) (s : State), (frameTaken 9 10 st s = true) ∧ (ptpPart s f = none) ∧ (slice f 0 6 = (List.range
    6).map (cfgByte s recFwd)) ∧ (beNat (slice f 12 2) = 0x86DD)) ∧
    (∃ (m : Ptp) (s : State), (s.proc.processing = true) ∧ (isUnderstudy s = false) ∧ (inReplay s = false) ∧ (0 ≤ sdiff64 m.stamp
    s.proc.procStart)) :=
  ⟨⟨ptpM, ptpS 40, by decide +kernel, by decide +kernel, by decide +kernel⟩,
    ⟨ptpM, modPtp (fun x => { x with sync := some wait0 }) (ptpS 10), wait0, by decide +kernel, by decide +kernel,
    by decide +kernel, by decide +kernel, by decide +kernel⟩,
    ⟨{ ptpM with req := 0xFFFE000000 }, modPtp (fun x =>
    { x with sync := some { wait0 with t1 := some ⟨0, 0, 0⟩ }, dreq := some (0, 0) }) (ptpS 10),
    { wait0 with t1 := some ⟨0, 0, 0⟩ }, ⟨0, 0, 0⟩, 0, _, _, _, _, by decide +kernel, by decide +kernel, by decide +kernel,
    by decide +kernel, by decide +kernel, by decide +kernel, by decide +kernel, rfl, rfl, rfl, rfl⟩,
    ⟨ptpM, ptpS 40, by decide +kernel⟩,
    ⟨{ ptpM with req := 1 }, ptpS 10, by decide +kernel, by decide +kernel⟩,
    ⟨{ ptpM with twoStep := true, req := 0xFFFE000000 }, modPtp (fun x => { x with dreq := some (0, 0) }) (withCfg 3 (recBytes 64
    [(0, 2, 3)]) live), 0, by decide +kernel, by decide +kernel, by decide +kernel, by decide +kernel, by decide +kernel⟩,
    ⟨{ ptpM with req := 0xFFFE000000 }, modPtp (fun x => { x with dreq := some (0, 0), pdel := some ⟨0, 0, ⟨0, 0, 0⟩, 0⟩ }) (ptpS
    10), 0, ⟨0, 0, ⟨0, 0, 0⟩, 0⟩, by decide +kernel, by decide +kernel, by decide +kernel, by decide +kernel, by decide +kernel,
    by decide +kernel⟩,
    ⟨{ ptpM with domain := 1 }, ptpS 10, by decide +kernel, by decide +kernel, by decide +kernel⟩,
    ⟨-1, List.replicate 14 0, live, by decide +kernel, by decide +kernel, by decide +kernel, by decide +kernel⟩,
    ⟨-1, List.replicate 12 0 ++ [0x86, 0xDD], live, by decide +kernel, by decide +kernel, by decide +kernel, by decide +kernel⟩,
    ⟨{ ptpM with stamp := 0 }, live, by decide +kernel, by decide +kernel, by decide +kernel, by decide +kernel⟩⟩

theorem witness_PtpStates :
    (∃ (m : Ptp) (s : State), (ptpTaken 10 m s = true) ∧ (255 ≤ m.steps ∨ m.source.toNat = ownClock s)) ∧
    (∃ (m : Ptp) (x : Ptp) (s : State), (ptpTaken 10 m s = true) ∧ (m.steps < 255) ∧ (m.source.toNat ≠ ownClock s) ∧
    (s.time.ptp.masters = [(x, false)]) ∧ (x.source = m.source) ∧ (sdiff64 m.stamp x.stamp ≤ (logTicks 4 x.logIntv : Int)) ∧
    (s.time.ptp.st = .listening) ∧ (s.time.ptp.master = none)) ∧
    (∃ (s : State), (canTake s 10 10 = true) ∧ (announceOver s = false)) ∧
    (∃ (s : State), (canTake s 10 10 = true) ∧ (announceOver s = true) ∧ (s.time.ptp.st = .listening ∨ (s.time.ptp.st = .holdover
    ∧ s.time.ptp.holdCue ≠ s.proc.procCue))) ∧
    (∃ (s : State), (canTake s 10 10 = true) ∧ (syncOver s = true) ∧ (s.time.ptp.st = .locked ∨ s.time.ptp.st = .acquiring)) ∧
    (∃ (s : State), (canTake s 10 10 = true) ∧ ((s.time.ptp.st ≠ .locked ∧ s.time.ptp.st ≠ .acquiring) ∨ syncOver s = false)) ∧
    (∃ (s : State) (w : SyncWait), (canTake s 10 10 = true) ∧ (s.time.ptp.sync = some w) ∧ (w.t1 = none) ∧ (102400000000 ≤ sdiff64
    s.proc.procStart w.t2)) ∧
    (∃ (s : State), (canTake s 10 10 = true) ∧ (s.time.ptp.st = .holdover) ∧ (s.time.ptp.traceable = true) ∧ ((cfgU s recTime 20 4
    : Int) ≤ sdiff32 s.proc.procCue s.time.ptp.holdCue)) ∧
    (∃ (raw : Int) (m : Int) (s : State), (s.time.ptp.st = .locked ∨ s.time.ptp.st = .acquiring) ∧ (s.time.ptp.mpd = some m) ∧
    (exceeds (raw - m) (cfgU s recTime 16 4) = true) ∧ (s.time.ptp.deviating = 0)) ∧
    (∃ (o : Int) (s : State), (s.time.ptp.st = .acquiring) ∧ (exceeds o (cfgU s recTime 8 4) = false) ∧ (exceeds o (cfgU s recTime
    12 4) = false) ∧ (s.time.ptp.good = 3)) ∧
    (∃ (o : Int) (s : State), (s.time.ptp.st = .locked) ∧ (exceeds o (cfgU s recTime 8 4) = false)) :=
  ⟨⟨{ ptpM with steps := 255 }, ptpS 10, by decide +kernel, by decide +kernel⟩,
    ⟨ptpM, ptpM, modPtp (fun x => { x with st := .listening, master := none, masters := [(ptpM, false)] }) (ptpS 10),
    by decide +kernel, by decide +kernel, by decide +kernel, by decide +kernel, by decide +kernel, by decide +kernel,
    by decide +kernel, by decide +kernel⟩,
    ⟨modPtp (fun x => { x with st := .listening, masters := [({ ptpM with stamp := 1 }, true)] }) (ptpS 10), by decide +kernel,
    by decide +kernel⟩,
    ⟨modPtp (fun x => { x with st := .listening }) live, by decide +kernel, by decide +kernel, by decide +kernel⟩,
    ⟨modPtp (fun x => { x with st := .acquiring }) live, by decide +kernel, by decide +kernel, by decide +kernel⟩,
    ⟨live, by decide +kernel, by decide +kernel⟩,
    ⟨modPtp (fun x => { x with sync := some { wait0 with t2 := -102400000000 } }) live, { wait0 with t2 := -102400000000 },
    by decide +kernel, by decide +kernel, by decide +kernel, by decide +kernel⟩,
    ⟨modPtp (fun x => { x with st := .holdover, traceable := true }) (ptpS 10), by decide +kernel, by decide +kernel,
    by decide +kernel, by decide +kernel⟩,
    ⟨1000000000, 0, modPtp (fun x => { x with st := .locked, mpd := some 0 }) live, by decide +kernel, by decide +kernel,
    by decide +kernel, by decide +kernel⟩,
    ⟨0, modPtp (fun x => { x with st := .acquiring, good := 3 }) live, by decide +kernel, by decide +kernel, by decide +kernel,
    by decide +kernel⟩,
    ⟨0, modPtp (fun x => { x with st := .locked }) live, by decide +kernel, by decide +kernel⟩⟩

theorem witness_Uplinks :
    (∃ (rx : Reception) (s : State) (u : Uplink) (s1 : State), (canTake s (rxOwner s rx) (rxCost s rx) = true) ∧ (acceptUplink rx
    (charge (rxOwner s rx) (rxCost s rx) s) = (some u, s1))) ∧
    (∃ (rx : Reception) (s : State), (canTake s (rxOwner s rx) (rxCost s rx) = true) ∧ (parseFrame (rxFrame rx) = none) ∧ (winOf s
    rx = none)) ∧
    (∃ (rx : Reception) (s : State) (f : Frame) (i : Nat) (p : _) (h : _) (b : _) (es : List (Nat × List Byte)) (q : List Byte),
    (parseFrame (rxFrame rx) = some f) ∧ (nodeByAddr s (uplinkNode f) = some i) ∧ (f.sec = true) ∧ (f.dir = false) ∧ (f.router =
    routerId s) ∧ (openFrom s i f = .inl (p, h, b)) ∧ (splitBody f p = some (es, q)) ∧ ((∀ e ∈ es, elemOk e = true)) ∧ (payloadOk
    f.typ q = true)) ∧
    (∃ (rx : Reception) (s : State) (f : Frame) (i : Nat) (p : _) (h : _) (b : _) (es : List (Nat × List Byte)) (q : List Byte),
    (parseFrame (rxFrame rx) = some f) ∧ (nodeByAddr s (uplinkNode f) = some i) ∧ (f.sec = true) ∧ (f.dir = false) ∧ (f.router =
    routerId s) ∧ (openFrom s i f = .inl (p, h, b)) ∧ (splitBody f p = some (es, q)) ∧ ((∃ e ∈ es, elemOk e = false) ∨ payloadOk
    f.typ q = false)) ∧
    (∃ (u : Uplink) (s : State) (n : Node) (e : Word32), (n = node s u.i) ∧ (e = contactEvent u n) ∧ (n.upd = none)) :=
  ⟨⟨upRx, linked, ⟨8, upFrame, [], [], upRx, winOf (charge 0 60 linked) upRx⟩, takeCounter 8 upFrame 1 1 (charge 0 60 linked),
    by decide +kernel, accept_rx⟩,
    ⟨rxW [], live, by decide +kernel, by decide +kernel, by decide +kernel⟩,
    ⟨upRx, linked, upFrame, 8, [], 1, 1, [], [], by decide +kernel, by decide +kernel, by decide +kernel, by decide +kernel,
    by decide +kernel, open_linked, by decide +kernel, by decide +kernel, by decide +kernel⟩,
    ⟨shortReply, linked, shortFrame, 8, [], 1, 1, [], [], by decide +kernel, by decide +kernel, by decide +kernel,
    by decide +kernel, by decide +kernel, open_short, by decide +kernel, by decide +kernel⟩,
    ⟨upl, meshed, _, _, rfl, rfl, by decide +kernel⟩⟩

theorem witness_WindowsFloodsAndPeers :
    (∃ (rx : Reception) (s : State) (w : _), (canTake s (owner w.node) 10 = true) ∧ (winOf s rx = some w) ∧ (rxGood rx = false) ∧
    (rx.outcome ≠ 0) ∧ (rx.outcome ≠ 2)) ∧
    (∃ (rx : Reception) (s : State) (w : _), (canTake s (owner w.node) 10 = true) ∧ (winOf s rx = some w) ∧ (rxGood rx = false) ∧
    (rx.outcome = 2)) ∧
    (∃ (rx : Reception) (s : State) (f : Frame) (b : List Byte), (canTake s 0 20 = true) ∧ (parseFrame (rxFrame rx) = some f) ∧
    (((beaconOf s f).bind fun b => (splitBody f b).map Prod.snd) = some b) ∧ (beaconOk b = true) ∧ (f.router ≠ routerId s) ∧ (bit
    (byteAt b 7) 1 = false) ∧ (winOf s rx = none) ∧ ((∀ x ∈ s.mesh.peers, ¬ (x.router = f.router ∧ x.slot = byteAt b 5))) ∧
    (s.mesh.peers.length < 32)) ∧
    (∃ (rx : Reception) (s : State) (f : Frame) (o : _) (q : Nat) (n : _) (e : _), (parseFrame (rxFrame rx) = some f) ∧ (f.flood =
    some (o, q, n)) ∧ (e = floodOwner s o q) ∧ (isSeen s e o q = true) ∧ (canTake s e 8 = true) ∧ (winOf s rx = none)) ∧
    (∃ (rx : Reception) (s : State) (f : Frame) (o : _) (q : Nat) (n : _) (e : _) (p : List Byte) (es : _) (x : List Byte),
    (parseFrame (rxFrame rx) = some f) ∧ (f.flood = some (o, q, n)) ∧ (e = floodOwner s o q) ∧ (isSeen s e o q = false) ∧
    (canTake s e (40 + blocksOf 16 f.body.length) = true) ∧ (winOf s rx = none) ∧ (f.typ = 1) ∧ (f.sec = true) ∧ (f.dir = true) ∧
    (openFlood s f o = .inl (p, none)) ∧ (splitBody f p = some (es, x)) ∧ ((∀ y ∈ es, elemOk y = true))) ∧
    (∃ (x : FloodFrame) (s : State), (canTake s 0 10 = true) ∧ (s.mesh.floods.length < 64) ∧ (floodEntries s x.scope x.grand ≠ [])
    ∧ ((∀ j ∈ floodEntries s x.scope x.grand, slotFits s x.frame.length j = true))) ∧
    (∃ (x : FloodFrame) (s : State), (canTake s 0 10 = true) ∧ (64 ≤ s.mesh.floods.length ∨ (∃ j ∈ floodEntries s x.scope x.grand,
    slotFits s x.frame.length j = false))) ∧
    (∃ (x : TxEnd) (s : State) (e : _) (u : _), (e = x.origin.toNat % 16) ∧ (canTake s e 10 = true) ∧ ((∀ v ∈ s.mesh.uses, v.sent
    ≠ some (x.chain, x.seq))) ∧ (u = ledgerCorrect x s)) ∧
    (∃ (l : List Nat) (s : State), (canTake s 8 10 = true) ∧ (mapLegal l = false)) ∧
    (∃ (l : List Nat) (s : State), (canTake s 8 10 = true) ∧ (mapLegal l = true)) ∧
    (∃ (i : Nat) (s : State) (p : Peer), (canTake s 0 10 = true) ∧ (s.mesh.peers[i]? = some p) ∧ (p.present = true) ∧ (p.misses =
    2) ∧ (1000 * (usTicks : Int) < sdiff64 s.proc.procStart p.expect)) ∧
    (∃ (i : Nat) (s : State) (p : Peer), (canTake s 0 10 = true) ∧ (s.mesh.peers[i]? = some p) ∧ (p.misses < 2) ∧ (1000 * (usTicks
    : Int) < sdiff64 s.proc.procStart p.expect)) ∧
    (∃ (i : Nat) (s : State) (p : Peer), (canTake s 0 10 = true) ∧ (s.mesh.peers[i]? = some p) ∧ ((cfgU s recMesh 16 2 : Int) ≤
    sdiff32 s.proc.procCue p.cue)) ∧
    (∃ (i : Nat) (s : State) (p : Peer), (canTake s 0 10 = true) ∧ (s.mesh.peers[i]? = some p) ∧ (sdiff32 s.proc.procCue p.cue <
    (cfgU s recMesh 16 2 : Int))) :=
  ⟨⟨{ rxW [] with windowId := 7, outcome := 3 }, winned, wine, by decide +kernel, by decide +kernel, by decide +kernel,
    by decide +kernel, by decide +kernel⟩,
    ⟨{ rxW [] with windowId := 7, outcome := 2 }, winned, wine, by decide +kernel, by decide +kernel, by decide +kernel,
    by decide +kernel⟩,
    ⟨rxW (beaconFrame ++ [0, 0]), modEng 0 (fun e => { e with left := 20 }) meshed, (parseFrame beaconFrame).get
    (by decide +kernel), List.replicate 24 0, by decide +kernel, by decide +kernel, by decide +kernel, by decide +kernel,
    by decide +kernel, by decide +kernel, by decide +kernel, by decide +kernel, by decide +kernel⟩,
    ⟨rxW (floodBytes 8 ++ [0, 0]), modMesh (fun m => { m with seen := [(0, [⟨8, 3, 0⟩])] }) noded, (parseFrame (floodBytes
    8)).get (by decide +kernel), 8, 3, 1, 0, by decide +kernel, by decide +kernel, by decide +kernel, by decide +kernel,
    by decide +kernel, by decide +kernel⟩,
    ⟨floodRx, linked, floodFrame1, 0x804321, 3, 1, 3, [], [], [], by decide +kernel, by decide +kernel, rfl, by decide +kernel,
    by decide +kernel, by decide +kernel, by decide +kernel, by decide +kernel, by decide +kernel, openFlood_linked,
    by decide +kernel, by decide +kernel⟩,
    ⟨⟨0, 0, 1, 1, false, false, []⟩, meshed, by decide +kernel, by decide +kernel, by decide +kernel, by decide +kernel⟩,
    ⟨⟨0, 0, 1, 1, false, false, []⟩, modMesh (fun m =>
    { m with floods := List.replicate 64 ⟨0, none, 0, false, 0, [], [], 0, [], 0, 0, 0⟩ }) meshed, by decide +kernel, Or.inl
    (by decide +kernel)⟩,
    ⟨⟨.b, 0, 0, 0, 0, 0, 0, 9⟩, live, 9, _, by decide +kernel, by decide +kernel, (by intro v h; cases h), rfl⟩,
    ⟨[6], modEng 8 (fun e => { e with left := 10 }) live, by decide +kernel, by decide +kernel⟩,
    ⟨List.replicate 24 1, modEng 8 (fun e => { e with left := 10 }) live, by decide +kernel, by decide +kernel⟩,
    ⟨0, peered 2 102400001, peer1 2 102400001, by decide +kernel, by decide +kernel, by decide +kernel, by decide +kernel,
    by decide +kernel⟩,
    ⟨0, peered 1 102400001, peer1 1 102400001, by decide +kernel, by decide +kernel, by decide +kernel, by decide +kernel⟩,
    ⟨0, modProc (fun p => { p with procCue := 8196 }) (peered 1 0), peer1 1 0, by decide +kernel, by decide +kernel,
    by decide +kernel⟩,
    ⟨0, modProc (fun p => { p with procCue := 8195 }) (peered 1 0), peer1 1 0, by decide +kernel, by decide +kernel,
    by decide +kernel⟩⟩

theorem witness_AuditionsAndJoins :
    (∃ (rx : Reception) (s : State) (f : Frame) (es : List (Nat × List Byte)) (b : List Byte) (st : Nat) (g : Bool) (p : Nat) (u :
    State), (canTake s 8 120 = true) ∧ (plainUplink s 3 16 true rx = some (f, es, b)) ∧ (auditOk b = true) ∧ (allocBlocked s =
    false) ∧ (winOf s rx = none) ∧ (auditAnswer (ctxView (charge 8 120 s)) b = (st, g, p)) ∧ (u =
    { charge 8 120 s with mesh := { s.mesh with fresh := s.mesh.fresh + 1, audits := s.mesh.audits.filter (fun x => x.eui != BitVec.ofNat 64 (uAt b 0 8)) ++ (if st = 0 then [{ eui := BitVec.ofNat 64 (uAt b 0 8), caps := BitVec.ofNat 16 (uAt b 8 2), ppm := byteAt b 11, wanted := BitVec.ofNat 8 (byteAt b 10), grand := g, pan := p }] else []) } })) ∧
    (∃ (s : State), (joinPolicy s = 2)) ∧
    (∃ (b : List Byte) (s : State), (joinPolicy s = 1) ∧ (nodeByEui s (BitVec.ofNat 64 (uAt b 0 8)) = none)) ∧
    (∃ (b : List Byte) (s : State), (joinPolicy s = 0) ∧ (uAt b 12 2 ≠ planCheck s)) ∧
    (∃ (rx : Reception) (s : State) (f : Frame) (es : List (Nat × List Byte)) (b : List Byte) (a : Audit) (o : List Byte),
    (canTake s 8 400 = true) ∧ (plainUplink s 5 16 false rx = some (f, es, b)) ∧ (zeroAt b 10 6 = true) ∧ (uAt b 8 2 ≤ 1) ∧
    (allocBlocked s = false) ∧ (bit (byteAt b 8) 0 = false) ∧ (winOf s rx = none) ∧ (auditFor (charge 8 400 s) (BitVec.ofNat 64
    (uAt b 0 8)) = some a) ∧ (offerOf es = some o) ∧ (s.mesh.pendingJoin.contains (BitVec.ofNat 64 (uAt b 0 8)) = false)) ∧
    (∃ (rx : Reception) (s : State) (f : Frame) (es : List (Nat × List Byte)) (b : List Byte) (o : List Byte), (canTake s 8 400 =
    true) ∧ (plainUplink s 5 16 false rx = some (f, es, b)) ∧ (zeroAt b 10 6 = true) ∧ (uAt b 8 2 ≤ 1) ∧ (allocBlocked s = false)
    ∧ (bit (byteAt b 8) 0 = false) ∧ (winOf s rx = none) ∧ (auditFor (charge 8 400 s) (BitVec.ofNat 64 (uAt b 0 8)) = none ∨
    s.mesh.pendingJoin.contains (BitVec.ofNat 64 (uAt b 0 8)) = true) ∧ (offerOf es = some o)) ∧
    (∃ (s : State) (e : BitVec 64) (a : Audit), (s.mesh.audits.find? (fun a => a.eui == e) = some a)) ∧
    (∃ (rx : Reception) (s : State) (f : Frame) (es : List (Nat × List Byte)) (b : List Byte), (canTake s 8 400 = true) ∧
    (plainUplink s 5 16 false rx = some (f, es, b)) ∧ (zeroAt b 10 6 = true) ∧ (uAt b 8 2 ≤ 1) ∧ (allocBlocked s = false) ∧ (bit
    (byteAt b 8) 0 = true) ∧ (s.mesh.results.find? (fun r => r.1 == BitVec.ofNat 64 (uAt b 0 8) && resultHolds s r) = none) ∧
    (winOf s rx = none)) ∧
    (∃ (j : JoinReq) (s : State) (c : Nat), ((credSlotOk s j = false ∧ c = 10) ∨ (credSlotOk s j = true ∧ credSigOk s j = false ∧
    c = 2600)) ∧ (canTake s 11 c = true)) ∧
    (∃ (j : JoinReq) (s : State), (credSlotOk s j = true) ∧ (credSigOk s j = true) ∧ (canTake s 11 3800 = true)) ∧
    (∃ (r : JoinRes) (s : State), (canTake s 8 10 = true) ∧ (allocBlocked s = false) ∧ (r.accepted = false)) ∧
    (∃ (s : State), (canTake s 8 10 = true) ∧ (allocBlocked s = true)) ∧
    (∃ (r : JoinRes) (s : State) (i : Nat) (w : State), (canTake s 8 10 = true) ∧ (allocBlocked s = false) ∧ (r.accepted = true) ∧
    (joinIndex r (charge 8 10 s) = (.inr i, w))) ∧
    (∃ (i : Nat) (r : JoinRes) (s : State) (k : List Byte) (x : State), (ticketBody s i r = (k, x))) ∧
    (∃ (i : Nat) (r : JoinRes) (s : State), ((node s i).st = .joining) ∧ ((node s i).eui = r.req.eui)) ∧
    (∃ (x : FwdPacket) (s : State), (canTake s (owner x.node) 10 = true) ∧ (sendWrong (node s x.node) false = true)) ∧
    (∃ (x : FwdPacket) (s : State), (canTake s (owner x.node) 10 = true) ∧ (sendWrong (node s x.node) false = false) ∧
    (downRefusal s x.node (x.packet.length + 1) false = none)) :=
  ⟨⟨rxW (plainFrame 3 auditBody), policy 2, (parseFrame (rxFrame (rxW (plainFrame 3 auditBody)))).get (by decide +kernel), [],
    auditBody, 4, false, 0, _, by decide +kernel, by decide +kernel, by decide +kernel, by decide +kernel, by decide +kernel,
    by decide +kernel, rfl⟩,
    ⟨policy 2, by decide +kernel⟩,
    ⟨auditBody, policy 1, by decide +kernel, by decide +kernel⟩,
    ⟨auditBody, live, by decide +kernel, by decide +kernel⟩,
    ⟨rxW (offerFrame ++ joinBody 0 ++ [0, 0]), modMesh (fun m => { m with audits := [⟨1, 0, 1, 0, false, 0⟩] }) meshed,
    (parseFrame (offerFrame ++ joinBody 0)).get (by decide +kernel), [(6, List.replicate 148 0)], joinBody 0, ⟨1, 0, 1, 0, false,
    0⟩, List.replicate 148 0, by decide +kernel, by decide +kernel, by decide +kernel, by decide +kernel, by decide +kernel,
    by decide +kernel, by decide +kernel, by decide +kernel, by decide +kernel, by decide +kernel⟩,
    ⟨rxW (offerFrame ++ joinBody 0 ++ [0, 0]), meshed, (parseFrame (offerFrame ++ joinBody 0)).get (by decide +kernel), [(6,
    List.replicate 148 0)], joinBody 0, List.replicate 148 0, by decide +kernel, by decide +kernel, by decide +kernel,
    by decide +kernel, by decide +kernel, by decide +kernel, by decide +kernel, by decide +kernel, by decide +kernel⟩,
    ⟨modMesh (fun m => { m with audits := [⟨1, 0, 1, 0, false, 0⟩] }) meshed, 1, ⟨1, 0, 1, 0, false, 0⟩, by decide +kernel⟩,
    ⟨rxW (plainFrame 5 (joinBody 1)), meshed, (parseFrame (rxFrame (rxW (plainFrame 5 (joinBody 1))))).get (by decide +kernel),
    [], joinBody 1, by decide +kernel, by decide +kernel, by decide +kernel, by decide +kernel, by decide +kernel,
    by decide +kernel, by decide +kernel, by decide +kernel⟩,
    ⟨join1, live, 10, Or.inl (by decide +kernel), by decide +kernel⟩,
    ⟨joinSigned, issued, by decide +kernel, by decide +kernel, by decide +kernel⟩,
    ⟨{ joinRes with accepted := false }, meshed, by decide +kernel, by decide +kernel, by decide +kernel⟩,
    ⟨{ meshed with cfgs := smSet {} meshed.cfgs 1 { bytes := meshBytes, gen := 1, wait := some (recBytes 740 [(0, 4, 0x9999)], 2, 9) } },
    by decide +kernel, by decide +kernel⟩,
    ⟨joinRes, meshed, 0, (joinIndex joinRes (charge 8 10 meshed)).2, by decide +kernel, by decide +kernel, by decide +kernel,
    by decide +kernel⟩,
    ⟨8, joinRes, meshed, (ticketBody meshed 8 joinRes).1, (ticketBody meshed 8 joinRes).2, (Prod.eta _).symm⟩,
    ⟨8, joinRes, modNode 8 (fun n => { n with st := .joining, eui := 1 }) meshed, by decide +kernel, by decide +kernel⟩,
    ⟨⟨8, []⟩, live, by decide +kernel, by decide +kernel⟩,
    ⟨⟨8, [1]⟩, noded, by decide +kernel, by decide +kernel, by decide +kernel⟩⟩

theorem witness_NodeTimers :
    (∃ (i : Nat) (s : State), (canTake s (owner i) 4 = true) ∧ (supervisionDue s i = true)) ∧
    (∃ (i : Nat) (s : State), (canTake s (owner i) 4 = true) ∧ (supervisionDue s i = false)) ∧
    (∃ (i : Nat) (s : State), (canTake s (owner i) 10 = true) ∧ (joinTimeoutDue s i = true) ∧ ((node s i).byAdmit = true)) ∧
    (∃ (i : Nat) (s : State), (canTake s (owner i) 10 = true) ∧ (dormantDue s i = true) ∧ ((node s i).downs = []) ∧ ((node s
    i).upd = none) ∧ ((node s i).leave = none) ∧ ((node s i).mapId = 0) ∧ ((node s i).grand = true)) ∧
    (∃ (i : Nat) (s : State), (canTake s (owner i) 10 = true) ∧ (overtureDue s i = true)) ∧
    (∃ (i : Nat) (id : _) (s : State) (d : Downlink) (c : Sub), (canTake s (owner i) 10 = true) ∧ ((node s i).downs.find? (fun d
    => d.id == id) = some d) ∧ (0 < sdiff32 s.proc.procCue d.expiry) ∧ (d.cmd = some c)) ∧
    (∃ (i : Nat) (id : _) (s : State) (d : Downlink), (canTake s (owner i) 10 = true) ∧ ((node s i).downs.find? (fun d => d.id ==
    id) = some d) ∧ (sdiff32 s.proc.procCue d.expiry ≤ 0)) ∧
    (∃ (i : Nat) (s : State) (r : _) (c : Sub) (x : _), (canTake s (owner i) 10 = true) ∧ ((node s i).leave = some (r, some c, x))
    ∧ ((node s i).st = .leaving) ∧ (0 < sdiff32 s.proc.procCue x) ∧ ((node s i).downs = []) ∧ ((node s i).upd = none) ∧ ((node s
    i).mapId = 0) ∧ ((node s i).grand = true)) ∧
    (∃ (s : State), (s.proc.hkDone = false)) ∧
    (∃ (s : State) (l : _), (s.proc.hkDone = true) ∧ (s.mesh.locks = [l]) ∧ (3 ≤ sdiff32 s.proc.procCue l.cue)) ∧
    (∃ (s : State), ((∀ l ∈ s.mesh.locks, sdiff32 s.proc.procCue l.cue < 3))) :=
  ⟨⟨8, modProc (fun p => { p with procCue := 4097 }) (modNode 8 (fun n => { n with sup := 4096 }) noded), by decide +kernel,
    by decide +kernel⟩,
    ⟨8, modProc (fun p => { p with procCue := 4096 }) (modNode 8 (fun n => { n with sup := 4096 }) noded), by decide +kernel,
    by decide +kernel⟩,
    ⟨8, modProc (fun p => { p with procCue := 16385 }) (modNode 8 (fun n => { n with st := .joining, byAdmit := true }) noded),
    by decide +kernel, by decide +kernel, by decide +kernel⟩,
    ⟨8, modProc (fun p => { p with procCue := 1024 }) (modNode 8 (fun n => { n with st := .dormant }) (withCfg 1 (recBytes 740
    [(18, 2, 1)]) noded)), by decide +kernel, by decide +kernel, by decide +kernel, by decide +kernel, by decide +kernel,
    by decide +kernel, by decide +kernel⟩,
    ⟨8, modProc (fun p => { p with procCue := 10240 }) (modNode 8 (fun n => { n with st := .searching }) noded),
    by decide +kernel, by decide +kernel⟩,
    ⟨8, 2, modNode 8 (fun n => { n with downs := [{ down2 with cmd := some sub }] }) noded, { down2 with cmd := some sub }, sub,
    by decide +kernel, by decide +kernel, by decide +kernel, by decide +kernel⟩,
    ⟨8, 2, modProc (fun p => { p with procCue := 4 }) (modNode 8 (fun n => { n with downs := [down2] }) noded), down2,
    by decide +kernel, by decide +kernel, by decide +kernel⟩,
    ⟨8, modNode 8 (fun n => { n with st := .leaving, leave := some (1, some sub, 4) }) noded, 1, sub, 4, by decide +kernel,
    by decide +kernel, by decide +kernel, by decide +kernel, by decide +kernel, by decide +kernel, by decide +kernel,
    by decide +kernel⟩,
    ⟨live, by decide +kernel⟩,
    ⟨modProc (fun p => { p with hkDone := true, procCue := 7 }) (modMesh (fun m => { m with locks := [⟨0, 0, 4⟩] }) live), ⟨0, 0,
    4⟩, by decide +kernel, by decide +kernel, by decide +kernel⟩,
    ⟨modProc (fun p => { p with procCue := 6 }) (modMesh (fun m => { m with locks := [⟨0, 0, 4⟩] }) live), by decide +kernel⟩⟩

end Sys2Proof.Tests
end

