-- ==== Sys2Proof/Tests/Witness6.lean ====
section
/-! SUPPORT. Witnesses of statements PairFrames to AirCoding: for each clause a state and operands that meet
all its hypotheses together. -/

namespace Sys2Proof.Tests
open Sys2Proof.Machine

set_option maxRecDepth 100000
set_option Elab.async false

theorem witness_PairFrames :
    (∃ (s : State), (isPaired s = true) ∧ (s.pwr.eth1Up = true) ∧ (64 ≤ sdiff32 s.proc.cueNow s.pair.lastHello) ∧ (s.pair.txCtr ≠
    0xFFFFFFFF)) ∧
    (∃ (s : State), (isPaired s = true) ∧ (s.pwr.eth1Up = true) ∧ (64 ≤ sdiff32 s.proc.cueNow s.pair.lastHello) ∧ (s.pair.txCtr =
    0xFFFFFFFF)) ∧
    (∃ (s : State), (isPaired s = false ∨ sdiff32 s.proc.cueNow s.pair.lastHello < 64)) ∧
    (∃ (h : Hello) (s : State), (pairOpen s = true) ∧ (h.mic = pairMic ⟨h.session, h.counter, .hello h⟩ s) ∧ (s.pair.rxSess ≠ some
    h.session ∨ s.pair.rxCtr.toNat < h.counter.toNat) ∧ (agrees h s = true) ∧ (isUnderstudy s = false) ∧ (s.pair.covered = false)) ∧
    (∃ (h : Hello) (s : State), (pairOpen s = true) ∧ (h.mic = pairMic ⟨h.session, h.counter, .hello h⟩ s) ∧ (s.pair.rxSess ≠ some
    h.session ∨ s.pair.rxCtr.toNat < h.counter.toNat) ∧ (agrees h s = false) ∧ (isUnderstudy s = false) ∧ (s.pair.covered =
    false)) ∧
    (∃ (h : Hello) (s : State), (pairOpen s = true) ∧ (h.mic ≠ pairMic ⟨h.session, h.counter, .hello h⟩ s ∨ (s.pair.rxSess = some
    h.session ∧ h.counter.toNat ≤ s.pair.rxCtr.toNat))) ∧
    (∃ (s : State), (pairOpen s = false)) ∧
    (∃ (h : PairHdr) (c : CueNo) (s : State), (pairOpen s = true) ∧ (pairTaken h (.ack c) s = false)) ∧
    (∃ (h : PairHdr) (c : CueNo) (b : List Byte) (s : State), (pairTaken h (.record c 0 1 b) s = true) ∧ (s.pair.role = 2) ∧
    (s.pair.promo = none) ∧ (s.pair.segs = []) ∧ (s.pair.naks = []) ∧ ((∀ x ∈ s.pair.held, x.1 ≠ c)) ∧ (s.pair.held.length < 8) ∧
    (recordWhole b = true) ∧ (uAt b 8 4 = b.length)) ∧
    (∃ (h : PairHdr) (c : CueNo) (i : Nat) (n : Nat) (b : List Byte) (s : State), (pairTaken h (.record c i n b) s = true) ∧
    (s.pair.role ≠ 2) ∧ (s.pair.role ≠ 3) ∧ (s.pair.role ≠ 6)) ∧
    (∃ (h : PairHdr) (c : CueNo) (s : State), (pairTaken h (.ack c) s = true) ∧ (s.pair.role = 1) ∧ (s.pair.sweeping = false) ∧
    (s.pair.covered = true) ∧ (s.pair.acked = none)) ∧
    (∃ (h : PairHdr) (c : CueNo) (s : State), (pairTaken h (.ack c) s = true) ∧ (s.pair.role = 1) ∧ (s.pair.sweeping = true) ∧
    (s.pair.acked = none)) ∧
    (∃ (h : PairHdr) (c : CueNo) (i : Nat) (s : State) (b : List Byte) (m : PairMsg), (pairTaken h (.nak c i) s = true) ∧
    (s.pair.role = 1) ∧ (s.pair.sentRecs.find? (fun x => x.1 == c) = some (c, b)) ∧ ((recordFrames c b)[i]? = some m)) :=
  ⟨⟨modPair (fun p => { p with lastHello := -59 }) (paired 1), by decide +kernel, by decide +kernel, by decide +kernel,
    by decide +kernel⟩,
    ⟨modPair (fun p => { p with lastHello := -59, txCtr := 0xFFFFFFFF }) (paired 1), by decide +kernel, by decide +kernel,
    by decide +kernel, by decide +kernel⟩,
    ⟨paired 1, by decide +kernel⟩,
    ⟨hello1 (paired 1), paired 1, by decide +kernel, hello1_mic _, by decide +kernel, by decide +kernel, by decide +kernel,
    by decide +kernel⟩,
    ⟨hello1 (modUpd (fun u => { u with rclass := 1 }) (paired 1)), modUpd (fun u => { u with rclass := 1 }) (paired 1),
    by decide +kernel, hello1_mic _, by decide +kernel, by decide +kernel, by decide +kernel, by decide +kernel⟩,
    ⟨{ hello1 (paired 1) with session := 7, counter := 0 }, paired 1, by decide +kernel, Or.inr ⟨rfl, by decide⟩⟩,
    ⟨live, by decide +kernel⟩,
    ⟨⟨7, 0, []⟩, 4, paired 1, by decide +kernel, by simp [pairTaken]⟩,
    ⟨hdr1 (.record 4 0 1 record32) (paired 2), 4, record32, paired 2, taken1 _ _ (by decide +kernel), by decide +kernel,
    by decide +kernel, by decide +kernel, by decide +kernel, (by intro x h; cases h), by decide +kernel, by decide +kernel,
    by decide +kernel⟩,
    ⟨hdr1 (.record 4 0 1 record32) (paired 1), 4, 0, 1, record32, paired 1, taken1 _ _ (by decide +kernel), by decide +kernel,
    by decide +kernel, by decide +kernel⟩,
    ⟨hdr1 (.ack 4) (modPair (fun p => { p with covered := true }) (paired 1)), 4, modPair (fun p => { p with covered := true })
    (paired 1), taken1 _ _ (by decide +kernel), by decide +kernel, by decide +kernel, by decide +kernel, by decide +kernel⟩,
    ⟨hdr1 (.ack 4) (modPair (fun p => { p with sweeping := true }) (paired 1)), 4, modPair (fun p => { p with sweeping := true })
    (paired 1), taken1 _ _ (by decide +kernel), by decide +kernel, by decide +kernel, by decide +kernel⟩,
    ⟨hdr1 (.nak 4 0) (modPair (fun p => { p with sentRecs := [(4, record32)] }) (paired 1)), 4, 0, modPair (fun p =>
    { p with sentRecs := [(4, record32)] }) (paired 1), record32, .record 4 0 1 record32, taken1 _ _ (by decide +kernel),
    by decide +kernel, by decide +kernel, by decide +kernel⟩⟩

theorem witness_PairState :
    (∃ (h : PairHdr) (d : Digest) (s : State), (pairTaken h (.digest d) s = true) ∧ (s.pair.role = 1 ∨ s.pair.role = 2 ∨
    s.pair.role = 3) ∧ (s.pair.mine = [d]) ∧ (s.pair.theirs = [])) ∧
    (∃ (h : PairHdr) (d : Digest) (m : Digest) (s : State), (pairTaken h (.digest d) s = true) ∧ (s.pair.role = 1) ∧ (s.pair.mine
    = [m]) ∧ (s.pair.theirs = []) ∧ (m.cue = d.cue) ∧ (m ≠ d)) ∧
    (∃ (h : PairHdr) (d : Digest) (m : Digest) (s : State), (pairTaken h (.digest d) s = true) ∧ (s.pair.role = 2 ∨ s.pair.role =
    3) ∧ (s.pair.mine = [m]) ∧ (s.pair.theirs = []) ∧ (m.cue = d.cue) ∧ (m ≠ d)) ∧
    (∃ (s : State), (s.pair.audit = false)) ∧
    (∃ (s : State), (s.pair.audit = true)) ∧
    (∃ (s : State), (s.pair.audit = true)) ∧
    (∃ (h : PairHdr) (a : Stamp) (s : State), (pairTaken h (.time a 0 0) s = true) ∧ (s.pair.role = 1)) ∧
    (∃ (h : PairHdr) (a : Stamp) (b : Stamp) (c : Stamp) (s : State), (pairTaken h (.time a b c) s = true) ∧ (s.pair.role = 2) ∧
    (s.pair.samples.length < 64)) ∧
    (∃ (h : PairHdr) (s : State), (pairTaken h .resync s = true) ∧ (s.pair.role = 1)) ∧
    (∃ (h : PairHdr) (r : Nat) (o : Nat) (l : List Word64) (s : State), (pairTaken h (.sweep r o l false) s = true) ∧ (s.pair.role
    = 6)) ∧
    (∃ (h : PairHdr) (r : Nat) (o : Nat) (l : List Word64) (s : State), (pairTaken h (.sweep r o l true) s = true) ∧ (s.pair.role
    = 6)) ∧
    (∃ (h : PairHdr) (l : List PairWord) (s : State), (pairTaken h (.forward l) s = true) ∧ (s.pair.role = 6)) ∧
    (∃ (s : State), (s.pair.role ≠ 1 ∨ s.pair.covered = false ∨ s.pair.holdOuts = [])) ∧
    (∃ (s : State) (x : CueNo × List Out) (l : List (CueNo × List Out)) (t : Stamp), (s.pair.role = 1) ∧ (s.pair.covered = true) ∧
    (s.pair.holdOuts = x :: l) ∧ (s.pair.fixedD = false) ∧ (t = plus (s.proc.cueStart + BitVec.ofInt 64 (sdiff32 x.1
    s.proc.cueNow * cueTicks)) (1400 * usTicks)) ∧ (0 ≤ sdiff64 t (plus s.proc.cueStart cueTicks))) ∧
    (∃ (s : State) (x : CueNo × List Out) (l : List (CueNo × List Out)) (t : Stamp), (s.pair.role = 1) ∧ (s.pair.covered = true) ∧
    (s.pair.holdOuts = x :: l) ∧ (s.pair.fixedD = false) ∧ (t = plus (s.proc.cueStart + BitVec.ofInt 64 (sdiff32 x.1
    s.proc.cueNow * cueTicks)) (1400 * usTicks)) ∧ (sdiff64 t (plus s.proc.cueStart cueTicks) < 0)) ∧
    (∃ (s : State), (isPaired s = true) ∧ (s.pair.role = 2 ∨ s.pair.role = 3 ∨ s.pair.role = 6) ∧ (8 ≤ sdiff32 s.proc.cueNow
    s.pair.lastRec)) ∧
    (∃ (s : State), (sdiff32 s.proc.cueNow s.pair.lastRec < 8)) :=
  ⟨⟨hdr1 (.digest ⟨4, 0, 0, 0, 0⟩) (modPair (fun p => { p with mine := [⟨4, 0, 0, 0, 0⟩] }) (paired 2)), ⟨4, 0, 0, 0, 0⟩,
    modPair (fun p => { p with mine := [⟨4, 0, 0, 0, 0⟩] }) (paired 2), taken1 _ _ (by decide +kernel), by decide +kernel,
    by decide +kernel, by decide +kernel⟩,
    ⟨hdr1 (.digest ⟨4, 0, 1, 0, 0⟩) (modPair (fun p => { p with mine := [⟨4, 0, 0, 0, 0⟩] }) (paired 1)), ⟨4, 0, 1, 0, 0⟩, ⟨4, 0,
    0, 0, 0⟩, modPair (fun p => { p with mine := [⟨4, 0, 0, 0, 0⟩] }) (paired 1), taken1 _ _ (by decide +kernel),
    by decide +kernel, by decide +kernel, by decide +kernel, by decide +kernel, by decide +kernel⟩,
    ⟨hdr1 (.digest ⟨4, 0, 1, 0, 0⟩) (modPair (fun p => { p with mine := [⟨4, 0, 0, 0, 0⟩] }) (paired 3)), ⟨4, 0, 1, 0, 0⟩, ⟨4, 0,
    0, 0, 0⟩, modPair (fun p => { p with mine := [⟨4, 0, 0, 0, 0⟩] }) (paired 3), taken1 _ _ (by decide +kernel),
    by decide +kernel, by decide +kernel, by decide +kernel, by decide +kernel, by decide +kernel⟩,
    ⟨live, by decide +kernel⟩,
    ⟨modPair (fun p => { p with audit := true }) live, by decide +kernel⟩,
    ⟨modPair (fun p => { p with audit := true }) live, by decide +kernel⟩,
    ⟨hdr1 (.time 0 0 0) (paired 1), 0, paired 1, taken1 _ _ (by decide +kernel), by decide +kernel⟩,
    ⟨hdr1 (.time 0 0 0) (modPair (fun p => { p with samples := List.replicate 63 (4, 0) }) (paired 2)), 0, 0, 0, modPair (fun p
    => { p with samples := List.replicate 63 (4, 0) }) (paired 2), taken1 _ _ (by decide +kernel), by decide +kernel,
    by decide +kernel⟩,
    ⟨hdr1 .resync (paired 1), paired 1, taken1 _ _ (by decide +kernel), by decide +kernel⟩,
    ⟨hdr1 (.sweep 0 0 [] false) (paired 6), 0, 0, [], paired 6, taken1 _ _ (by decide +kernel), by decide +kernel⟩,
    ⟨hdr1 (.sweep 0 0 [] true) (paired 6), 0, 0, [], paired 6, taken1 _ _ (by decide +kernel), by decide +kernel⟩,
    ⟨hdr1 (.forward []) (paired 6), [], paired 6, taken1 _ _ (by decide +kernel), by decide +kernel⟩,
    ⟨live, by decide +kernel⟩,
    ⟨modPair (fun p => { p with covered := true, holdOuts := [(5, [])] }) (paired 1), (5, []), [], _, by decide +kernel,
    by decide +kernel, by decide +kernel, by decide +kernel, rfl, by decide +kernel⟩,
    ⟨modPair (fun p => { p with covered := true, holdOuts := [(4, [])] }) (paired 1), (4, []), [], _, by decide +kernel,
    by decide +kernel, by decide +kernel, by decide +kernel, rfl, by decide +kernel⟩,
    ⟨modPair (fun p => { p with lastRec := -3 }) (inRole 6), by decide +kernel, by decide +kernel, by decide +kernel⟩,
    ⟨modPair (fun p => { p with lastRec := -2 }) (inRole 6), by decide +kernel⟩⟩

theorem witness_ChangesOfRoles :
    (∃ (r : Stamp) (k : Stamp) (s : State), (isPaired s = true) ∧ (s.pair.role = 0 ∨ s.pair.role = 1) ∧ (0 ≤ sdiff64 k r) ∧
    (sdiff64 k r ≤ 20 * usTicks)) ∧
    (∃ (r : Stamp) (k : Stamp) (s : State), (isPaired s = true) ∧ (s.pair.role = 2) ∧ (s.pair.promo = none) ∧ (sdiff64 k r < 0 ∨
    20 * usTicks < sdiff64 k r)) ∧
    (∃ (r : Stamp) (k : Stamp) (s : State), (isPaired s = true) ∧ (s.pair.role = 4) ∧ (s.pair.promo = none) ∧ (0 ≤ sdiff64 k r) ∧
    (sdiff64 k r ≤ 20 * usTicks)) ∧
    (∃ (r : Stamp) (k : Stamp) (s : State), (isPaired s = true) ∧ (s.pair.role = 2) ∧ (s.pair.promo = none) ∧ (0 ≤ sdiff64 k r) ∧
    (sdiff64 k r ≤ 20 * usTicks) ∧ (isFit s = true) ∧ (s.pair.viewLow = none)) ∧
    (∃ (s : State), (isPaired s = false ∨ (s.pair.role ≠ 1 ∧ s.pair.promo = none))) ∧
    (∃ (s : State), (isPaired s = true) ∧ (s.pair.role = 1) ∧ (s.pwr.restartReq = none)) ∧
    (∃ (w : Nat), (500 ≤ w) ∧ (w ≤ 2000)) ∧
    (∃ (w : Nat), (w < 500 ∨ 2000 < w)) ∧
    (∃ (s : State), (isPaired s = true) ∧ (votePresent s = false)) ∧
    (∃ (s : State), (isPaired s = false ∨ votePresent s = true)) ∧
    (∃ (s : State) (c : CueNo), (s.pair.viewLow = some c) ∧ (64 ≤ sdiff32 s.proc.cueNow c)) ∧
    (∃ (s : State), (s.pair.viewLow = none)) ∧
    (∃ (s : State), (isPaired s = true) ∧ (rehearsalDue s = true) ∧ (isQuietBoundary s = true) ∧ (s.pair.viewLow = none)) ∧
    (∃ (s : State), (rehearsalDue s = false)) ∧
    (∃ (s : State), (s.proc.processing = true) ∧ (liveNext s = true)) ∧
    (∃ (s : State), (s.pwr.mode = .full ∨ s.pwr.mode = .quiet) ∧ (s.proc.processing = true) ∧ (liveNext s = true) ∧
    (s.pwr.restartReq = none)) ∧
    (∃ (s : State), (s.proc.processing = false ∨ liveNext s = false)) :=
  ⟨⟨0, 2048000, inRole 1, by decide +kernel, by decide +kernel, by decide +kernel, by decide +kernel⟩,
    ⟨0, 2048001, inRole 2, by decide +kernel, by decide +kernel, by decide +kernel, by decide +kernel⟩,
    ⟨0, 2048000, inRole 4, by decide +kernel, by decide +kernel, by decide +kernel, by decide +kernel, by decide +kernel⟩,
    ⟨0, 2048000, inRole 2, by decide +kernel, by decide +kernel, by decide +kernel, by decide +kernel, by decide +kernel,
    by decide +kernel, by decide +kernel⟩,
    ⟨inRole 2, by decide +kernel⟩,
    ⟨inRole 1, by decide +kernel, by decide +kernel, by decide +kernel⟩,
    ⟨500, by decide +kernel, by decide +kernel⟩,
    ⟨2001, by decide +kernel⟩,
    ⟨modPair (fun p => { p with tickCue := some 3 }) (inRole 2), by decide +kernel, by decide +kernel⟩,
    ⟨modPair (fun p => { p with tickCue := some 4 }) (inRole 2), by decide +kernel⟩,
    ⟨modPair (fun p => { p with viewLow := some (-59) }) (inRole 1), -59, by decide +kernel, by decide +kernel⟩,
    ⟨inRole 1, by decide +kernel⟩,
    ⟨modProc (fun p => { p with procCue := 3600384 }) (withCfg 4 (recBytes 16 [(0, 1, 1), (2, 2, 512)]) (inRole 1)),
    by decide +kernel, by decide +kernel, by decide +kernel, by decide +kernel⟩,
    ⟨inRole 1, by decide +kernel⟩,
    ⟨modPair (fun p => { p with promo := some (3, 1, 1) }) (inRole 2), by decide +kernel, by decide +kernel⟩,
    ⟨modPair (fun p => { p with promo := some (3, 1, 1) }) (inRole 2), by decide +kernel, by decide +kernel, by decide +kernel,
    by decide +kernel⟩,
    ⟨live, by decide +kernel⟩⟩

theorem witness_Director :
    (∃ (w : Nat) (s : State), (isDirector s = true) ∧ (500 ≤ w)) ∧
    (∃ (w : Nat) (s : State), (isDirector s = false ∨ w < 500)) ∧
    (∃ (s : State), (s.pair.hold = true) ∧ (64 ≤ sdiff32 s.proc.cueNow s.pair.lastSwap)) ∧
    (∃ (s : State), (s.pair.hold = false ∨ sdiff32 s.proc.cueNow s.pair.lastSwap < 64)) ∧
    (∃ (s : State), (isDirector s = true) ∧ (s.pair.dir = .start) ∧ (s.pair.dirCues = 3) ∧ (pulsesLead s.pair.dirA = true) ∧
    (pulsesLead s.pair.dirB = false) ∧ (s.pair.lineA = none) ∧ (s.pair.lineB = none)) ∧
    (∃ (s : State), (isDirector s = true) ∧ (s.pair.dir = .leadA) ∧ (isAlive s s.pair.dirA = false) ∧ (unitFit s s.pair.dirB =
    true) ∧ (s.pair.lineA = some true) ∧ (s.pair.lineB = some false)) ∧
    (∃ (s : State), (isDirector s = true) ∧ (s.pair.dir = .leadA) ∧ (isAlive s s.pair.dirA = true) ∧ (s.pair.dirA.view = false) ∧
    (unitFit s s.pair.dirB = true) ∧ (s.pair.hold = true) ∧ (pulsesLead s.pair.dirB = false) ∧ (s.pair.lineA = some true) ∧
    (s.pair.lineB = some false)) ∧
    (∃ (s : State), (isDirector s = true) ∧ (s.pair.dir = .leadA) ∧ (isAlive s s.pair.dirA = true) ∧ (s.pair.dirA.view = false) ∧
    (unitFit s s.pair.dirB = true) ∧ (s.pair.hold = false) ∧ (s.pair.lineA = some true) ∧ (s.pair.lineB = some false)) ∧
    (∃ (s : State), (isDirector s = true) ∧ (s.pair.dir = .leadA) ∧ (isAlive s s.pair.dirA = true) ∧ (s.pair.dirA.view = true) ∧
    (pulsesLead s.pair.dirB = true) ∧ (s.pair.lineA = some true) ∧ (s.pair.lineB = some false)) ∧
    (∃ (s : State), (isDirector s = true) ∧ (s.pair.dir = .none) ∧ (rbit s rUndCtl 2 = false) ∧ (unitFit s s.pair.dirA = true) ∧
    (s.pair.lineA = some false) ∧ (s.pair.lineB = some false)) :=
  ⟨⟨500, director .start, by decide +kernel, by decide +kernel⟩,
    ⟨499, director .start, by decide +kernel⟩,
    ⟨modPair (fun p => { p with hold := true, lastSwap := -59 }) live, by decide +kernel, by decide +kernel⟩,
    ⟨modPair (fun p => { p with hold := true, lastSwap := -58 }) live, by decide +kernel⟩,
    ⟨modPair (fun p => { p with dirCues := 3, dirA := ⟨some 0, 5000, true⟩, dirB := ⟨some 0, 4999, true⟩ }) (director .start),
    by decide +kernel, by decide +kernel, by decide +kernel, by decide +kernel, by decide +kernel, by decide +kernel,
    by decide +kernel⟩,
    ⟨modPair (fun p => { p with lineA := some true, lineB := some false, dirB := ⟨some 0, 5000, true⟩ }) (director .leadA),
    by decide +kernel, by decide +kernel, by decide +kernel, by decide +kernel, by decide +kernel, by decide +kernel⟩,
    ⟨modPair (fun p =>
    { p with lineA := some true, lineB := some false, hold := true, dirA := ⟨some 0, 5000, false⟩, dirB := ⟨some 0, 2000, true⟩ })
    (director .leadA), by decide +kernel, by decide +kernel, by decide +kernel, by decide +kernel, by decide +kernel,
    by decide +kernel, by decide +kernel, by decide +kernel, by decide +kernel⟩,
    ⟨modPair (fun p =>
    { p with lineA := some true, lineB := some false, dirA := ⟨some 0, 5000, false⟩, dirB := ⟨some 0, 2000, true⟩ }) (director
    .leadA), by decide +kernel, by decide +kernel, by decide +kernel, by decide +kernel, by decide +kernel, by decide +kernel,
    by decide +kernel, by decide +kernel⟩,
    ⟨modPair (fun p =>
    { p with lineA := some true, lineB := some false, dirA := ⟨some 0, 5000, true⟩, dirB := ⟨some 0, 5000, true⟩ }) (director
    .leadA), by decide +kernel, by decide +kernel, by decide +kernel, by decide +kernel, by decide +kernel, by decide +kernel,
    by decide +kernel⟩,
    ⟨modPair (fun p => { p with lineA := some false, lineB := some false, dirA := ⟨some 0, 2000, true⟩ }) (director .none),
    by decide +kernel, by decide +kernel, by decide +kernel, by decide +kernel, by decide +kernel, by decide +kernel⟩⟩

theorem witness_HostMemory :
    (∃ (n : _) (i : Nat), (i < n)) ∧
    (∃ (l : List Byte) (i : Nat), (i < l.length)) ∧
    (∃ (a : Nat) (l : List Byte) (b : _), (b < a ∨ a + l.length ≤ b)) ∧
    (∃ (s : State), (memWf s = true)) :=
  ⟨⟨8, 7, by decide +kernel⟩,
    ⟨[1], 0, by decide +kernel⟩,
    ⟨4, [1], 5, by decide +kernel⟩,
    ⟨live, by decide +kernel⟩⟩

theorem witness_ReplayWindow :
    (∃ (h : Word32) (c : Word32), (h.toNat < c.toNat) ∧ (c.toNat < h.toNat + 32)) ∧
    (∃ (h : Word32) (c : Word32), (h.toNat + 32 ≤ c.toNat)) ∧
    (∃ (h : Word32) (c : Word32), (c.toNat + 32 ≤ h.toNat)) ∧
    (∃ (h : Word32) (b : Word32) (c : Word32), (c.toNat ≤ h.toNat) ∧ (h.toNat < c.toNat + 32) ∧ (b.getLsbD (h.toNat - c.toNat) =
    true)) ∧
    (∃ (h : Word32) (b : Word32) (c : Word32), (c.toNat ≤ h.toNat) ∧ (h.toNat < c.toNat + 32) ∧ (b.getLsbD (h.toNat - c.toNat) =
    false)) :=
  ⟨⟨0, 31, by decide +kernel, by decide +kernel⟩,
    ⟨0, 32, by decide +kernel⟩,
    ⟨32, 0, by decide +kernel⟩,
    ⟨31, 0x80000000, 0, by decide +kernel, by decide +kernel, by decide +kernel⟩,
    ⟨31, 0, 0, by decide +kernel, by decide +kernel, by decide +kernel⟩⟩

theorem witness_AccessCodes :
    (∃ (r : RegRow) (f : RegField), (r.fields.Pairwise (fun a b => a.hi < b.lo ∨ b.hi < a.lo)) ∧ ((∀ g ∈ r.fields, g.lo ≤ g.hi ∧
    g.hi < 32)) ∧ (f ∈ r.fields)) :=
    ⟨⟨0, 0, 1, [⟨0, 0, .rw, 0, .any⟩]⟩, ⟨0, 0, .rw, 0, .any⟩, by decide +kernel, by decide +kernel, by decide +kernel⟩

theorem witness_Forwarding :
    (∃ (g : Ingress) (ip : List Byte) (s : State), (lpmLookup s (BitVec.ofNat 128 (beNat (slice ip 24 16))) g.context = none)) ∧
    (∃ (g : Ingress) (ip : List Byte) (s : State) (x : Lpm), (lpmLookup s (BitVec.ofNat 128 (beNat (slice ip 24 16))) g.context =
    some x) ∧ (x.kind = 2)) ∧
    (∃ (g : Ingress) (ip : List Byte) (s : State) (x : Lpm), (lpmLookup s (BitVec.ofNat 128 (beNat (slice ip 24 16))) g.context =
    some x) ∧ (x.kind = 1 ∨ x.kind = 3) ∧ (byteAt ip 7 ≤ 1)) ∧
    (∃ (ip : List Byte), (1500 < ip.length)) ∧
    (∃ (h : Nat) (ip : List Byte) (s : State), (ip.length ≤ 1500) ∧ (bit (cfgU s recFwd (16 + 8 * h + 6) 1) 0 = false)) ∧
    (∃ (h : Nat) (ip : List Byte) (s : State), (ip.length ≤ 1500) ∧ (bit (cfgU s recFwd (16 + 8 * h + 6) 1) 0 = true)) ∧
    (∃ (s : State) (dst : _) (ctx : Nat) (x : Lpm), (lpmLookup s dst ctx = some x)) ∧
    (∃ (g : Ingress) (ip : List Byte) (s : State) (x : Lpm), (lpmLookup s (BitVec.ofNat 128 (beNat (slice ip 24 16))) g.context =
    some x) ∧ (x.kind = 3) ∧ (1 < byteAt ip 7)) ∧
    (∃ (g : Ingress) (ip : List Byte) (s : State) (x : Lpm), (lpmLookup s (BitVec.ofNat 128 (beNat (slice ip 24 16))) g.context =
    some x) ∧ (x.kind = 3) ∧ (bit (cfgU s recFwd (16 + 8 * x.param + 6) 1) 0 = false)) :=
  ⟨⟨ingress1, [], live, by decide +kernel⟩,
    ⟨ingress1, [], routed 2, lpm1 2, by decide +kernel, by decide +kernel⟩,
    ⟨ingress1, [], routed 3, lpm1 3, by decide +kernel, by decide +kernel, by decide +kernel⟩,
    ⟨List.replicate 1501 0, by decide +kernel⟩,
    ⟨0, List.replicate 1500 0, live, by decide +kernel, by decide +kernel⟩,
    ⟨0, List.replicate 1500 0, withCfg 2 (recBytes 144 [(22, 1, 1)]) live, by decide +kernel, by decide +kernel⟩,
    ⟨routed 3, 0, 0, lpm1 3, by decide +kernel⟩,
    ⟨ingress1, [0, 0, 0, 0, 0, 0, 0, 2], routed 3, lpm1 3, by decide +kernel, by decide +kernel, by decide +kernel⟩,
    ⟨ingress1, [], routed 3, lpm1 3, by decide +kernel, by decide +kernel, by decide +kernel⟩⟩

theorem witness_BankWords :
    (∃ (a : Nat) (b : Nat), (a / 8 ≠ b / 8)) ∧
    (∃ (a : Nat) (s : State), (poisonedAt s a = false)) ∧
    (∃ (a : Nat) (s : State), (poisonedAt s a = false)) ∧
    (∃ (a : Nat) (s : State), (poisonedAt s a = false)) ∧
    (∃ (a : Nat) (s : State), (poisonedAt s a = false)) ∧
    (∃ (a : Nat) (s : State), (poisonedAt s a = true)) ∧
    (∃ (off : Nat) (s : State), (bar4Open s = true) ∧ (rbits s rHifDbgWin 1 0 ≠ 3) ∧ (off < 0x800000)) ∧
    (∃ (s : State), (bar4Open s = false)) :=
  ⟨⟨0, 8, by decide +kernel⟩,
    ⟨0, live, by decide +kernel⟩,
    ⟨0, live, by decide +kernel⟩,
    ⟨0, live, by decide +kernel⟩,
    ⟨0, live, by decide +kernel⟩,
    ⟨0, modWings (fun w => { w with poison := [wordPlace live 0] }) live, by decide +kernel⟩,
    ⟨0x7FFFFF, live, by decide +kernel, by decide +kernel, by decide +kernel⟩,
    ⟨modSec (fun x => { x with fuses := { x.fuses with dbg := 0 } }) live, by decide +kernel⟩⟩

theorem witness_AirCoding :
    (∃ (n : Nat) (u : List Bool), (u.length = n)) ∧
    (∃ (m : Nat) (s : Nat) (l : List Bool), (l.length = m * s)) ∧
    (∃ (sf : Nat) (s : Nat) (v : Nat), (s ≤ sf) ∧ (sf ≤ 12) ∧ (v < 2 ^ s)) ∧
    (∃ (c : List Bool), (c.length ∈ [0, 1, 2, 4, 6, 8])) :=
  ⟨⟨2, [true, false], by decide +kernel⟩,
    ⟨2, 3, List.replicate 6 true, by decide +kernel⟩,
    ⟨12, 12, 4095, by decide +kernel, by decide +kernel, by decide +kernel⟩,
    ⟨List.replicate 8 true, by decide +kernel⟩⟩

end Sys2Proof.Tests
end

section
/-! SUPPORT. Receive ports and transmit blanking (R83 to R94, R112): what enabling, disabling and forcing a port, an
overload step, and the begin and end of a chain's blank each do, and the statement assembled from these. -/

namespace Sys2Proof.Machine

/-! ### What each command runs -/

theorem exec_portEnable (p : Fin 4) (s : State) : exec (.portEnable p) s = .next (enablePort p s) := rfl

theorem exec_portDisable (p : Fin 4) (s : State) : exec (.portDisable p) s = .next (disablePort p s.time.tb0 s) := rfl

theorem exec_portForce (p : Fin 4) (s : State) : exec (.portForce p) s = .next (forcePort p s) := rfl

theorem exec_overloadStep (p : Fin 4) (n : Nat) (t : Stamp) (s : State) :
    exec (.overloadStep p n t) s = .next (overload p n (atTime t s)) := rfl

theorem exec_blankBegin (c : Chain) (t : Stamp) (s : State) :
    exec (.blankBegin c t) s = .next (blankBegins c t (atTime t s)) := rfl

theorem exec_blankEnd (c : Chain) (t : Stamp) (s : State) :
    exec (.blankEnd c t) s = .next (blankEnds c t (atTime t s)) := rfl

/-! ### What time passing leaves alone -/

@[simp] theorem port_atTime (t : Stamp) (s : State) (p : Nat) : port (atTime t s) p = port s p := by
  rw [atTime_frame]; rfl

@[simp] theorem reg_atTime (t : Stamp) (s : State) (o : Nat) : reg (atTime t s) o = reg s o := by
  rw [atTime_frame]; rfl

@[simp] theorem rbits_atTime (t : Stamp) (s : State) (o hi lo : Nat) : rbits (atTime t s) o hi lo = rbits s o hi lo := by
  simp [rbits]

@[simp] theorem rbit_atTime (t : Stamp) (s : State) (o n : Nat) : rbit (atTime t s) o n = rbit s o n := by
  simp [rbit]

@[simp] theorem portOn_atTime (t : Stamp) (s : State) (p : Nat) : portOn (atTime t s) p = portOn s p := by
  rw [atTime_frame]; rfl

@[simp] theorem tx_atTime (t : Stamp) (s : State) (c : Chain) : tx (atTime t s) c = tx s c := by
  rw [atTime_frame]; rfl

@[simp] theorem ownStamp_atTime (t : Stamp) (s : State) (x : Stamp) : ownStamp (atTime t s) x = ownStamp s x := by
  rw [atTime_frame]; rfl

@[simp] theorem proc_atTime (t : Stamp) (s : State) : (atTime t s).proc = s.proc := by
  rw [atTime_frame]

/-! ### One port changed -/

/-- Two changes of one port change only that port. -/
theorem portOnly_modPort_modPort (p : Nat) (f g : Port → Port) (s : State) :
    portOnly p (g (f (port s p))) s (modPort p g (modPort p f s)) := by
  refine ⟨rfl, fun j => ?_⟩
  by_cases h : j = p <;> simp [port, modPort, smGet_mod, h]

/-- What falls in a port's interval is noted on the intervals under way, and only on that port. -/
theorem portOnly_spotNote (p : Nat) (f : Spot → Spot) (s : State) :
    portOnly p { port (spotRoll s) p with spot := f (port (spotRoll s) p).spot } (spotRoll s) (spotNote p f s) :=
  portOnly_modPort p (fun x => { x with spot := f x.spot }) (spotRoll s)

/-- A note in a port's interval and a further change of that port change only that port. The port is named `y`, so
that no comparison of ports evaluates the intervals under way. -/
theorem portOnly_modPort_spotNote {p : Nat} {g : Port → Port} {f : Spot → Spot} {s : State} {x : Port}
    (h : ∀ y, port (spotRoll s) p = y → g { y with spot := f y.spot } = x) :
    portOnly p x (spotRoll s) (modPort p g (spotNote p f s)) :=
  h _ rfl ▸ portOnly_modPort_modPort p (fun x => { x with spot := f x.spot }) g (spotRoll s)

/-! ### Enabling, disabling and forcing (R85, R86, R90, R94, R112) -/

theorem enablePort_of_on {p : Nat} {s : State} (h : rbit s (rxfReg p 0) 0 = true) : enablePort p s = s := if_pos h

/-- A port that is enabled starts at MAN_GAIN, with nothing pending and in service (R86, R90). -/
theorem portOnly_enablePort {p : Nat} {s u : State} (h : rbit s (rxfReg p 0) 0 = false)
    (hu : u = setRBit (rxfReg p 0) 0 s) :
    portOnly p { port (spotRoll u) p with
        spot := { (port (spotRoll u) p).spot with gains := [rbits s (rxfReg p 0) 13 8] }
        gain := rbits s (rxfReg p 0) 13 8, pend := 0, pendRun := 0, oos := false } (spotRoll u) (enablePort p s) := by
  subst hu
  rw [enablePort, if_neg (by simp [h])]
  exact portOnly_modPort_spotNote fun y hy => by rw [hy]

theorem disablePort_of_off {p : Nat} {t : Stamp} {s : State} (h : rbit s (rxfReg p 0) 0 = false) :
    disablePort p t s = s := if_neg (by simp [h])

/-- Disabling a port ends what it receives, and nothing stays pending (R90, R94). -/
theorem disablePort_of_on {p : Nat} {t : Stamp} {s : State} (h : rbit s (rxfReg p 0) 0 = true) :
    disablePort p t s = modPort p (fun x => { x with pend := 0, pendRun := 0 })
      (silencePort p t (setRBits (rxfReg p 0) 0 0 0 s)) := if_pos h

/-- A capture of the port that has begun is dead once the port is lost (R112). -/
theorem captureLost_capture {p : Nat} {s : State} {c : Capture} (hc : s.hif.capture = some c)
    (hg : c.gain.isSome = true) (hp : byteAt c.sub.params 0 = p) :
    (captureLost p s).hif.capture = some { c with dead := true } := by
  simp [captureLost, hc, hg, hp]

/-- With no line set up, silencing a port touches its capture only. -/
theorem silencePort_of_no_lines {p : Nat} {t : Stamp} {s : State} (h : s.lines = []) :
    silencePort p t s = captureLost p s := by
  simp [silencePort, h, smKeys]

theorem forcePort_of_held {p : Nat} {s : State} (h : rbit s (rxfReg p 0) 3 = false ∨ portOn s p = false) :
    forcePort p s = s := by
  have hf : ¬ (rbit s (rxfReg p 0) 3 && portOn s p) = true := by
    rcases h with h | h <;> simp [h]
  exact if_neg hf

/-- FORCE in manual mode: the gain steps to MAN_GAIN, and the port's receptions are marked (R85). -/
theorem forcePort_of_manual {p : Nat} {s : State} (hm : rbit s (rxfReg p 0) 3 = true) (hon : portOn s p = true) :
    forcePort p s = markPort p fGain (modPort p (fun x => { x with pend := 0, pendRun := 0 })
      (stepGain p (rbits s (rxfReg p 0) 13 8) s)) := if_pos (by simp [hm, hon])

/-! ### Gain steps (R83, R106) -/

theorem stepGain_of_same {p g : Nat} {s : State} (h : (port s p).gain = g) : stepGain p g s = s := if_pos h

/-- The port's part of a gain step: the Spotlight's interval goes on at the new code. -/
def stepPort (p g : Nat) (s : State) : State :=
  modPort p (fun x => { x with gain := g }) (spotNote p (fun i => { i with gains := i.gains ++ [g] }) s)

theorem portOnly_stepPort (p g : Nat) (s : State) :
    portOnly p { port (spotRoll s) p with
      spot := { (port (spotRoll s) p).spot with gains := (port (spotRoll s) p).spot.gains ++ [g] }, gain := g }
      (spotRoll s) (stepPort p g s) :=
  portOnly_modPort_spotNote fun y hy => by rw [hy]

/-- A line's part of a gain step of port `p`: one that draws from it takes the change `d` of full scale (R83). -/
def stepLine (p : Nat) (d : Int) (l : Line) : Line :=
  if l.en && linePort l == p then { l with inv := l.inv + d } else l

theorem stepGain_of_ne {p g : Nat} {s : State} (h : (port s p).gain ≠ g) :
    stepGain p g s = { stepPort p g s with
      lines := smMapAll {} (stepPort p g s).lines
        (fun _ l => stepLine p (fullScale s p g - fullScale s p (port s p).gain) l) } := by
  simp only [stepGain, if_neg h, stepPort, stepLine]

/-- Beyond the port's own part, a gain step changes the lines only. -/
theorem stepGain_frame {p g : Nat} {s : State} (h : (port s p).gain ≠ g) :
    stepGain p g s = { stepPort p g s with lines := (stepGain p g s).lines } := by
  rw [stepGain_of_ne h]

/-- A change made on every line, one that an unlisted line does not see. -/
theorem line_mapAll (f : Line → Line) (hf : f {} = {}) (s : State) (n : Nat) :
    line { s with lines := smMapAll {} s.lines (fun _ => f) } n = f (line s n) :=
  smGet_mapAll ({} : Line) s.lines (fun _ => f) n hf

/-- Every enabled line on the port takes the inverse of the calibrated step; the others keep theirs (R83). -/
theorem line_stepGain {p g : Nat} {s : State} (h : (port s p).gain ≠ g) (n : Nat) :
    line (stepGain p g s) n =
      if (line (stepPort p g s) n).en ∧ linePort (line (stepPort p g s) n) = p
      then { line (stepPort p g s) n with
        inv := (line (stepPort p g s) n).inv + (fullScale s p g - fullScale s p (port s p).gain) }
      else line (stepPort p g s) n := by
  rw [stepGain_of_ne h, line_mapAll _ rfl, stepLine]
  simp only [Bool.and_eq_true, beq_iff_eq]

/-! ### Overload steps (R87 to R89) -/

/-- A block is not judged on a port that does not serve or is blanked, with the steps off, or within the threshold. -/
theorem overload_of_not_judged {p n : Nat} {s : State} (h : portOn s p = false ∨ isBlanked (port s p) = true ∨
    rbit s (rxfReg p 8) 0 = false ∨ n ≤ rbits s (rxfReg p 8) 15 8) : overload p n s = s := by
  refine if_pos ?_
  rw [rbit, rbits] at h
  rcases h with h | h | h | h <;> simp [h]

section
variable {p n : Nat} {s : State} (hon : portOn s p = true) (hb : isBlanked (port s p) = false)
  (hn : rbits s (rxfReg p 8) 15 8 < n) (he : rbit s (rxfReg p 8) 0 = true)
include hon hb hn he

/-- The clip count of a block exceeds the threshold of a port that serves with overload steps on. -/
theorem overload_judged : ¬ (!portOn s p || isBlanked (port s p) || !bit (reg s (rxfReg p 8)).toNat 0 ||
    decide (n ≤ fieldOf (reg s (rxfReg p 8)) 15 8)) = true := by
  rw [rbits] at hn
  rw [rbit] at he
  simp [hon, hb, he, hn]

/-- An overload step above code 0: the gain falls by 6, the receptions are marked, the step is counted and recorded. -/
theorem overload_of_gain_pos {v w : State} (hg : 0 < (port s p).gain)
    (hv : v = markPort p fGain (modPort p (fun x => { x with ovlCue := true })
      (stepGain p ((port s p).gain - 6) (spotNote p (fun i => { i with ovl := true }) s))))
    (hw : w = countReg (rxfReg p 0x18) 1 v) :
    overload p n s = emitLocal 0x1001 (16 + p) p (port s p).gain ((port s p).gain - 6)
      (reg w (rxfReg p 0x18)).toNat (setRBit (rxfReg p 0x1C) 0 w) := by
  subst hw hv
  rw [overload, if_neg (overload_judged hon hb hn he), if_neg (Nat.ne_of_gt hg)]
  rfl

/-- At code 0 the port is saturated; only the first of consecutive cues leaves a record (R89). -/
theorem overload_of_gain_zero (hg : (port s p).gain = 0) :
    overload p n s =
      if (port s p).satCue || (port s p).satLast then modPort p (fun x => { x with satCue := true }) s
      else emitLocal 0x1002 (16 + p) 0 0 0 0
        (setRBit (rxfReg p 0x1C) 1 (modPort p (fun x => { x with satCue := true }) s)) := by
  rw [overload, if_neg (overload_judged hon hb hn he), if_pos hg]
  rfl

end

/-! ### The begin of a blank (R91 to R93) -/

/-- No blank begins while every waiting request has begun its own or is not yet PRE from its launch. -/
theorem blankBegins_of_none_due {c : Chain} {t : Stamp} {s : State}
    (h : ∀ r ∈ waitingReqs (tx s c), (tx s c).blankOf = some r.seq ∨
      later64 (minus (ownStamp s r.start) (rbits s 0x20004 7 0 * usTicks)) t = true) : blankBegins c t s = s := by
  have hf : leadReached s (tx s c) (rbits s 0x20004 7 0) t (fun r => (tx s c).blankOf == some r.seq) = none :=
    List.find?_eq_none.mpr fun r hr => by rcases h r hr with h | h <;> simp [h]
  rw [blankBegins, hf]

/-- The blank of the first waiting request begins PRE before its launch. -/
theorem blankBegins_of_first_due {c : Chain} {t : Stamp} {s : State} {r : TxReq} {l : List TxReq}
    (hl : waitingReqs (tx s c) = r :: l) (hr : (tx s c).blankOf ≠ some r.seq)
    (ht : later64 (minus (ownStamp s r.start) (rbits s 0x20004 7 0 * usTicks)) t = false) :
    blankBegins c t s = blankBegin c r.seq s := by
  have hf : leadReached s (tx s c) (rbits s 0x20004 7 0) t (fun r => (tx s c).blankOf == some r.seq) = some r := by
    simp [leadReached, hl, hr, ht]
  rw [blankBegins, hf]

/-- With an empty map a blank reaches no port. -/
theorem blankBegin_of_no_ports {c : Chain} {q : Word32} {s : State}
    (h : rbits s 0x20000 (if c = .a then 3 else 7) (if c = .a then 0 else 4) = 0) :
    blankBegin c q s = withTx c { tx s c with
      blank := true, blankOf := some q, blankPorts := 0, blankPost := rbits s 0x20004 15 8, blankFrom := none } s := by
  have hps : (List.range 4).filter (bit 0) = [] := by decide
  rw [blankBegin, h, hps]
  exact withTx_modTx c _ s

/-- TX-A with a map of port 2 alone blanks that port and marks what it receives. -/
theorem blankBegin_a_of_port2 {q : Word32} {s : State} (h : rbits s 0x20000 3 0 = 4) :
    blankBegin .a q s = markPort 2 fBlank (setBlank .a true 2 (spotNote 2 (fun i => { i with blank := true })
      { s with txa := { s.txa with
        blank := true, blankOf := some q, blankPorts := 4, blankPost := rbits s 0x20004 15 8, blankFrom := none } })) := by
  have hps : (List.range 4).filter (bit 4) = [2] := by decide
  simp only [blankBegin, if_true, h, hps]
  rfl

/-! ### The end of a blank (R91, R93) -/

theorem blankEnds_of_no_tail {c : Chain} {t : Stamp} {s : State} (h : (tx s c).blankFrom = none) :
    blankEnds c t s = s := by
  rw [blankEnds, h]

theorem blankEnds_of_not_due {c : Chain} {t e : Stamp} {s : State} (h : (tx s c).blankFrom = some e)
    (hd : (tx s c).blank = false ∨ later64 (plus e ((tx s c).blankPost * usTicks)) t = true) :
    blankEnds c t s = s := by
  simp only [blankEnds, h]
  refine if_neg ?_
  rcases hd with hd | hd <;> simp [hd]

theorem blankEnds_of_due {c : Chain} {t e : Stamp} {s : State} (h : (tx s c).blankFrom = some e)
    (hb : (tx s c).blank = true) (ht : later64 (plus e ((tx s c).blankPost * usTicks)) t = false) :
    blankEnds c t s = blankEnd c s := by
  simp [blankEnds, h, hb, ht]

/-- Until 960 µs after the cue start no interval of the Spotlight rolls on (R106). -/
theorem spotRoll_of_early {s : State} (h : later64 (plus s.proc.cueStart (960 * usTicks)) s.time.tb0 = true) :
    spotRoll s = s := if_pos h

/-- A port with a chain's blank flag at `on`. -/
def flagPort (c : Chain) (on : Bool) (x : Port) : Port :=
  match c with
  | .a => { x with blankA := on }
  | .b => { x with blankB := on }

theorem setBlank_eq_modPort (c : Chain) (on : Bool) (p : Nat) (s : State) :
    setBlank c on p s = modPort p (flagPort c on) s := rfl

theorem flagPort_flagPort (c : Chain) (on : Bool) (x : Port) : flagPort c on (flagPort c on x) = flagPort c on x := by
  cases c <;> rfl

/-- A chain's flag put on a list of ports early in a cue: the listed ports carry it, and nothing else changes. -/
theorem foldl_setBlank_of_early (c : Chain) (on : Bool) (l : List Nat) (s : State)
    (h : later64 (plus s.proc.cueStart (960 * usTicks)) s.time.tb0 = true) :
    ∃ u, l.foldl (fun s p => setBlank c on p (spotRoll s)) s = u ∧ u = { s with ports := u.ports } ∧
      ∀ p, port u p = if p ∈ l then flagPort c on (port s p) else port s p := by
  induction l generalizing s with
  | nil => exact ⟨s, rfl, rfl, fun p => by simp⟩
  | cons q l ih =>
    obtain ⟨u, hu, hframe, hports⟩ := ih (setBlank c on q s) h
    refine ⟨u, by rw [List.foldl_cons, spotRoll_of_early h, hu], hframe, fun p => ?_⟩
    have hq : port (setBlank c on q s) p = if p = q then flagPort c on (port s q) else port s p :=
      (portOnly_modPort q (flagPort c on) s).2 p
    rw [hports, hq]
    by_cases hp : p = q
    · subst hp; simp [flagPort_flagPort]
    · simp [hp]

/-- A chain that blanks no port. -/
def unblanked (x : Tx) : Tx := { x with blank := false, blankOf := none, blankPorts := 0, blankFrom := none }

/-- The end of a chain's blank early in a cue: the chain blanks no port, and every port loses the chain's flag. -/
theorem blankEnd_of_early {c : Chain} {s : State}
    (h : later64 (plus s.proc.cueStart (960 * usTicks)) s.time.tb0 = true) :
    ∃ u, blankEnd c s = u ∧
      u = { withTx c (unblanked (tx s c)) s with ports := u.ports } ∧
      ∀ p, port u p = if p < 4 then flagPort c false (port s p) else port s p := by
  obtain ⟨u, hu, hframe, hports⟩ := foldl_setBlank_of_early c false (List.range 4) (modTx c unblanked s) (by simpa using h)
  refine ⟨u, hu, by rwa [withTx_modTx] at hframe, fun p => ?_⟩
  rw [hports, port, modTx_ports]
  simp only [List.mem_range, port]

/-! ### The statement -/

/-- Settles O36: each clause is the case of its operation above, read on the state at the stamp of the command. -/
theorem receivePortsAndBlanking : Obligations.ReceivePortsAndBlanking := by
  unfold Obligations.ReceivePortsAndBlanking
  refine ⟨?_, ?_, ?_, ?_, ?_, ?_, ?_, ?_, ?_, ?_, ?_, ?_, ?_, ?_, ?_, ?_, ?_, ?_, ?_⟩
  · intro p s h
    rw [exec_portEnable, enablePort_of_on h]
  · intro p s h
    exact ⟨_, _, exec_portEnable p s, regOnly_setReg _ _ s, portOnly_enablePort h rfl⟩
  · intro p s h
    rw [exec_portDisable, disablePort_of_off h]
  · intro p s h
    exact ⟨_, _, _, by rw [exec_portDisable, disablePort_of_on h], regOnly_setReg _ _ s, rfl, portOnly_modPort p _ _⟩
  · intro p t s c hc hg hp
    exact ⟨captureLost_capture hc hg hp, silencePort_of_no_lines⟩
  · intro p s hm hon
    exact ⟨_, _, by rw [exec_portForce, forcePort_of_manual hm hon], marked_markPort p fGain _, portOnly_modPort p _ _⟩
  · intro p s h
    rw [exec_portForce, forcePort_of_held h]
  · intro p g s h
    exact stepGain_of_same h
  · intro p g s h
    exact ⟨stepPort p g s, portOnly_stepPort p g s, stepGain_frame h, line_stepGain h⟩
  · intro p n t s h
    rw [exec_overloadStep, overload_of_not_judged (by simpa using h)]
  · intro p n t s hon hb hn he hg
    have := overload_of_gain_pos (s := atTime t s) (by simpa using hon) (by simpa using hb) (by simpa using hn)
      (by simpa using he) (by simpa using hg) rfl rfl
    rw [exec_overloadStep, this, port_atTime]
    exact ⟨_, _, _, _, _, _, _, rfl, rfl, portOnly_spotNote p (fun i => { i with ovl := true }) _, rfl,
      portOnly_modPort p (fun x => { x with ovlCue := true }) _,
      marked_markPort p fGain _, regOnly_countReg _ 1 _, regOnly_setReg _ _ _⟩
  · intro p n t s hon hb hn he hg
    have := overload_of_gain_zero (s := atTime t s) (p := p) (n := n) (by simpa using hon) (by simpa using hb)
      (by simpa using hn) (by simpa using he) (by simpa using hg)
    rw [port_atTime] at this
    refine ⟨_, portOnly_of (f := fun x => { x with satCue := true }) rfl (by rw [port_atTime]), fun h => ?_,
      fun hc hl => ⟨_, regOnly_setReg _ _ _, ?_⟩⟩
    · rw [exec_overloadStep, this, if_pos (by simpa using h)]
    · rw [exec_overloadStep, this, if_neg (by simp [hc, hl])]
      rfl
  · intro c t s h
    rw [exec_blankBegin, blankBegins_of_none_due (by simpa using h)]
  · intro c t s r l hl hr ht
    rw [exec_blankBegin, blankBegins_of_first_due (by simpa using hl) (by simpa using hr) (by simpa using ht)]
  · intro c q s h
    exact blankBegin_of_no_ports h
  · intro q s h
    rw [blankBegin_a_of_port2 h]
    exact ⟨_, _, _, rfl, portOnly_spotNote 2 (fun i => { i with blank := true }) _,
      portOnly_modPort 2 (flagPort .a true) _, marked_markPort 2 fBlank _⟩
  · intro c t s h
    rw [exec_blankEnd, blankEnds_of_no_tail (by simpa using h)]
  · intro c t s e h hd
    rw [exec_blankEnd, blankEnds_of_not_due (by simpa using h) (by simpa using hd)]
  · intro c t s e h hb ht hearly
    obtain ⟨u, hu, hframe, hports⟩ := blankEnd_of_early (c := c) (s := atTime t s) (by simpa using hearly)
    refine ⟨u, ?_, by rwa [tx_atTime] at hframe, fun p => by rw [hports, port_atTime]; rfl⟩
    rw [exec_blankEnd, blankEnds_of_due (e := e) (by simpa using h) (by simpa using hb) (by simpa using ht), hu]

end Sys2Proof.Machine
end

section
/-! SUPPORT. Where a packet goes (R273 to R276, R304): what the LPM look-up finds, what is done with each kind of
result, how a next hop takes a packet, and the statement assembled from these. -/

namespace Sys2Proof.Machine

/-! ### The look-up (R274) -/

/-- The entry found covers the destination and takes the ingress context (R274). -/
theorem lpmMatch_of_lpmLookup {s : State} {dst : BitVec 128} {ctx : Nat} {x : Lpm}
    (h : lpmLookup s dst ctx = some x) : lpmMatch dst ctx x = true := by
  obtain ⟨e, -, he⟩ := List.exists_of_findSome?_eq_some h
  exact (Option.filter_eq_some_iff.mp he).2

theorem lpmMatch_iff {dst : BitVec 128} {ctx : Nat} {x : Lpm} :
    lpmMatch dst ctx x = true ↔
      (x.ctx = ctx ∨ x.ctx = 0xFFFF) ∧ dst >>> (128 - x.len) = x.pfx >>> (128 - x.len) := by
  simp [lpmMatch]

/-! ### Host rings (R384) -/

theorem toRing_eq_withOut (g : Ingress) (ring reason : Nat) (w : List Byte) (s : State) :
    toRing g ring reason w s =
      withOut g.engine (.deliver ring g.source reason g.node g.arrival s.proc.itemCue g.context g.rssi g.line w) s := rfl

theorem divert_eq_withOut (g : Ingress) (reason : Nat) (w : List Byte) (s : State) :
    divert g reason w s = withOut g.engine
      (.deliver (defaultRing s) g.source reason g.node g.arrival s.proc.itemCue g.context g.rssi g.line w) s := rfl

@[simp] theorem countReg_proc (o n : Nat) (s : State) : (countReg o n s).proc = s.proc := rfl

@[simp] theorem defaultRing_countReg (o n : Nat) (s : State) : defaultRing (countReg o n s) = defaultRing s := rfl

/-! ### Next hops (R275, R276, R304) -/

theorem toEth_of_long {g : Ingress} {h : Nat} {w ip : List Byte} {s : State} (hl : 1500 < ip.length) :
    toEth g h w ip s = divert g 4 w s := if_pos hl

theorem toEth_of_not_valid {g : Ingress} {h : Nat} {w ip : List Byte} {s : State} (hl : ip.length ≤ 1500)
    (hv : bit (cfgU s recFwd (16 + 8 * h + 6) 1) 0 = false) : toEth g h w ip s = divert g 5 w s := by
  simp only [toEth, if_neg (Nat.not_lt.mpr hl), hv, Bool.not_false, if_true]

theorem toEth_of_valid {g : Ingress} {h : Nat} {w ip : List Byte} {s : State} (hl : ip.length ≤ 1500)
    (hv : bit (cfgU s recFwd (16 + 8 * h + 6) 1) 0 = true) :
    toEth g h w ip s = outEth0 g.engine
      (ethFrame s ((List.range 6).map fun k => cfgByte s recFwd (16 + 8 * h + k)) (hopLess ip)) s := by
  simp only [toEth, if_neg (Nat.not_lt.mpr hl), hv, Bool.not_true, Bool.false_eq_true, if_false]

/-! ### The result's kind (R274 to R276) -/

/-- The entry that the look-up of a packet from an ingress finds. -/
def lpmOf (g : Ingress) (ip : List Byte) (s : State) : Option Lpm :=
  lpmLookup s (BitVec.ofNat 128 (beNat (slice ip 24 16))) g.context

section
variable {g : Ingress} {w ip : List Byte} {s : State} {x : Lpm}

theorem routeIp_of_no_entry (h : lpmOf g ip s = none) : routeIp g w ip s = fwdDrop s := by
  rw [lpmOf] at h
  simp only [routeIp, h]

theorem routeIp_of_ring (h : lpmOf g ip s = some x) (hk : x.kind = 2) :
    routeIp g w ip s = toRing g x.param 0 w s := by
  rw [lpmOf] at h
  simp only [routeIp, h, hk]

/-- A result of kind 1 or 3 is judged by the hop limit first, then goes its own way (log entry 71). -/
theorem routeIp_of_node_or_eth (h : lpmOf g ip s = some x) (hk : x.kind = 1 ∨ x.kind = 3) :
    routeIp g w ip s =
      if byteAt ip 7 ≤ 1 then divert g 3 w (countReg 0x31024 1 s)
      else if x.kind = 1 then toNode g x.param (hopLess ip) s
      else toEth g x.param w ip s := by
  rw [lpmOf] at h
  rcases hk with hk | hk <;> simp only [routeIp, h, hk]

theorem routeIp_of_hops_spent (h : lpmOf g ip s = some x) (hk : x.kind = 1 ∨ x.kind = 3) (hh : byteAt ip 7 ≤ 1) :
    routeIp g w ip s = divert g 3 w (countReg 0x31024 1 s) := by
  rw [routeIp_of_node_or_eth h hk, if_pos hh]

theorem routeIp_of_eth (h : lpmOf g ip s = some x) (hk : x.kind = 3) (hh : 1 < byteAt ip 7) :
    routeIp g w ip s = toEth g x.param w ip s := by
  rw [routeIp_of_node_or_eth h (.inr hk), if_neg (Nat.not_le.mpr hh), if_neg (by simp [hk])]

/-- A packet whose next hop is not valid goes to the default host ring, whatever its hop limit and length (R304). -/
theorem routeIp_of_not_valid (h : lpmOf g ip s = some x) (hk : x.kind = 3)
    (hv : bit (cfgU s recFwd (16 + 8 * x.param + 6) 1) 0 = false) :
    ∃ r u, routeIp g w ip s = divert g r w u ∧ defaultRing u = defaultRing s ∧ u.proc = s.proc := by
  by_cases hh : byteAt ip 7 ≤ 1
  · exact ⟨3, countReg 0x31024 1 s, routeIp_of_hops_spent h (.inr hk) hh, defaultRing_countReg _ _ s,
      countReg_proc _ _ s⟩
  · rw [routeIp_of_eth h hk (Nat.not_le.mp hh)]
    by_cases hl : 1500 < ip.length
    · exact ⟨4, s, toEth_of_long hl, rfl, rfl⟩
    · exact ⟨5, s, toEth_of_not_valid (Nat.not_lt.mp hl) hv, rfl, rfl⟩

end

/-! ### The statement -/

/-- Settles O58: each clause is the lemma on its result, or on its next hop. -/
theorem forwarding : Obligations.Forwarding := by
  unfold Obligations.Forwarding
  refine ⟨?_, ?_, ?_, ?_, ?_, ?_, ?_, ?_, ?_⟩
  · intro g w ip s h
    exact ⟨_, routeIp_of_no_entry h, regOnly_countReg _ 1 s⟩
  · intro g w ip s x h hk
    rw [routeIp_of_ring h hk, toRing_eq_withOut]
  · intro g w ip s x h hk hh
    refine ⟨countReg 0x31024 1 s, ?_, regOnly_countReg _ 1 s⟩
    rw [routeIp_of_hops_spent h hk hh, divert_eq_withOut, defaultRing_countReg, countReg_proc]
  · intro g h w ip s hl
    rw [toEth_of_long hl, divert_eq_withOut]
  · intro g h w ip s hl hv
    rw [toEth_of_not_valid hl hv, divert_eq_withOut]
  · intro g h w ip s hl hv
    rw [toEth_of_valid hl hv]
    rfl
  · intro s dst ctx x h
    exact lpmMatch_iff.mp (lpmMatch_of_lpmLookup h)
  · intro g w ip s x h hk hh
    exact routeIp_of_eth h hk hh
  · intro g w ip s x h hk hv
    obtain ⟨r, u, hroute, hring, hproc⟩ := routeIp_of_not_valid (w := w) h hk hv
    exact ⟨r, u, by rw [hroute, divert_eq_withOut, hring, hproc]⟩

end Sys2Proof.Machine
end

section
/-! SUPPORT. The order in which a host command is judged (R378): what each judgement answers once those before it
have passed, what a refusal writes, and the statement assembled from these. -/

namespace Sys2Proof.Machine

/-! ### The judgements (R378) -/

section
variable {k : CmdSpec} {c : Sub} {s : State}

theorem judged_of_not_lead (hu : isUnderstudy s = true) (ha : c.aside = true) (hk : k.aside = false) :
    judged k c s = some stNotLead := if_pos (by simp [hu, ha, hk])

variable (hlead : isUnderstudy s = false ∨ c.aside = false ∨ k.aside = true)
include hlead

theorem not_lead_test_of_served : ¬ (isUnderstudy s && c.aside && !k.aside) = true := by
  rcases hlead with h | h | h <;> simp [h]

theorem judged_of_fetch_failed (hf : fetchFailed c = true) : judged k c s = some stIntegrity := by
  rw [judged, if_neg (not_lead_test_of_served hlead), if_pos hf]

variable (hf : fetchFailed c = false)
include hf

theorem judged_of_bad_form
    (hbad : flagsOk c = false ∨ bufOk k.use c = false ∨ k.static c = false ∨ (c.target ≠ 0 ∧ 65536 < targetDiff c)) :
    judged k c s = some stBadParam := by
  rw [judged, if_neg (not_lead_test_of_served hlead), if_neg (by simp [hf]), if_pos]
  rcases hbad with h | h | h | ⟨ht, hd⟩
  · simp [h]
  · simp [h]
  · simp [h]
  · simpa [hd] using .inr ht

variable (hflags : flagsOk c = true) (hbuf : bufOk k.use c = true) (hstatic : k.static c = true)
  (hnear : c.target = 0 ∨ targetDiff c ≤ 65536)
include hflags hbuf hstatic hnear

/-- A command of good form goes on to the judgements by the state and the clock (R378 steps 4 and 5). -/
theorem judged_of_good_form : judged k c s =
    if k.wrong c s then some stWrongState
    else if c.target != 0 && decide (targetDiff c < 0) then some stTimeout
    else if mustHold c s && decide (1024 ≤ heldCount s (k.engine c s)) then some stNoResource
    else none := by
  have hform : ¬ (!(flagsOk c && bufOk k.use c && k.static c) ||
      (c.target != 0 && decide (65536 < targetDiff c))) = true := by
    rcases hnear with h | h <;> simp [hflags, hbuf, hstatic, h]
  rw [judged, if_neg (not_lead_test_of_served hlead), if_neg (by simp [hf]), if_neg hform]

theorem judged_of_wrong_state (hw : k.wrong c s = true) : judged k c s = some stWrongState := by
  rw [judged_of_good_form hlead hf hflags hbuf hstatic hnear, if_pos hw]

variable (hw : k.wrong c s = false)
include hw

theorem judged_of_late (ht : c.target ≠ 0) (hd : targetDiff c < 0) : judged k c s = some stTimeout := by
  rw [judged_of_good_form hlead hf hflags hbuf hstatic hnear, if_neg (by simp [hw]),
    if_pos (by simpa [hd] using ht)]

/-- A command that is not late is judged by the held-command limit (R56). -/
theorem judged_of_not_late (hd : c.target = 0 ∨ 0 ≤ targetDiff c) : judged k c s =
    if mustHold c s && decide (1024 ≤ heldCount s (k.engine c s)) then some stNoResource else none := by
  have hlate : ¬ (c.target != 0 && decide (targetDiff c < 0)) = true := by
    rcases hd with h | h <;> simp [h]
  rw [judged_of_good_form hlead hf hflags hbuf hstatic hnear, if_neg (by simp [hw]), if_neg hlate]

end

/-- A command that must wait has a target cue after the cue of its acceptance (R55). -/
theorem targetDiff_pos_of_mustHold {c : Sub} {s : State} (h : mustHold c s = true) : 0 < targetDiff c := by
  simp only [mustHold, isFuture, Bool.and_eq_true, decide_eq_true_eq] at h
  obtain ⟨⟨⟨-, hpos⟩, -⟩, -⟩ := h
  exact hpos

theorem judged_cmdReserved {op : Nat} {c : Sub} {s : State} (hu : isUnderstudy s = false)
    (hf : fetchFailed c = false) : judged (cmdReserved op) c s = some stBadParam :=
  judged_of_bad_form (.inl hu) hf (.inr (.inr (.inl rfl)))

/-! ### Refusals -/

theorem replySt_of_latched {e op x : Nat} {c : Sub} {s : State} (ha : c.aside = false) :
    replySt e op x c s = withOut e (.complete c op x [] []) s := by
  simp only [replySt, reply, ha, Bool.false_eq_true, if_false]
  rfl

theorem wrongRecord_of_latched {e op : Nat} {c : Sub} {s : State} (ha : c.aside = false) :
    wrongRecord e op c s = withRec e 0x0006 (op % 65536 + 65536 * c.ring) (c.tag.toNat % 2 ^ 32)
      (c.tag.toNat / 2 ^ 32) c.accept.toNat s := by
  simp only [wrongRecord, ha, Bool.false_eq_true, if_false]
  rfl

theorem refuse_wrong_state {e op : Nat} {c : Sub} {s : State} (ha : c.aside = false) :
    refuse e op stWrongState c s = withOut e (.complete c op stWrongState [] [])
      (withRec e 0x0006 (op % 65536 + 65536 * c.ring) (c.tag.toNat % 2 ^ 32) (c.tag.toNat / 2 ^ 32)
        c.accept.toNat s) := by
  rw [refuse, if_pos rfl, replySt_of_latched ha, wrongRecord_of_latched ha]

theorem refuse_of_ne_wrong_state {e op x : Nat} {c : Sub} {s : State} (ha : c.aside = false)
    (hx : x ≠ stWrongState) : refuse e op x c s = withOut e (.complete c op x [] []) s := by
  rw [refuse, if_neg hx, replySt_of_latched ha]

/-! ### What the engine does with the judgement, outside the tag table -/

theorem handle_of_judged {k : CmdSpec} {e x : Nat} {c : Sub} {s : State} (ht : tagOf s c = none)
    (hj : judged k c s = some x) : handle k e c s = refuse e k.op x c s := by
  simp only [handle, hj, ht]

theorem handle_of_accepted {k : CmdSpec} {e : Nat} {c : Sub} {s : State} (ht : tagOf s c = none)
    (hj : judged k c s = none) : handle k e c s = accepted k e c s := by
  simp only [handle, hj, ht]

theorem accepted_of_check {k : CmdSpec} {e x : Nat} {c : Sub} {s : State} (hc : k.check c s = some x) :
    accepted k e c s = refuse e k.op x c s := by
  simp only [accepted, hc]

/-! ### The statement -/

/-- Settles O6: each clause is the lemma on its judgement, on its refusal, or on what the engine does with it. -/
theorem judgingOrder : Obligations.JudgingOrder := by
  unfold Obligations.JudgingOrder
  refine ⟨fun k c s => judged_of_not_lead, fun k c s => judged_of_fetch_failed, fun k c s => judged_of_bad_form,
    fun k c s => judged_of_wrong_state, ?late, ?full, fun op c s => judged_cmdReserved,
    fun e op c s => refuse_wrong_state, fun e op x c s => refuse_of_ne_wrong_state, ?passes,
    fun k e c s x => handle_of_judged, ?check⟩
  case late =>
    intro k c s hlead hf hflags hbuf hstatic hw ht hd
    exact judged_of_late hlead hf hflags hbuf hstatic (.inr (by omega)) hw ht hd
  case full =>
    intro k c s hlead hf hflags hbuf hstatic hw hm hnear hfull
    have hd := targetDiff_pos_of_mustHold hm
    rw [judged_of_not_late hlead hf hflags hbuf hstatic (.inr hnear) hw (.inr hd.le), if_pos (by simp [hm, hfull])]
  case passes =>
    intro k c s hlead hf hflags hbuf hstatic hw hd hroom
    have hnolimit : ¬ (mustHold c s && decide (1024 ≤ heldCount s (k.engine c s))) = true := by
      rcases hroom with h | h <;> simp [h]
    rw [judged_of_not_late hlead hf hflags hbuf hstatic (hd.imp_right And.right) hw (hd.imp_right And.left),
      if_neg hnolimit]
  case check =>
    intro k e c s x ht hj hc
    rw [handle_of_accepted ht hj, accepted_of_check hc]

end Sys2Proof.Machine
end

section
/-! SUPPORT. The replay window of a node (R453): a counter above H, a counter at or below H, what a join leaves, and
the statement assembled from these. -/

namespace Sys2Proof.Machine

/-! ### A counter above H -/

section
variable {h b c : Word32}

/-- A counter above H passes and becomes H; the map moves up with it, and is empty but for it when it jumps past the
whole map. -/
theorem replayTake_of_above (hc : h.toNat < c.toNat) :
    replayTake h b c =
      some (c, if 32 ≤ c.toNat - h.toNat then 1 else (b <<< (c.toNat - h.toNat)) ||| 1) := if_pos hc

theorem replayTake_of_above_near (hc : h.toNat < c.toNat) (hn : c.toNat < h.toNat + 32) :
    replayTake h b c = some (c, (b <<< (c.toNat - h.toNat)) ||| 1) := by
  rw [replayTake_of_above hc, if_neg (by omega)]

theorem replayTake_of_above_far (hf : h.toNat + 32 ≤ c.toNat) : replayTake h b c = some (c, 1) := by
  rw [replayTake_of_above (by omega), if_pos (by omega)]

/-! ### A counter at or below H -/

/-- A counter at or below H passes only where the map reaches it and has not recorded it; H stays. -/
theorem replayTake_of_le (hc : c.toNat ≤ h.toNat) :
    replayTake h b c =
      if h.toNat - c.toNat < 32 ∧ b.getLsbD (h.toNat - c.toNat) = false
      then some (h, b ||| BitVec.ofNat 32 (2 ^ (h.toNat - c.toNat))) else none := if_neg (Nat.not_lt.mpr hc)

theorem replayTake_of_below_map (hf : c.toNat + 32 ≤ h.toNat) : replayTake h b c = none := by
  rw [replayTake_of_le (by omega), if_neg (by omega)]

theorem replayTake_of_recorded (hc : c.toNat ≤ h.toNat) (hb : b.getLsbD (h.toNat - c.toNat) = true) :
    replayTake h b c = none := by
  rw [replayTake_of_le hc, if_neg (by simp [hb])]

theorem replayTake_of_unrecorded (hc : c.toNat ≤ h.toNat) (hn : h.toNat < c.toNat + 32)
    (hb : b.getLsbD (h.toNat - c.toNat) = false) :
    replayTake h b c = some (h, b ||| BitVec.ofNat 32 (2 ^ (h.toNat - c.toNat))) := by
  rw [replayTake_of_le hc, if_pos ⟨by omega, hb⟩]

end

/-! ### A join -/

@[simp] theorem node_modNode_same (i : Nat) (f : Node → Node) (s : State) : node (modNode i f s) i = f (node s i) := by
  simp only [node, modNode, smGet_mod_same]

/-- A join changes the context that it fills, and no other. -/
theorem nodeOnly_joinContext (i : Nat) (r : JoinRes) (s : State) :
    nodeOnly i (node (joinContext i r s) i) s (joinContext i r s) := by
  rw [joinContext, node_modNode_same]
  exact nodeOnly_modNode i _ s

@[simp] theorem node_joinContext_win (i : Nat) (r : JoinRes) (s : State) : (node (joinContext i r s) i).win = 0 := by
  rw [joinContext, node_modNode_same]

@[simp] theorem node_joinContext_bits (i : Nat) (r : JoinRes) (s : State) : (node (joinContext i r s) i).bits = 0 := by
  rw [joinContext, node_modNode_same]

/-! ### The statement -/

/-- Settles O56: where the counter lies, above H or at or below it, near or far, decides the clause. -/
theorem replayWindow : Obligations.ReplayWindow := by
  unfold Obligations.ReplayWindow
  refine ⟨fun _ _ _ => replayTake_of_above_near, fun _ _ _ => replayTake_of_above_far,
    fun _ _ _ => replayTake_of_below_map, ?recorded, fun _ _ _ => replayTake_of_unrecorded, ?join⟩
  case recorded =>
    intro h b c hc _ hb
    exact replayTake_of_recorded hc hb
  case join =>
    intro i r s
    exact ⟨_, nodeOnly_joinContext i r s, node_joinContext_win i r s, node_joinContext_bits i r s⟩

end Sys2Proof.Machine
end

section
/-! SUPPORT. The Director (R488, R490, R491): what a heartbeat pulse leaves, what is judged from it, when the hold
ends, the ticks on the lead lines, the rows of the state table, and the statement assembled from these. -/

namespace Sys2Proof.Machine

/-! ### Heartbeat pulses (R490) -/

theorem exec_heartbeat (b : Bool) (w : Nat) (v : Bool) (t : Stamp) (s : State) :
    exec (.heartbeat b w v t) s = .next (hearBeat b w v (atTime t s)) := rfl

@[simp] theorem pair_atTime (t : Stamp) (s : State) : (atTime t s).pair = s.pair := by
  rw [atTime_frame]

@[simp] theorem isDirector_atTime (t : Stamp) (s : State) : isDirector (atTime t s) = isDirector s := by
  simp [isDirector]

theorem hearBeat_of_unheard {b : Bool} {w : Nat} {v : Bool} {s : State} (h : isDirector s = false ∨ w < 500) :
    hearBeat b w v s = s := if_pos (by simpa using h)

/-- A pulse that outlasts the filter is the last pulse of the unit that gives it. -/
theorem hearBeat_of_heard {b : Bool} {w : Nat} {v : Bool} {s : State} (hd : isDirector s = true) (hw : 500 ≤ w) :
    hearBeat b w v s =
      if b then withPair { s.pair with dirB := ⟨some s.time.tb0, w, v⟩ } s
      else withPair { s.pair with dirA := ⟨some s.time.tb0, w, v⟩ } s := if_neg (by simp [hd, hw])

/-! ### What is judged of a unit (R490) -/

theorem isAlive_iff {s : State} {x : DirIn} :
    isAlive s x = true ↔ ∃ t, x.last = some t ∧ sdiff64 s.time.tb0 t ≤ 2000 * usTicks := by
  cases h : x.last <;> simp [isAlive, h]

theorem unitFit_iff {s : State} {x : DirIn} : unitFit s x = true ↔ isAlive s x = true ∧ x.view = true :=
  Bool.and_eq_true_iff

theorem pulsesLead_iff {x : DirIn} : pulsesLead x = true ↔ x.last.isSome = true ∧ 5000 ≤ x.width := by
  simp [pulsesLead]

/-! ### The hold (R491) -/

theorem exec_directorHoldExpiry (s : State) : exec .directorHoldExpiry s = .next (endHold s) := rfl

theorem endHold_of_due {s : State} (hh : s.pair.hold = true) (hc : 64 ≤ sdiff32 s.proc.cueNow s.pair.lastSwap) :
    endHold s = withPair { s.pair with hold := false } s := if_pos (by simp [hh, hc])

theorem endHold_of_not_due {s : State} (h : s.pair.hold = false ∨ sdiff32 s.proc.cueNow s.pair.lastSwap < 64) :
    endHold s = s := by
  refine if_neg ?_
  rcases h with h | h <;> simp [h]

/-! ### Ticks on the lead lines (R488) -/

/-- The ticks of a lead line in a cue: one at the cue start where the line is driven, and one after a rise. -/
def lineTicks (old : Option Bool) (new : Bool) : Nat :=
  (if old.isSome then 1 else 0) + if new && old != some true then 1 else 0

/-- The unit after its cue-start ticks, before the state table decides. -/
def cueTicked (s : State) : State :=
  withPair { s.pair with
    dirCues := s.pair.dirCues + 1
    ticksA := lineTicks s.pair.lineA false, ticksB := lineTicks s.pair.lineB false } s

theorem cueTicked_eq (s : State) :
    cueTicked s = modPair (fun p => { p with
      dirCues := p.dirCues + 1
      ticksA := if p.lineA.isSome then 1 else 0, ticksB := if p.lineB.isSome then 1 else 0 }) s := by
  simp [cueTicked, lineTicks, modPair, withPair]

@[simp] theorem dir_cueTicked (s : State) : (cueTicked s).pair.dir = s.pair.dir := rfl

@[simp] theorem dirCues_cueTicked (s : State) : (cueTicked s).pair.dirCues = s.pair.dirCues + 1 := rfl

@[simp] theorem dirA_cueTicked (s : State) : (cueTicked s).pair.dirA = s.pair.dirA := rfl

@[simp] theorem dirB_cueTicked (s : State) : (cueTicked s).pair.dirB = s.pair.dirB := rfl

@[simp] theorem hold_cueTicked (s : State) : (cueTicked s).pair.hold = s.pair.hold := rfl

@[simp] theorem dirUnit_cueTicked (s : State) (x : Bool) : dirUnit (cueTicked s) x = dirUnit s x := rfl

@[simp] theorem isAlive_cueTicked (s : State) (x : DirIn) : isAlive (cueTicked s) x = isAlive s x := rfl

@[simp] theorem unitFit_cueTicked (s : State) (x : DirIn) : unitFit (cueTicked s) x = unitFit s x := rfl

@[simp] theorem rbit_cueTicked (s : State) (o n : Nat) : rbit (cueTicked s) o n = rbit s o n := rfl

/-- A unit raised at a cue start: it leads, and each line carries the ticks of the cue. -/
theorem leadUnit_cueTicked (b : Bool) (s : State) :
    leadUnit b (cueTicked s) = withPair { s.pair with
      dirCues := s.pair.dirCues + 1, dir := ledBy b, lineA := some (!b), lineB := some b
      ticksA := lineTicks s.pair.lineA (!b), ticksB := lineTicks s.pair.lineB b } s := by
  simp [leadUnit, driveLines, cueTicked, lineTicks, modPair, withPair]

/-- A swap at a cue start records the reason and starts the hold. -/
theorem swapTo_cueTicked (b : Bool) (r : Nat) (s : State) :
    swapTo b r (cueTicked s) = emitLocal 0x9001 210 r 0 0 0 (withPair { s.pair with
      dirCues := s.pair.dirCues + 1, dir := ledBy b, lineA := some (!b), lineB := some b
      ticksA := lineTicks s.pair.lineA (!b), ticksB := lineTicks s.pair.lineB b
      hold := true, lastSwap := s.proc.cueNow, reason := r } s) := by
  rw [swapTo, leadUnit_cueTicked]; rfl

/-! ### The state table (R491) -/

section
variable {s : State} (hd : isDirector s = true)
include hd

/-- At the fourth cue start, with only unit A pulsing as Lead. -/
theorem decideDirector_of_start (hs : s.pair.dir = .start) (hc : s.pair.dirCues = 3)
    (ha : pulsesLead s.pair.dirA = true) (hb : pulsesLead s.pair.dirB = false) :
    decideDirector s = leadUnit false (cueTicked s) := by
  rw [decideDirector, if_neg (by simp [hd])]
  simp [← cueTicked_eq, hs, hc, ha, hb]

/-- With no unit leading, the preferred unit is raised if it is fit, else the other if that one is fit. -/
theorem decideDirector_of_none (hs : s.pair.dir = .none) :
    decideDirector s =
      if unitFit s (dirUnit s (rbit s rUndCtl 2)) then leadUnit (rbit s rUndCtl 2) (cueTicked s)
      else if unitFit s (dirUnit s !rbit s rUndCtl 2) then leadUnit (!rbit s rUndCtl 2) (cueTicked s)
      else cueTicked s := by
  rw [decideDirector, if_neg (by simp [hd])]
  simp [← cueTicked_eq, hs]

variable {x : Bool} (hs : s.pair.dir = ledBy x)
include hs

theorem decideDirector_of_led : decideDirector s = decideLead x (cueTicked s) := by
  rw [decideDirector, if_neg (by simp [hd])]
  cases x <;> simp [← cueTicked_eq, hs, ledBy]

theorem decideDirector_of_failure (hx : isAlive s (dirUnit s x) = false) (hy : unitFit s (dirUnit s !x) = true) :
    decideDirector s = swapTo (!x) 1 (cueTicked s) := by
  rw [decideDirector_of_led hd hs, decideLead, if_pos (by simp [hx]), if_pos (by simpa using hy)]

variable (hx : isAlive s (dirUnit s x) = true)
include hx

theorem decideDirector_of_relief (hv : (dirUnit s x).view = false) (hy : unitFit s (dirUnit s !x) = true)
    (hh : s.pair.hold = false) : decideDirector s = swapTo (!x) 2 (cueTicked s) := by
  rw [decideDirector_of_led hd hs, decideLead, if_neg (by simp [hx]), if_pos (by simp [hv, hy, hh])]

/-- With its view high, or while a hold runs, the Lead stays; the other unit pulsing as Lead is a conflict. -/
theorem decideDirector_of_kept (hk : (dirUnit s x).view = true ∨ s.pair.hold = true) :
    decideDirector s = if pulsesLead (dirUnit s !x) then dirConflict (cueTicked s) else cueTicked s := by
  have hno : ¬ (!(dirUnit s x).view && unitFit s (dirUnit s !x) && !s.pair.hold) = true := by
    rcases hk with h | h <;> simp [h]
  rw [decideDirector_of_led hd hs, decideLead, if_neg (by simp [hx]), if_neg (by simpa using hno)]
  rfl

end

/-! ### The statement -/

/-- Settles O54: the heartbeat and the judgements by their lemmas, the table row by row, each with the ticks that the
lines then carry. -/
theorem director : Obligations.Director := by
  unfold Obligations.Director
  refine ⟨?heard, ?unheard, fun s x => ⟨isAlive_iff, unitFit_iff, pulsesLead_iff⟩, ?due, ?notDue, ?start, ?failure,
    ?held, ?relief, ?conflict, ?none⟩
  case heard =>
    intro w v t s hd hw
    simp [exec_heartbeat, hearBeat_of_heard, hd, hw]
  case unheard =>
    intro b w v t s h
    rw [exec_heartbeat, hearBeat_of_unheard (by simpa using h)]
  case due =>
    intro s hh hc
    rw [exec_directorHoldExpiry, endHold_of_due hh hc]
  case notDue =>
    intro s h
    rw [exec_directorHoldExpiry, endHold_of_not_due h]
  case start =>
    intro s hd hs hc ha hb hla hlb
    rw [decideDirector_of_start hd hs hc ha hb, leadUnit_cueTicked]
    simp [hc, hla, hlb, lineTicks, ledBy]
  case failure =>
    intro s hd hs ha hb hla hlb
    rw [decideDirector_of_failure (x := false) hd hs ha hb, swapTo_cueTicked]
    simp [hla, hlb, lineTicks, ledBy]
  case held =>
    intro s hd hs ha _ _ hh hp hla hlb
    rw [decideDirector_of_kept (x := false) hd hs ha (.inr hh), if_neg (by simpa [dirUnit] using hp), cueTicked]
    simp [hla, hlb, lineTicks]
  case relief =>
    intro s hd hs ha hv hb hh hla hlb
    rw [decideDirector_of_relief (x := false) hd hs ha hv hb hh, swapTo_cueTicked]
    simp [hla, hlb, lineTicks, ledBy]
  case conflict =>
    intro s hd hs ha hv hp hla hlb
    rw [decideDirector_of_kept (x := false) hd hs ha (.inl hv), if_pos (by simpa [dirUnit] using hp), cueTicked,
      dirConflict]
    simp [hla, hlb, lineTicks]
  case none =>
    intro s hd hs hpref hp hla hlb
    rw [decideDirector_of_none hd hs, if_pos (by simpa [hpref, dirUnit] using hp), leadUnit_cueTicked]
    simp [hpref, hla, hlb, lineTicks, ledBy]

end Sys2Proof.Machine
end

section
/-! SUPPORT. What the air carries comes back (R126 to R128, R137, R139): the coder's register, the interleaver's
groups, the Gray code of a shift, the scrambler and the constellations, each with its inverse, and the statement
assembled from these. -/

namespace Sys2Proof.Machine

/-! ### The convolutional code (R126) -/

/-- Generator 133 taps the new input, so the a bit and the register's state give the input back. -/
theorem xor_parity7_convReg : ∀ st < 64, ∀ u : Bool,
    ((parity7 (convReg st u &&& 0o133)) ^^ parity7 (st &&& 0o133)) = u := by decide

theorem convReg_div_two_lt {st : Nat} (u : Bool) (h : st < 64) : convReg st u / 2 < 64 := by
  cases u <;> simp [convReg, ofBool] <;> omega

/-- The a bits of a code give its input back, from every state of the register. -/
theorem convInvert_convPairs {st : Nat} (h : st < 64) (l : List Bool) :
    convInvert st ((convPairs st l).map Prod.fst) = l := by
  induction l generalizing st with
  | nil => rfl
  | cons u r ih =>
    simp only [convPairs, List.map_cons, convInvert, xor_parity7_convReg st h u, ih (convReg_div_two_lt u h)]

/-- Each rate keeps every a bit (R126). -/
theorem aBits_puncture (cr i : Nat) (l : List (Bool × Bool)) :
    aBits cr i l.length (puncture cr i l) = l.map Prod.fst := by
  induction l generalizing i with
  | nil => rfl
  | cons p r ih =>
    cases h : keepsB cr i <;> simp [aBits, puncture, h, ih]

theorem convPairs_length (st : Nat) (l : List Bool) : (convPairs st l).length = l.length := by
  induction l generalizing st with
  | nil => rfl
  | cons u r ih => simp [convPairs, ih]

/-- The decoder reads an undisturbed code exactly (R126). -/
theorem decoded_coded (cr : Nat) (u : List Bool) : decoded cr u.length (coded cr u) = some u := by
  have h : convInvert 0 (aBits cr 0 u.length (coded cr u)) = u := by
    rw [coded, ← convPairs_length 0 u, aBits_puncture, convInvert_convPairs (by decide)]
  simp [decoded, h]

/-! ### The interleaver (R127) -/

/-- A power of two added where its bit is clear sets that bit alone. -/
theorem add_two_pow_eq_or {v k : Nat} (h : v.testBit k = false) : v + 2 ^ k = v ||| 2 ^ k := by
  have hbit : v / 2 ^ k % 2 = 0 := by
    have := Nat.toNat_testBit v k
    simpa [h] using this.symm
  have hmod : v % 2 ^ (k + 1) = v % 2 ^ k := by
    rw [Nat.mod_pow_succ, hbit, Nat.mul_zero, Nat.add_zero]
  have hlow : v % 2 ^ k < 2 ^ k := Nat.mod_lt _ (Nat.two_pow_pos k)
  have hsum : 2 ^ k + v % 2 ^ k = 2 ^ k ||| v % 2 ^ k := by
    simpa using Nat.two_pow_add_eq_or_of_lt hlow 1
  have hv : v = 2 ^ (k + 1) * (v / 2 ^ (k + 1)) ||| v % 2 ^ k := by
    rw [← Nat.two_pow_add_eq_or_of_lt (by rw [pow_succ]; omega), ← hmod, Nat.div_add_mod]
  calc v + 2 ^ k
      = 2 ^ (k + 1) * (v / 2 ^ (k + 1)) + (2 ^ k + v % 2 ^ k) := by
        rw [← hmod]; have := Nat.div_add_mod v (2 ^ (k + 1)); omega
    _ = 2 ^ (k + 1) * (v / 2 ^ (k + 1)) ||| (2 ^ k + v % 2 ^ k) :=
        Nat.two_pow_add_eq_or_of_lt (by rw [pow_succ]; omega) _
    _ = (2 ^ (k + 1) * (v / 2 ^ (k + 1)) ||| v % 2 ^ k) ||| 2 ^ k := by
        rw [hsum, Nat.or_comm (2 ^ k), Nat.or_assoc]
    _ = v ||| 2 ^ k := by rw [← hv]

/-- Bits put at different places of a number that is clear there are the bits of the sum. -/
theorem testBit_foldl_add_pow (f : Nat → Bool) (g : Nat → Nat) (l : List Nat) (v k : Nat)
    (hg : (l.map g).Nodup) (hv : ∀ r ∈ l, v.testBit (g r) = false) :
    (l.foldl (fun v r => v + ofBool (f r) * 2 ^ g r) v).testBit k =
      (v.testBit k || l.any fun r => g r == k && f r) := by
  induction l generalizing v with
  | nil => simp
  | cons r l ih =>
    obtain ⟨hr, hl⟩ := List.nodup_cons.mp hg
    have hstep : ∀ k, (v + ofBool (f r) * 2 ^ g r).testBit k = (v.testBit k || (g r == k && f r)) := by
      intro k
      cases hf : f r
      · simp [ofBool]
      · simp only [ofBool, if_true, Nat.one_mul, Bool.and_true]
        rw [add_two_pow_eq_or (hv r (by simp)), Nat.testBit_or, Nat.testBit_two_pow]
        simp [Bool.beq_eq_decide_eq, eq_comm]
    have hclear : ∀ r' ∈ l, (v + ofBool (f r) * 2 ^ g r).testBit (g r') = false := by
      intro r' h'
      have hne : g r ≠ g r' := fun e => hr (e ▸ List.mem_map_of_mem h')
      rw [hstep, hv r' (by simp [h'])]
      simp [hne]
    rw [List.foldl_cons, ih _ hl hclear, hstep, List.any_cons, Bool.or_assoc]

/-- The rows of a group go to different bits of a symbol (R127). -/
theorem shift_mod_injOn {s j a b : Nat} (ha : a < s) (hb : b < s) (h : (a + 3 * j) % s = (b + 3 * j) % s) : a = b := by
  have := Nat.ModEq.add_right_cancel' (3 * j) h
  rwa [Nat.ModEq, Nat.mod_eq_of_lt ha, Nat.mod_eq_of_lt hb] at this

/-- Row `r` of symbol `j` of a group is read from the bit it was put to (R127). -/
theorem bit_frcGroup {m s j r : Nat} (l : List Bool) (hj : j < m) (hr : r < s) :
    bit ((frcGroup m s l).getD j 0) ((r + 3 * j) % s) = l.getD (m * r + j) false := by
  have hnodup : ((List.range s).map fun r => (r + 3 * j) % s).Nodup :=
    List.Nodup.map_on (fun a ha b hb h => shift_mod_injOn (List.mem_range.mp ha) (List.mem_range.mp hb) h)
      List.nodup_range
  have hsum := testBit_foldl_add_pow (fun r => l.getD (m * r + j) false) (fun r => (r + 3 * j) % s) (List.range s) 0
    ((r + 3 * j) % s) hnodup (by simp)
  rw [bit_testBit, frcGroup, List.getD_eq_getElem _ _ (by simpa using hj)]
  simp only [List.getElem_map, List.getElem_range]
  rw [hsum, Nat.zero_testBit, Bool.false_or, Bool.eq_iff_iff, List.any_eq_true]
  constructor
  · rintro ⟨r', hr', h⟩
    simp only [Bool.and_eq_true, beq_iff_eq] at h
    rw [← shift_mod_injOn (List.mem_range.mp hr') hr h.1]
    exact h.2
  · intro h
    exact ⟨r, List.mem_range.mpr hr, by rw [h]; simp⟩

theorem frcUngroup_frcGroup {m s : Nat} {l : List Bool} (h : l.length = m * s) : frcUngroup m s (frcGroup m s l) = l := by
  refine List.ext_getElem (by simp [frcUngroup, h]) fun q hq hl => ?_
  have hq' : q < m * s := h ▸ hl
  have hm : 0 < m := Nat.pos_of_mul_pos_right (Nat.zero_lt_of_lt hq')
  simp only [frcUngroup, List.getElem_map, List.getElem_range]
  rw [bit_frcGroup l (Nat.mod_lt q hm) (Nat.div_lt_of_lt_mul hq'), Nat.div_add_mod, List.getD_eq_getElem _ _ hl]

/-! ### Shifts and the Gray code (R128) -/

/-- The first `n` steps of the inverse Gray code. -/
def ginvSteps (n v : Nat) : Nat := (List.range n).foldl (fun k i => k ^^^ v / 2 ^ (i + 1)) v

theorem ginvSteps_succ (n v : Nat) : ginvSteps (n + 1) v = ginvSteps n v ^^^ v / 2 ^ (n + 1) := by
  simp [ginvSteps, List.range_succ]

/-- The Gray code undoes every step but the last. -/
theorem gray_ginvSteps (n v : Nat) : gray (ginvSteps n v) = v ^^^ v / 2 ^ (n + 1) := by
  induction n with
  | zero => simp [gray, ginvSteps]
  | succ n ih =>
    have hlast : v / 2 ^ (n + 1) / 2 = v / 2 ^ (n + 2) := by rw [Nat.div_div_eq_div_mul, ← pow_succ]
    rw [gray] at ih ⊢
    rw [ginvSteps_succ, Nat.xor_div_two, hlast, Nat.xor_right_comm, ← Nat.xor_assoc, ih, Nat.xor_right_comm,
      Nat.xor_assoc v, Nat.xor_self, Nat.xor_zero]

theorem ginvSteps_lt {n v s : Nat} (h : v < 2 ^ s) : ginvSteps n v < 2 ^ s := by
  induction n with
  | zero => simpa [ginvSteps] using h
  | succ n ih =>
    rw [ginvSteps_succ]
    exact Nat.xor_lt_two_pow ih (Nat.lt_of_le_of_lt (Nat.div_le_self _ _) h)

theorem ginv_lt {v s : Nat} (h : v < 2 ^ s) : ginv v < 2 ^ s := ginvSteps_lt (n := 31) h

/-- The Gray code and its inverse undo each other on values of up to 32 bits. -/
theorem gray_ginv {v : Nat} (h : v < 2 ^ 32) : gray (ginv v) = v := by
  have := gray_ginvSteps 31 v
  rwa [Nat.div_eq_of_lt h, Nat.xor_zero] at this

/-- A shift at a whole number of steps is read as that number. -/
theorem nearest_step {k a : Nat} (h : 0 < k) : (a * k + k / 2) / k = a := by
  rw [Nat.add_comm, Nat.add_mul_div_right _ _ h, Nat.div_eq_of_lt (by omega), Nat.zero_add]

/-- What a count adds to a number modulo `n`, its complement takes away. -/
theorem add_mod_add_compl {a c n : Nat} (h : a < n) : ((a + c) % n + (n - c % n)) % n = a := by
  have hc : c = n * (c / n) + c % n := (Nat.div_add_mod c n).symm
  have hlt : c % n < n := Nat.mod_lt _ (by omega)
  rw [Nat.mod_add_mod, show a + c + (n - c % n) = a + n * (c / n + 1) by rw [Nat.mul_add_one]; omega,
    Nat.add_mul_mod_self_left, Nat.mod_eq_of_lt h]

theorem frcValue_frcShift {sf s y i v : Nat} (hs : s ≤ sf) (hf : sf ≤ 12) (hv : v < 2 ^ s) :
    frcValue sf s y i (frcShift sf s y i v) = v := by
  have hv32 : v < 2 ^ 32 := Nat.lt_of_lt_of_le hv (Nat.pow_le_pow_right (by decide) (by omega))
  rw [frcValue, frcShift]
  simp only [nearest_step (Nat.two_pow_pos (sf - s)), add_mod_add_compl (ginv_lt hv), gray_ginv hv32]

/-! ### The scrambler (R137) -/

theorem scramble_scramble (st : Nat) (l : List Bool) : scramble st (scramble st l) = l := by
  induction l generalizing st with
  | nil => rfl
  | cons b r ih => simp only [scramble, ih, Bool.xor_assoc, Bool.xor_self, Bool.xor_false]

/-! ### Constellations (R139) -/

theorem bitsMsb_concat (l : List Bool) (b : Bool) : bitsMsb (l ++ [b]) = 2 * bitsMsb l + ofBool b := by
  simp [bitsMsb]

theorem bitsMsb_lt (l : List Bool) : bitsMsb l < 2 ^ l.length := by
  induction l using List.reverseRecOn with
  | nil => simp [bitsMsb]
  | append_singleton l b ih =>
    have hb : ofBool b ≤ 1 := by cases b <;> simp [ofBool]
    rw [bitsMsb_concat, List.length_append, List.length_singleton, pow_succ]
    omega

theorem natBits_succ (n v : Nat) : natBits (n + 1) v = bit v 0 :: natBits n (v / 2) := by
  simp [natBits, List.range_succ_eq_map, bit_testBit, Function.comp_def, Nat.testBit_add_one]

/-- The bits of the number that bits spell, the last first. -/
theorem natBits_bitsMsb (l : List Bool) : natBits l.length (bitsMsb l) = l.reverse := by
  induction l using List.reverseRecOn with
  | nil => rfl
  | append_singleton l b ih =>
    have hlow : bit (2 * bitsMsb l + ofBool b) 0 = b := by
      cases b <;> simp [bit, ofBool]
    have hhigh : (2 * bitsMsb l + ofBool b) / 2 = bitsMsb l := by
      cases b <;> simp [ofBool]; omega
    rw [bitsMsb_concat, List.length_append, List.length_singleton, natBits_succ, hlow, hhigh, ih]
    simp

/-- The level of a constellation nearest to a level is the level itself. -/
theorem clampI_level {k j : Nat} (h : j < 2 ^ k) :
    (clampI 0 (2 ^ k - 1) ((2 * (j : Int) - (2 ^ k - 1) + 2 ^ k) / 2)).toNat = j := by
  have hk : ((2 : Int) ^ k) = ((2 ^ k : Nat) : Int) := by push_cast; rfl
  rw [show (2 * (j : Int) - (2 ^ k - 1) + 2 ^ k) / 2 = (j : Int) by omega, clampI, hk]
  omega

/-- A level is read as the bits it was made from. -/
theorem qamBits_qamLevel {g : List Bool} (h : g.length ≤ 32) : qamBits g.length (qamLevel g) = g := by
  have hlt := bitsMsb_lt g
  have hlt32 : bitsMsb g < 2 ^ 32 := Nat.lt_of_lt_of_le hlt (Nat.pow_le_pow_right (by decide) h)
  simp only [qamBits, qamLevel, clampI_level (ginv_lt hlt), gray_ginv hlt32, natBits_bitsMsb, List.reverse_reverse]

/-- A point of an even number of bits carries half of them on each axis. -/
theorem pointBits_lofdmPoint_of_even {c : List Bool} {k : Nat} (hc : c.length = 2 * k) (h0 : 0 < k) (hk : k ≤ 32) :
    pointBits c.length (lofdmPoint c).i (lofdmPoint c).q = c := by
  have hpoint : lofdmPoint c = ⟨c.length, qamLevel (c.take k), qamLevel (c.drop k)⟩ := by
    have hhalf : c.length / 2 = k := by omega
    match c with
    | [] => simp at hc; omega
    | [_] => simp at hc; omega
    | _ :: _ :: _ => rw [← hhalf]; rfl
  have htake := qamBits_qamLevel (g := c.take k) (by simp; omega)
  have hdrop := qamBits_qamLevel (g := c.drop k) (by simp; omega)
  rw [List.length_take, Nat.min_eq_left (by omega)] at htake
  rw [List.length_drop, hc, show 2 * k - k = k by omega] at hdrop
  rw [hpoint, pointBits, if_neg (by omega), if_neg (by omega)]
  simp only [hc, Nat.mul_div_cancel_left k (show 0 < 2 by decide), htake, hdrop, List.take_append_drop]

theorem pointBits_lofdmPoint {c : List Bool} (h : c.length ∈ [0, 1, 2, 4, 6, 8]) :
    pointBits c.length (lofdmPoint c).i (lofdmPoint c).q = c := by
  simp only [List.mem_cons, List.not_mem_nil, or_false] at h
  rcases h with h | h | h | h | h | h
  · rw [List.length_eq_zero_iff.mp h]; rfl
  · obtain ⟨b, rfl⟩ := List.length_eq_one_iff.mp h
    cases b <;> rfl
  · exact pointBits_lofdmPoint_of_even (k := 1) h (by decide) (by decide)
  · exact pointBits_lofdmPoint_of_even (k := 2) h (by decide) (by decide)
  · exact pointBits_lofdmPoint_of_even (k := 3) h (by decide) (by decide)
  · exact pointBits_lofdmPoint_of_even (k := 4) h (by decide) (by decide)

/-! ### The statement -/

/-- Settles O60: each clause is the inverse proved of its coder. -/
theorem airCoding : Obligations.AirCoding := by
  unfold Obligations.AirCoding
  refine ⟨?_, ?_, ?_, ?_, ?_⟩
  · rintro cr n u rfl
    exact decoded_coded cr u
  · intro m s l h
    exact frcUngroup_frcGroup h
  · intro sf s y i v hs hf hv
    exact frcValue_frcShift hs hf hv
  · exact scramble_scramble
  · intro c h
    exact pointBits_lofdmPoint h

end Sys2Proof.Machine
end

section
/-! SUPPORT. The step, the reset state, and what every command answers: the front of the queue is run, the state
right after reset reads as the manual gives it, and a command answers a next state unless its operand names no unit. -/

namespace Sys2Proof.Machine

/-- Settles O1: by the two cases of the queue. -/
theorem stepRunsFront : Obligations.StepRunsFront := by
  unfold Obligations.StepRunsFront
  refine ⟨fun c r s => rfl, fun s h => ?_⟩
  simp only [step, h]

/-- Settles O2: the six commands that name a unit test its number, every other one answers as it stands. -/
theorem everyCommandAnswers : Obligations.EveryCommandAnswers := by
  unfold Obligations.EveryCommandAnswers
  constructor
  · intro i s h
    cases i with
    | submissionFetch q => exact ⟨_, if_pos (of_decide_eq_true h)⟩
    | fetchComplete q r e d => exact ⟨_, if_pos (of_decide_eq_true h)⟩
    | vectorHoldExpiry e => exact ⟨_, if_pos (of_decide_eq_true h)⟩
    | msixUnmask v => exact ⟨_, if_pos (of_decide_eq_true h)⟩
    | laneError d l => exact ⟨_, if_pos (of_decide_eq_true h)⟩
    | lanePatternTestEnd d l p => exact ⟨_, if_pos (of_decide_eq_true h)⟩
    | _ => exact ⟨_, rfl⟩
  · intro i s h
    cases i with
    | submissionFetch q => exact if_neg (of_decide_eq_false h)
    | fetchComplete q r e d => exact if_neg (of_decide_eq_false h)
    | vectorHoldExpiry e => exact if_neg (of_decide_eq_false h)
    | msixUnmask v => exact if_neg (of_decide_eq_false h)
    | laneError d l => exact if_neg (of_decide_eq_false h)
    | lanePatternTestEnd d l p => exact if_neg (of_decide_eq_false h)
    | _ => exact nomatch h

/-- The rings are disabled at reset, by the Reset column of their configuration registers. -/
theorem ringsOff_reset : ∀ q < 64, sqEn State.reset q = false ∧ cqEn State.reset q = false := by decide +kernel

/-- Settles O4: each part of the reset state as it stands. -/
theorem resetState : Obligations.ResetState := by
  unfold Obligations.ResetState
  refine ⟨rfl, rfl, rfl, rfl, rfl, fun o => rfl, fun a => rfl, fun i => rfl, fun c => ?_, fun n => rfl,
    ringsOff_reset, by decide +kernel, rfl, rfl, rfl, rfl⟩
  cases c <;> rfl

end Sys2Proof.Machine
end

section
/-! SUPPORT. Fields and host memory (R3): the bytes of a little-endian field, what a write of host memory leaves at
each address, and the statement assembled from these. -/

namespace Sys2Proof.Machine

/-! ### Little-endian fields -/

theorem length_le (n v : Nat) : (le n v).length = n := by
  induction n generalizing v with
  | zero => rfl
  | succ n ih => simp [le, ih]

theorem leNat_le (n v : Nat) : leNat (le n v) = v % 256 ^ n := by
  induction n generalizing v with
  | zero => simp [le, leNat, Nat.mod_one]
  | succ n ih =>
    rw [le, leNat, ih, BitVec.toNat_ofNat, Nat.pow_succ' (m := 256), Nat.mod_mul]

theorem getElem?_le {n i : Nat} (v : Nat) (h : i < n) : (le n v)[i]? = some (BitVec.ofNat 8 (v / 256 ^ i)) := by
  induction n generalizing v i with
  | zero => omega
  | succ n ih =>
    cases i with
    | zero => simp [le]
    | succ i =>
      rw [le, List.getElem?_cons_succ, ih _ (by omega), Nat.div_div_eq_div_mul, ← Nat.pow_succ']

/-! ### Writes of host memory -/

/-- Bytes written one after another from an address. -/
def memFill (l : List Byte) (m : SMap Byte) (a : Nat) : SMap Byte :=
  (l.foldl (fun (acc : SMap Byte × Nat) b => (smSet 0 acc.1 acc.2 b, acc.2 + 1)) (m, a)).1

theorem hostMem_hostWrite (a : Nat) (l : List Byte) (s : State) :
    (hostWrite a l s).hif.hostMem = memFill l s.hif.hostMem a := rfl

theorem memFill_cons (b : Byte) (l : List Byte) (m : SMap Byte) (a : Nat) :
    memFill (b :: l) m a = memFill l (smSet 0 m a b) (a + 1) := rfl

theorem smWf_memFill (l : List Byte) (m : SMap Byte) (a : Nat) (h : smWf 0 m = true) : smWf 0 (memFill l m a) = true := by
  induction l generalizing m a with
  | nil => exact h
  | cons b l ih => rw [memFill_cons]; exact ih _ _ (smWf_set 0 m a b h)

/-- Outside the bytes written memory keeps its byte. -/
theorem smGet_memFill_outside (l : List Byte) (m : SMap Byte) (a b : Nat) (h : b < a ∨ a + l.length ≤ b) :
    smGet 0 (memFill l m a) b = smGet 0 m b := by
  induction l generalizing m a with
  | nil => rfl
  | cons x l ih =>
    rw [List.length_cons] at h
    rw [memFill_cons, ih _ _ (by omega), smGet_set_other 0 m a b x (by omega)]

theorem smGet_memFill_inside (l : List Byte) (m : SMap Byte) (a i : Nat) (h : i < l.length) :
    smGet 0 (memFill l m a) (a + i) = l.getD i 0 := by
  induction l generalizing m a i with
  | nil => simp at h
  | cons x l ih =>
    rw [memFill_cons]
    cases i with
    | zero => rw [smGet_memFill_outside _ _ _ _ (by omega), Nat.add_zero, smGet_set_same]; rfl
    | succ i =>
      rw [← Nat.add_assoc, Nat.add_right_comm, ih _ _ _ (by simpa using h)]; rfl

theorem memWf_hostWrite (a : Nat) (l : List Byte) {s : State} (h : memWf s = true) : memWf (hostWrite a l s) = true := by
  rw [memWf, hostMem_hostWrite]
  exact smWf_memFill l _ a h

/-! ### The statement -/

/-- Settles O55: the bytes of a field by recursion on its width, those of memory by recursion on the bytes written. -/
theorem hostMemory : Obligations.HostMemory := by
  unfold Obligations.HostMemory
  refine ⟨leNat_le, length_le, fun n v i h => getElem?_le v h, fun v i => rfl, ?_, ?_, ?_, ?_⟩
  · intro a l s i h
    exact smGet_memFill_inside l _ a i h
  · intro a l s b h
    exact smGet_memFill_outside l _ a b h
  · intro a l s h
    exact memWf_hostWrite a l h
  · intro a l s
    exact ⟨_, rfl, rfl⟩

end Sys2Proof.Machine
end

section
/-! SUPPORT. Access codes (R5, R6): what the write of one field leaves in each bit, and that the write of a register
gives each field its own write. -/

namespace Sys2Proof.Machine

theorem getLsbD_maskOf (hi lo n : Nat) : (maskOf hi lo).getLsbD n = decide (n < 32 ∧ lo ≤ n ∧ n < lo + (hi + 1 - lo)) := by
  simp only [maskOf, BitVec.getLsbD_ofNat, Nat.testBit_mul_two_pow, Nat.testBit_two_pow_sub_one]
  by_cases hn : n < 32 <;> by_cases hl : lo ≤ n <;> simp [hn, hl]
  omega

/-- The mask of a field has a bit exactly at the field's places. -/
theorem getLsbD_mask {f : RegField} (hf : f.lo ≤ f.hi ∧ f.hi < 32) (n : Nat) :
    f.mask.getLsbD n = decide (f.lo ≤ n ∧ n ≤ f.hi) := by
  rw [RegField.mask, getLsbD_maskOf, decide_eq_decide]
  omega

/-- The write of a field leaves the bits of other fields alone. -/
theorem writeField_outside {f : RegField} (hf : f.lo ≤ f.hi ∧ f.hi < 32) (old v locked : Word32)
    (acc : Word32 × Word32) {n : Nat} (hn : n < 32) (h : n < f.lo ∨ f.hi < n) :
    (writeField old v locked acc f).1.getLsbD n = acc.1.getLsbD n := by
  have hm : f.mask.getLsbD n = false := by
    rw [getLsbD_mask hf, decide_eq_false_iff_not]; omega
  have keep : ∀ w x : Word32, ((w &&& ~~~ f.mask) ||| (x &&& f.mask)).getLsbD n = w.getLsbD n := by
    intro w x
    rw [BitVec.getLsbD_or, BitVec.getLsbD_and, BitVec.getLsbD_not, BitVec.getLsbD_and, hm]
    simp [hn]
  unfold writeField
  cases f.acc with
  | ro => rfl
  | wo => rfl
  | w1c =>
    rw [BitVec.getLsbD_and, BitVec.getLsbD_not, BitVec.getLsbD_and, hm]
    simp [hn]
  | w1s =>
    rw [BitVec.getLsbD_or, BitVec.getLsbD_and, hm]
    simp
  | rw =>
    dsimp only
    split_ifs
    · rfl
    · exact keep _ _
    · rfl

/-- What a write with no bit locked leaves in a bit of the field. -/
theorem writeField_inside {f : RegField} (hf : f.lo ≤ f.hi ∧ f.hi < 32) (old v : Word32) (acc : Word32 × Word32)
    {n : Nat} (hl : f.lo ≤ n) (hh : n ≤ f.hi) :
    (writeField old v 0 acc f).1.getLsbD n =
      match f.acc with
      | .ro => acc.1.getLsbD n
      | .wo => acc.1.getLsbD n
      | .w1c => acc.1.getLsbD n && !v.getLsbD n
      | .w1s => acc.1.getLsbD n || v.getLsbD n
      | .rw => if f.legal.holds (fieldOf v f.hi f.lo) = true then v.getLsbD n else acc.1.getLsbD n := by
  have hm : f.mask.getLsbD n = true := by
    rw [getLsbD_mask hf, decide_eq_true_eq]; exact ⟨hl, hh⟩
  have hn : n < 32 := by omega
  unfold writeField
  cases f.acc with
  | ro => rfl
  | wo => rfl
  | w1c =>
    rw [BitVec.getLsbD_and, BitVec.getLsbD_not, BitVec.getLsbD_and, hm]
    simp [hn]
  | w1s =>
    rw [BitVec.getLsbD_or, BitVec.getLsbD_and, hm]
    simp
  | rw =>
    have hfree : ¬ ((0 &&& f.mask) ≠ 0 ∧ ((old ^^^ v) &&& f.mask) ≠ 0) := by simp
    dsimp only
    split_ifs
    · rw [BitVec.getLsbD_or, BitVec.getLsbD_and, BitVec.getLsbD_not, BitVec.getLsbD_and, hm]
      simp
    · rfl

/-- Fields that do not reach a bit leave it alone. -/
theorem foldl_writeField_outside (old v locked : Word32) (l : List RegField) (acc : Word32 × Word32) {n : Nat}
    (hn : n < 32) (hl : ∀ g ∈ l, (g.lo ≤ g.hi ∧ g.hi < 32) ∧ (n < g.lo ∨ g.hi < n)) :
    (l.foldl (writeField old v locked) acc).1.getLsbD n = acc.1.getLsbD n := by
  induction l generalizing acc with
  | nil => rfl
  | cons g l ih =>
    obtain ⟨hg, ho⟩ := hl g (by simp)
    rw [List.foldl_cons, ih _ fun g' h' => hl g' (by simp [h']), writeField_outside hg old v locked acc hn ho]

/-- Settles O57: the fields before and after the field leave its bits alone. -/
theorem accessCodes : Obligations.AccessCodes := by
  unfold Obligations.AccessCodes
  intro r old v f hpair hwf hmem n hlo hhi
  obtain ⟨a, b, hab⟩ := List.append_of_mem hmem
  rw [hab] at hpair hwf
  obtain ⟨-, hfb, hcross⟩ := List.pairwise_append.mp hpair
  have hf := hwf f (by simp)
  have hn : n < 32 := by omega
  have before : ∀ acc, (a.foldl (writeField old v 0) acc).1.getLsbD n = acc.1.getLsbD n := fun acc =>
    foldl_writeField_outside old v 0 a acc hn fun g hg =>
      ⟨hwf g (by simp [hg]), by have := hcross g hg f (by simp); omega⟩
  have after : ∀ acc, (b.foldl (writeField old v 0) acc).1.getLsbD n = acc.1.getLsbD n := fun acc =>
    foldl_writeField_outside old v 0 b acc hn fun g hg =>
      ⟨hwf g (by simp [hg]), by have := (List.pairwise_cons.mp hfb).1 g hg; omega⟩
  rw [writeWord, hab, List.foldl_append, List.foldl_cons, after, writeField_inside hf old v _ hlo hhi, before] <;> rfl

end Sys2Proof.Machine
end

section
/-! SUPPORT. Records and the ports of the banks (R354, R407 to R410, R413, R615): what a record leaves alone, the words
of the banks, the parts on which atomic operations work, poisoned reads, BAR4 and collisions, and the statement
assembled from these. -/

namespace Sys2Proof.Machine

/-! ### What a record leaves alone -/

theorem recordOnly_wings {s t : State} (h : recordOnly s t) : t.wings = s.wings := by
  obtain ⟨_, _, _, _, _, _, _, _, _, rfl⟩ := h
  rfl

@[simp] theorem emitLocal_wings (code src a b c d : Nat) (s : State) : (emitLocal code src a b c d s).wings = s.wings :=
  recordOnly_wings (recordOnly_emitLocal ..)

@[simp] theorem countReg_wings (o n : Nat) (s : State) : (countReg o n s).wings = s.wings := rfl

/-! ### Words (R404, R413) -/

theorem wordAtAddr_putWord_same (a : Nat) (v : Word64) (s : State) : wordAtAddr (putWord a v s) a = v := by
  simp [wordAtAddr, putWord]

theorem poisonedAt_putWord_same (a : Nat) (v : Word64) (s : State) : poisonedAt (putWord a v s) a = false := by
  have hplace : wordPlace (putWord a v s) a = wordPlace s a := rfl
  have hpoison : (putWord a v s).wings.poison = s.wings.poison.filter (· != wordPlace s a) := rfl
  simp [poisonedAt, hplace, hpoison]

theorem wordAtAddr_putWord_other {a b : Nat} (v : Word64) (s : State) (h : a / 8 ≠ b / 8) :
    wordAtAddr (putWord a v s) b = wordAtAddr s b := by
  have hwords : smGet none (putWord a v s).wings.words (b / 8) = smGet none s.wings.words (b / 8) :=
    smGet_set_other none s.wings.words _ _ (some v) (Ne.symm h)
  have hfield : fieldWord (putWord a v s) b = fieldWord s b := rfl
  have htag : ∀ i, tagWord (putWord a v s) i = tagWord s i := fun i => rfl
  have htime : (putWord a v s).time = s.time := rfl
  simp only [wordAtAddr, hwords, hfield, htag, htime]

/-! ### Parts of a word (R409) -/

theorem getPart_putPart_half (h : Bool) (v : Nat) (w : Word64) : getPart (.half h) (putPart (.half h) v w) = v % 2 ^ 32 := by
  have := w.isLt
  cases h <;> simp only [getPart, putPart, BitVec.toNat_ofNat] <;> omega

theorem getPart_putPart_other (h : Bool) (v : Nat) (w : Word64) :
    getPart (.half !h) (putPart (.half h) v w) = getPart (.half !h) w := by
  have := w.isLt
  cases h <;> simp only [getPart, putPart, BitVec.toNat_ofNat, Bool.not_false, Bool.not_true] <;> omega

/-- An atomic operation on a word that is not poisoned answers the old part and writes the new one. -/
theorem atomicOp_of_clean {f : Nat → Nat} {who : Reader} {p : Part} {a : Nat} {s : State} (h : poisonedAt s a = false) :
    atomicOp f who p a s = (some (getPart p (wordAtAddr s a)),
      putWord a (putPart p (f (getPart p (wordAtAddr s a))) (wordAtAddr s a)) s) := by
  simp [atomicOp, h]

/-- On a half the other half stays. -/
theorem atomicOp_half {f : Nat → Nat} {who : Reader} {a : Nat} {s : State} (h : Bool) (hp : poisonedAt s a = false) :
    ∃ t, atomicOp f who (.half h) a s = (some (getPart (.half h) (wordAtAddr s a)), t) ∧
      getPart (.half h) (wordAtAddr t a) = f (getPart (.half h) (wordAtAddr s a)) % 2 ^ 32 ∧
      getPart (.half !h) (wordAtAddr t a) = getPart (.half !h) (wordAtAddr s a) ∧ t = putWord a (wordAtAddr t a) s := by
  refine ⟨_, atomicOp_of_clean hp, ?_, ?_, ?_⟩
  · rw [wordAtAddr_putWord_same, getPart_putPart_half]
  · rw [wordAtAddr_putWord_same, getPart_putPart_other]
  · rw [wordAtAddr_putWord_same]

theorem atomicOp_of_poisoned {f : Nat → Nat} {who : Reader} {p : Part} {a : Nat} {s : State} (h : poisonedAt s a = true) :
    atomicOp f who p a s = (none, readPoisoned who false a s) := by
  simp [atomicOp, h]

/-! ### Poisoned reads write no word (R413, R414) -/

@[simp] theorem words_planMarch (b row cells : Nat) (s : State) : (planMarch b row cells s).wings.words = s.wings.words := by
  unfold planMarch; split <;> rfl

@[simp] theorem wings_raiseException (e : Nat) (s : State) : (raiseException e s).wings = s.wings := by
  rw [raiseException, emitLocal_wings]; split <;> rfl

@[simp] theorem wings_queueNotice (q : Nat) (s : State) : (queueNotice q s).wings = s.wings := by
  simp [queueNotice]

@[simp] theorem wings_crossHigh (q a b : Nat) (s : State) : (crossHigh q a b s).wings = s.wings := by
  unfold crossHigh; dsimp only; split_ifs <;> simp

@[simp] theorem wings_crossLow (q a b : Nat) (s : State) : (crossLow q a b s).wings = s.wings := by
  unfold crossLow; dsimp only; split_ifs <;> simp

@[simp] theorem wings_hwqChange (q : Nat) (f : Hwq → Hwq) (s : State) : (hwqChange q f s).wings = s.wings := by
  simp [hwqChange]

@[simp] theorem wings_queueRead (q n : Nat) (s : State) : (queueRead q n s).wings = s.wings := by
  unfold queueRead; dsimp only
  split
  · rfl
  · split_ifs <;> simp

@[simp] theorem wings_discardPacket (q : Nat) (s : State) : (discardPacket q s).wings = s.wings := by
  unfold discardPacket; split <;> simp

@[simp] theorem wings_decideNot (r : TxReq) (result : Nat) (flags : BitVec 8) (t : Stamp) (s : State) :
    (decideNot r result flags t s).wings = s.wings := by
  have hend : ∀ (x : TxEnd) (u : State), (txEndInput x u).wings = u.wings := fun x u => by
    unfold txEndInput; split <;> rfl
  have hevent : ∀ (c : Chain) (k : Nat) (u : State), (resultEvent c k u).wings = u.wings := fun c k u => by
    unfold resultEvent; split_ifs <;> rfl
  simp [decideNot, hend, hevent]

@[simp] theorem wings_flushFrame (c : Chain) (s : State) : (flushFrame c s).wings = s.wings := by
  unfold flushFrame; dsimp only
  split
  · split
    · rfl
    · simp [dropCur]
  · simp
  · rfl

@[simp] theorem wings_loseRecord (s : State) : (loseRecord s).wings = s.wings := by
  unfold loseRecord; split <;> rfl

@[simp] theorem wings_poisonedRead (r : Reader) (s : State) : (poisonedRead r s).wings = s.wings := by
  cases r <;> simp [poisonedRead]

@[simp] theorem wings_latchError (f : EccFault) (s : State) : (latchError f s).wings = s.wings := by
  rw [latchError, setReg_wings, setReg_wings]

theorem words_modWings_corrs (f : Wings → List (Nat × Nat × CueNo)) (s : State) :
    (modWings (fun w => { w with corrs := f w }) s).wings.words = s.wings.words := rfl

theorem words_modWings_poison (f : Wings → List (Nat × Nat × Nat)) (s : State) :
    (modWings (fun w => { w with poison := f w }) s).wings.words = s.wings.words := rfl

theorem words_eccError (f : EccFault) (s : State) : (eccError f s).wings.words = s.wings.words := by
  rw [eccError]
  split
  · rw [wings_poisonedRead, words_modWings_poison, words_planMarch, emitLocal_wings, countReg_wings, wings_latchError]
  · rw [words_planMarch, emitLocal_wings, words_modWings_corrs, countReg_wings, wings_latchError]

theorem words_readPoisoned (who : Reader) (portB : Bool) (a : Nat) (s : State) :
    (readPoisoned who portB a s).wings.words = s.wings.words := by
  rw [readPoisoned, findPoisoned, words_eccError, fresh, modSec_wings]

/-! ### BAR4 (R354, R615) -/

theorem bar4Read_of_closed {off : Nat} {s : State} (h : bar4Open s = false) :
    bar4Read off s = { s with wings := { s.wings with bar4 := (0, false) } } := by
  simp only [bar4Read, h, Bool.false_eq_true, if_false]; rfl

theorem bar4_bar4Read_of_open {off : Nat} {s : State} (h : bar4Open s = true) (hw : rbits s rHifDbgWin 1 0 ≠ 3)
    (ho : off < 0x800000) : (bar4Read off s).wings.bar4 =
      (wordAtAddr s (0x800000 * rbits s rHifDbgWin 1 0 + off), poisonedAt s (0x800000 * rbits s rHifDbgWin 1 0 + off)) := by
  have haddr : bar4Addr s off = some (0x800000 * rbits s rHifDbgWin 1 0 + off) :=
    if_neg (by omega)
  simp only [bar4Read, h, haddr, if_true]
  cases hp : poisonedAt s (0x800000 * rbits s rHifDbgWin 1 0 + off) <;> rfl

/-! ### The statement -/

/-- Settles O59: the words by the laws of the map of written words, the atomic operations by the parts of a word. -/
theorem bankWords : Obligations.BankWords := by
  unfold Obligations.BankWords
  refine ⟨?_, ?_, ?_, ?_, ?_, ?_, ?_, words_readPoisoned, ?_, ?_, ?_⟩
  · intro a v s
    exact ⟨wordAtAddr_putWord_same a v s, poisonedAt_putWord_same a v s⟩
  · intro a b v s h
    exact wordAtAddr_putWord_other v s h
  · intro who a s v h
    refine ⟨_, atomicOp_of_clean h, ?_, by rw [wordAtAddr_putWord_same]⟩
    rw [wordAtAddr_putWord_same, getPart, putPart, BitVec.ofNat_add, BitVec.ofNat_toNat, BitVec.setWidth_eq]
  · intro who a s v h hp
    exact atomicOp_half h hp
  · intro who a s v h
    exact atomicOp_of_clean h
  · intro who a s v h hp
    exact atomicOp_half h hp
  · intro who p a s v h
    exact ⟨atomicOp_of_poisoned h, atomicOp_of_poisoned h⟩
  · intro off s h hw ho
    exact ⟨_, rfl, bar4_bar4Read_of_open h hw ho⟩
  · intro off s h
    exact bar4Read_of_closed h
  · intro b w s
    exact ⟨_, rfl, regOnly_countReg _ 1 s⟩

end Sys2Proof.Machine
end

section
/-! SUPPORT. Doorbells, and the enables of the rings (R362 to R370): what each doorbell does with a value, what setting
and clearing EN leaves, and the statements assembled from these. -/

namespace Sys2Proof.Machine

/-! ### One ring changed -/

theorem sqOnly_modSq_modSq (q : Nat) (f g : Sq → Sq) (s : State) : sqOnly q (g (f (sq s q))) s (modSq q g (modSq q f s)) := by
  refine ⟨rfl, fun j => ?_⟩
  by_cases h : j = q <;> simp [sq, modSq, smGet_mod, h]

theorem cqOnly_modCq_modCq (c : Nat) (f g : Cq → Cq) (s : State) : cqOnly c (g (f (cq s c))) s (modCq c g (modCq c f s)) := by
  refine ⟨rfl, fun j => ?_⟩
  by_cases h : j = c <;> simp [cq, modCq, smGet_mod, h]

/-! ### Bits of a register after one was set or a field was cleared -/

theorem regOnly_setRBit (o n : Nat) (s : State) : regOnly o (reg s o ||| BitVec.ofNat 32 (2 ^ n)) s (setRBit o n s) :=
  regOnly_setReg o _ s

theorem regOnly_setRBits (o hi lo v : Nat) (s : State) : regOnly o (withField (reg s o) hi lo v) s (setRBits o hi lo v s) :=
  regOnly_setReg o _ s

theorem rbit_of_reg {s : State} {o n : Nat} {w : Word32} (h : reg s o = w) : rbit s o n = w.getLsbD n := by
  rw [rbit, h, bit_getLsbD]

theorem reg_of_regOnly_same {o : Nat} {v : Word32} {s t : State} (h : regOnly o v s t) : reg t o = v := by
  rw [h.2 o, if_pos rfl]

theorem rbit_setRBit_same {o n : Nat} {s : State} (hn : n < 32) : rbit (setRBit o n s) o n = true := by
  rw [rbit_of_reg (reg_of_regOnly_same (regOnly_setRBit o n s)), BitVec.getLsbD_or, BitVec.getLsbD_ofNat]
  simp [hn]

theorem rbit_setRBits_zero (o : Nat) (s : State) : rbit (setRBits o 0 0 0 s) o 0 = false := by
  rw [rbit_of_reg (reg_of_regOnly_same (regOnly_setRBits o 0 0 0 s)), withField_getLsbD _ _ _ _ _ (by decide)]
  rfl

/-- Setting bit 0 leaves the fields above it. -/
theorem rbits_setRBit_zero {o hi lo : Nat} {s : State} (h : 1 ≤ lo) : rbits (setRBit o 0 s) o hi lo = rbits s o hi lo := by
  rw [rbits, rbits, reg_of_regOnly_same (regOnly_setRBit o 0 s), fieldOf_or]
  have hone : fieldOf (BitVec.ofNat 32 (2 ^ 0)) hi lo = 0 := by
    have hlt : 1 < 2 ^ lo := Nat.one_lt_two_pow (by omega)
    simp [fieldOf, bits, Nat.div_eq_of_lt hlt]
  rw [hone, Nat.or_zero]

/-! ### Doorbells (R366 to R370) -/

section
variable {q v : Nat} {s : State}

theorem exec_submissionDoorbell (h : q < 64) : exec (.submissionDoorbell q v) s = .next (ringTail q v s) :=
  congrArg Host.Outcome.next (if_pos h)

theorem exec_submissionDoorbell_beyond (h : 64 ≤ q) : exec (.submissionDoorbell q v) s = .next s :=
  congrArg Host.Outcome.next (if_neg (Nat.not_lt.mpr h))

theorem exec_completionDoorbell (h : q < 64) : exec (.completionDoorbell q v) s = .next (ringHead q v s) :=
  congrArg Host.Outcome.next (if_pos h)

theorem exec_completionDoorbell_beyond (h : 64 ≤ q) : exec (.completionDoorbell q v) s = .next s :=
  congrArg Host.Outcome.next (if_neg (Nat.not_lt.mpr h))

theorem exec_eventDoorbell : exec (.eventDoorbell v) s = .next (eventHead v s) := rfl

theorem ringTail_of_off (h : sqEn s q = false) :
    ringTail q v s = setRBit rHifErr 2 (modSq q (fun r => { r with bell := w32 v }) s) := by
  simp [ringTail, h, doorbellOff]

theorem ringTail_of_bad (h : sqEn s q = true) (hv : v < 2 ^ 32) (hb : 2 * sqSize s q ≤ v ∨
    sqSize s q < (v + 2 * sqSize s q - (sq s q).head) % (2 * sqSize s q)) :
    ringTail q v s = emitLocal 0x6001 145 0 0 0 0
      (modSq q (fun r => { r with error := true }) (modSq q (fun r => { r with bell := w32 v }) s)) := by
  rw [ringTail, if_neg (by simp [h]), Nat.mod_eq_of_lt hv, if_pos hb]
  rfl

theorem ringTail_of_good (h : sqEn s q = true) (hv : v < 2 ^ 32) (hn : v < 2 * sqSize s q)
    (hb : (v + 2 * sqSize s q - (sq s q).head) % (2 * sqSize s q) ≤ sqSize s q) :
    ringTail q v s = modSq q (fun r => { r with tail := v }) (modSq q (fun r => { r with bell := w32 v }) s) := by
  rw [ringTail, if_neg (by simp [h]), Nat.mod_eq_of_lt hv, if_neg (by omega)]

theorem ringHead_of_off (h : cqEn s q = false) :
    ringHead q v s = setRBit rHifErr 2 (modCq q (fun r => { r with bell := w32 v }) s) := by
  simp [ringHead, h, doorbellOff]

theorem ringHead_of_bad (h : cqEn s q = true) (hv : v < 2 ^ 32) (hb : 2 * cqSize s q ≤ v ∨
    cqCount s q < ((cq s q).tail + 2 * cqSize s q - v) % (2 * cqSize s q)) :
    ringHead q v s = emitLocal 0x6001 146 0 0 0 0
      (modCq q (fun r => { r with error := true }) (modCq q (fun r => { r with bell := w32 v }) s)) := by
  rw [ringHead, if_neg (by simp [h]), Nat.mod_eq_of_lt hv, if_pos hb]
  rfl

theorem ringHead_of_good (h : cqEn s q = true) (hv : v < 2 ^ 32) (hn : v < 2 * cqSize s q)
    (hb : ((cq s q).tail + 2 * cqSize s q - v) % (2 * cqSize s q) ≤ cqCount s q) :
    ringHead q v s = modCq q (fun r => { r with head := v, error := false })
      (modCq q (fun r => { r with bell := w32 v }) s) := by
  rw [ringHead, if_neg (by simp [h]), Nat.mod_eq_of_lt hv, if_neg (by omega)]

/-- The event ring with its doorbell's word noted. -/
def evBell (v : Nat) (s : State) : State :=
  { s with hif := { s.hif with evr := { s.hif.evr with bell := w32 v } } }

/-- The event ring with its head moved to a good value. -/
def evHeadAt (v : Nat) (s : State) : State :=
  { s with hif := { s.hif with evr := { s.hif.evr with bell := w32 v, head := v, error := false } } }

theorem eventHead_of_off (h : evEn s = false) : eventHead v s = setRBit rHifErr 2 (evBell v s) := by
  rw [eventHead, if_pos (by simp [h])]; rfl

theorem eventHead_of_bad (h : evEn s = true) (hv : v < 2 ^ 32) (hb : 2 * evSize s ≤ v ∨
    evCount s < (s.hif.evr.tail + 2 * evSize s - v) % (2 * evSize s)) :
    eventHead v s = emitLocal 0x6001 147 0 0 0 0
      { s with hif := { s.hif with evr := { s.hif.evr with bell := w32 v, error := true } } } := by
  rw [eventHead, if_neg (by simp [h]), Nat.mod_eq_of_lt hv, if_pos hb]
  rfl

theorem eventHead_of_good (h : evEn s = true) (hv : v < 2 ^ 32) (hn : v < 2 * evSize s)
    (hb : (s.hif.evr.tail + 2 * evSize s - v) % (2 * evSize s) ≤ evCount s) :
    eventHead v s = evLost (evHeadAt v s) := by
  rw [eventHead, if_neg (by simp [h]), Nat.mod_eq_of_lt hv, if_neg (by omega)]
  rfl

end

/-! ### The events-lost record (R366) -/

theorem evLost_of_none {s : State} (h : s.hif.evr.lost = 0) : evLost s = s := if_neg (fun k => k.1 h)

theorem evLost_of_no_room {s : State} (h : evRoom s = false) : evLost s = s :=
  if_neg (fun k => by simp [h] at k)

theorem evLost_of_room {s : State} (h : s.hif.evr.lost ≠ 0) (hr : evRoom s = true) :
    evLost s = emitLocal 0x6002 147 s.hif.evr.lost 0 0 0
      { s with hif := { s.hif with evr := { s.hif.evr with lost := 0 } } } := if_pos ⟨h, hr⟩

theorem evRoom_iff {s : State} : evRoom s = true ↔ evEn s = true ∧ evCount s < evSize s - 1 := by
  simp [evRoom]

/-- Settles O14: each clause is the case of its doorbell. -/
theorem doorbells : Obligations.Doorbells := by
  unfold Obligations.Doorbells
  refine ⟨?_, ?_, ?_, ?_, ?_, ?_, ?_, ?_, ?_, ?_, ?_, ?_⟩
  · intro q v s hq h
    exact ⟨_, _, (exec_submissionDoorbell hq).trans (congrArg _ (ringTail_of_off h)), sqOnly_modSq q _ s, regOnly_setRBit rHifErr 2 _⟩
  · intro q v s hq h hv hb
    exact ⟨_, (exec_submissionDoorbell hq).trans (congrArg _ (ringTail_of_bad h hv hb)), sqOnly_modSq_modSq q _ _ s⟩
  · intro q v s hq h hn hv hb
    exact ⟨_, (exec_submissionDoorbell hq).trans (congrArg _ (ringTail_of_good h hv hn hb)), sqOnly_modSq_modSq q _ _ s⟩
  · intro q v s h
    exact exec_submissionDoorbell_beyond h
  · intro c v s hc h
    exact ⟨_, _, (exec_completionDoorbell hc).trans (congrArg _ (ringHead_of_off h)), cqOnly_modCq c _ s, regOnly_setRBit rHifErr 2 _⟩
  · intro c v s hc h hv hb
    exact ⟨_, (exec_completionDoorbell hc).trans (congrArg _ (ringHead_of_bad h hv hb)), cqOnly_modCq_modCq c _ _ s⟩
  · intro c v s hc h hn hv hb
    exact ⟨_, (exec_completionDoorbell hc).trans (congrArg _ (ringHead_of_good h hv hn hb)), cqOnly_modCq_modCq c _ _ s⟩
  · intro c v s h
    exact exec_completionDoorbell_beyond h
  · intro v s h
    exact ⟨_, exec_eventDoorbell.trans (congrArg _ (eventHead_of_off h)), regOnly_setRBit rHifErr 2 (evBell v s)⟩
  · intro v s h hv hb
    rw [exec_eventDoorbell, eventHead_of_bad h hv hb]
  · intro v s h hn hv hb hl
    rw [exec_eventDoorbell, eventHead_of_good h hv hn hb, evLost_of_none (s := evHeadAt v s) hl]
    rfl
  · intro v s h hn hv hr hb hl
    have hroom : evRoom (evHeadAt v s) = true := evRoom_iff.mpr ⟨h, hr⟩
    rw [exec_eventDoorbell, eventHead_of_good h hv hn hb, evLost_of_room (s := evHeadAt v s) hl hroom]
    rfl

/-! ### Enables (R362 to R364) -/

theorem exec_ringEnable (k : RingKind) (q : Fin 64) (s : State) : exec (.ringEnable k q) s = .next (enableRing k q s) := rfl

theorem exec_ringDisable (k : RingKind) (q : Fin 64) (s : State) : exec (.ringDisable k q) s = .next (disableRing k q s) := rfl

theorem enableRing_of_on {k : RingKind} {q : Nat} {s : State} (h : rbit s (ringCfg k q) 0 = true) : enableRing k q s = s :=
  if_pos h

theorem enableRing_submission {q : Nat} {s : State} (h : rbit s (ringCfg .submission q) 0 = false) :
    enableRing .submission q s = modSq q (fun r => { r with head := 0, tail := 0, error := false, readFault := false })
      (setRBit (ringCfg .submission q) 0 s) := if_neg (by simp [h])

theorem enableRing_completion {q : Nat} {s : State} (h : rbit s (ringCfg .completion q) 0 = false) :
    enableRing .completion q s = modCq q
      (fun r => { r with head := 0, tail := 0, error := false, epoch := (r.epoch + 1) % 128 })
      (setRBit (ringCfg .completion q) 0 s) := if_neg (by simp [h])

/-- The event ring as it is enabled, before the record of what was lost. -/
def evStart (s : State) : State :=
  { s with hif := { s.hif with evr := { s.hif.evr with head := 0, tail := 0, error := false } } }

theorem enableRing_event {q : Nat} {s : State} (h : rbit s rHifEqCfg 0 = false) :
    enableRing .event q s = evLost (evStart (setRBit rHifEqCfg 0 s)) := if_neg (by simp [ringCfg, h])

/-- Pointers at 0 and EN set leave room in a ring of two entries or more. -/
theorem evRoom_evStart_setRBit (s : State) :
    evRoom (evStart (setRBit rHifEqCfg 0 s)) = decide (1 ≤ rbits s rHifEqCfg 5 1) := by
  have hsize : evSize (evStart (setRBit rHifEqCfg 0 s)) = 2 ^ rbits s rHifEqCfg 5 1 :=
    congrArg (2 ^ ·) (rbits_setRBit_zero (by decide))
  have hen : evEn (evStart (setRBit rHifEqCfg 0 s)) = true := rbit_setRBit_same (by decide)
  have hcount : evCount (evStart (setRBit rHifEqCfg 0 s)) = 0 := by
    rw [evCount, hsize]; simp [evStart]
  rw [Bool.eq_iff_iff, evRoom_iff, decide_eq_true_eq, hcount, hsize]
  constructor
  · rintro ⟨-, h⟩
    by_contra hc
    simp [show rbits s rHifEqCfg 5 1 = 0 by omega] at h
  · intro h
    have := Nat.one_lt_two_pow (n := rbits s rHifEqCfg 5 1) (by omega)
    exact ⟨hen, by omega⟩

/-! ### The registers that a record changes -/

theorem regs_vecSignal (v : Nat) (s : State) : (vecSignal v s).regs = s.regs := by
  unfold vecSignal
  split
  · rfl
  · split <;> rfl

theorem regs_evBatch (src : Nat) (s : State) : (evBatch src s).regs = s.regs := by
  unfold evBatch evWriteback
  split
  · rw [regs_vecSignal]; split <;> rfl
  · rfl

/-- A record of the event ring changes no register but the count of lost records. -/
theorem reg_emitWords {src : Nat} {l : List Word32} {s : State} {o : Nat} (h : o ≠ rHifEqLost) :
    reg (emitWords src l s) o = reg s o := by
  rw [emitWords, reg, regs_evBatch]
  unfold evWrite
  split
  · rfl
  · split
    · rfl
    · exact ((regOnly_countReg rHifEqLost 1 _).2 o).trans (if_neg h)

theorem reg_emitLocal {code src a b c d : Nat} {s : State} {o : Nat} (h : o ≠ rHifEqLost) :
    reg (emitLocal code src a b c d s) o = reg s o := reg_emitWords h

theorem reg_evLost {s : State} {o : Nat} (h : o ≠ rHifEqLost) : reg (evLost s) o = reg s o := by
  unfold evLost
  split
  · rw [reg_emitLocal h]; rfl
  · rfl

/-- After RING_ENABLE a ring is enabled. -/
theorem rbit_enableRing (k : RingKind) (q : Nat) (s : State) : rbit (enableRing k q s) (ringCfg k q) 0 = true := by
  by_cases h : rbit s (ringCfg k q) 0 = true
  · rw [enableRing_of_on h, h]
  · rw [Bool.not_eq_true] at h
    have hset := rbit_setRBit_same (o := ringCfg k q) (n := 0) (s := s) (by decide)
    cases k with
    | submission => rw [enableRing_submission h]; exact hset
    | completion => rw [enableRing_completion h]; exact hset
    | event =>
      rw [enableRing_event h, rbit, reg_evLost (show ringCfg .event q ≠ rHifEqLost from (by decide : rHifEqCfg ≠ _))]
      exact hset

theorem disableRing_submission (q : Nat) (s : State) : disableRing .submission q s =
    modCq q (fun r => { r with outst := r.outst - (sq s q).flight })
      (modSq q (fun r => { r with flight := 0 }) (setRBits (ringCfg .submission q) 0 0 0 s)) := rfl

theorem disableRing_of_ne {k : RingKind} (h : k ≠ .submission) (q : Nat) (s : State) :
    disableRing k q s = setRBits (ringCfg k q) 0 0 0 s := by
  cases k with
  | submission => exact absurd rfl h
  | completion => rfl
  | event => rfl

theorem rbit_disableRing (k : RingKind) (q : Nat) (s : State) : rbit (disableRing k q s) (ringCfg k q) 0 = false := by
  have hclear := rbit_setRBits_zero (ringCfg k q) s
  by_cases h : k = .submission
  · subst h
    rw [disableRing_submission]
    exact hclear
  · rw [disableRing_of_ne h, hclear]

/-- Settles O15: each clause is the case of its kind of ring. -/
theorem ringEnablesAndDisables : Obligations.RingEnablesAndDisables := by
  unfold Obligations.RingEnablesAndDisables
  refine ⟨?_, ?_, ?_, ?_, ?_, ?_, ?_, ?_, ?_, ?_⟩
  · intro k q s h
    rw [exec_ringEnable, enableRing_of_on h]
  · intro q s h
    exact ⟨_, _, (exec_ringEnable .submission q s).trans (congrArg _ (enableRing_submission h)), regOnly_setRBit _ 0 s,
      sqOnly_modSq q _ _⟩
  · intro q s h
    exact ⟨_, _, (exec_ringEnable .completion q s).trans (congrArg _ (enableRing_completion h)), regOnly_setRBit _ 0 s,
      cqOnly_modCq q _ _⟩
  · intro q s h hl
    refine ⟨_, regOnly_setRBit _ 0 s, ?_⟩
    rw [exec_ringEnable, enableRing_event h, evLost_of_none (s := evStart (setRBit rHifEqCfg 0 s)) hl]
    rfl
  · intro q s h hl hr
    refine ⟨_, regOnly_setRBit _ 0 s, ?_⟩
    have hroom := (evRoom_evStart_setRBit s).trans (decide_eq_true hr)
    rw [exec_ringEnable, enableRing_event h, evLost_of_room (s := evStart (setRBit rHifEqCfg 0 s)) hl hroom]
    rfl
  · intro q s h hr
    refine ⟨_, regOnly_setRBit _ 0 s, ?_⟩
    have hroom := (evRoom_evStart_setRBit s).trans (decide_eq_false (by omega))
    rw [exec_ringEnable, enableRing_event h, evLost_of_no_room hroom]
    rfl
  · intro k q s
    exact ⟨_, exec_ringEnable k q s, rbit_enableRing k q s⟩
  · intro q s
    exact ⟨_, _, _, (exec_ringDisable .submission q s).trans (congrArg _ (disableRing_submission q s)),
      regOnly_setRBits _ 0 0 0 s, sqOnly_modSq q _ _, cqOnly_modCq q _ _⟩
  · intro k q s h
    exact ⟨_, (exec_ringDisable k q s).trans (congrArg _ (disableRing_of_ne h q s)), regOnly_setRBits _ 0 0 0 s⟩
  · intro k q s
    exact ⟨_, exec_ringDisable k q s, rbit_disableRing k q s⟩

end Sys2Proof.Machine
end

section
/-! SUPPORT. The start of processing (R575): when it starts, and what it leaves zeroed. -/

namespace Sys2Proof.Machine

theorem exec_processingStart (x : StartIn) (s : State) :
    exec (.processingStart x) s = .next (if startDue s then startProcessing x s else s) := rfl

/-- Processing starts at a cue start of a booted unit with START set, after the core tests of a restart (R575, R576). -/
theorem startDue_iff {s : State} : startDue s = true ↔ s.proc.processing = false ∧
    (s.pwr.mode = .startup ∨ s.pwr.mode = .full ∨ s.pwr.mode = .quiet) ∧ s.pwr.bootDone = true ∧
    rbit s rSysCtl 0 = true ∧ s.time.tb0 = s.proc.cueStart ∧ s.pwr.clocks = 0 ∧ s.proc.stopped = false ∧
    (s.pwr.restarting = true → s.pwr.coreTests = [] ∧ (3 * cueTicks : Nat) ≤ sdiff64 s.time.tb0 s.proc.stopAt) := by
  simp only [startDue, Bool.and_eq_true, Bool.or_eq_true, Bool.not_eq_true', beq_iff_eq, decide_eq_true_eq,
    List.isEmpty_iff]
  cases s.pwr.restarting <;> simp [and_assoc, or_assoc]

/-- The role that UND_CTL.MODE gives at processing start (R470). -/
theorem role_zeroProcessing (s : State) : (zeroProcessing s).pair.role =
    if rbits s rUndCtl 1 0 = 1 then 5 else if rbits s rUndCtl 1 0 = 2 then 7 else 0 := rfl

/-- Settles O29: the conditions of the start, and the state that the start lays down. -/
theorem processingStarts : Obligations.ProcessingStarts := by
  unfold Obligations.ProcessingStarts
  refine ⟨?_, ?_, ?_, ?_, ?_, ?_, ?_⟩
  · intro x s h
    rw [exec_processingStart, h]; rfl
  · intro x s h
    rw [exec_processingStart, h]; rfl
  · intro s h
    obtain ⟨hproc, -, hboot, hstart, hcue, -, hstop, hrestart⟩ := startDue_iff.mp h
    exact ⟨hproc, hboot, hstart, hcue, hstop, hrestart⟩
  · intro s h
    rw [role_zeroProcessing, h]; rfl
  · intro s h
    rw [role_zeroProcessing, h]; rfl
  · intro s h
    rw [role_zeroProcessing, h]; rfl
  · intro s
    exact ⟨_, rfl, rfl, rfl, rfl, rfl, rfl, rfl, rfl, rfl, rfl, rfl, rfl, rfl, rfl, rfl⟩

end Sys2Proof.Machine
end

section
/-! SUPPORT. Fetching submission entries (R371 to R375): the ring whose turn it is, what a fetch reserves, the end of a
fetch of each kind, and the statement assembled from these. -/

namespace Sys2Proof.Machine

/-! ### Inputs (R38, R40) -/

/-- While the unit takes inputs, a completed one joins those of its next Intake under the next sequence of its source. -/
theorem input_of_takes {cls src : Nat} {body : List Byte} {it : Item} {s : State} (h : takesInputs s = true) :
    input cls src body it s = { s with proc := { s.proc with
      inputs := s.proc.inputs ++ [⟨cls, src, smGet 0 s.proc.seqs (256 * cls + src), s.proc.cueNow, false, body, it⟩]
      seqs := smSet 0 s.proc.seqs (256 * cls + src) (smGet 0 s.proc.seqs (256 * cls + src) + 1) } } := if_pos h

theorem input_of_none_taken {cls src : Nat} {body : List Byte} {it : Item} {s : State} (h : takesInputs s = false) :
    input cls src body it s = s := if_neg (by simp [h])

/-! ### The start of a fetch (R371, R372) -/

theorem exec_submissionFetch {q : Nat} {s : State} (h : q < 64) : exec (.submissionFetch q) s = .next (startFetch q s) :=
  if_pos h

theorem exec_submissionFetch_beyond {q : Nat} {s : State} (h : 64 ≤ q) : exec (.submissionFetch q) s = .fault .noSuchUnit :=
  if_neg (Nat.not_lt.mpr h)

/-- The entries that a ring's turn fetches: as its burst, its contents and its completion credit allow. -/
def fetchTurn (s : State) (q : Nat) : Nat :=
  min (min (rbits s (rHifSqCfg + 0x20 * q) 9 6 + 1) (sqCount s q - (sq s q).flight)) (cqCredit s q)

theorem startFetch_of_turn {q : Nat} {s : State} (h : nextRing s = some q) :
    startFetch q s = modHif (fun h => { h with rr := (q + 1) % 64 })
      (modCq q (fun r => { r with outst := r.outst + fetchTurn s q })
        (modSq q (fun r => { r with flight := r.flight + fetchTurn s q }) s)) := if_pos h

theorem startFetch_of_other_turn {q : Nat} {s : State} (h : nextRing s ≠ some q) : startFetch q s = s := if_neg h

theorem sqQualifies_iff {s : State} {q : Nat} : sqQualifies s q = true ↔
    (s.proc.processing = true ∨ s.pwr.recImage = true ∧ q = 0) ∧ s.proc.bookMode ≠ 2 ∧ s.pair.role ≠ 7 ∧
      s.hif.fetchedBytes < 294912 ∧ sqEn s q = true ∧ (sq s q).error = false ∧ (sq s q).flight < sqCount s q ∧
      cqEn s q = true ∧ 1 ≤ cqCredit s q := by
  simp [sqQualifies, inReplay, and_assoc]

theorem of_nextRing {s : State} {q : Nat} (h : nextRing s = some q) : q < 64 ∧ sqQualifies s q = true := by
  have hmem := List.mem_of_find?_eq_some h
  obtain ⟨i, -, rfl⟩ := List.mem_map.mp hmem
  exact ⟨Nat.mod_lt _ (by decide), List.find?_some h⟩

/-! ### The end of a fetch (R371, R374, R375, R381) -/

theorem exec_fetchComplete {q : Nat} {r : FetchResult} {e d : List Byte} {s : State} (h : q < 64) :
    exec (.fetchComplete q r e d) s = .next (fetchEnds q r e d s) := if_pos h

theorem exec_fetchComplete_beyond {q : Nat} {r : FetchResult} {e d : List Byte} {s : State} (h : 64 ≤ q) :
    exec (.fetchComplete q r e d) s = .fault .noSuchUnit := if_neg (Nat.not_lt.mpr h)

section
variable {q : Nat} {r : FetchResult} {e d : List Byte} {s : State}

theorem fetchEnds_of_none_in_flight (hf : (sq s q).flight = 0) (hb : isBlockFetch s q r e d = false) :
    fetchEnds q r e d s = s := by
  simp [fetchEnds, hb, hf]

/-- An entry that cannot be read stops its ring with an error, and the ring's fetches are given up (R375). -/
theorem fetchEnds_of_unreadable (hf : (sq s q).flight ≠ 0) (hb : isBlockFetch s q .entryReadFailed e d = false) :
    fetchEnds q .entryReadFailed e d s = modSq q (fun x => { x with readFault := true })
      (emitLocal 0x6001 145 0 0 0 0 (modSq q (fun x => { x with error := true })
        (modCq q (fun r => { r with outst := r.outst - (sq s q).flight }) (modSq q (fun r => { r with flight := 0 }) s)))) := by
  simp only [fetchEnds, hb, hf, if_false, Bool.false_eq_true]
  rfl

/-- A fetch that ended well goes by the data that its entry brings. -/
theorem fetchEnds_of_ok (hf : (sq s q).flight ≠ 0) (hb : isBlockFetch s q .ok e d = false) :
    fetchEnds q .ok e d s =
      match entryData (uAt e 0 2) (subOf q 0 false false (latchFlags (cq s q).epoch false (padTo 64 (e.take 64)))) d with
      | none => s
      | some l => endFetch q (uAt e 0 2) (latchFlags (cq s q).epoch false (padTo 64 (e.take 64)) ++ l) s := by
  simp only [fetchEnds, hb, hf, if_false, Bool.false_eq_true]
  rfl

end

/-- An entry that is not served aside is latched for Prompter 1 (R371). -/
theorem endFetch_of_latched {q op : Nat} {full : List Byte} {s : State} (h : servedAside s op = false) :
    endFetch q op full s = latchEntry q full (modHif (fun h => { h with
        outstanding := h.outstanding ++ [(op, subOf q (bookCue s s.proc.cueNow + 1) false false full)] })
      (modSq q (fun x => { x with head := (x.head + 1) % (2 * sqSize s q), flight := x.flight - 1 }) s)) := by
  simp only [endFetch, h]
  rfl

/-- The latched copy of an entry, while inputs are taken: one more input of class 9, its bytes counted (R38, R374). -/
theorem latchEntry_of_takes {q : Nat} {body : List Byte} {s : State} (h : takesInputs s = true) :
    latchEntry q body s = { s with
      proc := { s.proc with
        inputs := s.proc.inputs ++
          [⟨9, q, smGet 0 s.proc.seqs (256 * 9 + q), s.proc.cueNow, false, body, .message body.length⟩]
        seqs := smSet 0 s.proc.seqs (256 * 9 + q) (smGet 0 s.proc.seqs (256 * 9 + q) + 1) }
      hif := { s.hif with fetchedBytes := s.hif.fetchedBytes + (16 + 8 * ceilDiv body.length 8) } } :=
  input_of_takes (s := countFetched (16 + 8 * ceilDiv body.length 8) s) h

/-- The unit after an entry is latched: the ring has moved on, the command is outstanding, and its copy waits. -/
def latchedAt (q op : Nat) (full : List Byte) (s : State) : State :=
  { s with
    proc := { s.proc with
      inputs := s.proc.inputs ++
        [⟨9, q, smGet 0 s.proc.seqs (256 * 9 + q), s.proc.cueNow, false, full, .message full.length⟩]
      seqs := smSet 0 s.proc.seqs (256 * 9 + q) (smGet 0 s.proc.seqs (256 * 9 + q) + 1) }
    hif := { s.hif with
      sq := smMod {} s.hif.sq q fun x => { x with head := (x.head + 1) % (2 * sqSize s q), flight := x.flight - 1 }
      outstanding := s.hif.outstanding ++ [(op, subOf q (bookCue s s.proc.cueNow + 1) false false full)]
      fetchedBytes := s.hif.fetchedBytes + (16 + 8 * ceilDiv full.length 8) } }

theorem endFetch_of_latched_taken {q op : Nat} {full : List Byte} {s : State} (h : servedAside s op = false)
    (ht : takesInputs s = true) : endFetch q op full s = latchedAt q op full s := by
  rw [endFetch_of_latched h, latchEntry_of_takes (by exact ht)]
  rfl

theorem sq_latchedAt (q op : Nat) (full : List Byte) (s : State) : sq (latchedAt q op full s) q =
    { sq s q with head := ((sq s q).head + 1) % (2 * sqSize s q), flight := (sq s q).flight - 1 } := by
  rw [sq, latchedAt, smGet_mod_same]
  rfl

theorem endFetch_of_aside {q op : Nat} {full : List Byte} {s : State} (h : servedAside s op = true) :
    endFetch q op full s = serveAside op (subOf q s.proc.cueNow true false full) (modHif (fun h => { h with
        outstanding := h.outstanding ++ [(op, subOf q s.proc.cueNow true false full)] })
      (modSq q (fun x => { x with head := (x.head + 1) % (2 * sqSize s q), flight := x.flight - 1 }) s)) := by
  simp only [endFetch, h]
  rfl

/-- The data of an entry are none, or the command's length of bytes of a buffer within R360. -/
theorem of_entryData_some {op : Nat} {c : Sub} {d l : List Byte} (h : entryData op c d = some l) :
    l = [] ∨ l = d.take c.length ∧ l.length = c.length ∧ c.length ≤ 65472 := by
  unfold entryData at h
  cases hspec : rowSpec (commandRow op c) with
  | none => simp_all
  | some x =>
    obtain ⟨k, c'⟩ := x
    simp only [hspec] at h
    by_cases hr : (k.use == .read && bufOk k.use c) = true
    · simp only [hr, Bool.not_true, Bool.false_eq_true, if_false] at h
      by_cases hd : d.length < c.length
      · simp [hd] at h
      · simp only [if_neg hd, Option.some.injEq] at h
        obtain ⟨huse, hbuf⟩ := Bool.and_eq_true_iff.mp hr
        rw [beq_iff_eq.mp huse] at hbuf
        simp only [bufOk, Bool.and_eq_true, decide_eq_true_eq] at hbuf
        obtain ⟨⟨⟨-, -⟩, hlen⟩, -⟩ := hbuf
        exact .inr ⟨h.symm, by rw [← h, List.length_take]; omega, hlen⟩
    · rw [Bool.not_eq_true] at hr
      simp only [hr, Bool.not_false, if_true, Option.some.injEq] at h
      exact .inl h.symm

/-- Data are missing only while fewer bytes have arrived than the command names (R374). -/
theorem of_entryData_none {op : Nat} {c : Sub} {d : List Byte} (h : entryData op c d = none) : d.length < c.length := by
  unfold entryData at h
  by_contra hd
  dsimp only at h
  split_ifs at h

/-- Settles O16: the turn of a ring, then the ends of a fetch by what the read brought. -/
theorem submissionFetches : Obligations.SubmissionFetches := by
  unfold Obligations.SubmissionFetches
  refine ⟨?_, ?_, ?_, ?_, ?_, ?_, ?_, ?_, ?_, ?_, ?_, ?_⟩
  · intro q s hq h
    exact ⟨_, _, _, fetchTurn s q, (exec_submissionFetch hq).trans (congrArg _ (startFetch_of_turn h)), rfl,
      sqOnly_modSq q _ s, cqOnly_modCq q _ _, rfl⟩
  · intro q s hq h
    rw [exec_submissionFetch hq, startFetch_of_other_turn h]
  · intro q s h
    obtain ⟨hq, hqual⟩ := of_nextRing h
    obtain ⟨hproc, hbook, hrole, hbytes, hen, herr, hfl, hcen, hcred⟩ := sqQualifies_iff.mp hqual
    exact ⟨hq, hrole, hbook, hbytes, hen, herr, hfl, hcen, hcred, hproc⟩
  · intro q s h
    exact exec_submissionFetch_beyond h
  · intro q r e d s h
    exact exec_fetchComplete_beyond h
  · intro q r e d s hq hf hb
    rw [exec_fetchComplete hq, fetchEnds_of_none_in_flight hf hb]
  · intro q e d s hq hf hb
    exact ⟨_, _, _, _, (exec_fetchComplete hq).trans (congrArg _ (fetchEnds_of_unreadable hf hb)), sqOnly_modSq q _ s,
      cqOnly_modCq q _ _, rfl, sqOnly_modSq q _ _⟩
  · rintro q e d s b0 l hq hf hb ha ht rfl hl
    have hend := fetchEnds_of_ok hf hb
    rw [hl] at hend
    exact ⟨latchedAt q _ _ s, _, (exec_fetchComplete hq).trans (congrArg _ (hend.trans (endFetch_of_latched_taken ha ht))),
      rfl, rfl, rfl, rfl, congrArg Sq.head (sq_latchedAt ..), congrArg Sq.flight (sq_latchedAt ..), rfl⟩
  · rintro q e d s b0 l hq hf hb ha rfl hl
    have hend := fetchEnds_of_ok hf hb
    rw [hl] at hend
    exact ⟨_, _, (exec_fetchComplete hq).trans (congrArg _ (hend.trans (endFetch_of_aside ha))), sqOnly_modSq q _ s, rfl⟩
  · intro q e d s hq hf hb hl
    have hend := fetchEnds_of_ok hf hb
    rw [hl] at hend
    rw [exec_fetchComplete hq, hend]
  · intro op c d l h
    exact of_entryData_some h
  · intro op c d h
    exact of_entryData_none h

end Sys2Proof.Machine
end

section
/-! SUPPORT. What becomes of a host command that its engine meets (R51 to R56, R378, R381, R497): the row of each
opcode, what charging an engine leaves alone, the outcomes one by one, and the statement assembled from these. -/

namespace Sys2Proof.Machine

/-! ### Rows (R376) -/

/-- A latched command's row runs its opcode's entry; SELFTEST_RUN alone is always served aside. -/
theorem exec_of_rowSpec {i : Instr} {k : CmdSpec} {c : Sub} (h : rowSpec i = some (k, c))
    (hi : ∀ x n, i ≠ .selftestRun x n) (s : State) : exec i s = .next (runCmd k (.row i) c s) := by
  cases i with
  | selftestRun x n => exact absurd rfl (hi x n)
  | _ => cases h <;> rfl

theorem exec_selftestRun (c : Sub) (n : Nat) (s : State) : exec (.selftestRun c n) s = .next (if s.proc.processing then
    runCmd (cmdSelftest n) (.row (.selftestRun c n)) { c with aside := true } s else s) := rfl

/-- The opcodes that R381 serves aside on an Understudy. -/
theorem aside_iff_of_rowSpec {i : Instr} {k : CmdSpec} {c : Sub} (h : rowSpec i = some (k, c)) :
    k.aside = true ↔ (∃ c, i = .nop c) ∨ (∃ c, i = .configRead c) ∨
    (∃ c, i = .imageStage c) ∨ (∃ c b, i = .imageVerify c b) ∨ (∃ c, i = .imageActivate c) ∨
    (∃ c, i = .imageConfirm c) ∨ (∃ c, i = .roleRequest c) ∨ (∃ c, i = .callboardRead c) ∨
    (∃ c n, i = .selftestRun c n) := by
  cases i <;> cases h <;> simp [cmdReserved, cmdNop, cmdConfigApply, cmdConfigRead, cmdNodeSend, cmdFloodSend, cmdRawTx,
    cmdOvertureSend, cmdRxPost, cmdNodeAdmit, cmdNodeEvict, cmdNodeQuery, cmdTableRead, cmdTableWrite, cmdTableUnlock,
    cmdScheduleSet, cmdTimeSet, cmdPulseProgram, cmdCapture, cmdImageStage, cmdImageVerify, cmdImageActivate,
    cmdImageConfirm, cmdTourStart, cmdRoleRequest, cmdCallboardRead, cmdSelftest, cmdKeyInstall]

/-- Prompter 0's view of the contexts does not read what an engine has left of its budget. -/
theorem ctxView_charge (e n : Nat) (s : State) : ctxView (charge e n s) = charge e n (ctxView s) := by
  unfold ctxView
  rw [charge_mesh]
  generalize s.mesh.ctxOps = l
  induction l generalizing s with
  | nil => rfl
  | cons o l ih =>
    simp only [List.foldl_cons]
    rw [← ih]
    congr 1
    cases o <;> rfl

/-- Nor do the judgements of an opcode's entry. -/
theorem charge_of_rowSpec {i : Instr} {k : CmdSpec} {c : Sub} (h : rowSpec i = some (k, c))
    (hi : ∀ x n, i ≠ .selftestRun x n) (e n : Nat) (s : State) :
    k.wrong c (charge e n s) = k.wrong c s ∧ k.check c (charge e n s) = k.check c s ∧
      k.engine c (charge e n s) = k.engine c s := by
  cases i with
  | selftestRun x n => exact absurd rfl (hi x n)
  | nodeAdmit c =>
    cases h
    refine ⟨?_, rfl, rfl⟩
    simp only [cmdNodeAdmit, ctxView_charge]
    rfl
  | _ => cases h <;> exact ⟨rfl, rfl, rfl⟩

theorem judged_charge {k : CmdSpec} {c : Sub} {e n : Nat} {s : State} (hw : k.wrong c (charge e n s) = k.wrong c s)
    (he : k.engine c (charge e n s) = k.engine c s) : judged k c (charge e n s) = judged k c s := by
  simp only [judged, hw, he]
  rfl

theorem tagOf_charge (c : Sub) (e n : Nat) (s : State) : tagOf (charge e n s) c = tagOf s c := rfl

theorem mustHold_charge (c : Sub) (e n : Nat) (s : State) : mustHold c (charge e n s) = mustHold c s := rfl

theorem tagOf_of_aside {c : Sub} {s : State} (h : c.aside = true) : tagOf s c = none := by simp [tagOf, h]

/-! ### Whether its engine meets the command (R53) -/

theorem runCmd_of_aside {k : CmdSpec} {it : Item} {c : Sub} {s : State} (h : c.aside = true) :
    runCmd k it c s = handle k 9 c s := if_pos h

theorem runCmd_of_not_aside {k : CmdSpec} {it : Item} {c : Sub} {s : State} (h : c.aside = false) :
    runCmd k it c s = takeItem (k.engine c s) (cmdCost k c s) it (handle k (k.engine c s) c) s :=
  if_neg (by simp [h])

theorem takeItem_of_stopped {e cost : Nat} {it : Item} {f : State → State} {s : State}
    (h : s.proc.processing = false) : takeItem e cost it f s = s := if_pos (by simp [h])

theorem takeItem_of_held {e cost : Nat} {it : Item} {f : State → State} {s : State} (hp : s.proc.processing = true)
    (hh : engHeld s e cost = true) : takeItem e cost it f s = defer e it s := by
  rw [takeItem, if_neg (by simp [hp]), if_pos hh]

theorem cmdCost_of_judged {k : CmdSpec} {c : Sub} {s : State} {x : Nat} (h : judged k c s = some x) :
    cmdCost k c s = 10 := if_pos (by simp [h])

theorem cmdCost_of_held {k : CmdSpec} {c : Sub} {s : State} (h : mustHold c s = true) : cmdCost k c s = 10 :=
  if_pos (by simp [h])

theorem accepted_of_held {k : CmdSpec} {e : Nat} {c : Sub} {s : State} (hc : k.check c s = none)
    (hm : mustHold c s = true) :
    accepted k e c s = modProc (fun p => { p with held := p.held ++ [⟨e, c.target, k.op, c⟩] }) s := by
  simp only [accepted, hc, hm, if_true]

section
variable {i : Instr} {k : CmdSpec} {c : Sub} {s : State} (h : rowSpec i = some (k, c))
  (hi : ∀ x n, i ≠ .selftestRun x n) (ha : c.aside = false)
include h hi ha

theorem exec_of_taken (ht : canTake s (k.engine c s) (cmdCost k c s) = true) :
    exec i s = .next (handle k (k.engine c s) c (charge (k.engine c s) (cmdCost k c s) s)) := by
  rw [exec_of_rowSpec h hi, runCmd_of_not_aside ha, take_item ht]

/-- A judged command that its engine takes is refused, at 10 work units (R51, R378). -/
theorem exec_of_judged {x : Nat} (ht : canTake s (k.engine c s) 10 = true) (hj : judged k c s = some x)
    (htag : tagOf s c = none) :
    exec i s = .next (refuse (k.engine c s) k.op x c (charge (k.engine c s) 10 s)) := by
  obtain ⟨hw, -, he⟩ := charge_of_rowSpec h hi (k.engine c s) 10 s
  have hcost := cmdCost_of_judged hj
  rw [exec_of_taken h hi ha (by rwa [hcost]), hcost,
    handle_of_judged ((tagOf_charge c _ 10 s).trans htag) ((judged_charge hw he).trans hj)]

/-- A command that waits for its target cue joins the held ones, at 10 work units (R51, R55). -/
theorem exec_of_must_hold (ht : canTake s (k.engine c s) 10 = true) (hj : judged k c s = none)
    (htag : tagOf s c = none) (hc : k.check c s = none) (hm : mustHold c s = true) :
    exec i s = .next (modProc (fun p => { p with held := p.held ++ [⟨k.engine c s, c.target, k.op, c⟩] })
      (charge (k.engine c s) 10 s)) := by
  obtain ⟨hw, hck, he⟩ := charge_of_rowSpec h hi (k.engine c s) 10 s
  have hcost := cmdCost_of_held (k := k) hm
  rw [exec_of_taken h hi ha (by rwa [hcost]), hcost,
    handle_of_accepted ((tagOf_charge c _ 10 s).trans htag) ((judged_charge hw he).trans hj),
    accepted_of_held (hck.trans hc) hm]

omit ha in
/-- A command that passes every judgement has its action run on the charged state. -/
theorem exec_of_ready (hr : ready k c s = true) :
    exec i s = .next (k.act (k.engine c s) c (charge (k.engine c s) (k.cost c s) s)) := by
  rw [exec_of_rowSpec h hi, ready_run hr
    (fun e n => judged_charge (charge_of_rowSpec h hi e n s).1 (charge_of_rowSpec h hi e n s).2.2)
    (fun e n => (charge_of_rowSpec h hi e n s).2.1) (fun e n => tagOf_charge c e n s)]

end

/-! ### Service aside (R381) -/

/-- On an Understudy an opcode that is not served aside is answered NOT_LEAD at once. -/
theorem handle_of_not_lead {k : CmdSpec} {c : Sub} {s : State} (ha : c.aside = true) (hu : isUnderstudy s = true)
    (hk : k.aside = false) : handle k 9 c s = completeAside c stNotLead [] [] s := by
  rw [handle_of_judged (tagOf_of_aside ha) (judged_of_not_lead hu ha hk), refuse, if_neg (by decide), replySt, reply,
    if_pos ha]

theorem completeAside_of_stale {c : Sub} {st : Nat} {r d : List Byte} {s : State} (h : epochOk s c = false) :
    completeAside c st r d s = completeWrite c st r d s.proc.cueNow true s := by
  simp [completeAside, h]

/-! ### The statement -/

/-- Settles O5: each clause is the lemma on what the engine, or Prompter 1 aside, does with the command. -/
theorem hostCommandOutcomes : Obligations.HostCommandOutcomes := by
  unfold Obligations.HostCommandOutcomes
  refine ⟨?stopped, ?held, ?refused, ?wrong, ?waits, ?runs, ?aside, ?selftest, ?notLead, fun i k c => aside_iff_of_rowSpec,
    fun c st r d s h _ => completeAside_of_stale h⟩
  case stopped =>
    intro i k c s h ha hp
    by_cases hi : ∀ x n, i ≠ .selftestRun x n
    · rw [exec_of_rowSpec h hi, runCmd_of_not_aside ha, takeItem_of_stopped hp]
    · push Not at hi
      obtain ⟨x, n, rfl⟩ := hi
      rw [exec_selftestRun, if_neg (by simp [hp])]
  case held =>
    intro i k c s h hi ha hp hh
    refine ⟨_, ?_, engOnly_modEng (k.engine c s)
      (fun g => { g with blocked := true, deferred := g.deferred ++ [(s.proc.itemCue, .row i)] }) s⟩
    rw [exec_of_rowSpec h hi, runCmd_of_not_aside ha, takeItem_of_held hp hh]
    rfl
  case refused =>
    intro i k c s x h hi ha ht hj htag hx
    refine ⟨_, (exec_of_judged h hi ha ht hj htag).trans (congrArg _ (refuse_of_ne_wrong_state ha hx)), ?_⟩
    exact paid_of rfl rfl
  case wrong =>
    intro i k c s h hi ha ht hj htag
    refine ⟨_, (exec_of_judged h hi ha ht hj htag).trans (congrArg _ (refuse_wrong_state ha)), ?_⟩
    exact paid_of rfl rfl
  case waits =>
    intro i k c s h hi ha ht hj htag hc hm
    exact ⟨_, exec_of_must_hold h hi ha ht hj htag hc hm, paid_of rfl rfl⟩
  case runs =>
    intro i k c s h hi hr
    exact exec_of_ready h hi hr
  case aside =>
    intro i k c s h hi ha
    rw [exec_of_rowSpec h hi, runCmd_of_aside ha]
  case selftest =>
    intro c n s hp
    rw [exec_selftestRun, if_pos hp, runCmd_of_aside rfl]
  case notLead =>
    intro i k c s h ha hu hk
    have hi : ∀ x n, i ≠ .selftestRun x n := by
      rintro x n rfl
      cases h
      exact Bool.noConfusion hk
    rw [exec_of_rowSpec h hi, runCmd_of_aside ha, handle_of_not_lead ha hu hk]

end Sys2Proof.Machine
end

section
/-! SUPPORT. The action of a ready host command, and NOP, reserved opcodes, CONFIG_APPLY, CONFIG_READ and RX_POST
(R376, R379, R380, R383), RAW_TX, OVERTURE_SEND, TIME_SET, PULSE_PROGRAM and CAPTURE_SPECTRUM: what each runs, and the
two statements assembled from these. -/

namespace Sys2Proof.Machine

/-! ### Completions of a latched command -/

theorem reply_of_latched {e op st : Nat} {c : Sub} {r d : List Byte} {s : State} (h : c.aside = false) :
    reply e op st c r d s = withOut e (.complete c op st r d) s := if_neg (by simp [h])

/-- The record that CONFIG_READ answers without PENDING: the one in effect (R380). -/
theorem readRecord_in_effect (s : State) (t : Nat) : readRecord s t false = (cfgBytes s t, (cfgOf s t).gen) := rfl

theorem readRecord_waiting {s : State} {t : Nat} {b : List Byte} {g : Nat} {n : CueNo}
    (h : (cfgOf s t).wait = some (b, g, n)) : readRecord s t true = (b, g) := by
  simp only [readRecord, h]

/-! ### The actions -/

theorem act_cmdNop {e : Nat} {c : Sub} {s : State} (h : c.aside = false) :
    cmdNop.act e c s = withOut e (.complete c 0x0001 stOk [] []) s := replySt_of_latched h

theorem act_cmdConfigApply {e : Nat} {c : Sub} {s : State} (h : c.aside = false) :
    cmdConfigApply.act e c s = withOut e (.complete c 0x0010 stOk
      (le 4 ((presentGen s (pU c 32 2) + 1) % 2 ^ 32) ++ le 4 (cueOfEffect s (pU c 32 2) c.data).toNat) [])
      { s with cfgs := smSet {} s.cfgs (pU c 32 2) { cfgOf s (pU c 32 2) with
        wait := some (c.data, (presentGen s (pU c 32 2) + 1) % 2 ^ 32, cueOfEffect s (pU c 32 2) c.data) } } :=
  reply_of_latched h

theorem act_cmdConfigRead {e : Nat} {c : Sub} {s : State} (h : c.aside = false) {b : List Byte} {g : Nat}
    (hr : readRecord s (pU c 32 2) (pU c 34 2 == 1) = (b, g)) :
    cmdConfigRead.act e c s = withOut e (.complete c 0x0011 stOk (le 4 g ++ le 4 b.length) b) s := by
  simp only [cmdConfigRead, hr, reply_of_latched h]

/-- Settles O7: each command's action on the charged state. -/
theorem simpleHostCommands : Obligations.SimpleHostCommands := by
  unfold Obligations.SimpleHostCommands
  refine ⟨?_, ?_, ?_, ?_, ?_, ?_⟩
  · intro c s h
    exact ⟨_, (exec_of_ready rfl (by simp) h).trans (congrArg _ (act_cmdNop (ready_aside h))), paid_of rfl rfl⟩
  · intro op c s ha hf ht hc
    refine ⟨_, (exec_of_judged (k := cmdReserved op.toNat) rfl (by simp) ha hc (judged_of_bad_form (.inr (.inl ha)) hf (.inr (.inr (.inl rfl)))) ht).trans
      (congrArg _ (refuse_of_ne_wrong_state ha (by decide))), paid_of rfl rfl⟩
  · intro c s h
    exact ⟨_, (exec_of_ready rfl (by simp) h).trans (congrArg _ (act_cmdConfigApply (ready_aside h))), paid_of rfl rfl⟩
  · intro c s h hp
    have hr (t : State) : readRecord t (pU c 32 2) (pU c 34 2 == 1) = (cfgBytes t (pU c 32 2), (cfgOf t (pU c 32 2)).gen) := by
      rw [hp]; rfl
    exact ⟨_, (exec_of_ready rfl (by simp) h).trans (congrArg _ (act_cmdConfigRead (ready_aside h) (hr _))),
      paid_of rfl rfl⟩
  · intro c s b g n h hp hw
    have hr (e m : Nat) : readRecord (charge e m s) (pU c 32 2) (pU c 34 2 == 1) = (b, g) := by
      rw [hp]; exact readRecord_waiting hw
    exact ⟨_, (exec_of_ready rfl (by simp) h).trans (congrArg _ (act_cmdConfigRead (ready_aside h) (hr _ _))),
      paid_of rfl rfl⟩
  · intro c s h
    exact ⟨_, exec_of_ready rfl (by simp) h, paid_of rfl rfl⟩

/-! ### Requests and captures -/

theorem timeSetDo_of_set {c : Sub} {s : State} (h : pU c 33 1 = 0) :
    timeSetDo c s = stepRecord (pU c 32 1) 0 (sdiff64 (BitVec.ofNat 64 (pU c 40 8)) (tbNext s (pU c 32 1)).1.v)
      (decide_ (pU c 32 1) (.set (BitVec.ofNat 64 (pU c 40 8)) (pS c 36 4)) s) := by
  simp only [timeSetDo, h]

/-- TIME_SET of TB3 with a value: it takes effect at the next cue, and the command completes. -/
theorem act_cmdTimeSet_set_tb3 {e : Nat} {c : Sub} {s : State} (h : pU c 33 1 = 0) (hk : pU c 32 1 = 3) :
    ∃ outs, cmdTimeSet.act e c s = { s with
      proc := { s.proc with outs := outs }
      time := { s.time with tb3 := { s.time.tb3 with
        pend := s.time.tb3.pend ++ [.set (BitVec.ofNat 64 (pU c 40 8)) (pS c 36 4)] } } } := by
  simp only [cmdTimeSet, timeSetDo_of_set h, hk]
  exact ⟨_, rfl⟩

/-- A capture as it stands at once after its command: its gain is taken when its cue has come. -/
def captureNew (c : Sub) (s : State) : Capture :=
  if 0 ≤ sdiff32 s.proc.cueNow (captureStart c) then
    ⟨c, captureCues c, captureStart c, some (port s (pU c 32 1)).gain, !portOn s (pU c 32 1)⟩
  else ⟨c, captureCues c, captureStart c, none, false⟩

theorem captureAct_of_later {e : Nat} {c : Sub} {s : State} (h : sdiff32 s.proc.procCue (captureStart c) < 0) :
    captureAct e c s = modHif (fun h => { h with capture := some (captureNew c s) }) s := by
  have hdue : decide (0 ≤ sdiff32 s.proc.procCue (captureStart c)) = false := decide_eq_false (by omega)
  simp only [captureAct, hdue, Bool.false_eq_true, if_false, captureCue, captureNew, modHif, Option.map_some,
    Option.isNone_none, Bool.true_and, decide_eq_true_eq]
  split <;> rfl

theorem captureNew_gain_dead (c : Sub) (s : State) : ∃ g d, captureNew c s = ⟨c, captureCues c, captureStart c, g, d⟩ ∧
    (sdiff32 s.proc.cueNow (captureStart c) < 0 → g = none ∧ d = false) := by
  rw [captureNew]
  split
  · exact ⟨_, _, rfl, fun h => absurd h (by omega)⟩
  · exact ⟨_, _, rfl, fun _ => ⟨rfl, rfl⟩⟩

/-- Settles O8: each command's action on the charged state. -/
theorem requestAndTimeCommands : Obligations.RequestAndTimeCommands := by
  unfold Obligations.RequestAndTimeCommands
  refine ⟨?_, ?_, ?_, ?_, ?_⟩
  · intro c s h
    exact ⟨_, _, _, exec_of_ready rfl (by simp) h, paid_of rfl rfl, rfl, rfl, rfl, rfl, rfl, rfl, rfl, rfl, rfl, rfl, rfl,
      rfl, rfl, rfl⟩
  · intro c s h
    exact ⟨_, _, _, exec_of_ready rfl (by simp) h, paid_of rfl rfl, rfl, rfl, rfl, rfl, rfl, rfl, rfl, rfl, rfl, rfl⟩
  · intro c s h ho hk
    obtain ⟨outs, ht⟩ := act_cmdTimeSet_set_tb3 (e := cmdTimeSet.engine c s)
      (s := charge (cmdTimeSet.engine c s) (cmdTimeSet.cost c s) s) ho hk
    exact ⟨_, (exec_of_ready rfl (by simp) h).trans (congrArg _ ht), rfl, rfl⟩
  · intro c s h
    exact ⟨_, (exec_of_ready rfl (by simp) h).trans (congrArg _ (replySt_of_latched (ready_aside h))), paid_of rfl rfl⟩
  · intro c s h hd
    obtain ⟨g, d, hnew, hlater⟩ := captureNew_gain_dead c (charge (cmdCapture.engine c s) (cmdCapture.cost c s) s)
    exact ⟨_, g, d, (exec_of_ready rfl (by simp) h).trans (congrArg _ (captureAct_of_later (e := cmdCapture.engine c s) hd)), hlater,
      paid_of (by rw [hnew]; rfl) rfl⟩

end Sys2Proof.Machine
end

section
/-! SUPPORT. The node commands (R204, R236, R261 to R266, R283): what each runs on the node's context, and the
statement assembled from these. -/

namespace Sys2Proof.Machine

/-! ### NODE_SEND and FLOOD_SEND -/

/-- The downlink that a NODE_SEND asks for (R261). -/
def sendDown (c : Sub) (s : State) : Downlink :=
  { id := s.mesh.items, cmd := some c, dest := cmdNode c, payload := c.data, ack := bit (pU c 36 2) 0
    wake := bit (pU c 36 2) 1, coexPri := bit (pU c 36 2) 2, mic16 := bit (pU c 36 2) 3, tries := pU c 38 1 + 1
    expiry := s.proc.procCue + BitVec.ofNat 32 (pU c 40 2) }

/-- A NODE_SEND that nothing refuses, of a node that need not be woken, waits as the last downlink of its node. -/
theorem nodeSend_of_queued {e : Nat} {c : Sub} {s : State}
    (hr : downRefusal s (cmdNode c) c.data.length (bit (pU c 36 2) 3) = none)
    (hd : (node s (cmdNode c)).st = .dormant → bit (pU c 36 2) 1 = false) :
    nodeSend e c s = modNode (cmdNode c) (fun n => { n with downs := n.downs ++ [sendDown c s] })
      (modMesh (fun m => { m with items := m.items + 1 }) s) := by
  simp only [nodeSend, hr, addDown]
  rw [if_neg]
  · rfl
  · rintro ⟨h1, h2⟩
    exact Bool.noConfusion ((hd h1).symm.trans h2)

/-- The flood that an unsecured FLOOD_SEND asks for (R283). -/
def plainFlood (c : Sub) (s : State) : Flood :=
  { id := s.mesh.items, cmd := some c, scope := BitVec.ofNat 8 (pU c 32 1), grand := bit (pU c 33 1) 0
    seq := BitVec.ofNat 16 (8 * s.mesh.floodCnt), frame := frameBytes (ownFlood s (pU c 34 1) false c.data)
    sentIn := [], sentOk := 0, tries := [], fail := 0
    planned := (floodEntries s (BitVec.ofNat 8 (pU c 32 1)) (bit (pU c 33 1) 0)).length, lastTx := 0 }

theorem floodSend_of_plain {e : Nat} {c : Sub} {s : State} (h : bit (pU c 33 1) 1 = false) :
    floodSend e c s = { s with mesh := { s.mesh with
      seqs := smMod 0 s.mesh.seqs 0 (fun q => (q + 1) % 256), floodCnt := (s.mesh.floodCnt + 1) % 8192
      items := s.mesh.items + 1, floods := s.mesh.floods ++ [plainFlood c s] } } := by
  simp only [floodSend, h, Bool.false_eq_true, if_false]
  rfl

/-! ### NODE_ADMIT, NODE_EVICT and NODE_QUERY -/

theorem nodeAdmit_of_placed {e i : Nat} {c : Sub} {s s1 : State}
    (h : allocNode (BitVec.ofNat 64 (pU c 32 8)) (pU c 40 1 == 1) (pU c 41 1) .admitted true s = (.inr i, s1)) :
    nodeAdmit e c s = withOut e (.complete c 0x0030 stOk (le 4 i) []) s1 := by
  simp only [nodeAdmit, h]
  rfl

/-- A context as it starts (R236). -/
def placedNode (eui : BitVec 64) (grand : Bool) (pan short : Nat) (st : NodeSt) (byAdmit : Bool) (s : State) : Node :=
  { st := st, grand := grand, pan := pan, short := short, eui := eui, byAdmit := byAdmit
    stCue := s.proc.procCue, lastCue := s.proc.procCue }

/-- A context that is given a place is asked for as it starts, with the keys to be derived for it (R236). -/
theorem of_allocNode_placed {eui : BitVec 64} {grand : Bool} {pan i : Nat} {st : NodeSt} {byAdmit : Bool} {s s1 : State}
    (h : allocNode eui grand pan st byAdmit s = (.inr i, s1)) : ∃ a, s1 = { s with mesh := { s.mesh with
      ctxOps := s.mesh.ctxOps ++ [.place i (placedNode eui grand pan a st byAdmit s)]
      ops := s.mesh.ops ++ [.addKey i false eui] } } := by
  unfold allocNode at h
  dsimp only at h
  split at h
  · cases h
  · split at h
    · split at h
      · cases h
      · cases h
        exact ⟨_, rfl⟩
    · cases h
    · cases h

theorem flushNode_of_none {i : Nat} {s : State} (hd : (node s i).downs = []) (hu : (node s i).upd = none) :
    flushNode i s = s := by
  simp only [flushNode, hd, hu, List.foldl_nil]

/-- NODE_EVICT with notice of a node that nothing waits for: it is left to leave (R265). -/
theorem nodeEvict_of_notice {e : Nat} {c : Sub} {s : State} (hn : bit (pU c 37 1) 0 = true)
    (hd : (node s (cmdNode c)).downs = []) (hu : (node s (cmdNode c)).upd = none) :
    nodeEvict e c s = modNode (cmdNode c) (fun n => { n with
      st := .leaving, stCue := s.proc.procCue, leaveSent := false
      leave := some (pU c 36 1, some c, s.proc.procCue + BitVec.ofNat 32 (cfgU s recFwd 10 2)) }) s := by
  simp only [nodeEvict, hn, if_true, flushNode_of_none hd hu]

theorem length_leI (n : Nat) (v : Int) : (leI n v).length = n := by rw [leI, length_le]

/-- The report of a node after its number and its state (R266). -/
def reportRest (s : State) (i : Nat) : List Byte :=
  let n := node s i
  let a := isAlloc n
  le 1 (ofBool n.grand) ++ le 1 (ofBool (a && isDirect s i)) ++
    le 1 (n.caps.toNat % 256) ++ le 8 n.eui.toNat ++ le 4 (if a then nodeAddr s i else 0) ++ le 4 n.lastCue.toNat ++
    le 4 n.event.toNat ++ le 1 (min 255 n.misses) ++ le 1 n.downs.length ++ le 1 n.hop ++ le 1 n.lat ++
    le 2 n.intv ++ le 2 n.sup ++ le 2 n.mapId ++ le 2 0 ++ leI 4 n.rho ++ le 4 (n.guardT * 10 / 1024) ++
    le 8 n.arrival.toNat ++ le 4 n.parent.toNat ++ le 4 0

theorem nodeReport_eq (s : State) (i : Nat) :
    nodeReport s i = le 4 i ++ le 1 (stCode (node s i).st) ++ reportRest s i := by
  unfold nodeReport reportRest
  dsimp only
  generalize node s i = n, isDirect s i = d, nodeAddr s i = x
  simp only [List.append_assoc]

theorem length_reportRest (s : State) (i : Nat) : (reportRest s i).length = 59 := by
  have hrho := length_leI 4 (node s i).rho
  unfold reportRest
  simp only [List.length_append, length_le, hrho]

theorem act_cmdNodeQuery (e : Nat) (c : Sub) (s : State) : cmdNodeQuery.act e c s =
    withOut e (.complete c 0x0032 stOk [] (le 4 (cmdNode c) ++ le 1 (stCode (node s (cmdNode c)).st) ++
      reportRest s (cmdNode c))) s := by
  rw [← nodeReport_eq]; rfl

/-! ### SCHEDULE_SET -/

theorem takeUpdate_of_none {e : Word32} {n : Node} (h : n.upd = none) : takeUpdate e n = n := by
  simp only [takeUpdate, h]

/-- SCHEDULE_SET of a node with no change waiting: the change waits for its event (R204). -/
theorem scheduleSet_of_none {e : Nat} {c : Sub} {s : State} (hu : (node s (cmdNode c)).upd = none) :
    scheduleSet e c s = modNode (cmdNode c) (fun n => { n with upd := some {
        event := eventAt (node s (cmdNode c)) s.proc.procStart + BitVec.ofNat 32 (max 8 (3 * (n.lat + 1)))
        intv := pU c 36 2, lat := pU c 38 2, sup := pU c 40 2
        map := if bit (pU c 42 2) 0 then BitVec.ofNat 128 (pU c 44 16) else n.map, cmd := some c } })
      (modNode (cmdNode c) (takeUpdate (eventAt (node s (cmdNode c)) s.proc.procStart)) s) := by
  have hlapsed : updateLapsed (cmdNode c) (eventAt (node s (cmdNode c)) s.proc.procStart) s = s := by
    simp only [updateLapsed, hu]
  simp only [scheduleSet, hlapsed, node_modNode_same, takeUpdate_of_none hu, hu]

/-- Settles O9: each command's action on the charged state. -/
theorem nodeCommands : Obligations.NodeCommands := by
  unfold Obligations.NodeCommands
  refine ⟨?_, ?_, ?_, ?_, ?_, ?_⟩
  · intro c s h hr hd
    exact ⟨_, _, (exec_of_ready rfl (by simp) h).trans (congrArg _ (nodeSend_of_queued (e := cmdNodeSend.engine c s)
      (s := charge (cmdNodeSend.engine c s) (cmdNodeSend.cost c s) s) hr hd)), rfl, rfl, rfl, rfl, rfl, rfl, rfl, rfl,
      rfl, rfl, rfl, rfl, paid_of rfl rfl⟩
  · intro c s h hp
    exact ⟨_, _, (exec_of_ready rfl (by simp) h).trans (congrArg _ (floodSend_of_plain (e := cmdFloodSend.engine c s)
      (s := charge (cmdFloodSend.engine c s) (cmdFloodSend.cost c s) s) hp)), rfl, rfl, rfl, rfl, rfl, rfl, rfl,
      paid_of rfl rfl⟩
  · intro c s i s1 h ha
    obtain ⟨a, hs1⟩ := of_allocNode_placed ha
    exact ⟨_, _, (exec_of_ready rfl (by simp) h).trans (congrArg _ (nodeAdmit_of_placed (e := cmdNodeAdmit.engine c s) ha)),
      paid_of (by rw [hs1]; rfl) rfl, rfl, rfl, rfl, rfl, rfl, rfl⟩
  · intro c s h hn hd hu
    exact ⟨_, (exec_of_ready rfl (by simp) h).trans (congrArg _ (nodeEvict_of_notice (e := cmdNodeEvict.engine c s)
      (s := charge (cmdNodeEvict.engine c s) (cmdNodeEvict.cost c s) s) hn hd hu)), paid_of rfl rfl⟩
  · intro c s h
    exact ⟨_, _, (exec_of_ready rfl (by simp) h).trans (congrArg _ (act_cmdNodeQuery _ c _)), length_reportRest _ _,
      paid_of rfl rfl⟩
  · intro c s h hu
    have hu' : (node (charge (cmdScheduleSet.engine c s) (cmdScheduleSet.cost c s) s) (cmdNode c)).upd = none := hu
    have ht := scheduleSet_of_none (e := cmdScheduleSet.engine c s) hu'
    refine ⟨_, (exec_of_ready rfl (by simp) h).trans (congrArg _ ht), paid_of rfl rfl, ?_, ?_⟩
    · intro j hj
      simp [node, modNode, smGet_mod, hj]
    · rw [node_modNode_same, node_modNode_same, takeUpdate_of_none hu']
      rfl

end Sys2Proof.Machine
end

section
/-! SUPPORT. The table commands (R293 to R300): what each runs, and the statement assembled from these. -/

namespace Sys2Proof.Machine

/-- The action of a ready command whose engine is known by name. -/
theorem exec_of_ready_by {i : Instr} {k : CmdSpec} {c : Sub} {s : State} {e : Nat} (h : rowSpec i = some (k, c))
    (hi : ∀ x n, i ≠ .selftestRun x n) (hr : ready k c s = true) (he : k.engine c s = e) :
    exec i s = .next (k.act e c (charge e (k.cost c s) s)) := he ▸ exec_of_ready h hi hr

/-- The entries that a read answers (R294). -/
def answeredEntries (c : Sub) (s : State) : List (List Byte) :=
  (List.range (pU c 40 2)).filterMap fun i => tableEntry s (pU c 32 1) (pU c 34 1) (pU c 36 4 + i)

/-- A read's completion: the count of its entries, the count of the table's writes, and the entries (R294). -/
def readDone (e : Nat) (c : Sub) (s : State) : State :=
  withOut e (.complete c 0x0040 stOk
    (le 2 (answeredEntries c s).length ++ le 2 0 ++ le 4 (tableCount s (pU c 32 1) (pU c 34 1)))
    (answeredEntries c s).flatten) s

theorem tableRead_of_plain {e : Nat} {c : Sub} {s : State} (hl : bit (pU c 33 1) 0 = false) (ht : pU c 32 1 ≠ 2) :
    tableRead e c s = readDone e c s := by
  simp only [tableRead, hl, if_neg ht, Bool.false_eq_true, if_false]
  rfl

/-- A read that asks for the lock takes it at its cue (R295). -/
theorem tableRead_of_lock {e : Nat} {c : Sub} {s : State} (hl : bit (pU c 33 1) 0 = true) (ht : pU c 32 1 ≠ 2) :
    tableRead e c s = modMesh (fun m => { m with locks := m.locks ++ [⟨pU c 32 1, pU c 34 1, s.proc.procCue⟩] })
      (readDone e c s) := by
  simp only [tableRead, hl, if_neg ht, if_true]
  rfl

theorem tableEngine_of_ne {c : Sub} {s : State} (h : pU c 32 1 ≠ 2) : tableEngine c s = 8 := if_neg h

theorem tableEngine_lpm {c : Sub} {s : State} (h : pU c 32 1 = 2) : tableEngine c s = 9 := if_pos h

theorem tableWrite_lpm {e : Nat} {c : Sub} {s : State} (h : pU c 32 1 = 2) :
    tableWrite e c s = modMesh (fun m => { m with lpmOps := m.lpmOps ++ [.write c 0] }) s := if_pos h

theorem tableWrite_of_ne {e : Nat} {c : Sub} {s : State} (h : pU c 32 1 ≠ 2) :
    tableWrite e c s = modMesh (fun m => { m with ops := m.ops ++ [.write c 0] }) s := if_neg h

/-- A table that is locked has its lock, and an unlock releases the first that stands (R297). -/
theorem tableUnlock_of_locked {e : Nat} {c : Sub} {s : State} (h : isLocked s (pU c 32 1) (pU c 34 1) = true) :
    ∃ l ∈ s.mesh.locks, l.table = pU c 32 1 ∧ l.part = pU c 34 1 ∧ tableUnlock e c s =
      withOut e (.complete c 0x0042 stOk (le 4 l.cue.toNat) []) (modMesh (fun m => { m with unlocks := m.unlocks ++ [l] }) s) := by
  obtain ⟨l, hl, hm⟩ := List.any_eq_true.mp h
  cases hf : s.mesh.locks.find? fun l => l.table == pU c 32 1 && l.part == pU c 34 1 with
  | none => exact absurd hm (List.find?_eq_none.mp hf l hl)
  | some x =>
    have hx := List.find?_some hf
    simp only [Bool.and_eq_true, beq_iff_eq] at hx
    refine ⟨x, List.mem_of_find?_eq_some hf, hx.1, hx.2, ?_⟩
    simp only [tableUnlock, hf]
    rfl

/-- The host writes the address table and the LPM only: the other tables are denied it (R299). -/
theorem table_of_ready_write {c : Sub} {s : State} (h : ready cmdTableWrite c s = true) :
    pU c 32 1 = 0 ∨ pU c 32 1 = 2 := by
  have hstatic := ready_static h
  have hcheck : twCheck c s = none := ready_check h
  simp only [cmdTableWrite, Bool.and_eq_true, decide_eq_true_eq] at hstatic
  obtain ⟨-, ⟨⟨hle, -⟩, -⟩, -⟩ := hstatic
  by_contra hne
  rw [twCheck, if_pos (by omega)] at hcheck
  cases hcheck

/-- Settles O10: each command's action on the charged state. -/
theorem tableCommands : Obligations.TableCommands := by
  unfold Obligations.TableCommands
  refine ⟨?_, ?_, ?_, ?_, fun c s => table_of_ready_write, ?_⟩
  · intro c s h hl ht
    exact ⟨_, _, (exec_of_ready_by rfl (by simp) h (tableEngine_of_ne (s := s) ht)).trans (congrArg _ (tableRead_of_plain hl ht)),
      rfl, paid_of rfl rfl⟩
  · intro c s h hl ht
    exact ⟨_, _, (exec_of_ready_by rfl (by simp) h (tableEngine_of_ne (s := s) ht)).trans (congrArg _ (tableRead_of_lock hl ht)),
      rfl, paid_of rfl rfl⟩
  · intro c s h ht
    have hne : pU c 32 1 ≠ 2 := by omega
    exact ⟨_, (exec_of_ready_by rfl (by simp) h (tableEngine_of_ne (s := s) hne)).trans (congrArg _ (tableWrite_of_ne (e := 8) hne)),
      paid_of rfl rfl⟩
  · intro c s h ht
    exact ⟨_, (exec_of_ready_by rfl (by simp) h (tableEngine_lpm (s := s) ht)).trans (congrArg _ (tableWrite_lpm (e := 9) ht)),
      paid_of rfl rfl⟩
  · intro c s h
    have hw : (!isLocked s (pU c 32 1) (pU c 34 1)) = false := ready_wrong h
    obtain ⟨l, hl, htab, hpart, hact⟩ := tableUnlock_of_locked (e := tableEngine c s) (c := c)
      (s := charge (tableEngine c s) 10 s) (by rwa [Bool.not_eq_false'] at hw)
    exact ⟨_, l, (exec_of_ready rfl (by simp) h).trans (congrArg _ hact), hl, htab, hpart, paid_of rfl rfl⟩

end Sys2Proof.Machine
end

section
/-! SUPPORT. The selector records and the update commands (R538 to R546): a write of the selector is what is read,
what each command runs, and the statement assembled from these. -/

namespace Sys2Proof.Machine

/-! ### The selector (R535) -/

/-- The record that a write of the selector leaves: one sequence later than the last. -/
def selWritten (f : Selector → Selector) (u : Upd) : Selector :=
  { f (selNow u) with seq := match selHi u with
                             | some x => x.seq + 1
                             | none => 1 }

theorem sdiff32_succ (a : Word32) : sdiff32 (a + 1#32) a = 1 := by
  rw [sdiff32, show a + 1#32 - a = 1#32 by bv_omega]; rfl

theorem sdiff32_of_succ (a : Word32) : sdiff32 a (a + 1#32) = -1 := by
  rw [sdiff32, show a - (a + 1#32) = -1#32 by bv_omega]; rfl

/-- A write goes to the copy that is not the latest, and is the latest afterwards. -/
theorem selHi_writeSel (f : Selector → Selector) (u : Upd) : selHi (writeSel f u) = some (selWritten f u) := by
  cases h0 : u.sel0 with
  | none =>
    cases h1 : u.sel1 with
    | none => simp [writeSel, selHi, selWritten, hiIsOne, h0, h1]
    | some b => simp [writeSel, selHi, selWritten, hiIsOne, h0, h1, sdiff32_of_succ]
  | some a =>
    cases h1 : u.sel1 with
    | none => simp [writeSel, selHi, selWritten, hiIsOne, h0, h1, sdiff32_succ]
    | some b =>
      by_cases hd : 0 < sdiff32 b.seq a.seq
      · simp [writeSel, selHi, selWritten, hiIsOne, h0, h1, hd, sdiff32_of_succ]
      · simp [writeSel, selHi, selWritten, hiIsOne, h0, h1, hd, sdiff32_succ]

theorem selNow_writeSel (f : Selector → Selector) (u : Upd) : selNow (writeSel f u) = selWritten f u := by
  rw [selNow, selHi_writeSel]; rfl

/-- The latest selector depends on the two copies only. -/
theorem selNow_congr {u v : Upd} (h0 : u.sel0 = v.sel0) (h1 : u.sel1 = v.sel1) : selNow u = selNow v := by
  simp only [selNow, selHi, h0, h1]

theorem sel_writeSettings (f : Settings → Settings) (u : Upd) :
    (writeSettings f u).sel0 = u.sel0 ∧ (writeSettings f u).sel1 = u.sel1 ∧
      (writeSettings f u).confirming = u.confirming := by
  unfold writeSettings
  dsimp only
  split
  · exact ⟨rfl, rfl, rfl⟩
  · split <;> exact ⟨rfl, rfl, rfl⟩

theorem selNow_noteHistory (version : Nat) (cue : CueNo) (k : Nat) (u : Upd) :
    selNow (noteHistory version cue k u) = selNow u := by
  obtain ⟨h0, h1, -⟩ := sel_writeSettings (fun x => { x with
    fmtHist := Config.settingsFormat 3 u.version
    history := (u.history ++ [(version, cue, historyCode k)]).drop ((u.history ++ [(version, cue, historyCode k)]).length - 16) })
    { u with history := (u.history ++ [(version, cue, historyCode k)]).drop ((u.history ++ [(version, cue, historyCode k)]).length - 16) }
  exact selNow_congr h0 h1

theorem confirming_noteHistory (version : Nat) (cue : CueNo) (k : Nat) (u : Upd) :
    (noteHistory version cue k u).confirming = u.confirming := (sel_writeSettings _ _).2.2

theorem modUpdOf_own {b : Bool} {f : Upd → Upd} {s : State} (h : b = false) : modUpdOf b f s = { s with upd := f s.upd } :=
  if_neg (by simp [h])

/-- The unit's own roll to a verified bundle: it starts at step 0, with the trial selected (R542). -/
theorem imageActivate_of_latched {e : Nat} {c : Sub} {s : State} {b : BundleInfo} (ha : c.aside = false)
    (hp : c.partner = false) (hb : s.upd.bundle = some b) :
    imageActivate e c s = withRec e 0xA003 0 0 0 0 { s with upd := { trialRecord b s.upd with
      lastStep := 0
      roll := some { cue := s.proc.procCue, sub := some c, step := 0, version := b.version, rclass := b.rclass
                     ends := [], old := selBase s.upd (selNow s.upd) } } } := by
  simp only [imageActivate, ha, hp, hb, updOf, modUpdOf_own, Bool.false_eq_true, if_false, Option.getD_some]
  rfl

/-- Settles O11: each command's action on the charged state. -/
theorem imageCommands : Obligations.ImageCommands := by
  unfold Obligations.ImageCommands
  refine ⟨?_, ?_, ?_, ?_⟩
  · intro c s h hp
    refine ⟨_, (exec_of_ready rfl (by simp) h).trans (congrArg _ (modUpdOf_own hp)), paid_of rfl rfl, rfl, rfl, rfl, ?_⟩
    exact congrArg Selector.staged ((selNow_congr rfl rfl).trans (selNow_writeSel _ s.upd))
  · intro c b s h hp
    exact ⟨_, (exec_of_ready rfl (by simp) h).trans (congrArg _ (modUpdOf_own hp)), paid_of rfl rfl⟩
  · intro c b s h hp hb
    exact ⟨_, _, (exec_of_ready rfl (by simp) h).trans (congrArg _ (imageActivate_of_latched (e := 8) (ready_aside h) hp
      (s := charge 8 10 s) hb)), paid_of rfl rfl, rfl, rfl, rfl, rfl, rfl, rfl⟩
  · intro c s h hp
    refine ⟨_, (exec_of_ready rfl (by simp) h).trans (congrArg _ (modUpdOf_own hp)), paid_of rfl rfl,
      confirming_noteHistory .., ?_⟩
    change (selNow (noteHistory _ _ _ _)).trial = false
    rw [selNow_noteHistory]
    exact congrArg Selector.trial ((selNow_congr rfl rfl).trans (selNow_writeSel
      (fun r => { r with trial := false, trials := 0 }) s.upd))

end Sys2Proof.Machine
end

section
/-! SUPPORT. Tour reports (R556): what Stagehand 0 makes of a report of completeness, and the refutation of the statement
on Tours, which has that item change the node's context. The node's own Stagehand has changed it already, when it took
the uplink (`noteReport`). -/

namespace Sys2Proof.Machine

theorem exec_tourReport (x : TourRep) (s : State) :
    exec (.tourReport x) s = .next (takeItem 0 10 (.row (.tourReport x)) (takeReport x) s) := rfl

/-- A report of completeness misses no block, so Stagehand 0 has nothing to add to the next round. -/
theorem takeReport_of_complete {x : TourRep} {s : State} (h : x.complete = true) : takeReport x s = s := by
  unfold takeReport
  split
  · rfl
  · simp [h]

/-- The item of a report of completeness costs its work units and changes no context. -/
theorem exec_tourReport_of_complete {x : TourRep} {s : State} (h : x.complete = true) (ht : canTake s 0 10 = true) :
    exec (.tourReport x) s = .next (charge 0 10 s) := by
  rw [exec_tourReport, take_item ht, takeReport_of_complete h]

/-- A Tour of one block, with one node. -/
def oneTour : Tour :=
  { id := 1, round := 1, scope := 1, grand := false, mic16 := false, flog := 6, ttl := 0, caps := 0, limit := 1
    silent := 1, applyAt := 0, hash := [], length := 1, blocks := 1, need := [0], nextNeed := [], frags := [], pos := 0
    asked := 1, announce := false, nodes := [8], ending := none, taken := 0
    sub := { ring := 0, tag := 0, target := 0, flags := 0, bufAddr := 0, length := 1, bufLen := 1, params := [], data := [0]
             accept := 0, aside := false } }

/-- Processing runs, and node 8 waits in the Tour. -/
def inOneTour : State :=
  { proc := { processing := true }, engs := [(0, { left := 100 })], upd := { tour := some oneTour }
    mesh := { nodes := [(8, { tour := [1, 1, 0, 0, 0, 0] })] } }

/-- The node's report that its image is complete. -/
def completeReport : TourRep := ⟨8, 1, true, false, false, 0, 0, 0⟩

/-- Refutes O12: the item TOUR_REPORT of a complete node leaves the node's context as it was, where the statement has
it marked complete; node 8 of `inOneTour` is the counterexample. -/
theorem not_tourCommands : ¬ Obligations.TourCommands := by
  unfold Obligations.TourCommands
  rintro ⟨-, -, -, -, -, -, hreport, -⟩
  obtain ⟨t, hexec, -, hnode⟩ := hreport completeReport inOneTour oneTour rfl (by decide) rfl rfl rfl (by decide) (by decide) rfl
  rw [exec_tourReport_of_complete rfl (by decide)] at hexec
  cases hexec
  exact absurd (congrArg Node.tour (hnode 8)) (by decide)

end Sys2Proof.Machine
end

section
/-! SUPPORT. ROLE_REQUEST and CALLBOARD_READ (R503, R524, R525): what each runs, and the statement assembled from
these. -/

namespace Sys2Proof.Machine

theorem act_cmdRoleRequest_relief {e : Nat} {c : Sub} {s : State} (h : pU c 32 1 = 0) :
    cmdRoleRequest.act e c s = replySt e 0x0090 stOk c (setRelief s) := if_pos h

theorem act_cmdRoleRequest_status {e : Nat} {c : Sub} {s : State} (h : pU c 32 1 = 1) :
    cmdRoleRequest.act e c s = reply e 0x0090 stOk c (roleStatus c s) [] s := if_neg (by omega)

theorem roleStatus_of_own {c : Sub} {s : State} (h : c.partner = false) : roleStatus c s = le 1 s.pair.role ++
    le 1 s.pair.held.length ++ le 2 (ofBool (votePresent s) + 2 * ofBool (s.pwr.eth1Up && s.pair.agree)) ++
    leI 4 s.pair.k := if_neg (by simp [h])

/-- Settles O13: each command's action on the charged state. -/
theorem roleReadAndTestCommands : Obligations.RoleReadAndTestCommands := by
  unfold Obligations.RoleReadAndTestCommands
  refine ⟨?_, ?_, ?_⟩
  · intro c s h hk
    have hact (u : State) := (act_cmdRoleRequest_relief (e := 10) (s := u) hk).trans (replySt_of_latched (ready_aside h))
    exact ⟨_, (exec_of_ready rfl (by simp) h).trans (congrArg _ (hact _)), paid_of rfl rfl⟩
  · intro c s h hk hp
    have hact (u : State) := (act_cmdRoleRequest_status (e := 10) (s := u) hk).trans (reply_of_latched (ready_aside h))
    simp only [roleStatus_of_own hp] at hact
    exact ⟨_, (exec_of_ready rfl (by simp) h).trans (congrArg _ (hact _)), paid_of rfl rfl⟩
  · intro c s h
    exact ⟨_, (exec_of_ready rfl (by simp) h).trans (congrArg _ (reply_of_latched (ready_aside h))), paid_of rfl rfl⟩

end Sys2Proof.Machine
end

section
/-! SUPPORT. KEY_INSTALL (R457, R458): what each kind of key changes, and the statement assembled from these. -/

namespace Sys2Proof.Machine

/-- The key pair's public part that a router key brings (R457). -/
def routerPub (c : Sub) (s : State) : List Byte := ecBytes (ecMul (beNat ((blobKey c s).getD [])) g256)

theorem routerPub_charge (c : Sub) (e n : Nat) (s : State) : routerPub c (charge e n s) = routerPub c s := rfl

theorem keyAct_router {e : Nat} {c : Sub} {s : State} (h : pU c 32 1 = 1) :
    keyAct e c s = withOut e (.complete c 0x00C0 stOk ((sha256 (routerPub c s)).take 8) [])
      (withRec e 0x8004 1 (pU c 33 1) (leNat (((sha256 (routerPub c s)).take 8).take 4)) 0
        (keyChange (fun k => { k with priv := c.data, pub := routerPub c s }) s)) := by
  simp only [keyAct, h]
  rfl

theorem keyAct_issuer {e : Nat} {c : Sub} {s : State} (h : pU c 32 1 = 2) :
    keyAct e c s = withOut e (.complete c 0x00C0 stOk ((sha256 c.data).take 8) [])
      (withRec e 0x8004 2 (pU c 33 1) (leNat (((sha256 c.data).take 8).take 4)) 0
        (keyChange (fun k => { k with issuers := smSet [] k.issuers (pU c 33 1) c.data }) s)) := by
  simp only [keyAct, h]
  rfl

/-- A group key is installed, and its record and completion follow. -/
theorem keyAct_group {e : Nat} {c : Sub} {s : State} (h : pU c 32 1 = 3) :
    ∃ outs, keyAct e c s = { (installGroup c s).2 with
      proc := { (installGroup c s).2.proc with outs := outs } } := by
  simp only [keyAct, h]
  exact ⟨_, rfl⟩

/-- Every allocated node is owed the new group key (R458). -/
def oweGroup (n : Node) : Node := if isAlloc n then { n with grpOwed := true } else n

/-- A group key put in force or put off, with what the nodes are owed. -/
def groupInstalled (f : Keys → Keys) (s : State) : State :=
  { keyChange f s with mesh := { s.mesh with nodes := smMapAll {} s.mesh.nodes fun _ => oweGroup } }

theorem node_of_owed {s t : State} (h : t.mesh.nodes = smMapAll {} s.mesh.nodes fun _ => oweGroup) (i : Nat) :
    node t i = if isAlloc (node s i) then { node s i with grpOwed := true } else node s i := by
  rw [node, h]
  exact smGet_mapAll ({} : Node) s.mesh.nodes (fun _ => oweGroup) i rfl

/-- The first group key is in force at the next cue. -/
theorem installGroup_of_first {c : Sub} {s : State} (h : (keysNext s).cur = none) :
    (installGroup c s).2 = groupInstalled
      (fun k => { k with cur := some ⟨c.data, pU c 34 1⟩, curScene := sceneOf s (s.proc.procCue + 1) }) s := by
  simp only [installGroup, h]
  rfl

/-- A later group key waits for its Scene. -/
theorem installGroup_of_later {c : Sub} {s : State} (h : (keysNext s).cur.isSome = true) :
    (installGroup c s).2 = groupInstalled
      (fun k => { k with pendKey := some (⟨c.data, pU c 34 1⟩, groupScene s (pU c 35 1)) }) s := by
  obtain ⟨g, hg⟩ := Option.isSome_iff_exists.mp h
  simp only [installGroup, hg]
  rfl

/-- The kinds that a KEY_INSTALL may name (R457). -/
theorem kind_of_ready_key {c : Sub} {s : State} (h : ready cmdKeyInstall c s = true) : 1 ≤ pU c 32 1 ∧ pU c 32 1 ≤ 3 := by
  have hstatic := ready_static h
  simp only [cmdKeyInstall, Bool.and_eq_true, decide_eq_true_eq] at hstatic
  obtain ⟨-, ⟨⟨⟨⟨hlo, hhi⟩, -⟩, -⟩, -⟩, -⟩ := hstatic
  exact ⟨hlo, hhi⟩

/-- Settles O25: each kind of key on the charged state. -/
theorem keyInstall : Obligations.KeyInstall := by
  unfold Obligations.KeyInstall
  refine ⟨?_, ?_, ?_, ?_, fun c s => kind_of_ready_key⟩
  · intro c s h hk
    have hcost : cmdKeyInstall.cost c s = 1200 := if_pos hk
    have hexec := exec_of_ready_by (i := .keyInstall c) (e := 11) rfl (by simp) h rfl
    rw [hcost] at hexec
    have hact := keyAct_router (e := 11) (s := charge 11 1200 s) hk
    rw [routerPub_charge] at hact
    refine ⟨_, routerPub c s, hexec.trans (congrArg _ hact), rfl, ?_⟩
    generalize (1200 : Nat) = n
    exact paid_of (s := s) rfl rfl
  · intro c s h hk
    have hcost : cmdKeyInstall.cost c s = 10 := if_neg (by omega)
    have hexec := exec_of_ready_by (i := .keyInstall c) (e := 11) rfl (by simp) h rfl
    rw [hcost] at hexec
    exact ⟨_, hexec.trans (congrArg _ (keyAct_issuer hk)), paid_of rfl rfl⟩
  · intro c s h hk hcur
    obtain ⟨outs, hact⟩ := keyAct_group (e := 11) (s := charge 11 (cmdKeyInstall.cost c s) s) hk
    rw [installGroup_of_first (by exact hcur)] at hact
    exact ⟨_, (exec_of_ready_by rfl (by simp) h rfl).trans (congrArg _ hact), rfl, node_of_owed rfl, rfl⟩
  · intro c s h hk hcur
    obtain ⟨outs, hact⟩ := keyAct_group (e := 11) (s := charge 11 (cmdKeyInstall.cost c s) s) hk
    rw [installGroup_of_later (by exact hcur)] at hact
    exact ⟨_, (exec_of_ready_by rfl (by simp) h rfl).trans (congrArg _ hact), rfl, node_of_owed rfl, rfl⟩

end Sys2Proof.Machine
end

section
/-! SUPPORT. The hardware queues (R386 to R391): a queue's change where no marks are set, the notices, the packet that is
committed or rewound, and the statement assembled from these. -/

namespace Sys2Proof.Machine

/-! ### What each command runs -/

theorem exec_queueFlush (q : Fin 256) (s : State) : exec (.queueFlush q) s = .next (askFlush q s) := rfl

theorem exec_producerResume (q : Fin 256) (s : State) : exec (.producerResume q) s = .next (resumeProducer q s) := rfl

theorem exec_flushEffect (q : Fin 256) (s : State) : exec (.flushEffect q) s = .next (flushNow q s) := rfl

theorem exec_queuePointerMismatch (q : Fin 256) (s : State) :
    exec (.queuePointerMismatch q) s = .next (queueMismatch q s) := rfl

theorem exec_queueTestEnd (q : Fin 256) (pass : Bool) (s : State) :
    exec (.queueTestEnd q pass) s = .next (queueTested q pass s) := rfl

theorem exec_noticeAcknowledge (q : Fin 256) (high low : Bool) (s : State) :
    exec (.noticeAcknowledge q high low) s = .next (ackNotices q high low s) := rfl

/-! ### One queue changed -/

theorem hwqOnly_refl (q : Nat) (s : State) : hwqOnly q (hwq s q) s s :=
  ⟨rfl, fun j => by by_cases h : j = q <;> simp [h]⟩

theorem hwqOnly_modHwq_modHwq (q : Nat) (f g : Hwq → Hwq) (s : State) :
    hwqOnly q (g (f (hwq s q))) s (modHwq q g (modHwq q f s)) := by
  refine ⟨rfl, fun j => ?_⟩
  by_cases h : j = q <;> simp [hwq, modHwq, smGet_mod, h]

@[simp] theorem hwq_modHwq_same (q : Nat) (f : Hwq → Hwq) (s : State) : hwq (modHwq q f s) q = f (hwq s q) := by
  simp only [hwq, modHwq, smGet_mod_same]

theorem hwqHigh_modHwq (q r : Nat) (f : Hwq → Hwq) (s : State) : hwqHigh (modHwq r f s) q = hwqHigh s q := rfl

theorem hwqLow_modHwq (q r : Nat) (f : Hwq → Hwq) (s : State) : hwqLow (modHwq r f s) q = hwqLow s q := rfl

/-- Without marks, a queue's change leaves no notice (R390). -/
theorem hwqChange_of_no_marks {q : Nat} {f : Hwq → Hwq} {s : State} (hh : hwqHigh s q = 0) (hl : hwqLow s q = 0) :
    hwqChange q f s = modHwq q f s := by
  have hhigh (a b : Nat) : crossHigh q a b (modHwq q f s) = modHwq q f s := if_pos (.inl hh)
  have hlow (a b : Nat) : crossLow q a b (modHwq q f s) = modHwq q f s := if_pos (.inl hl)
  rw [hwqChange, hhigh, hlow]

/-- Counting a queue's drops does not touch its marks. -/
theorem rbits_marks_countDrops (q n hi lo : Nat) (s : State) :
    rbits (countReg (rHifQDrops + 0x20 * q) n s) (rHifQWm + 0x20 * q) hi lo = rbits s (rHifQWm + 0x20 * q) hi lo := by
  rw [rbits, rbits, (regOnly_countReg _ n s).2, if_neg (by simp only [rHifQWm, rHifQDrops]; omega)]

/-! ### Flush, resume, mismatch and test (R388, R389, R391) -/

theorem hwqOnly_askFlush (q : Nat) (s : State) :
    hwqOnly q { hwq s q with flush := (hwq s q).flush || bit (hwqCfg s q).toNat 22 } s (askFlush q s) := by
  rw [askFlush]
  cases hb : bit (hwqCfg s q).toNat 22 with
  | true => simpa [hb] using hwqOnly_modHwq q (fun x => { x with flush := true }) s
  | false => simpa using hwqOnly_refl q s

theorem resumeProducer_of_room {q : Nat} {s : State} (hw : (hwq s q).waiting = true)
    (hr : hwqSink (hwq s q) = true ∨ hwqLevel (hwq s q) + (packetWords (hwq s q)).length < hwqDepth s q) :
    resumeProducer q s = modHwq q (fun x => { x with waiting := false }) s :=
  if_pos (by rcases hr with h | h <;> simp [hw, h])

theorem resumeProducer_of_no_room {q : Nat} {s : State} (h : (hwq s q).waiting = false ∨ hwqSink (hwq s q) = false ∧
    hwqDepth s q ≤ hwqLevel (hwq s q) + (packetWords (hwq s q)).length) : resumeProducer q s = s := by
  refine if_neg ?_
  rcases h with h | ⟨h, hr⟩
  · simp [h]
  · simp [h, Nat.not_lt.mpr hr]

theorem flushNow_of_boundary {q : Nat} {s : State} (hf : (hwq s q).flush = true) (hw : (hwq s q).writing = [])
    (hs : (hwq s q).skip = false) (hc : (hwq s q).consuming = 0) :
    flushNow q s = hwqChange q (fun x => { x with packets := [], rp := x.rp + hwqLevel x, flush := false })
      (countReg (rHifQDrops + 0x20 * q) (hwq s q).packets.length s) := if_pos (by simp [hf, hw, hs, hc])

theorem flushNow_of_none {q : Nat} {s : State} (h : (hwq s q).flush = false ∨ (hwq s q).writing ≠ [] ∨
    (hwq s q).skip = true ∨ (hwq s q).consuming ≠ 0) : flushNow q s = s := by
  refine if_neg ?_
  rcases h with h | h | h | h <;> simp [h]

theorem queueMismatch_of_service {q : Nat} {s : State} (ht : (hwq s q).testing = false)
    (hq : (hwq s q).quarantined = false) :
    queueMismatch q s = emitLocal 0x6004 (hwqSource q) 0 0 0 0
      (hwqChange q (fun x => { x with
        rp := 0, packets := [], writing := [], skip := false, consuming := 0, waiting := false, flush := false
        testing := true, resets := satAdd 255 x.resets 1 }) s) := if_neg (by simp [ht, hq])

theorem queueTested_of_testing {q : Nat} {pass : Bool} {s : State} (h : (hwq s q).testing = true) :
    queueTested q pass s = testOutcome 1 q pass (if pass then 0 else 1)
      (modHwq q (fun x => { x with testing := false, quarantined := !pass }) s) := if_pos h

/-! ### Notices (R390) -/

/-- A notice of the HIGH mark acknowledged: it is set again at once while the level stands above the mark. -/
theorem ackNotices_high (q : Nat) (s : State) : ackNotices q true false s =
    if hwqHigh s q ≠ 0 ∧ hwqHigh s q < hwqLevel (hwq s q) then
      queueNotice q (modHwq q (fun x => { x with high := true }) (modHwq q (fun x => { x with high := false, highCnt := 0 }) s))
    else modHwq q (fun x => { x with high := false, highCnt := 0 }) s := rfl

/-- A notice of the LOW mark acknowledged: it is set again at once while the level stands below the mark. -/
theorem ackNotices_low (q : Nat) (s : State) : ackNotices q false true s =
    if hwqLow s q ≠ 0 ∧ hwqLevel (hwq s q) < hwqLow s q then
      queueNotice q (modHwq q (fun x => { x with low := true }) (modHwq q (fun x => { x with low := false, lowCnt := 0 }) s))
    else modHwq q (fun x => { x with low := false, lowCnt := 0 }) s := rfl

/-! ### Packets (R387, R388) -/

/-- The queue's part of a commit: the packet joins those that are readable, under its header. -/
def committed (kind : BitVec 8) (x : Hwq) : Hwq :=
  { x with
    writing := [], seq := x.seq + 1
    packets := x.packets ++ [packetHeader ((packetWords x).length - 1) kind x.seq :: (packetWords x).drop 1] }

section
variable {q : Nat} {kind : BitVec 8} {s : State} (hs : (hwq s q).skip = false) (hw : (hwq s q).waiting = false)
  (ht : (hwq s q).testing = false) (hq : (hwq s q).quarantined = false) (hh : hwqHigh s q = 0) (hl : hwqLow s q = 0)
include hs hw ht hq hh hl

theorem queueCommit_of_service : queueCommit q kind s =
    storeQueue q ((hwq s q).rp + hwqLevel (hwq s q)) (packetHeader ((packetWords (hwq s q)).length - 1) kind (hwq s q).seq)
      (modHwq q (fun x => { x with
          packets := x.packets ++ [packetHeader ((packetWords (hwq s q)).length - 1) kind (hwq s q).seq ::
            (packetWords (hwq s q)).drop 1] })
        (modHwq q (fun x => { x with writing := [], seq := x.seq + 1 }) s)) := by
  simp only [queueCommit, hs, hw, ht, hq, Bool.false_eq_true, if_false]
  rw [hwqChange_of_no_marks (by exact hh) (by exact hl)]

theorem hwq_queueCommit : hwq (queueCommit q kind s) q = committed kind (hwq s q) := by
  rw [queueCommit_of_service hs hw ht hq hh hl, storeQueue]
  change hwq (modHwq q _ (modHwq q _ s)) q = _
  rw [hwq_modHwq_same, hwq_modHwq_same]
  rfl

end

theorem length_packetWords {x : Hwq} (h : x.writing ≠ []) : packetWords x = x.writing := by
  rw [packetWords, if_neg (by simpa using h)]

/-- A commit moves WP to PP: the packet's words are then readable. -/
theorem hwqLevel_committed {kind : BitVec 8} {x : Hwq} (hw : x.writing ≠ [])
    (hc : x.consuming ≤ (x.packets.map List.length).sum) :
    hwqLevel (committed kind x) = hwqLevel x + x.writing.length := by
  have hpos := List.length_pos_iff.mpr hw
  simp only [hwqLevel, committed, length_packetWords hw, List.map_append, List.map_cons, List.map_nil, List.sum_append,
    List.sum_cons, List.sum_nil, List.length_cons, List.length_drop]
  omega

theorem rewindPacket_eq (q : Nat) (more : Bool) (s : State) : rewindPacket q more s =
    countReg (rHifQDrops + 0x20 * q) 1 (modHwq q (fun x => { x with writing := [], skip := more, waiting := false }) s) := rfl

theorem hwqPp_countReg (q o n : Nat) (s : State) : hwqPp (countReg o n s) q = hwqPp s q := rfl

theorem queueWord_of_too_long {q : Nat} {v : Word64} {s : State} (hs : (hwq s q).skip = false)
    (hw : (hwq s q).waiting = false) (hd : hwqDepth s q - 1 < (packetWords (hwq s q)).length + 1) :
    queueWord q v s = rewindPacket q true s := by
  simp only [queueWord, hs, hw, hd, Bool.or_self, Bool.false_eq_true, if_false, if_true]

theorem queueRewind_of_writing {q : Nat} {s : State} (hs : (hwq s q).skip = false) (hw : (hwq s q).writing ≠ []) :
    queueRewind q s = rewindPacket q false s := by
  have he : (hwq s q).writing.isEmpty = false := by simpa using hw
  simp only [queueRewind, hs, he, Bool.false_eq_true, if_false]

/-! ### The statement -/

/-- Settles O18: each clause is the lemma on its command. -/
theorem hardwareQueues : Obligations.HardwareQueues := by
  unfold Obligations.HardwareQueues
  refine ⟨?_, ?_, ?_, ?_, ?_, ?_, ?_, ?_, ?_, ?_, ?_, ?_, ?_, ?_, ?_⟩
  · intro q s
    exact ⟨_, exec_queueFlush q s, hwqOnly_askFlush q s⟩
  · intro q s hw hr
    exact ⟨_, (exec_producerResume q s).trans (congrArg _ (resumeProducer_of_room hw hr)), hwqOnly_modHwq _ _ _⟩
  · intro q s h
    rw [exec_producerResume, resumeProducer_of_no_room h]
  · intro q s hf hw hs hc hh hl
    refine ⟨_, _, (exec_flushEffect q s).trans (congrArg _ ((flushNow_of_boundary hf hw hs hc).trans
      (hwqChange_of_no_marks ?_ ?_))), regOnly_countReg _ _ s, hwqOnly_modHwq _ _ _⟩
    · exact (rbits_marks_countDrops _ _ 15 0 s).trans hh
    · exact (rbits_marks_countDrops _ _ 31 16 s).trans hl
  · intro q s h
    rw [exec_flushEffect, flushNow_of_none h]
  · intro q s ht hq hh hl
    refine ⟨_, (exec_queuePointerMismatch q s).trans (congrArg _ ?_), hwqOnly_modHwq q (fun x => { x with
      rp := 0, packets := [], writing := [], skip := false, consuming := 0, waiting := false, flush := false
      testing := true, resets := satAdd 255 x.resets 1 }) s⟩
    rw [queueMismatch_of_service ht hq, hwqChange_of_no_marks hh hl]
    rfl
  · intro q s pass h
    exact ⟨_, (exec_queueTestEnd q pass s).trans (congrArg _ (queueTested_of_testing h)), hwqOnly_modHwq _ _ _⟩
  · intro q s h
    exact ⟨_, (exec_noticeAcknowledge q true false s).trans (congrArg _ ((ackNotices_high q s).trans (if_neg (by omega)))),
      hwqOnly_modHwq _ _ _⟩
  · intro q s hm hlev
    exact ⟨_, (exec_noticeAcknowledge q true false s).trans (congrArg _ ((ackNotices_high q s).trans (if_pos ⟨hm, hlev⟩))),
      hwqOnly_modHwq_modHwq _ _ _ s⟩
  · intro q s h
    exact ⟨_, (exec_noticeAcknowledge q false true s).trans (congrArg _ ((ackNotices_low q s).trans (if_neg (by omega)))),
      hwqOnly_modHwq _ _ _⟩
  · intro q s hm hlev
    exact ⟨_, (exec_noticeAcknowledge q false true s).trans (congrArg _ ((ackNotices_low q s).trans (if_pos ⟨hm, hlev⟩))),
      hwqOnly_modHwq_modHwq _ _ _ s⟩
  · rintro q kind s x rfl hs hw ht hq hh hl
    exact ⟨_, _, _, queueCommit_of_service hs hw ht hq hh hl, rfl, hwqOnly_modHwq_modHwq _ _ _ s, rfl⟩
  · rintro q kind s x rfl hne hc hs hw ht hq hh hl
    have hx := hwq_queueCommit (kind := kind) hs hw ht hq hh hl
    have hd : hwqPtr (queueCommit q kind s) q = hwqPtr s q := by
      rw [queueCommit_of_service hs hw ht hq hh hl]; rfl
    rw [hwqWp, hwqPp, hwqPp, hx, hd, hwqLevel_committed hne hc]
    simp [committed, Nat.add_assoc]
  · rintro q s x rfl hs hw hd v
    refine ⟨_, hwqOnly_modHwq q (fun x => { x with writing := [], skip := true, waiting := false }) s, ?_⟩
    rw [queueWord_of_too_long hs hw hd]
    exact regOnly_countReg _ 1 _
  · rintro q s x rfl hs hw
    refine ⟨modHwq q (fun x => { x with writing := [], skip := false, waiting := false }) s, ?_, ?_, ?_⟩
    · simpa [hs] using hwqOnly_modHwq q (fun x => { x with writing := [], skip := false, waiting := false }) s
    · rw [queueRewind_of_writing hs hw]
      exact regOnly_countReg _ 1 _
    · rw [queueRewind_of_writing hs hw, rewindPacket_eq, hwqPp_countReg, hwqPp, hwq_modHwq_same]
      rfl

end Sys2Proof.Machine
end

section
/-! SUPPORT. Watchdogs, clocks, the wake and the processing restart (R565, R569 to R576, R580, R581): what a record and a
refusal of Retention leave alone, what each command does in each of its cases, and the statement assembled from these. -/

namespace Sys2Proof.Machine

/-! ### What a record leaves alone -/

section
variable (code src a b c d : Nat) (s : State)

@[simp] theorem emitLocal_proc : (emitLocal code src a b c d s).proc = s.proc := by
  obtain ⟨_, _, _, _, _, _, _, _, _, h⟩ := recordOnly_emitLocal code src a b c d s
  rw [h]; rfl

@[simp] theorem emitLocal_engs : (emitLocal code src a b c d s).engs = s.engs := by
  obtain ⟨_, _, _, _, _, _, _, _, _, h⟩ := recordOnly_emitLocal code src a b c d s
  rw [h]; rfl

@[simp] theorem emitLocal_pwr : (emitLocal code src a b c d s).pwr = s.pwr := by
  obtain ⟨_, _, _, _, _, _, _, _, _, h⟩ := recordOnly_emitLocal code src a b c d s
  rw [h]; rfl

@[simp] theorem emitLocal_pair : (emitLocal code src a b c d s).pair = s.pair := by
  obtain ⟨_, _, _, _, _, _, _, _, _, h⟩ := recordOnly_emitLocal code src a b c d s
  rw [h]; rfl

@[simp] theorem emitLocal_sec : (emitLocal code src a b c d s).sec = s.sec := by
  obtain ⟨_, _, _, _, _, _, _, _, _, h⟩ := recordOnly_emitLocal code src a b c d s
  rw [h]; rfl

@[simp] theorem emitLocal_time : (emitLocal code src a b c d s).time = s.time := by
  obtain ⟨_, _, _, _, _, _, _, _, _, h⟩ := recordOnly_emitLocal code src a b c d s
  rw [h]; rfl

end

@[simp] theorem pwr_atTime (t : Stamp) (s : State) : (atTime t s).pwr = s.pwr := by
  rw [atTime_frame]

@[simp] theorem wings_atTime (t : Stamp) (s : State) : (atTime t s).wings = s.wings := by
  rw [atTime_frame]

theorem regOnly_refl (o : Nat) (s : State) : regOnly o (reg s o) s s :=
  ⟨rfl, fun j => by by_cases h : j = o <;> simp [h]⟩

/-! ### Watchdogs (R580, R581) -/

theorem exec_bootWatchdog (s : State) : exec .bootWatchdog s =
    .next (if s.pwr.rom && !s.pwr.bootDone && !s.hif.recovery && !s.pwr.recImage then
      systemReset 5 (watchdogRecord 0 s) else s) := rfl

theorem exec_keepWatchdog (s : State) : exec .keepWatchdog s =
    .next (if s.proc.processing && decide (8 ≤ s.pwr.keepWd) then systemReset 4 (watchdogRecord 1 s) else s) := rfl

theorem exec_hostWatchdog (s : State) : exec .hostWatchdog s =
    .next (if rbits s rSysWdt 15 0 ≠ 0 ∧ rbits s rSysWdt 15 0 ≤ s.pwr.hostWd then
      if rbit s rSysWdt 16 then
        restartNext 5 (watchdogRecord 2 (setRBit rSysWdt 18 (modPwr (fun p => { p with hostWd := 0 }) s)))
      else watchdogRecord 2 (setRBit rSysWdt 18 (modPwr (fun p => { p with hostWd := 0 }) s))
    else s) := rfl

/-! ### The system reset (R572, R573) -/

/-- The always-on domain after a reset, with its cause and count. -/
def resetKept (cause : Nat) (s : State) : State :=
  modPwr (fun p => { p with cause := cause, count := satAdd 0xFFFF p.count 1, vioStuck := s.pwr.vioStuck })
    (keepDomain .startup s)

theorem systemReset_of_powered {cause : Nat} {s : State} (h : isPowered s = true) :
    systemReset cause s = resetRecord cause 0
      (if s.pwr.vioStuck then setRBit rPwrSupply 4 (resetKept cause s) else resetKept cause s) := if_pos h

theorem systemReset_record {cause : Nat} {s : State} (h : isPowered s = true) :
    ∃ u, systemReset cause s = emitLocal 0xB001 13 cause (min 0xFFFF (s.pwr.count + 1)) 0 0 u ∧
      regOnly rPwrSupply (if s.pwr.vioStuck then reg (keepDomain .startup s) rPwrSupply ||| 16#32
        else reg (keepDomain .startup s) rPwrSupply) (resetKept cause s) u := by
  rw [systemReset_of_powered h]
  cases s.pwr.vioStuck with
  | true => exact ⟨_, rfl, regOnly_setRBit _ 4 _⟩
  | false => exact ⟨_, rfl, regOnly_refl _ _⟩

/-! ### Clocks (R565) -/

theorem exec_clockLost (d : Fin 14) (t : Stamp) (s : State) : exec (.clockLost d t) s = .next (loseClock d (atTime t s)) := rfl

theorem exec_clockRecovered (t : Stamp) (s : State) : exec (.clockRecovered t) s = .next (clocksBack (atTime t s)) := rfl

/-- The record of a lost clock (R565). -/
def clockNoted (d : Nat) (s : State) : State := emitLocal 0xB008 15 0 0 0 0 (setRBit rClkEvents d s)

@[simp] theorem clockNoted_proc (d : Nat) (s : State) : (clockNoted d s).proc = s.proc := by
  rw [clockNoted, emitLocal_proc, setRBit, setReg_proc]

theorem loseClock_of_no_pll {d : Nat} {s : State} (hp : isPowered s = true) (hd : hasPll d = false) :
    loseClock d s = clockNoted d s := by
  simp only [loseClock, hp, hd, if_true, Bool.false_eq_true, if_false]
  rfl

/-- A lost PLL stops processing (R565). -/
theorem loseClock_of_processing {d : Nat} {s : State} (hp : isPowered s = true) (hd : hasPll d = true)
    (hm : s.pwr.mode ≠ .retention) (hr : s.proc.processing = true) :
    loseClock d s = stopNow (refuseRetention
      (modPwr (fun p => { p with clocks := p.clocks ||| BitVec.ofNat 14 (2 ^ d) }) (clockNoted d s))) := by
  have hrun : (modPwr (fun p => { p with clocks := p.clocks ||| BitVec.ofNat 14 (2 ^ d) }) (clockNoted d s)).proc.processing
      = true := by rw [modPwr_proc, clockNoted_proc, hr]
  simp only [loseClock, hp, hd, if_true, if_neg hm]
  exact if_pos hrun

theorem clocksBack_of_none {s : State} (h : s.pwr.clocks = 0) : clocksBack s = s := if_pos h

theorem clocksBack_of_full {s : State} (hc : s.pwr.clocks ≠ 0) (hm : s.pwr.mode = .full) (hr : s.pwr.restarting = false) :
    clocksBack s = restartNow 3 (modPwr (fun p => { p with clocks := 0 }) s) := by
  rw [clocksBack, if_neg hc]
  exact if_pos ⟨.inl hm, hr⟩

/-! ### The wake (R570) -/

theorem exec_retentionWake (t : Stamp) (s : State) : exec (.retentionWake t) s = .next (wake (atTime t s)) := rfl

theorem wakeDue_of_not_retention {s : State} (h : s.pwr.mode ≠ .retention) : wakeDue s = false := by
  simp [wakeDue, h]

theorem wakeDue_of_door {s : State} (hm : s.pwr.mode = .retention) (hc : s.pwr.clocks.getLsbD 0 = false)
    (hd : s.pwr.doorFull = true) : wakeDue s = true := by
  simp only [wakeDue, hm, hc, hd]
  simp

/-- The unit after its wake, before its record. -/
def awake (s : State) : State :=
  quietClear (modPwr (fun p => { p with
    mode := .full, doorFull := false, retReq := none, wakeIn := some (s.proc.cueNow + 2) })
    (modWings (fun w => { w with wakeRows := 2048 }) (setRBits rPwrMode 1 0 0 s)))

theorem wake_of_due {s : State} (h : wakeDue s = true) : wake s = emitLocal 0xB002 14 0 0 0 0 (awake s) := if_pos h

/-! ### The processing restart (R575, R576) -/

theorem exec_processingRestart (f : Fin 7) (s : State) :
    exec (.processingRestart f) s = .next (if s.pwr.restarting then s else restartNow f s) := rfl

@[simp] theorem refuseRetention_proc (s : State) : (refuseRetention s).proc = s.proc := by
  unfold refuseRetention
  split
  · rw [emitLocal_proc]; rfl
  · rfl

/-- Every engine of a list waits for its core test. -/
theorem eng_pauseAll (l : List Nat) (s : State) (e : Nat) :
    eng (l.foldl (fun s e => modEng e (fun g => { g with paused := true, resume := false }) s) s) e =
      if e ∈ l then { eng s e with paused := true, resume := false } else eng s e := by
  induction l generalizing s with
  | nil => rfl
  | cons x l ih =>
    rw [List.foldl_cons, ih, (engOnly_modEng x _ s).2 e]
    by_cases hx : e = x
    · subst hx
      simp
    · simp [hx]

theorem pauseAll_frame (l : List Nat) (s : State) : ∃ x,
    l.foldl (fun s e => modEng e (fun g => { g with paused := true, resume := false }) s) s = { s with engs := x } := by
  induction l generalizing s with
  | nil => exact ⟨_, rfl⟩
  | cons x l ih => exact ih _

/-- The unit with its engines waiting for their core tests. -/
def enginesPaused (s : State) : State :=
  (List.range 12).foldl (fun s e => modEng e (fun g => { g with paused := true, resume := false }) s) s

theorem enginesPaused_frame (s : State) : ∃ x, enginesPaused s = { s with engs := x } := pauseAll_frame _ s

theorem eng_enginesPaused {s : State} {e : Nat} (h : e < 12) :
    eng (enginesPaused s) e = { eng s e with paused := true, resume := false } :=
  (eng_pauseAll (List.range 12) s e).trans (if_pos (List.mem_range.mpr h))

theorem eng_modPwr (f : Pwr → Pwr) (s : State) (e : Nat) : eng (modPwr f s) e = eng s e := rfl

theorem restartNow_of_stopped {trigger : Nat} {s : State} (h : s.proc.processing = false) :
    restartNow trigger s = modPwr (fun p => { p with restartReq := none, restarting := true, coreTests := List.range 12 })
      (enginesPaused (resetRecord 9 trigger (modPwr (fun p => { p with cause := 9 }) (refuseRetention s)))) := by
  rw [restartNow, refuseRetention_proc, h, if_neg (by decide)]
  rfl

/-! ### The statement -/

/-- Settles O24: each clause is the lemma on its command in that case. -/
theorem watchdogsClocksAndWake : Obligations.WatchdogsClocksAndWake := by
  unfold Obligations.WatchdogsClocksAndWake
  refine ⟨?_, ?_, ?_, ?_, ?_, ?_, ?_, ?_, ?_, ?_, ?_, ?_, ?_, ?_⟩
  · intro s hr hb hrec him
    rw [exec_bootWatchdog, if_pos (by simp [hr, hb, hrec, him])]
    rfl
  · intro s h
    rw [exec_bootWatchdog, if_neg]
    rcases h with h | h | h | h <;> simp [h]
  · intro s hp hk
    rw [exec_keepWatchdog, if_pos (by simp [hp, hk])]
    rfl
  · intro s hn hle hr
    refine ⟨_, ?_, regOnly_setRBit rSysWdt 18 _⟩
    rw [exec_hostWatchdog, if_pos ⟨hn, hle⟩, if_neg (by simp [hr])]
    rfl
  · intro s h
    rw [exec_hostWatchdog, if_neg (by omega)]
  · intro s h
    exact systemReset_record h
  · intro d t s hp hd
    have hp' : isPowered (atTime t s) = true := by simpa [isPowered] using hp
    refine ⟨_, (exec_clockLost d t s).trans (congrArg _ (loseClock_of_no_pll hp' hd)), ?_⟩
    simpa using regOnly_setRBit rClkEvents d (atTime t s)
  · intro d t s hp hd hm hr
    have hp' : isPowered (atTime t s) = true := by simpa [isPowered] using hp
    refine ⟨_, _, (exec_clockLost d t s).trans (congrArg _ (loseClock_of_processing hp' hd (by simpa using hm) (by simpa using hr))),
      rfl, ?_⟩
    simpa using regOnly_setRBit rClkEvents d (atTime t s)
  · intro t s h
    rw [exec_clockRecovered, clocksBack_of_none (by simpa using h)]
  · intro t s hc hm hr
    rw [exec_clockRecovered, clocksBack_of_full (by simpa using hc) (by simpa using hm) (by simpa using hr)]
    simp [modPwr]
  · intro t s hm hc hd
    have hdue := wakeDue_of_door (s := atTime t s) (by simpa using hm) (by simpa using hc) (by simpa using hd)
    refine ⟨setRBits rPwrMode 1 0 0 (atTime t s), awake (atTime t s),
      (exec_retentionWake t s).trans (congrArg _ (wake_of_due hdue)), ?_, ?_, ?_, rfl⟩
    · simpa using regOnly_setRBits rPwrMode 1 0 0 (atTime t s)
    · change ({ (atTime t s).pwr with
        mode := .full, doorFull := false, retReq := none, wakeIn := some ((atTime t s).proc.cueNow + 2) } : Pwr) = _
      rw [pwr_atTime, proc_atTime]
    · change ({ (atTime t s).wings with wakeRows := 2048 } : Wings) = _
      rw [wings_atTime]
  · intro t s h
    rw [exec_retentionWake, wake, wakeDue_of_not_retention (by simpa using h)]
    rfl
  · intro f s hr hp
    refine ⟨_, _, _, (exec_processingRestart f s).trans (congrArg _ ((if_neg (by simp [hr])).trans (restartNow_of_stopped hp))),
      rfl, rfl, ?_, ?_, ?_⟩
    · obtain ⟨x, hx⟩ := enginesPaused_frame (resetRecord 9 f (modPwr (fun p => { p with cause := 9 }) (refuseRetention s)))
      rw [hx]; rfl
    · obtain ⟨x, hx⟩ := enginesPaused_frame (resetRecord 9 f (modPwr (fun p => { p with cause := 9 }) (refuseRetention s)))
      rw [hx]; rfl
    · intro e he
      rw [eng_modPwr, eng_enginesPaused he]
      rfl
  · intro f s h
    rw [exec_processingRestart, if_pos h]

end Sys2Proof.Machine
end

section
/-! SUPPORT. Engine exceptions, core tests and SELFTEST_RUN (R425 to R430, R576): what each does in each of its cases,
and the statement assembled from these. -/

namespace Sys2Proof.Machine

/-! ### Engine exceptions (R426) -/

theorem exec_engineException (e : Fin 12) (s : State) :
    exec (.engineException e) s = .next (if s.proc.processing then raiseException e s else s) := rfl

/-- An engine stopped by an exception: the unit is faulted. -/
def excepted (e : Nat) (s : State) : State :=
  modEng e (fun g => { g with paused := true, blocked := true, resume := false })
    (modProc (fun p => { p with faulted := true }) s)

theorem raiseException_of_other {e : Nat} {s : State} (h2 : s.pair.role ≠ 2) (h3 : s.pair.role ≠ 3) :
    raiseException e s = emitLocal 0x7005 e 0 0 0 0 (excepted e s) := by
  have hrole : ¬ ((excepted e s).pair.role = 2 ∨ (excepted e s).pair.role = 3) := not_or.mpr ⟨h2, h3⟩
  rw [raiseException, ← excepted, if_neg hrole]

/-- An Understudy in step falls out of the pair (R505). -/
theorem raiseException_of_understudy {e : Nat} {s : State} (h : s.pair.role = 2 ∨ s.pair.role = 3) :
    raiseException e s = emitLocal 0x7005 e 0 0 0 0 (modPair (fun p => { p with role := 4 }) (excepted e s)) := by
  have hrole : (excepted e s).pair.role = 2 ∨ (excepted e s).pair.role = 3 := h
  rw [raiseException, ← excepted, if_pos hrole]

/-! ### Core tests (R425, R576) -/

theorem exec_coreTestEnd_of_restart {e : Fin 12} {pass : Bool} {n : Nat} {s : State}
    (h : s.pwr.restarting = true ∨ s.pwr.rom = true ∧ s.pwr.bootDone = false) (hc : s.pwr.coreTests.contains e.val = true) :
    exec (.coreTestEnd e pass n) s = .next (restartCoreTest e pass n s) := by
  have hdue : (s.pwr.restarting || (s.pwr.rom && !s.pwr.bootDone)) = true := by
    rcases h with h | ⟨h, hb⟩
    · simp [h]
    · simp [h, hb]
  exact congrArg _ (if_pos (by rw [hdue, hc]; rfl))

theorem exec_coreTestEnd_of_none {e : Fin 12} {pass : Bool} {n : Nat} {s : State}
    (hc : s.pwr.coreTests.contains e.val = false) (hp : s.proc.processing = false) :
    exec (.coreTestEnd e pass n) s = .next s := by
  refine congrArg _ ((if_neg (by rw [hc]; simp)).trans (if_neg (by simp [hp])))

/-- The unit once a test of its restart has ended, with what it found (R576). -/
def coreTestNoted (e : Nat) (pass : Bool) (n : Nat) (s : State) : State :=
  modPwr (fun p => { p with coreTests := p.coreTests.filter (· != e) }) (testOutcome 4 e pass n s)

theorem restartCoreTest_of_pass (e n : Nat) (s : State) : restartCoreTest e true n s =
    modEng e (fun g => { g with paused := false, retired := false, blocked := false }) (coreTestNoted e true n s) := rfl

theorem restartCoreTest_of_fail (e n : Nat) (s : State) : restartCoreTest e false n s =
    emitLocal 0xB004 14 0 0 0 0 (modProc (fun p => { p with stopped := true })
      (modEng e (fun g => { g with retired := true }) (coreTestNoted e false n s))) := rfl

/-! ### What a test's outcome records (R425) -/

theorem testOutcome_of_pass (cls ix n : Nat) (s : State) : testOutcome cls ix true n s =
    emitLocal 0x7004 (unitSource cls ix) cls ix 0 n
      (setRBits rWngFaults 15 0 (satAdd 0xFFFF (rbits s rWngFaults 15 0) 1) s) := rfl

/-- Outside the Lead, a failed test only counts and records. -/
theorem testOutcome_of_fail {cls ix n : Nat} {s : State} (h : s.pair.role ≠ 1) : testOutcome cls ix false n s =
    emitLocal 0x7004 (unitSource cls ix) cls ix 1 n
      (setRBits rWngFaults 31 16 (satAdd 0xFFFF (rbits s rWngFaults 31 16) 1) s) := by
  refine if_neg ?_
  rw [emitLocal_pair]
  exact h

/-! ### SELFTEST_RUN (R429, R430) -/

theorem exec_selftestRun_of_accepted {c : Sub} {n : Nat} {s : State} (hp : s.proc.processing = true)
    (hj : judged (cmdSelftest n) { c with aside := true } s = none)
    (hc : (cmdSelftest n).check { c with aside := true } s = none) :
    exec (.selftestRun c n) s = .next (selftestStarts { c with aside := true } n s) := by
  have hm : mustHold { c with aside := true } s = false := by simp [mustHold, isFuture]
  rw [exec_selftestRun, if_pos hp, runCmd_of_aside rfl, handle_of_accepted (tagOf_of_aside rfl) hj, accepted, hc]
  simp only [hm, Bool.false_eq_true, if_false]
  rfl

section
variable {c : Sub} {n : Nat} {s : State}

/-- A test of a bank waits for its row sweep. -/
theorem selftestStarts_bank (h : pU c 32 1 = 0) : selftestStarts c n s =
    modHif (fun h => { h with selfTests := h.selfTests ++ [(c, n, 128)] }) s := if_pos h

/-- A test of an engine in service stops the engine for its core test. -/
theorem selftestStarts_engine (h : pU c 32 1 = 4) (hr : (eng s (pU c 34 2)).retired = false) : selftestStarts c n s =
    modHif (fun h => { h with selfTests := h.selfTests ++ [(c, n, 0)] })
      (modEng (pU c 34 2) (fun g => { g with paused := true, blocked := true, resume := false }) s) :=
  (if_neg (by omega)).trans (if_pos ⟨h, hr⟩)

theorem selftestStarts_at_once (h : 1 ≤ pU c 32 1) (hr : pU c 32 1 ≠ 4 ∨ (eng s (pU c 34 2)).retired = true) :
    selftestStarts c n s = selftestEnds c n s := by
  refine (if_neg (by omega)).trans (if_neg ?_)
  rintro ⟨h4, hnot⟩
  rcases hr with hr | hr
  · exact hr h4
  · exact Bool.noConfusion (hr.symm.trans hnot)

theorem selftestReply_aside (h : c.aside = true) : selftestReply c n s = completeAside c stOk
    (le 1 (if n = 0 then 0 else 1) ++ le 1 (pU c 32 1) ++ le 2 (pU c 34 2) ++ le 4 n) [] s := if_pos h

theorem selftestEnds_of_return (h : c.aside = true) (hb : bit (pU c 33 1) 0 = true) :
    selftestEnds c 0 s = completeAside c stOk (le 1 0 ++ le 1 (pU c 32 1) ++ le 2 (pU c 34 2) ++ le 4 0) []
      (returnUnit (pU c 32 1) (pU c 34 2) (testOutcome (pU c 32 1) (pU c 34 2) true 0 s)) := by
  rw [selftestEnds, if_pos ⟨rfl, hb⟩, selftestReply_aside h]
  rfl

theorem selftestEnds_of_pass (h : c.aside = true) (hb : bit (pU c 33 1) 0 = false) :
    selftestEnds c 0 s = completeAside c stOk (le 1 0 ++ le 1 (pU c 32 1) ++ le 2 (pU c 34 2) ++ le 4 0) []
      (testOutcome (pU c 32 1) (pU c 34 2) true 0 s) := by
  rw [selftestEnds, if_neg (by simp [hb]), if_neg (by simp), selftestReply_aside h]
  rfl

theorem selftestEnds_of_bank_fails (h : c.aside = true) (hn : n ≠ 0) (hc : pU c 32 1 = 0)
    (hs : bankState s (pU c 34 2) = 0) :
    selftestEnds c n s = completeAside c stOk (le 1 1 ++ le 1 0 ++ le 2 (pU c 34 2) ++ le 4 n) []
      (bankFails (pU c 34 2) (testOutcome 0 (pU c 34 2) false n s)) := by
  rw [selftestEnds, if_neg (by simp [hn]), if_pos ⟨hn, hc, hs⟩, selftestReply_aside h, if_neg hn, hc,
    beq_false_of_ne hn]

theorem selftestEnds_of_fail (h : c.aside = true) (hn : n ≠ 0) (hc : 1 ≤ pU c 32 1) :
    selftestEnds c n s = completeAside c stOk (le 1 1 ++ le 1 (pU c 32 1) ++ le 2 (pU c 34 2) ++ le 4 n) []
      (testOutcome (pU c 32 1) (pU c 34 2) false n s) := by
  rw [selftestEnds, if_neg (by simp [hn]), if_neg (by omega), selftestReply_aside h, if_neg hn, beq_false_of_ne hn]

end

/-! ### The statement -/

/-- Settles O27: each clause is the lemma on its case. -/
theorem engineFaultsAndSelfTest : Obligations.EngineFaultsAndSelfTest := by
  unfold Obligations.EngineFaultsAndSelfTest
  refine ⟨?_, ?_, ?_, ?_, ?_, ?_, ?_, ?_, ?_, ?_, ?_, fun c s => selftestEnds_of_pass,
    fun c n s => selftestEnds_of_bank_fails, ?_, ?_⟩
  · intro e s h
    rw [exec_engineException, if_neg (by simp [h])]
  · intro e s hp h2 h3
    exact ⟨_, (exec_engineException e s).trans (congrArg _ ((if_pos hp).trans (raiseException_of_other h2 h3))),
      engOnly_modEng _ _ _⟩
  · intro e s hp h
    exact ⟨_, (exec_engineException e s).trans (congrArg _ ((if_pos hp).trans (raiseException_of_understudy h))),
      engOnly_modEng _ _ _⟩
  · intro e n s h hc
    exact ⟨_, _, _, rfl, rfl, exec_coreTestEnd_of_restart h hc, engOnly_modEng _ _ _⟩
  · intro e n s h hc
    exact ⟨_, _, _, rfl, rfl, engOnly_modEng _ _ _, exec_coreTestEnd_of_restart h hc⟩
  · intro e b n s hc hp
    exact exec_coreTestEnd_of_none hc hp
  · intro c n s h
    rw [exec_selftestRun, if_neg (by simp [h])]
  · intro c n s hp hj hc hk
    exact (exec_selftestRun_of_accepted hp hj hc).trans (congrArg _ (selftestStarts_bank hk))
  · intro c n s hp hj hc hk hr
    exact ⟨_, (exec_selftestRun_of_accepted hp hj hc).trans (congrArg _ (selftestStarts_engine hk hr)),
      engOnly_modEng _ _ _⟩
  · intro c n s hp hj hc hk hr hn
    exact (exec_selftestRun_of_accepted hp hj hc).trans (congrArg _
      ((selftestStarts_at_once (c := { c with aside := true }) hk hr).trans (selftestEnds_of_fail (c := { c with aside := true }) rfl hn hk)))
  · intro c s hp hj hc hk hr hb
    exact (exec_selftestRun_of_accepted hp hj hc).trans (congrArg _
      ((selftestStarts_at_once (c := { c with aside := true }) hk hr).trans (selftestEnds_of_return (c := { c with aside := true }) rfl hb)))
  · intro cls ix n s
    exact ⟨_, testOutcome_of_pass cls ix n s, regOnly_setRBits _ _ _ _ s⟩
  · intro cls ix n s h
    exact ⟨_, testOutcome_of_fail h, regOnly_setRBits _ _ _ _ s⟩

end Sys2Proof.Machine
end

section
/-! SUPPORT. The Scene boundary and the held commands (R32, R55, R234, R466, R579), and the statement assembled from
these. -/

namespace Sys2Proof.Machine

/-- In Intake or Work of a running cue (R34). -/
theorem exec_sceneBoundary_of_work {s : State} (hp : s.proc.processing = true) (hh : s.proc.hkDone = false)
    (hw : s.proc.phase = .work) : exec .sceneBoundary s = .next (sceneWork s) :=
  congrArg _ (if_pos (by simp [hp, hh, hw]))

theorem exec_heldCommandDue_of_work {s : State} (hp : s.proc.processing = true) (hh : s.proc.hkDone = false)
    (hw : s.proc.phase = .work) :
    exec .heldCommandDue s = .next (takeHeld (fun t => decide (sdiff32 t s.proc.procCue ≤ 0)) s) :=
  congrArg _ (if_pos (by simp [hp, hh, hw]))

theorem sceneWork_of_no_boundary {s : State} (h : isBoundary s s.proc.procCue = false) : sceneWork s = s :=
  if_pos (by simp [h])

/-- The counts of a Scene begin again in a node's context (R466). -/
def countsBegun (n : Node) : Node :=
  { n with failures := 0, micFails := 0, replays := 0, badSeqs := 0, alarmed := false }

/-- What every boundary does: the nodes' counts begin again, what is freed ages, and the front-end scan is due. -/
def sceneStart (s : State) : State :=
  modPwr (fun p => { p with feidDue := List.range 8 }) (ageFreed
    (modMesh (fun m => { m with nodes := smMapAll {} m.nodes fun _ => countsBegun })
      (modProc (fun p => { p with sceneAt := some s.proc.procCue, itemCue := s.proc.procCue }) s)))

theorem sceneWork_of_boundary {s : State} (hb : isBoundary s s.proc.procCue = true)
    (ha : s.proc.sceneAt ≠ some s.proc.procCue) (hf : tb1Follow s = false) (ht : s.upd.tour = none) :
    sceneWork s = sceneStart s := by
  have hnot : ¬ (!isBoundary s s.proc.procCue || s.proc.sceneAt == some s.proc.procCue) = true := by simp [hb, ha]
  have hfollow : tb1Follow (sceneStart s) = false := hf
  have htour : (sceneStart s).upd.tour = none := ht
  rw [sceneWork, if_neg hnot]
  change (let s3 := if tb1Follow (sceneStart s) then _ else sceneStart s; if s3.upd.tour.isSome then _ else s3) = _
  simp only [hfollow, Bool.false_eq_true, if_false, htour, Option.isSome_none]

theorem node_sceneStart (s : State) (i : Nat) : node (sceneStart s) i = countsBegun (node s i) :=
  smGet_mapAll ({} : Node) s.mesh.nodes (fun _ => countsBegun) i rfl

/-- Settles O31: a step that is no boundary, one that is, and the held commands. -/
theorem sceneAndHeldCommands : Obligations.SceneAndHeldCommands := by
  unfold Obligations.SceneAndHeldCommands
  refine ⟨?_, ?_, ?_⟩
  · intro s hp hh hw hb
    rw [exec_sceneBoundary_of_work hp hh hw, sceneWork_of_no_boundary hb]
  · intro s hp hh hw hb ha hf ht
    exact ⟨_, (exec_sceneBoundary_of_work hp hh hw).trans (congrArg _ (sceneWork_of_boundary hb ha hf ht)), rfl, rfl, rfl,
      node_sceneStart s⟩
  · intro s hp hh hw
    exact ⟨_, _, exec_heldCommandDue_of_work hp hh hw, rfl, rfl⟩

end Sys2Proof.Machine
end

section
/-! SUPPORT. How updates end and the roll switches its steps (R537 to R546): the end of each operation, the steps of a
roll, and the statement assembled from these. -/

namespace Sys2Proof.Machine

/-! ### Update-end entries (R537) -/

theorem exec_updateEnd (u : UpdEnd) (s : State) :
    exec (.updateEnd u) s = .next (if s.proc.processing then takeUpdEnd u s else s) := rfl

theorem takeUpdEnd_of_none {u : UpdEnd} {s : State} (h : opOf s.upd u = none) (hp : opOf s.updP u = none) :
    takeUpdEnd u s = s := by
  simp only [takeUpdEnd, h, hp]

theorem takeUpdEnd_of_own {u : UpdEnd} {c : Sub} {s : State} (h : opOf s.upd u = some c) (ha : c.aside = false) :
    takeUpdEnd u s = endOp c u (charge (if u.opcode = 0x81 then 11 else 8) 10 s) := by
  simp only [takeUpdEnd, h, ha, Bool.false_eq_true, if_false]

/-- The end of a stage, as the unit takes it. -/
theorem takeUpdEnd_of_stage {u : UpdEnd} {c : Sub} {s : State} (h : opOf s.upd u = some c) (ha : c.aside = false)
    (ho : u.opcode = 0x80) : takeUpdEnd u s = endStage c u (charge 8 10 s) := by
  rw [takeUpdEnd_of_own h ha, if_neg (by omega)]
  simp only [endOp, ho]

theorem endStage_of_done {c : Sub} {u : UpdEnd} {s : State} (ha : c.aside = false) (hp : c.partner = false)
    (h : u.outcome = 0) : endStage c u s = withOut 8 (.complete c 0x0080 stOk (le 4 u.bytes) [])
      (withRec 8 0xA001 0 0 0 0 { s with upd :=
        { writeSel (fun r => { selBase s.upd r with staged := c.length }) s.upd with staging := none } }) := by
  simp only [endStage, h, ha, hp, modUpdOf_own, reply_of_latched, if_true, Bool.false_eq_true, if_false]
  rfl

theorem endStage_of_failed {c : Sub} {u : UpdEnd} {s : State} (ha : c.aside = false) (hp : c.partner = false)
    (h : u.outcome ≠ 0) : endStage c u s = withOut 8 (.complete c 0x0080 stIntegrity [] [])
      { s with upd := { s.upd with staging := none } } := by
  rw [endStage, if_neg h, replySt_of_latched ha, modUpdOf_own hp]

/-! ### The end of a flash operation (R462, R537) -/

theorem exec_flashOperationEnd (u : UpdEnd) (s : State) : exec (.flashOperationEnd u) s = .next (flashEnd u s) := rfl

theorem flashEnd_of_none {u : UpdEnd} {s : State} (h : opOf s.upd u = none) : flashEnd u s = s := by
  simp only [flashEnd, h]

/-- The end of an operation that is no verification and no flash error becomes an entry (R537). -/
theorem flashEnd_of_entry {u x : UpdEnd} {c : Sub} {s s0 : State} (h : opOf s.upd u = some c) (ha : c.aside = false)
    (hb : endBlow (endOutcome u s) s = (x, s0)) (h8 : x.outcome ≠ 8) (h81 : x.opcode ≠ 0x81) :
    flashEnd u s = input 9 x.ring (updEndBytes x) (.row (.updateEnd x)) s0 := by
  simp only [flashEnd, h, hb, ha, if_neg h8, h81, false_and, if_false, Bool.false_eq_true]
  cases s.upd.verifying <;> rfl

theorem endBlow_of_ne {u : UpdEnd} {s : State} (h : u.opcode ≠ 0x83) : endBlow u s = (u, s) := if_neg (fun k => h k.1)

theorem endBlow_of_confirm {u : UpdEnd} {s : State} (h : u.opcode = 0x83) (ho : u.outcome = 0) :
    endBlow u s = ({ u with bytes := (blownFuses (confirmImage s.upd) s.sec.fuses).secVer % 256 +
        256 * (blownFuses (confirmImage s.upd) s.sec.fuses).revoke.toNat },
      modSec (fun y => { y with fuses := blownFuses (confirmImage s.upd) s.sec.fuses }) s) := if_pos ⟨h, ho⟩

/-- A staged image with a discarded write is incomplete (R408). -/
theorem endOutcome_of_hit {u : UpdEnd} {s : State} (h : u.opcode = 0x80) (ho : u.outcome = 0)
    (hs : s.upd.stageHit = true) : endOutcome u s = { u with outcome := 9 } := if_pos ⟨h, ho, hs⟩

theorem endOutcome_of_stage {u : UpdEnd} {s : State} (h : u.opcode = 0x80) (ho : u.outcome ≠ 0 ∨ s.upd.stageHit = false) :
    endOutcome u s = u := by
  have h1 : ¬ (u.opcode = 0x80 ∧ u.outcome = 0 ∧ s.upd.stageHit = true) := by
    rintro ⟨-, h0, hs⟩
    rcases ho with ho | ho
    · exact ho h0
    · exact Bool.noConfusion (hs.symm.trans ho)
  rw [endOutcome, if_neg h1, if_neg (by omega), if_neg (by omega)]

theorem endOutcome_of_confirm {u : UpdEnd} {s : State} (h : u.opcode = 0x83) : endOutcome u s = u := by
  rw [endOutcome, if_neg (by omega), if_neg (by omega), if_neg (by omega)]

/-! ### The steps of a roll (R540 to R542) -/

theorem switchNext_of_no_roll {p : Bool} {s : State} (h : (updOf p s).roll = none) : switchNext p s = s := by
  simp only [switchNext, h]

theorem switchNext_of_not_due {p : Bool} {r : Roll} {s : State} (h : (updOf p s).roll = some r) (hd : stepDue s r = false) :
    switchNext p s = s := by
  simp only [switchNext, h, hd, Bool.not_false, if_true]

/-- The unit after the engine of the next step has switched, with its record (R541). -/
def stepSwitched (r : Roll) (s : State) : State :=
  withRec 8 0xA004 0 0 0 0 (modEng (stepEngine (r.step + 1)) (fun g => { g with switched := true })
    { s with upd := { s.upd with lastStep := r.step + 1, roll := some { r with step := r.step + 1 } } })

section
variable {r : Roll} {s : State} (h : s.upd.roll = some r) (hd : stepDue s r = true)
include h hd

theorem switchNext_of_loaded (hs : r.step < 12) (he : r.ends.any (fun x => x.1 == r.step + 1 && x.2 == 0) = true) :
    switchNext false s = stepSwitched r s := by
  have hne : r.step ≠ 12 := by omega
  simp only [switchNext, updOf, h, hd, hne, he, Bool.false_eq_true, if_false, Bool.not_true, Bool.true_or, if_true]
  rfl

theorem switchNext_of_not_loaded (hs : r.step < 12) (he : r.ends.any (fun x => x.1 == r.step + 1 && x.2 == 0) = false) :
    switchNext false s = stopRoll false (r.step + 1) s := by
  have hne : r.step ≠ 12 := by omega
  simp only [switchNext, updOf, h, hd, hne, he, Bool.false_eq_true, if_false, Bool.not_true, Bool.false_and, Bool.or_self]

theorem switchNext_of_last (hs : r.step = 12) : switchNext false s = completeRoll false r s := by
  simp only [switchNext, updOf, h, hd, hs, Bool.false_eq_true, if_false, Bool.not_true, if_true]

end

theorem switchSteps_of_fixed {p : Bool} {s : State} (h : switchNext p s = s) (n : Nat) : switchSteps n p s = s := by
  induction n with
  | zero => rfl
  | succ n ih => rw [switchSteps, h, ih]

theorem eng_stepSwitched (r : Roll) (s : State) (e : Nat) : eng (stepSwitched r s) e =
    if e = stepEngine (r.step + 1) then { eng s e with switched := true } else eng s e := by
  have h := (engOnly_modEng (stepEngine (r.step + 1)) (fun g => { g with switched := true })
    { s with upd := { s.upd with lastStep := r.step + 1, roll := some { r with step := r.step + 1 } } }).2 e
  by_cases he : e = stepEngine (r.step + 1)
  · rw [if_pos he] at h ⊢
    subst he
    exact h
  · rw [if_neg he] at h ⊢
    exact h

theorem exec_stepSwitch (s : State) : exec .stepSwitch s = .next (if s.proc.processing then takeSwitches s else s) := rfl

/-- With nothing due, in the unit's own roll or in the partner's, no step switches. -/
theorem takeSwitches_of_fixed {s : State} (h : switchNext false s = s) (hp : s.updP.roll = none) : takeSwitches s = s := by
  rw [takeSwitches, switchSteps_of_fixed h, switchSteps_of_fixed (switchNext_of_no_roll (by exact hp))]

/-- One step due: it switches, and the next is not due. -/
theorem takeSwitches_of_one {r : Roll} {s : State} (h : s.upd.roll = some r) (hd : stepDue s r = true) (hs : r.step < 12)
    (he : r.ends.any (fun x => x.1 == r.step + 1 && x.2 == 0) = true)
    (hn : stepDue s { r with step := r.step + 1 } = false) (hp : s.updP.roll = none) :
    takeSwitches s = stepSwitched r s := by
  have hfix : switchNext false (stepSwitched r s) = stepSwitched r s :=
    switchNext_of_not_due (p := false) (r := { r with step := r.step + 1 }) rfl hn
  have hsteps : switchSteps 13 false s = stepSwitched r s := by
    rw [switchSteps, switchNext_of_loaded h hd hs he, switchSteps_of_fixed hfix]
  rw [takeSwitches, hsteps, switchSteps_of_fixed (switchNext_of_no_roll (by exact hp))]

/-! ### The statement -/

/-- Settles O32: the ends of the operations, then the steps of the roll. -/
theorem updateSteps : Obligations.UpdateSteps := by
  unfold Obligations.UpdateSteps
  refine ⟨?_, ?_, ?_, ?_, ?_, ?_, ?_, ?_, ?_, ?_, ?_, ?_, ?_, fun r s => switchNext_of_not_loaded,
    fun r s => switchNext_of_last, fun s => rfl⟩
  · intro u s h
    rw [exec_updateEnd, if_neg (by simp [h])]
  · intro u s hp h hP
    rw [exec_updateEnd, if_pos hp, takeUpdEnd_of_none h hP]
  · intro u c s hp ho h ha hpar hout
    refine ⟨_, (exec_updateEnd u s).trans (congrArg _ ((if_pos hp).trans ((takeUpdEnd_of_stage h ha ho).trans
      (endStage_of_done ha hpar hout)))), paid_of rfl rfl, rfl, ?_⟩
    exact congrArg Selector.staged ((selNow_congr rfl rfl).trans (selNow_writeSel _ s.upd))
  · intro u c s hp ho h ha hpar hout
    exact ⟨_, (exec_updateEnd u s).trans (congrArg _ ((if_pos hp).trans ((takeUpdEnd_of_stage h ha ho).trans
      (endStage_of_failed ha hpar hout)))), paid_of rfl rfl⟩
  · intro u s h
    rw [exec_flashOperationEnd, flashEnd_of_none h]
  · intro u c s h ha ho h8 ht hout
    have hb : endBlow (endOutcome u s) s = (u, s) := by
      rw [endOutcome_of_stage ho hout, endBlow_of_ne (by omega)]
    exact ⟨_, (exec_flashOperationEnd u s).trans (congrArg _ ((flashEnd_of_entry h ha hb h8 (by omega)).trans
      (input_of_takes ht))), rfl, rfl⟩
  · intro u c s h ha ho hout ht hhit
    have hb : endBlow (endOutcome u s) s = ({ u with outcome := 9 }, s) := by
      rw [endOutcome_of_hit ho hout hhit, endBlow_of_ne (u := { u with outcome := 9 }) (show u.opcode ≠ 0x83 by omega)]
    exact ⟨_, (exec_flashOperationEnd u s).trans (congrArg _ ((flashEnd_of_entry h ha hb (by simp)
      (show u.opcode ≠ 0x81 by omega)).trans (input_of_takes ht))), rfl, rfl⟩
  · rintro u c s x h ha ho hout ht rfl
    have hb := (congrArg (endBlow · s) (endOutcome_of_confirm (s := s) ho)).trans (endBlow_of_confirm ho hout)
    exact ⟨_, _, (exec_flashOperationEnd u s).trans (congrArg _ ((flashEnd_of_entry h ha hb
      (show u.outcome ≠ 8 by omega) (show u.opcode ≠ 0x81 by omega)).trans (input_of_takes (by exact ht)))), rfl, rfl, rfl, rfl⟩
  · intro r s hp h hP hd hs he hn
    exact ⟨_, (exec_stepSwitch s).trans (congrArg _ ((if_pos hp).trans (takeSwitches_of_one h hd hs he hn hP))), rfl,
      eng_stepSwitched r s, rfl⟩
  · intro s hp h hP
    rw [exec_stepSwitch, if_pos hp, takeSwitches_of_fixed (switchNext_of_no_roll (by exact h)) hP]
  · intro r s hp h hP hd
    rw [exec_stepSwitch, if_pos hp, takeSwitches_of_fixed (switchNext_of_not_due (by exact h) hd) hP]
  · intro s h
    rw [exec_stepSwitch, if_neg (by simp [h])]
  · intro r s h hd hs he
    exact ⟨_, switchNext_of_loaded h hd hs he, rfl, eng_stepSwitched r s, rfl⟩

end Sys2Proof.Machine
end

section
/-! SUPPORT. The ROM, the choice of slot and the end of the boot (R421, R460, R462, R532, R533, R574), and the statement
assembled from these. -/

namespace Sys2Proof.Machine

/-! ### The ROM (R532, R533) -/

theorem exec_romStart (v : VerifyIn) (s : State) : exec (.romStart v) s = .next (romStart v s) := rfl

/-- The unit once its ROM has started. -/
def romRuns (s : State) : State := modPwr (fun p => { p with rom := true }) s

theorem romStart_of_not_due {v : VerifyIn} {s : State} (h : s.pwr.mode ≠ .startup ∨ s.pwr.rom = true) : romStart v s = s :=
  if_pos h

section
variable {v : VerifyIn} {s : State} (hm : s.pwr.mode = .startup) (hr : s.pwr.rom = false)
include hm hr

theorem romStart_of_no_flash (ho : v.octal = false) : romStart v s = enterRecovery (romRuns s) := by
  rw [romStart, if_neg (by simp [hm, hr]), if_pos ho]
  rfl

theorem romStart_of_bad_block (ho : v.octal = true) (hb : imageReason s v.bootBlock ≠ 0) :
    romStart v s = enterRecovery
      (secureBoot (imageReason s v.bootBlock) v.bootBlock.keySlot v.bootBlock.secVersion 3 (romRuns s)) := by
  rw [romStart, if_neg (by simp [hm, hr]), if_neg (by simp [ho]), if_pos hb]
  rfl

omit hm hr in
/-- Without a trial the slot that the selector gives is tried first. -/
theorem pickSlot_of_no_trial (ht : (selNow s.upd).trial = false) : pickSlot v (romRuns s) = ((selNow s.upd).slot, romRuns s) :=
  if_pos (by simp [romRuns, ht])

variable (ho : v.octal = true) (hb : imageReason s v.bootBlock = 0) (ht : (selNow s.upd).trial = false)
include ho hb ht

theorem romStart_of_good_slot (h : slotReason s v (selNow s.upd).slot = 0) :
    romStart v s = bootSlot v (selNow s.upd).slot (romRuns s) := by
  rw [romStart, if_neg (by simp [hm, hr]), if_neg (by simp [ho]), if_neg (by simp [hb]), ← romRuns,
    pickSlot_of_no_trial ht]
  exact if_pos h

theorem romStart_of_bad_slots (h : slotReason s v (selNow s.upd).slot ≠ 0)
    (h' : slotReason s v (1 - (selNow s.upd).slot) ≠ 0) :
    romStart v s = enterRecovery (slotFails v (1 - (selNow s.upd).slot) (slotFails v (selNow s.upd).slot (romRuns s))) := by
  rw [romStart, if_neg (by simp [hm, hr]), if_neg (by simp [ho]), if_neg (by simp [hb]), ← romRuns,
    pickSlot_of_no_trial ht]
  exact (if_neg h).trans (if_pos h')

end

/-! ### The slot that boots (R532, R543, R574) -/

/-- With no settings written, the slot boots with tables of its own and a core test of every engine. -/
theorem bootSlot_of_no_settings {v : VerifyIn} {slot : Nat} {s : State} (h : settingsHi s.upd = none) :
    bootSlot v slot s = modUpd (fun u => { u with
      slot := slot, version := (slotBundle v slot).1, rclass := (slotBundle v slot).2, bootKey := (slotKey v slot).1
      bootSec := (slotKey v slot).2, bootRevoke := slotRevoke v slot, bootVersion := (slotBundle v slot).1
      running := none })
      (modPwr (fun p => { p with coreTests := List.range 12 }) (bootTables s)) := by
  have h1 : settingsHi (modUpd (fun u => { u with
      slot := slot, version := (slotBundle v slot).1, rclass := (slotBundle v slot).2, bootKey := (slotKey v slot).1
      bootSec := (slotKey v slot).2, bootRevoke := slotRevoke v slot, bootVersion := (slotBundle v slot).1
      running := none })
      (modPwr (fun p => { p with coreTests := List.range 12 }) (bootTables s))).upd = none := h
  simp only [bootSlot, h1]

/-! ### The end of the boot (R462, R574) -/

theorem exec_bootDone (b : Bool) (t : Stamp) (s : State) : exec (.bootDone b t) s = .next (finishBoot b (atTime t s)) := rfl

@[simp] theorem upd_atTime (t : Stamp) (s : State) : (atTime t s).upd = s.upd := by
  rw [atTime_frame]

@[simp] theorem hif_atTime (t : Stamp) (s : State) : (atTime t s).hif = s.hif := by
  rw [atTime_frame]

/-- The boot may end. -/
def bootEnds (s : State) : Prop := s.pwr.mode = .startup ∧ s.pwr.rom = true ∧ s.pwr.bootDone = false ∧
  s.hif.recovery = false ∧ s.pwr.recImage = false ∧ s.pwr.coreTests = []

/-- With every hash right the unit has booted, and its TRNG serves. -/
def booted (s : State) : State :=
  modSec (fun x => { x with trngOk := true, reserve := 256 }) (modPwr (fun p => { p with bootDone := true }) s)

theorem not_bootHeld_of_bootEnds {s : State} (h : bootEnds s) : ¬ (s.pwr.mode ≠ .startup ∨ s.pwr.rom = false ∨
    s.pwr.bootDone = true ∨ s.hif.recovery = true ∨ s.pwr.recImage = true ∨ s.pwr.coreTests ≠ []) := by
  obtain ⟨hm, hr, hb, hrec, hi, hc⟩ := h
  simp [hm, hr, hb, hrec, hi, hc]

theorem finishBoot_of_good_hashes {s : State} (h : bootEnds s) :
    finishBoot true s = booted (secureBoot 0 s.upd.bootKey s.upd.bootSec s.upd.slot s) := by
  simp only [finishBoot, if_neg (not_bootHeld_of_bootEnds h), if_true]
  rfl

theorem finishBoot_of_bad_hashes {s : State} (h : bootEnds s) :
    finishBoot false s = secureBoot 6 s.upd.bootKey s.upd.bootSec s.upd.slot s := by
  simp only [finishBoot, if_neg (not_bootHeld_of_bootEnds h), Bool.false_eq_true, if_false]

/-- Settles O33: the ROM's cases, the slot that boots, and the end of the boot. -/
theorem romAndBoot : Obligations.RomAndBoot := by
  unfold Obligations.RomAndBoot
  refine ⟨?_, ?_, ?_, ?_, ?_, ?_, ?_, ?_, ?_⟩
  · intro v s h
    rw [exec_romStart, romStart_of_not_due h]
  · intro v s hm hr ho hb ht h
    rw [exec_romStart, romStart_of_good_slot hm hr ho hb ht h]
    rfl
  · intro v s hm hr ho
    rw [exec_romStart, romStart_of_no_flash hm hr ho]
    rfl
  · intro v s hm hr ho hb
    exact ⟨_, (exec_romStart v s).trans (congrArg _ (romStart_of_bad_block hm hr ho hb)), rfl⟩
  · intro v s hm hr ho hb ht h h'
    exact ⟨_, (exec_romStart v s).trans (congrArg _ (romStart_of_bad_slots hm hr ho hb ht h h')), rfl⟩
  · intro v s h slot
    exact ⟨_, bootSlot_of_no_settings h, rfl,
      fun p => smGet_mapAll ({} : Port) s.ports (fun _ x => { x with cal := none }) p rfl,
      fun n => smGet_mapAll ({} : Line) s.lines (fun _ x => { x with tables := none }) n rfl⟩
  · intro t s hm hr hb hrec hi hc
    have hdue : bootEnds (atTime t s) := by simp [bootEnds, hm, hr, hb, hrec, hi, hc]
    have hend := finishBoot_of_good_hashes hdue
    rw [upd_atTime] at hend
    exact ⟨secureBoot 0 s.upd.bootKey s.upd.bootSec s.upd.slot (atTime t s),
      (exec_bootDone true t s).trans (congrArg _ hend), rfl⟩
  · intro t s hm hr hb hrec hi hc
    have hdue : bootEnds (atTime t s) := by simp [bootEnds, hm, hr, hb, hrec, hi, hc]
    rw [exec_bootDone, finishBoot_of_bad_hashes hdue, upd_atTime]
  · intro b t s h
    have hnot : (atTime t s).pwr.mode ≠ .startup ∨ (atTime t s).pwr.rom = false ∨ (atTime t s).pwr.bootDone = true ∨
        (atTime t s).hif.recovery = true ∨ (atTime t s).pwr.recImage = true ∨ (atTime t s).pwr.coreTests ≠ [] := by
      rw [pwr_atTime]
      tauto
    exact (exec_bootDone b t s).trans (congrArg _ (if_pos hnot))

end Sys2Proof.Machine
end

section
/-! SUPPORT. Front-end modules (R577 to R579): the reading of an address and the record of a module event, and the
statement assembled from these. -/

namespace Sys2Proof.Machine

theorem exec_moduleReadEnd (a : Fin 8) (b : List Byte) (s : State) :
    exec (.moduleReadEnd a b) s = .next (moduleRead a b s) := rfl

theorem exec_moduleEvent (x : ModuleEv) (s : State) :
    exec (.moduleEvent x) s = .next (takeItem 10 10 (.row (.moduleEvent x)) (takeModule x) s) := rfl

theorem moduleRead_of_off {a : Nat} {b : List Byte} {s : State} (h : isPowered s = false ∨ s.pwr.mode = .retention) :
    moduleRead a b s = s := if_pos (by rcases h with h | h <;> simp [h])

/-- While processing runs an answer is read when its address is due (R579). -/
theorem moduleRead_of_processing {a : Nat} {b : List Byte} {s : State} (hp : isPowered s = true)
    (hm : s.pwr.mode ≠ .retention) (hr : s.proc.processing = true) (hb : b ≠ []) :
    moduleRead a b s = if s.pwr.feidDue.contains a then scanRead a b s else s := by
  have he : b.isEmpty = false := by simpa using hb
  have hm' : (s.pwr.mode == .retention) = false := by simpa using hm
  simp only [moduleRead, hp, hm', he, hr, Bool.not_true, Bool.or_self, Bool.false_eq_true, if_false, if_true]

/-- An address whose descriptor has been read: it is no longer due. -/
def moduleShown (a : Nat) (b : List Byte) (s : State) : State :=
  modPwr (fun p => { p with
    feid := smSet [] p.feid a b, feidMiss := smSet 0 p.feidMiss a 0, feidSeen := smSet false p.feidSeen a true
    feidDue := p.feidDue.filter (· != a) }) s

section
variable {a : Nat} {b : List Byte} {s : State} (hd : descOk b = true)
include hd

theorem ne_nil_of_descOk : b ≠ [] := by
  rintro rfl
  exact absurd hd (by decide)

theorem scanRead_of_same (hs : smGet false s.pwr.feidSeen a = true) (h : descAt s a = b) :
    scanRead a b s = moduleShown a b s := by
  have hne : ¬ b ≠ descAt s a := by simp [h]
  simp only [scanRead, hd, hs, if_true, Bool.not_true, Bool.false_eq_true, if_false, if_neg hne]
  rfl

theorem scanRead_of_first (hs : smGet false s.pwr.feidSeen a = false) :
    scanRead a b s = moduleHappens ⟨0, a, b⟩ (moduleShown a b s) := by
  simp only [scanRead, hd, hs, if_true, Bool.not_false]
  rfl

end

theorem processing_of_takesInputs {s : State} (h : takesInputs s = true) : s.proc.processing = true := by
  simp only [takesInputs, Bool.and_eq_true] at h
  obtain ⟨⟨⟨hp, -⟩, -⟩, -⟩ := h
  exact hp

/-- Settles O34: the cases of a read, and the record of an event. -/
theorem modules : Obligations.Modules := by
  unfold Obligations.Modules
  refine ⟨?_, ?_, ?_, ?_, ?_⟩
  · intro a b s h
    rw [exec_moduleReadEnd, moduleRead_of_off h]
  · intro a b s hp hm hr hb hd
    rw [exec_moduleReadEnd, moduleRead_of_processing hp hm hr hb, if_neg (by rw [hd]; decide)]
  · intro a b s hp hm hr hd hok hs hsame
    refine ⟨_, (exec_moduleReadEnd a b s).trans (congrArg _ ((moduleRead_of_processing hp hm hr (ne_nil_of_descOk hok)).trans
      ((if_pos hd).trans (scanRead_of_same hok hs hsame)))), rfl⟩
  · intro a b s hp hm ht hd hok hs
    have hr := processing_of_takesInputs ht
    refine ⟨_, (exec_moduleReadEnd a b s).trans (congrArg _ ((moduleRead_of_processing hp hm hr (ne_nil_of_descOk hok)).trans
      ((if_pos hd).trans ((scanRead_of_first hok hs).trans (input_of_takes (by exact ht)))))), rfl, ?_, ?_⟩
    · exact smGet_set_same _ _ _ _
    · exact (regOnly_setRBit rSysFeid (8 + a.val) (moduleShown a b s)).2 rSysFeid |>.trans (if_pos rfl)
  · intro x s hp hh
    refine ⟨_, (exec_moduleEvent x s).trans (congrArg _ (take_item (by simp [canTake, hp, hh]))), paid_of rfl rfl⟩

end Sys2Proof.Machine
end

section
/-! SUPPORT. LOCAL records, the Call Board store and the journal (R366, R393, R509, R516 to R520): where a record goes,
how the store numbers it, the journal's copies, and the statement assembled from these. -/

namespace Sys2Proof.Machine

/-! ### Where a LOCAL record goes (R366, R393) -/

/-- The unit with a LOCAL record in the Call Board. -/
def boarded (l : List Word32) (s : State) : State := modBoard (boardWords l) s

theorem emitLocal_eq (code src a b c d : Nat) (s : State) : emitLocal code src a b c d s =
    evBatch src (evWrite src (localWords code src a b c d s) (boarded (localWords code src a b c d s) s)) := rfl

section
variable {src : Nat} {l : List Word32} {s : State}

theorem evWrite_of_masked (h : evMasked s src = true) : evWrite src l s = s := if_pos h

theorem evWrite_of_room (h : evMasked s src = false) (hr : evRoom s = true) : evWrite src l s = evPut l s :=
  (if_neg (by simp [h])).trans (if_pos hr)

theorem evWrite_of_no_room (h : evMasked s src = false) (hr : evRoom s = false) : evWrite src l s =
    countReg rHifEqLost 1 (modHif (fun h => { h with evr := { h.evr with lost := h.evr.lost + 1 } }) s) :=
  (if_neg (by simp [h])).trans (if_neg (by simp [hr]))

theorem evBatch_of_none (h : evEn s = false ∨ evMasked s src = true) : evBatch src s = s :=
  if_neg (by rcases h with h | h <;> simp [h])

theorem evBatch_of_on (he : evEn s = true) (hm : evMasked s src = false) :
    evBatch src s = vecSignal (evVec s src) (evWriteback s) := if_pos (by simp [he, hm])

theorem evWriteback_of_on (he : evEn s = true) :
    evWriteback s = hostWrite (ringBase s rHifEqWbLo rHifEqWbHi) (le 4 s.hif.evr.tail) s := if_pos he

end

theorem evEn_countLost (s : State) : evEn (countReg rHifEqLost 1 s) = evEn s := by
  rw [evEn, evEn, rbit, rbit, (regOnly_countReg rHifEqLost 1 s).2, if_neg (by decide)]

/-- With the event ring off a LOCAL record reaches the Call Board only, and counts as lost to the host (R366). -/
theorem emitLocal_of_off {code src a b c d : Nat} {s : State} (he : evEn s = false) (hm : evMasked s src = false) :
    emitLocal code src a b c d s = countReg rHifEqLost 1
      (modHif (fun h => { h with evr := { h.evr with lost := h.evr.lost + 1 } })
        (boarded (localWords code src a b c d s) s)) := by
  have hr : evRoom (boarded (localWords code src a b c d s) s) = false := by
    rw [evRoom, show evEn (boarded (localWords code src a b c d s) s) = false from he, Bool.false_and]
  rw [emitLocal_eq, evWrite_of_no_room (by exact hm) hr, evBatch_of_none (.inl ?_)]
  rw [evEn_countLost]
  exact he

theorem emitLocal_of_masked {code src a b c d : Nat} {s : State} (hm : evMasked s src = true) :
    emitLocal code src a b c d s = boarded (localWords code src a b c d s) s := by
  rw [emitLocal_eq, evWrite_of_masked (by exact hm), evBatch_of_none (.inr (by exact hm))]

/-- A record with room in the event ring goes there too, and its vector is signalled (R393). -/
theorem emitLocal_of_room {code src a b c d : Nat} {s : State} (hm : evMasked s src = false) (hr : evRoom s = true) :
    emitLocal code src a b c d s =
      vecSignal (evVec s src) (evWriteback (evPut (localWords code src a b c d s) (boarded (localWords code src a b c d s) s))) := by
  have he : evEn s = true := by
    rw [evRoom, Bool.and_eq_true] at hr
    exact hr.1
  rw [emitLocal_eq, evWrite_of_room (by exact hm) (by exact hr), evBatch_of_on (by exact he) (by exact hm)]
  rfl

/-! ### The Call Board of a record (R509, R516) -/

theorem board_vecSignal (v : Nat) (s : State) : (vecSignal v s).board = s.board := by
  unfold vecSignal
  split
  · rfl
  · split <;> rfl

theorem board_evBatch (src : Nat) (s : State) : (evBatch src s).board = s.board := by
  unfold evBatch evWriteback
  split
  · rw [board_vecSignal]; split <;> rfl
  · rfl

theorem board_evWrite (src : Nat) (l : List Word32) (s : State) : (evWrite src l s).board = s.board := by
  unfold evWrite
  split
  · rfl
  · split <;> rfl

theorem board_emitLocal (code src a b c d : Nat) (s : State) :
    (emitLocal code src a b c d s).board = boardWords (localWords code src a b c d s) s.board := by
  rw [emitLocal_eq, board_evBatch, board_evWrite]; rfl

theorem mesh_emitLocal (code src a b c d : Nat) (s : State) : (emitLocal code src a b c d s).mesh = s.mesh := by
  obtain ⟨_, _, _, _, _, _, _, _, _, h⟩ := recordOnly_emitLocal code src a b c d s
  rw [h]; rfl

theorem storeWords_store (l : List Word32) (b : Board) :
    (storeWords l b).store = smSet none b.store (b.next.toNat % 16384) (some ⟨b.next, l⟩) := rfl

theorem boardWords_of_scanned {l : List Word32} {b : Board} (h : b.scanned = true) : boardWords l b = storeWords l b :=
  if_pos h

theorem boardWords_of_waiting {l : List Word32} {b : Board} (h : b.scanned = false) (hw : b.waiting.length < 64) :
    boardWords l b = { b with waiting := b.waiting ++ [l] } := (if_neg (by simp [h])).trans (if_pos hw)

theorem boardWords_of_full {l : List Word32} {b : Board} (h : b.scanned = false) (hw : 64 ≤ b.waiting.length) :
    boardWords l b = { b with dropped := min 0xFFFFFFFF (b.dropped + 1) } :=
  (if_neg (by simp [h])).trans (if_neg (Nat.not_lt.mpr hw))

/-! ### The scan (R520) -/

theorem exec_journalScanComplete (x : Stamp) (s : State) :
    exec (.journalScanComplete x) s = .next (scanComplete (atTime x s)) := rfl

theorem exec_journalEraseEnd (s : State) : exec .journalEraseEnd s =
    .next (modBoard (fun b => { b with erasing := none, paused := false }) s) := rfl

@[simp] theorem board_atTime (t : Stamp) (s : State) : (atTime t s).board = s.board := by
  rw [atTime_frame]

@[simp] theorem mesh_atTime (t : Stamp) (s : State) : (atTime t s).mesh = s.mesh := by
  rw [atTime_frame]

/-- The first sequence number after the scan. -/
def scanFirst (b : Board) : Word32 :=
  match highestSeq b with
  | some h => h + 1
  | none => 0

/-- Records stored one after another: each takes the next number, and the rest of the board stands. -/
theorem storeAll_frame (l : List (List Word32)) (b : Board) : ∃ m, l.foldl (fun b l => storeWords l b) b =
    { b with store := m, next := b.next + BitVec.ofNat 32 l.length } := by
  induction l generalizing b with
  | nil => exact ⟨b.store, by simp⟩
  | cons x l ih =>
    obtain ⟨m, hm⟩ := ih (storeWords x b)
    refine ⟨m, ?_⟩
    have hnext : b.next + 1 + BitVec.ofNat 32 l.length = b.next + BitVec.ofNat 32 (x :: l).length := by
      rw [List.length_cons, Nat.add_comm l.length, BitVec.ofNat_add, BitVec.add_assoc]
      rfl
    rw [List.foldl_cons, hm, ← hnext]
    rfl

/-- The unit when the scan ends, before the keep-restored record. -/
def scanEnded (s : State) : State :=
  modBoard (fun b => { b with
    scanned := true, waiting := [], next := scanFirst s.board, jnlSeq := scanFirst s.board }) s

theorem scanComplete_of_scanned {s : State} (h : s.board.scanned = true) : scanComplete s = s := if_pos h

theorem scanComplete_of_scan {s : State} (h : s.board.scanned = false) : scanComplete s =
    modBoard (fun b => s.board.waiting.foldl (fun b l => storeWords l b) b)
      (emitLocal 0x0002 224 ((highestSeq s.board).getD 0xFFFFFFFF).toNat s.board.dropped 0 0 (scanEnded s)) :=
  if_neg (by simp [h])

/-- The board after the scan: the keep-restored record and the held ones follow the highest number found. -/
theorem board_scanComplete {s : State} (h : s.board.scanned = false) : ∃ m,
    (scanComplete s).board = { s.board with
      scanned := true, waiting := [], jnlSeq := scanFirst s.board, store := m
      next := scanFirst s.board + 1 + BitVec.ofNat 32 s.board.waiting.length } := by
  rw [scanComplete_of_scan h, modBoard_board, board_emitLocal, boardWords_of_scanned rfl]
  obtain ⟨m, hm⟩ := storeAll_frame s.board.waiting (storeWords (localWords 0x0002 224
    ((highestSeq s.board).getD 0xFFFFFFFF).toNat s.board.dropped 0 0 (scanEnded s)) (scanEnded s).board)
  exact ⟨m, hm⟩

/-! ### Copies to the journal (R517, R518) -/

section
variable {b : Board}

theorem copyOne_of_held (h : b.jnlSeq = b.next ∨ b.paused = true) : copyOne b = b := if_pos h

section
variable (hn : b.jnlSeq ≠ b.next) (hp : b.paused = false)
include hn hp

theorem copyOne_of_due : copyOne b = if (enterBlock b).paused then enterBlock b else { enterBlock b with
    jnl := smSet none (enterBlock b).jnl ((enterBlock b).jnlSeq.toNat % 262144) (storeRec (enterBlock b) (enterBlock b).jnlSeq)
    jnlSeq := (enterBlock b).jnlSeq + 1 } := if_neg (by simp [hn, hp])

/-- Inside a block whose next one is erased ahead, a record is copied. -/
theorem copyOne_of_ahead (h : b.ahead = some ((b.jnlSeq.toNat % 262144 / 8192 + 1) % 32)) :
    copyOne b = { b with
      jnl := smSet none b.jnl (b.jnlSeq.toNat % 262144) (storeRec b b.jnlSeq), jnlSeq := b.jnlSeq + 1 } := by
  have he : enterBlock b = b := if_pos h
  rw [copyOne_of_due hn hp, he, if_neg (by simp [hp])]

/-- On the entry of a block while another erase runs, journaling pauses. -/
theorem copyOne_of_erasing (h : b.ahead ≠ some ((b.jnlSeq.toNat % 262144 / 8192 + 1) % 32))
    (he : b.erasing.isSome = true) : copyOne b = { b with paused := true } := by
  have he : enterBlock b = { b with paused := true } := (if_neg h).trans (if_pos he)
  rw [copyOne_of_due hn hp, he, if_pos rfl]

/-- On the entry of an erased block, the erase of the next begins and the record is copied. -/
theorem copyOne_of_entry (h : b.ahead = some (b.jnlSeq.toNat % 262144 / 8192)) (he : b.erasing = none) :
    copyOne b = { beginErase ((b.jnlSeq.toNat % 262144 / 8192 + 1) % 32) b with
      jnl := smSet none (eraseBlock ((b.jnlSeq.toNat % 262144 / 8192 + 1) % 32) b.jnl) (b.jnlSeq.toNat % 262144)
        (storeRec b b.jnlSeq)
      jnlSeq := b.jnlSeq + 1 } := by
  have hne : b.ahead ≠ some ((b.jnlSeq.toNat % 262144 / 8192 + 1) % 32) := by
    rw [h]
    intro hs
    have := Option.some.inj hs
    omega
  have he : enterBlock b = beginErase ((b.jnlSeq.toNat % 262144 / 8192 + 1) % 32) b :=
    (if_neg hne).trans ((if_neg (by simp [he])).trans (if_pos (.inl h)))
  rw [copyOne_of_due hn hp, he]
  exact if_neg (by simp [beginErase, hp])

end

end

/-- A block that is erased reads as erased. -/
theorem smGet_eraseBlock {n i : Nat} (m : SMap (Option CbSlot)) (h : i / 8192 = n) : smGet none (eraseBlock n m) i = none :=
  (smGet_filter none m (fun i => i / 8192 != n) i).trans (if_neg (by simp [h]))

theorem journalGap_of_none {s : State} (h : (s.board.next - s.board.jnlSeq).toInt ≤ 16384) : journalGap s = s := by
  refine if_pos ?_
  rw [sdiff32]
  omega

/-! ### The statement -/

/-- Settles O35: where a record goes, the store, the scan and the journal. -/
theorem localRecords : Obligations.LocalRecords := by
  unfold Obligations.LocalRecords
  refine ⟨?_, fun code src a b c d s => emitLocal_of_masked, ?_, ?_, fun l b => boardWords_of_waiting,
    fun l b => boardWords_of_full, ?_, exec_journalEraseEnd, ?_, ?_, fun b => copyOne_of_ahead, fun b => copyOne_of_held,
    ?_, ?_, ?_⟩
  · intro code src a b c d s he hm
    refine ⟨_, rfl, ?_⟩
    rw [emitLocal_of_off he hm]
    exact regOnly_countReg rHifEqLost 1 _
  · intro code src a b c d s hm hr
    have he : evEn s = true := by
      rw [evRoom, Bool.and_eq_true] at hr
      exact hr.1
    refine ⟨_, _, ?_, rfl, rfl⟩
    rw [emitLocal_of_room hm hr, evWriteback_of_on (by exact he)]
    rfl
  · intro l b h
    refine ⟨_, boardWords_of_scanned h, ?_, rfl, fun i hi => ?_, rfl⟩
    · rw [storeWords_store, smGet_set_same]
    · rw [storeWords_store, smGet_set_other _ _ _ _ _ hi]
  · intro code src a b c d s
    obtain ⟨_, _, _, _, _, _, _, _, _, h⟩ := recordOnly_emitLocal code src a b c d s
    exact ⟨_, h, rfl⟩
  · intro x s h
    rw [exec_journalScanComplete, scanComplete_of_scanned (by simpa using h)]
  · intro x s h _
    have h' : (atTime x s).board.scanned = false := by simpa using h
    obtain ⟨m, hm⟩ := board_scanComplete h'
    rw [board_atTime] at hm
    refine ⟨_, scanFirst s.board, exec_journalScanComplete x s, ?_, ?_, rfl, ?_, ?_, ?_, ?_⟩
    · rw [hm]
    · rw [hm]
    · rw [hm]
    · rw [hm]
    · rw [scanComplete_of_scan h', modBoard_proc, emitLocal_proc, scanEnded, modBoard_proc, proc_atTime]
    · rw [scanComplete_of_scan h', modBoard_mesh, mesh_emitLocal, scanEnded, modBoard_mesh, mesh_atTime]
  · rintro b n rfl hn hp h he
    exact copyOne_of_erasing hn hp h he
  · rintro b n rfl hn hp h he
    rw [copyOne_of_entry hn hp h he]
    refine ⟨rfl, rfl, rfl, fun i hi hne => ?_⟩
    rw [smGet_set_other _ _ _ _ _ hne, smGet_eraseBlock _ hi]
  · intro s h hgap
    refine ⟨_, rfl, ?_⟩
    rw [journalCopy, if_pos h, journalGap_of_none hgap]
    rfl

end Sys2Proof.Machine
end

section
/-! SUPPORT. Chorus lines (R97, R98, R102 to R105, R155): the line's own changes, when it retunes, when a window starts
and ends, what it then latches, and the statement assembled from these. -/

namespace Sys2Proof.Machine

/-! ### What each command runs -/

theorem exec_lineCommit (n : Fin 96) (s : State) :
    exec (.lineCommit n) s = .next (modLine n (fun l => { l with pending := true }) s) := rfl

theorem exec_lineForce (n : Fin 96) (s : State) :
    exec (.lineForce n) s = .next (modLine n (fun l => { l with force := true }) s) := rfl

theorem exec_lineRetune (n : Fin 96) (t : Stamp) (s : State) :
    exec (.lineRetune n t) s = .next (lineRetune n t (atTime t s)) := rfl

theorem exec_windowStart (n : Fin 96) (t : Stamp) (s : State) :
    exec (.windowStart n t) s = .next (windowStart n t (atTime t s)) := rfl

theorem exec_windowEnd (n : Fin 96) (t : Stamp) (s : State) :
    exec (.windowEnd n t) s = .next (windowEnd n t (atTime t s)) := rfl

/-! ### One line changed -/

@[simp] theorem line_atTime (t : Stamp) (s : State) (n : Nat) : line (atTime t s) n = line s n := by
  rw [atTime_frame]; rfl

@[simp] theorem retuneTime_atTime (t : Stamp) (s : State) (w : Window) : retuneTime (atTime t s) w = retuneTime s w := by
  rw [retuneTime, ownStamp_atTime, retuneTime]

@[simp] theorem line_modLine_same (n : Nat) (f : Line → Line) (s : State) : line (modLine n f s) n = f (line s n) := by
  simp only [line, modLine, smGet_mod_same]

/-! ### Retuning (R103) -/

/-- The line takes the next window of its queue. -/
def lineServes (w : Window) (l : Line) : Line := { l with serving := some w, retuning := true, ready := false, inv := 0 }

/-- The line's queue after the window at its front. -/
def lineDrops (r : List Window) (l : Line) : Line := { l with queue := r }

section
variable {n : Nat} {t : Stamp} {s : State}

theorem lineRetune_of_empty (h : (line s n).queue = []) : lineRetune n t s = s := by
  simp only [lineRetune, h]

variable {w : Window} {r : List Window} (hq : (line s n).queue = w :: r)
include hq

theorem lineRetune_of_early (h : later64 (retuneTime s w) t = true) : lineRetune n t s = s := by
  simp only [lineRetune, hq, h, if_true]

variable (h : later64 (retuneTime s w) t = false)
include h

theorem lineRetune_of_busy (hb : lineBusy (line s n) = true) :
    lineRetune n t s = missWindow n t (modLine n (lineDrops r) s) w := by
  simp only [lineRetune, hq, h, hb, Bool.false_eq_true, if_false, if_true]
  rfl

theorem lineRetune_of_free (hb : lineBusy (line s n) = false) :
    lineRetune n t s = judgeBw (judgeBand (modLine n (lineServes w) (noSync n t (modLine n (lineDrops r) s))) n) n := by
  simp only [lineRetune, hq, h, hb, Bool.false_eq_true, if_false]
  rfl

end

/-! ### The end of a window without a frame (R104) -/

theorem noSync_of_none {n : Nat} {t : Stamp} {s : State} (h : (line s n).serving = none) : noSync n t s = s := by
  simp only [noSync, h]

theorem noSync_of_serving {n : Nat} {t : Stamp} {s : State} {w : Window} (h : (line s n).serving = some w) :
    noSync n t s = rxInput (windowEntry s n 1 w t) (endWindow n s) := by
  simp only [noSync, h]

/-! ### The start and the end of a window (R102, R104) -/

/-- From its start stamp a line that retuned for the window is ready to detect. -/
theorem windowStart_of_due {n : Nat} {t : Stamp} {s : State} {w : Window} (hs : (line s n).serving = some w)
    (hr : (line s n).retuning = true) (hd : later64 (ownStamp s w.start) t = false) :
    lineOnly n { line s n with retuning := false, ready := true } s (windowStart n t s) := by
  exact lineOnly_of rfl (if_pos (by simp [hs, hr, hd]))

/-- The line takes no new detection. -/
def lineCloses (l : Line) : Line := { l with ready := false, retuning := false }

theorem windowEnd_of_early {n : Nat} {t : Stamp} {s : State}
    (h : ∀ w, (line s n).serving = some w → later64 (ownStamp s w.endStamp) t = true) : windowEnd n t s = s := by
  refine if_neg ?_
  cases hs : (line s n).serving with
  | none => simp
  | some w => simp [h w hs]

theorem windowEnd_of_due {n : Nat} {t : Stamp} {s : State} {w : Window} (hs : (line s n).serving = some w)
    (hd : later64 (ownStamp s w.endStamp) t = false) :
    windowEnd n t s = settleWindow n t (modLine n lineCloses s) := if_pos (by simp [hs, hd])

theorem lineBusy_lineCloses (l : Line) : lineBusy (lineCloses l) = lineBusy l := rfl

theorem settleWindow_of_busy {n : Nat} {t : Stamp} {s : State} (h : lineBusy (line s n) = true) : settleWindow n t s = s :=
  if_neg (by simp [h])

theorem settleWindow_of_over {n : Nat} {t : Stamp} {s : State} {w : Window} (hs : (line s n).serving = some w)
    (hready : (line s n).ready = false) (hret : (line s n).retuning = false) (hb : lineBusy (line s n) = false) :
    settleWindow n t s = rxInput (windowEntry s n 1 w t) (endWindow n s) :=
  (if_pos (by simp [hs, hready, hret, hb])).trans (noSync_of_serving hs)

/-! ### The statement -/

/-- Settles O37: each clause is the lemma on its case. -/
theorem chorusLines : Obligations.ChorusLines := by
  unfold Obligations.ChorusLines
  refine ⟨?_, ?_, ?_, ?_, ?_, ?_, ?_, ?_, ?_, ?_, ?_, ?_, ?_, ?_⟩
  · intro n s
    exact ⟨_, exec_lineCommit n s, lineOnly_modLine _ _ s⟩
  · intro n s
    exact ⟨_, exec_lineForce n s, lineOnly_modLine _ _ s⟩
  · intro n t s h
    rw [exec_lineRetune, lineRetune_of_empty (by simpa using h)]
  · intro n t s w r hq h
    rw [exec_lineRetune, lineRetune_of_early (w := w) (r := r) (by simpa using hq) (by simpa using h)]
  · intro n t s w r hq h hb
    refine ⟨modLine n (lineDrops r) (atTime t s), (exec_lineRetune n t s).trans (congrArg _ (lineRetune_of_busy
      (by simpa using hq) (by simpa using h) (by simpa using hb))), ?_⟩
    exact lineOnly_of rfl (by rw [line_atTime]; rfl)
  · intro n t s w r hq h hb hs
    refine ⟨modLine n (lineDrops r) (atTime t s), modLine n (lineServes w) (modLine n (lineDrops r) (atTime t s)), ?_, ?_, ?_⟩
    · rw [exec_lineRetune, lineRetune_of_free (w := w) (r := r) (by simpa using hq) (by simpa using h) (by simpa using hb),
        noSync_of_none (by simpa [lineDrops] using hs)]
    · exact lineOnly_of rfl (by rw [line_atTime]; rfl)
    · exact lineOnly_of rfl (by rw [line_modLine_same, line_atTime]; rfl)
  · intro n t s w x r hq h hb hs
    refine ⟨modLine n (lineDrops r) (atTime t s), endWindow n (modLine n (lineDrops r) (atTime t s)), _, _, ?_, ?_, ?_, rfl,
      lineOnly_modLine n (lineServes w) _⟩
    · rw [exec_lineRetune, lineRetune_of_free (w := w) (r := r) (by simpa using hq) (by simpa using h) (by simpa using hb),
        noSync_of_serving (w := x) (by simpa [lineDrops] using hs)]
    · exact lineOnly_of rfl (by rw [line_atTime]; rfl)
    · exact lineOnly_of rfl (by rw [line_modLine_same, line_atTime]; rfl)
  · intro n t s w hs hr hd
    refine ⟨_, exec_windowStart n t s, ?_⟩
    simpa using windowStart_of_due (n := n) (t := t) (s := atTime t s) (by simpa using hs) (by simpa using hr) (by simpa using hd)
  · intro n t s h
    rw [exec_windowEnd, windowEnd_of_early (by simp [h])]
  · intro n t s w hs h
    rw [exec_windowEnd, windowEnd_of_early (by simp [hs, h])]
  · intro n t s w hs hd hb
    refine ⟨modLine n lineCloses (atTime t s), ?_, ?_⟩
    · rw [exec_windowEnd, windowEnd_of_due (by simpa using hs) (by simpa using hd), settleWindow_of_busy]
      rw [line_modLine_same, line_atTime, lineBusy_lineCloses]
      exact hb
    · exact lineOnly_of rfl (by rw [line_atTime]; rfl)
  · intro n t s w hs hd hb
    refine ⟨modLine n lineCloses (atTime t s), endWindow n (modLine n lineCloses (atTime t s)), ?_, ?_, ?_⟩
    · rw [exec_windowEnd, windowEnd_of_due (by simpa using hs) (by simpa using hd), settleWindow_of_over]
      · simpa [lineCloses] using hs
      · simp [lineCloses]
      · simp [lineCloses]
      · rw [line_modLine_same, line_atTime, lineBusy_lineCloses]
        exact hb
    · exact lineOnly_of rfl (by rw [line_atTime]; rfl)
    · exact lineOnly_of rfl (by rw [line_modLine_same, line_atTime]; rfl)
  · intro r s h
    exact ⟨_, input_of_takes h, rfl, rfl⟩
  · intro r s h
    exact input_of_none_taken h

end Sys2Proof.Machine
end

section
/-! SUPPORT. The detectors (R101, R145, R148 to R152): a detection, a candidate of the watch, the time-out of a detection,
the sync point, and the statement assembled from these. -/

namespace Sys2Proof.Machine

/-! ### What each command runs -/

theorem exec_detection (n : Fin 96) (d : Fin 6) (i : DetIn) (t : Stamp) (s : State) :
    exec (.detection n d i t) s = .next (detect n d i t (atTime t s)) := rfl

theorem exec_watchCandidate (n : Fin 96) (d : Fin 6) (i : DetIn) (t : Stamp) (s : State) :
    exec (.watchCandidate n d ⟨i, t⟩) s = .next (watchFinds n d i t (atTime t s)) := rfl

theorem exec_detectTimeout (n : Fin 96) (d : Fin 6) (t : Stamp) (s : State) :
    exec (.detectTimeout n d t) s = .next (detectTimeout n d t (atTime t s)) := rfl

theorem exec_syncFieldMatched (n : Fin 96) (d : Fin 6) (i : SyncIn) (b : Bool) (t : Stamp) (s : State) :
    exec (.syncFieldMatched n d i b t) s = .next (syncAt n d i b t (atTime t s)) := rfl

/-! ### What a detector reads does not change with the time -/

section
variable (t : Stamp) (s : State) (n d : Nat)

@[simp] theorem det_atTime : det (atTime t s) n d = det s n d := by rw [det, line_atTime, det]

@[simp] theorem lineHears_atTime : lineHears (atTime t s) n d = lineHears s n d := by
  simp only [lineHears, line_atTime, portOn_atTime, port_atTime]

@[simp] theorem lineDetects_atTime : lineDetects (atTime t s) n d = lineDetects s n d := by
  simp only [lineDetects, line_atTime, lineHears_atTime]

@[simp] theorem fullScale_atTime (p g : Nat) : fullScale (atTime t s) p g = fullScale s p g := by
  rw [atTime_frame]; rfl

@[simp] theorem lineDbm_atTime (l : Line) (v : Int) : lineDbm (atTime t s) l v = lineDbm s l v := by
  simp only [lineDbm, fullScale_atTime, port_atTime]

@[simp] theorem recStamp_atTime (x : Stamp) : recStamp (atTime t s) x = recStamp s x := by
  simp only [recStamp, pair_atTime]

@[simp] theorem watchOf_atTime (l : Line) (i : DetIn) : watchOf (atTime t s) l i = watchOf s l i := by
  simp only [watchOf, lineDbm_atTime]

end

/-! ### A line and its detectors -/

@[simp] theorem det_modDet_same (n d : Nat) (f : Det → Det) (s : State) : det (modDet n d f s) n d = f (det s n d) := by
  have h := ((detOnly_modDet n d f s).2 n).2 d
  rwa [if_pos ⟨rfl, rfl⟩] at h

@[simp] theorem serving_modDet (n d : Nat) (f : Det → Det) (s : State) (j : Nat) :
    (line (modDet n d f s) j).serving = (line s j).serving := by
  have h := ((detOnly_modDet n d f s).2 j).1
  rw [h]

@[simp] theorem line_demCount (n lo : Nat) (s : State) (j : Nat) : line (demCount n lo s) j = line s j := rfl

@[simp] theorem det_demCount (n lo : Nat) (s : State) (j d : Nat) : det (demCount n lo s) j d = det s j d := rfl

/-- A count of a line's demodulator rises by one and stops at its top (R147). -/
theorem regOnly_demCount (n lo : Nat) (s : State) :
    regOnly (demReg n 0xC) (withField (reg s (demReg n 0xC)) (lo + 15) lo
      (min 0xFFFF (rbits s (demReg n 0xC) (lo + 15) lo + 1))) s (demCount n lo s) := regOnly_setRBits _ _ _ _ s

theorem settleWindow_of_no_window {n : Nat} {t : Stamp} {s : State} (h : (line s n).serving = none) :
    settleWindow n t s = s := if_neg (by simp [h])

/-! ### A detection (R145, R148, R149) -/

/-- What a detector holds when it starts a candidate. -/
def newCandidate (s : State) (l : Line) (i : DetIn) (t : Stamp) : Det :=
  { ({} : Det) with
    st := .detecting, since := t, cand := lineDbm s l i.pow, floor := lineDbm s l i.noise, agc := agcGain l i.pow }

theorem declares_of {l : Line} {i : DetIn} (h : 100 * (l.detLevel : Int) < i.metric) (hc : detNeeded l ≤ i.count) :
    declares l i = true := by simp [declares, h, hc]

theorem detect_of_declared {n d : Nat} {i : DetIn} {t : Stamp} {s : State} (h : lineDetects s n d = true)
    (hst : (det s n d).st = .idle) (hd : declares (line s n) i = true) :
    detect n d i t s = modDet n d (fun _ => newCandidate s (line s n) i t) s := if_pos (by simp [h, hst, hd])

theorem detect_of_none {n d : Nat} {i : DetIn} {t : Stamp} {s : State}
    (h : lineDetects s n d = false ∨ (det s n d).st ≠ .idle ∨ i.metric ≤ 100 * ((line s n).detLevel : Int) ∨
      i.count < detNeeded (line s n)) : detect n d i t s = s := by
  refine if_neg ?_
  simp only [declares, Bool.and_eq_true, beq_iff_eq, decide_eq_true_eq]
  rintro ⟨⟨hd, hst⟩, hm, hc⟩
  rcases h with h | h | h | h
  · simp [h] at hd
  · exact h hst
  · omega
  · omega

/-! ### A candidate of the watch (R101, R145, R150) -/

section
variable {n d : Nat} {i : DetIn} {t : Stamp} {s : State}

theorem watchFinds_of_unwatched
    (h : (line s n).watchEn = false ∨ lineHears s n d = false ∨ declares (line s n) i = false ∨ (det s n d).st = .idle) :
    watchFinds n d i t s = s := by
  unfold watchFinds
  rcases h with h | h | h | h <;> simp [h]

section
variable (he : (line s n).watchEn = true) (hh : lineHears s n d = true) (hd : declares (line s n) i = true)
include he hh hd

theorem watchFinds_of_detecting (hst : (det s n d).st = .detecting)
    (hp : (det s n d).cand + 100 * ((line s n).captThr : Int) ≤ lineDbm s (line s n) i.pow) :
    watchFinds n d i t s = modDet n d (fun x => { x with
      since := t, cand := lineDbm s (line s n) i.pow, floor := lineDbm s (line s n) i.noise
      agc := agcGain (line s n) i.pow }) s := by
  simp only [watchFinds, he, hh, hd, hst, Bool.not_true, Bool.or_self, Bool.false_eq_true, if_false]
  exact if_pos hp

theorem watchFinds_of_frozen (hst : (det s n d).st = .frozen)
    (hp : ∀ w, (det s n d).watch = some w → w.pow + 100 * ((line s n).captThr : Int) ≤ lineDbm s (line s n) i.pow) :
    watchFinds n d i t s = modDet n d (fun x => { x with watch := some (watchOf s (line s n) i) }) s := by
  simp only [watchFinds, he, hh, hd, hst, Bool.not_true, Bool.or_self, Bool.false_eq_true, if_false]
  refine if_pos ?_
  cases hw : (det s n d).watch with
  | none => rfl
  | some w => exact decide_eq_true (hp w hw)

end

end

/-! ### The time-out of a detection (R104, R145) -/

theorem detectTimeout_of_over {n d : Nat} {t : Stamp} {s : State} (hst : (det s n d).st = .detecting)
    (hs : (line s n).serving = none)
    (h : later64 (plus (det s n d).since (detTimeout (line s n) d / 3)) t = false) :
    detectTimeout n d t s = modDet n d restDet (falseDet n s) :=
  (if_pos ⟨hst, by simp [h]⟩).trans (settleWindow_of_no_window (by rw [serving_modDet, falseDet, line_demCount, hs]))

theorem detectTimeout_of_running {n d : Nat} {t : Stamp} {s : State} (h : (det s n d).st ≠ .detecting ∨
    later64 (plus (det s n d).since (detTimeout (line s n) d / 3)) t = true) : detectTimeout n d t s = s := by
  refine if_neg ?_
  rintro ⟨hst, hl⟩
  rcases h with h | h
  · exact h hst
  · simp [h] at hl

/-! ### The sync point (R124, R149, R152) -/

theorem syncAt_of_missed {n d : Nat} {i : SyncIn} {b : Bool} {t : Stamp} {s : State}
    (h : (det s n d).st ≠ .detecting ∨ acquires (line s n) i.offset = false ∨ tagOurs (line s n) d i.tag = false) :
    syncAt n d i b t s = s := by
  refine if_neg ?_
  rintro ⟨hst, ha, hk⟩
  rcases h with h | h | h
  · exact h hst
  · simp [h] at ha
  · simp [h] at hk

/-- A tag symbol of spreading factor 7 or more tells its four bits (R124). -/
theorem tagSymbol_div (d a : Nat) : (2 ^ (7 + d - 4) * a + 2 ^ (7 + d - 5)) / 2 ^ (7 + d - 4) = a := by
  have h : 2 ^ (7 + d - 5) < 2 ^ (7 + d - 4) := Nat.pow_lt_pow_right (by decide) (by omega)
  rw [Nat.mul_add_div (Nat.two_pow_pos _), Nat.div_eq_of_lt h, Nat.add_zero]

/-- What a detector holds after the sync point, outside a window and with no gain step landing. -/
def atSync (s : State) (l : Line) (d : Nat) (i : SyncIn) (t : Stamp) (x : Det) : Det :=
  { x with
    st := .frozen, arrival := recStamp s t, pref := max (lineDbm s l i.sig) x.floor, rssi := lineDbm s l i.rssi
    snr := lineDbm s l i.sig - x.floor, offset := i.offset, agc := agcGain l i.rssi
    phyInfo := BitVec.ofNat 16 (syncInfo (linePers l) d i.fec i.rsc)
    gain := (port s (linePort l)).gain
    flags := x.flags ||| (if lineDbm s l i.sig < x.floor then 8 else 0), header := false }

theorem syncAt_of_ours {n d : Nat} {i : SyncIn} {t : Stamp} {s : State} (hst : (det s n d).st = .detecting)
    (hs : (line s n).serving = none) (ha : acquires (line s n) i.offset = true)
    (hk : tagOurs (line s n) d i.tag = true) :
    ∃ f, syncAt n d i false t s = modDet n d f s ∧ f (det s n d) = atSync s (line s n) d i t (det s n d) := by
  refine ⟨_, if_pos ⟨hst, ha, hk⟩, ?_⟩
  simp [atSync, hs]

/-! ### The statement -/

/-- Settles O39: each clause is the lemma on its case, read before the clock of the command. -/
theorem detectors : Obligations.Detectors := by
  unfold Obligations.Detectors
  refine ⟨?_, ?_, ?_, ?_, ?_, ?_, ?_, ?_, ?_, ?_⟩
  · intro n d i t s hl hst hm hc
    refine ⟨_, (exec_detection n d i t s).trans (congrArg _ (detect_of_declared (by simpa using hl) (by simpa using hst)
      (by simpa using declares_of hm hc))), ?_⟩
    exact detOnly_of rfl (by simp [newCandidate, agcGain])
  · intro n d i t s h
    rw [exec_detection, detect_of_none (by simpa using h)]
  · intro n d i t s he hh hd hst hp
    refine ⟨_, (exec_watchCandidate n d i t s).trans (congrArg _ (watchFinds_of_detecting (by simpa using he)
      (by simpa using hh) (by simpa using hd) (by simpa using hst) (by simpa using hp))), ?_⟩
    exact detOnly_of rfl (by simp)
  · intro n d i t s he hh hd hst hp
    refine ⟨_, (exec_watchCandidate n d i t s).trans (congrArg _ (watchFinds_of_frozen (by simpa using he)
      (by simpa using hh) (by simpa using hd) (by simpa using hst) (by simpa using hp))), ?_⟩
    exact detOnly_of rfl (by simp [watchOf])
  · intro n d i t s h
    rw [exec_watchCandidate, watchFinds_of_unwatched (by simpa using h)]
  · intro n d t s hst hs h
    refine ⟨falseDet n (atTime t s), _, (exec_detectTimeout n d t s).trans (congrArg _ (detectTimeout_of_over
      (by simpa using hst) (by simpa using hs) (by simpa using h))), ?_, ?_⟩
    · simpa [falseDet] using regOnly_demCount n 0 (atTime t s)
    · exact detOnly_of rfl (by rw [falseDet, det_demCount, det_atTime]; rfl)
  · intro n d t s h
    rw [exec_detectTimeout, detectTimeout_of_running (by simpa using h)]
  · intro n d i b t s h
    rw [exec_syncFieldMatched, syncAt_of_missed (by simpa using h)]
  · intro n d i t s hst hs ha hk
    obtain ⟨f, hf, hx⟩ := syncAt_of_ours (n := n) (d := d) (i := i) (t := t) (s := atTime t s) (by simpa using hst)
      (by simpa using hs) (by simpa using ha) (by simpa using hk)
    refine ⟨_, _, (exec_syncFieldMatched n d i false t s).trans (congrArg _ hf), rfl, ?_⟩
    exact detOnly_of rfl (hx.trans (by simp [atSync]))
  · intro l d k hp
    simp only [tagOurs, hp, tagShifts, List.map_cons, List.map_nil, tagSymbol_div, bne_self_eq_false, Bool.false_or]

end Sys2Proof.Machine
end

section
/-! SUPPORT. Receptions (R121, R125, R136, R145 to R147, R150, R155 to R157): a header that passes or fails, a displacement
and the commit, and the statement assembled from these. -/

namespace Sys2Proof.Machine

/-! ### What each command runs -/

theorem exec_headerCheck (n : Fin 96) (d : Fin 6) (i : HeaderIn) (t : Stamp) (s : State) :
    exec (.headerCheck n d i t) s = .next (headerCheck n d i t (atTime t s)) := rfl

theorem exec_displacement (n : Fin 96) (d : Fin 6) (t : Stamp) (s : State) :
    exec (.displacement n d t) s = .next (displace n d t (atTime t s)) := rfl

theorem exec_receptionCommit (n : Fin 96) (d : Fin 6) (i : CommitIn) (t : Stamp) (s : State) :
    exec (.receptionCommit n d i t) s = .next (commitReception n d i t (atTime t s)) := rfl

/-! ### What a demodulator reads does not change with the time -/

section
variable (t : Stamp) (s : State) (l : Line)

@[simp] theorem judgeHeader_atTime (d info h : Nat) (i : HeaderIn) :
    judgeHeader (atTime t s) l d info h i = judgeHeader s l d info h i := by
  simp only [judgeHeader, mapHeld, mesh_atTime]

@[simp] theorem psduOf_atTime (d : Nat) (x : Det) (i : CommitIn) (u : Stamp) :
    psduOf (atTime t s) l d x i u = psduOf s l d x i u := by
  rw [atTime_frame]; rfl

end

@[simp] theorem regs_atTime (t : Stamp) (s : State) : (atTime t s).regs = s.regs := by rw [atTime_frame]

/-! ### An entry latched changes no line -/

section
variable (r : Reception) (s : State) (n d : Nat)

@[simp] theorem line_rxInput : line (rxInput r s) n = line s n := by
  unfold rxInput input
  split <;> rfl

@[simp] theorem regs_rxInput : (rxInput r s).regs = s.regs := by
  unfold rxInput input
  split <;> rfl

@[simp] theorem det_rxInput : det (rxInput r s) n d = det s n d := by rw [det, line_rxInput, det]

theorem det_endWindow : det (endWindow n s) n d = det s n d := by
  rw [det, endWindow, line_modLine_same, det]

end

/-! ### The end of a reception (R145) -/

theorem afterReception_of_no_watch {n d : Nat} {k : Bool} {t : Stamp} {s : State}
    (h : k = false ∨ (det s n d).watch = none) :
    ∃ f, afterReception n d k t s = modDet n d f s ∧ f (det s n d) = restDet (det s n d) := by
  refine ⟨_, rfl, ?_⟩
  rcases h with h | h <;> simp [h]

theorem detOnly_afterReception {n d : Nat} {k : Bool} {t : Stamp} {s : State}
    (h : k = false ∨ (det s n d).watch = none) :
    detOnly n d (restDet (det s n d)) s (afterReception n d k t s) := by
  obtain ⟨f, hf, hx⟩ := afterReception_of_no_watch (t := t) h
  exact detOnly_of hf hx

@[simp] theorem serving_afterReception (n d : Nat) (k : Bool) (t : Stamp) (s : State) (j : Nat) :
    (line (afterReception n d k t s) j).serving = (line s j).serving := serving_modDet n d _ s j

theorem commitEntry_of_open {n d o st : Nat} {off : Int} {p : List Byte} {t : Stamp} {s : State}
    (h : (line s n).serving = none) :
    commitEntry n d o st off p t s = afterReception n d true t (rxInput (rxOf s n d o st off p t) s) := by
  simp [commitEntry, h]

theorem commitEntry_of_window {n d o st : Nat} {off : Int} {p : List Byte} {t : Stamp} {s : State} {w : Window}
    (h : (line s n).serving = some w) : commitEntry n d o st off p t s =
      afterReception n d false t (endWindow n (rxInput (rxOf s n d o st off p t) s)) := by
  simp [commitEntry, h]

theorem detOnly_commit_open {n d : Nat} {t : Stamp} {s : State} (r : Reception) (h : (det s n d).watch = none) :
    detOnly n d (restDet (det s n d)) (rxInput r s) (afterReception n d true t (rxInput r s)) := by
  simpa using detOnly_afterReception (n := n) (d := d) (k := true) (t := t) (s := rxInput r s) (.inr (by simpa using h))

theorem detOnly_commit_window (n d : Nat) (t : Stamp) (s : State) (r : Reception) :
    detOnly n d (restDet (det s n d)) (endWindow n (rxInput r s)) (afterReception n d false t (endWindow n (rxInput r s))) := by
  simpa [det_endWindow] using detOnly_afterReception (n := n) (d := d) (k := false) (t := t)
    (s := endWindow n (rxInput r s)) (.inl rfl)

/-! ### The header (R121, R125, R136, R146) -/

/-- The state in which an unsupported option has been counted and is on the detector (R146, R147). -/
def unsupportedSeen (n d k : Nat) (s : State) : State :=
  modDet n d (fun x => { x with phyInfo := BitVec.ofNat 16 k }) (falseDet n s)

section
variable {n d : Nat} {i : HeaderIn} {t : Stamp} {s : State}

theorem headerCheck_of_none (h : (det s n d).st ≠ .frozen ∨ (det s n d).header = true) : headerCheck n d i t s = s := by
  refine if_neg ?_
  rintro ⟨hst, hh⟩
  rcases h with h | h
  · exact h hst
  · simp [h] at hh

section
variable (hst : (det s n d).st = .frozen) (hh : (det s n d).header = false)
include hst hh

theorem headerCheck_of_frc {h : Nat} (hp : phyOf (linePers (line s n)) = .frc)
    (hr : frcHeaderRead (7 + d) (line s n).tag.toNat i.shifts = some h) (hok : frcHeaderOk h = true) :
    headerCheck n d i t s = modDet n d (fun x => { x with
      header := true, length := bits h 7 0, hbits := h
      phyInfo := BitVec.ofNat 16 (frcInfo h d ((linePers (line s n) - 0x80) / 16)), status := 0, ext := [] }) s := by
  have hb : headerBits (line s n) d i t = h := by simp [headerBits, hp, hr]
  have hj : judgeHeader s (line s n) d (det s n d).phyInfo.toNat h i =
      .pass (bits h 7 0) (frcInfo h d ((linePers (line s n) - 0x80) / 16)) 0 := by simp [judgeHeader, hp, hok]
  simp [headerCheck, hst, hh, hb, hj, hp]

theorem headerCheck_of_failed (hs : (line s n).serving = none)
    (hj : judgeHeader s (line s n) d (det s n d).phyInfo.toNat (headerBits (line s n) d i t) i = .fail ∨
      ∃ k, judgeHeader s (line s n) d (det s n d).phyInfo.toNat (headerBits (line s n) d i t) i = .unsupported k) :
    headerCheck n d i t s = headerFails n d t s := by
  rcases hj with hj | ⟨k, hj⟩ <;> simp [headerCheck, hst, hh, hj, hs]

theorem headerCheck_of_unsupported {w : Window} {k : Nat} (hs : (line s n).serving = some w)
    (hj : judgeHeader s (line s n) d (det s n d).phyInfo.toNat (headerBits (line s n) d i t) i = .unsupported k) :
    headerCheck n d i t s = commitEntry n d 0 3 (det s n d).offset [] t (unsupportedSeen n d k s) := by
  simp [headerCheck, unsupportedSeen, hst, hh, hj, hs]

end

theorem headerFails_of_open (hs : (line s n).serving = none) :
    headerFails n d t s = afterReception n d true t (falseDet n s) :=
  settleWindow_of_no_window (by rw [serving_afterReception, falseDet, line_demCount, hs])

end

/-! ### A displacement (R150, R151) -/

theorem displace_of_none {n d : Nat} {t : Stamp} {s : State}
    (h : (det s n d).st ≠ .frozen ∨ (det s n d).watch = none ∨ (line s n).watchEn = false) : displace n d t s = s := by
  unfold displace
  rcases h with h | h | h
  · cases hst : (det s n d).st <;> simp_all
  · simp [h]
  · simp only [h, Bool.false_and, Bool.false_eq_true, if_false]
    split <;> rfl

/-- What a detector holds after a displacement (R151). -/
def displacedDet (s : State) (l : Line) (t : Stamp) (w : Watch) (x : Det) : Det :=
  { handOver s l t w with displaced := satAdd 255 x.displaced 1, dispRssi := max x.dispRssi x.rssi }

theorem displace_of_stronger {n d : Nat} {t : Stamp} {s : State} {w : Watch} (hst : (det s n d).st = .frozen)
    (hw : (det s n d).watch = some w) (he : (line s n).watchEn = true)
    (hp : (det s n d).pref + 100 * ((line s n).captThr : Int) ≤ w.pow) (hh : (det s n d).header = true)
    (hs : (line s n).serving = none) :
    displace n d t s = demCount n 16 (modDet n d (displacedDet s (line s n) t w)
      (rxInput (rxOf s n d 3 2 (det s n d).offset [] t) s)) := by
  simp [displace, hst, hw, he, hp, hh, hs]
  rfl

/-! ### The commit (R145, R155, R156) -/

section
variable {n d : Nat} {i : CommitIn} {t : Stamp} {s : State}

theorem commitReception_of_none
    (h : (det s n d).st ≠ .frozen ∨ (det s n d).header = false ∨ psduOf s (line s n) d (det s n d) i t = none) :
    commitReception n d i t s = s := by
  unfold commitReception
  rcases h with h | h | h <;> simp [h]

/-- The status of a reception whose last sample has come (R156). -/
def commitStatus (l : Line) (x : Det) (psdu : List Byte) : Nat :=
  if phyOf (linePers l) = .frc ∧ x.phyInfo.getLsbD 5 = false then 5
  else if fcsGood (linePers l) x.phyInfo.toNat psdu then 0 else 1

theorem commitReception_of_psdu {psdu : List Byte} (hst : (det s n d).st = .frozen) (hh : (det s n d).header = true)
    (hp : psduOf s (line s n) d (det s n d) i t = some psdu) :
    commitReception n d i t s =
      commitEntry n d 0 (commitStatus (line s n) (det s n d) psdu) i.offset psdu t s := by
  simp [commitReception, commitStatus, hst, hh, hp]

end

/-! ### The statement -/

/-- Settles O40: each clause is the lemma on its case, read before the clock of the command. -/
theorem receptions : Obligations.Receptions := by
  unfold Obligations.Receptions
  refine ⟨?_, ?_, ?_, ?_, ?_, ?_, ?_, ?_, ?_, ?_, ?_⟩
  · intro n d i t s h
    rw [exec_headerCheck, headerCheck_of_none (by simpa using h)]
  · intro n d i t s h hst hh hp hr hok
    refine ⟨_, (exec_headerCheck n d i t s).trans (congrArg _ (headerCheck_of_frc (by simpa using hst) (by simpa using hh)
      (by simpa using hp) (by simpa using hr) hok)), ?_⟩
    exact detOnly_of rfl (by simp)
  · intro n d i t s hst hh hs hw hj
    refine ⟨falseDet n (atTime t s), _, (exec_headerCheck n d i t s).trans (congrArg _ ((headerCheck_of_failed
      (by simpa using hst) (by simpa using hh) (by simpa using hs) (by simpa using hj)).trans
      (headerFails_of_open (by simpa using hs)))), ?_, ?_⟩
    · simpa [falseDet] using regOnly_demCount n 0 (atTime t s)
    · simpa [falseDet, restDet] using detOnly_afterReception (n := n) (d := d) (k := true) (t := t) (s := falseDet n (atTime t s))
        (.inr (by simpa [falseDet] using hw))
  · intro n d i t s k w hst hh hs hj
    have hk : (line (unsupportedSeen n d k (atTime t s)) n).serving = some w := by
      simpa [unsupportedSeen, falseDet] using hs
    have hx : det (unsupportedSeen n d k (atTime t s)) n d = { det s n d with phyInfo := BitVec.ofNat 16 k } := by
      simp [unsupportedSeen, falseDet]
    have he := headerCheck_of_unsupported (n := n) (d := d) (i := i) (t := t) (s := atTime t s) (w := w) (k := k)
      (by simpa using hst) (by simpa using hh) (by simpa using hs) (by simpa using hj)
    rw [commitEntry_of_window hk, det_atTime] at he
    refine ⟨falseDet n (atTime t s), unsupportedSeen n d k (atTime t s), _, _,
      (exec_headerCheck n d i t s).trans (congrArg _ he), ?_, ?_, rfl, ?_⟩
    · simpa [falseDet] using regOnly_demCount n 0 (atTime t s)
    · exact detOnly_of rfl (by simp [falseDet])
    · have h := detOnly_commit_window n d t (unsupportedSeen n d k (atTime t s))
        (rxOf (unsupportedSeen n d k (atTime t s)) n d 0 3 (det s n d).offset [] t)
      rwa [hx] at h
  · intro n d t s h
    rw [exec_displacement, displace_of_none (by simpa using h)]
  · intro n d t s w hst hw he hp hh hs
    have hd := displace_of_stronger (n := n) (d := d) (t := t) (s := atTime t s) (w := w) (by simpa using hst)
      (by simpa using hw) (by simpa using he) (by simpa using hp) (by simpa using hh) (by simpa using hs)
    rw [det_atTime] at hd
    refine ⟨_, modDet n d (displacedDet (atTime t s) (line (atTime t s) n) t w)
      (rxInput (rxOf (atTime t s) n d 3 2 (det s n d).offset [] t) (atTime t s)), _,
      (exec_displacement n d t s).trans (congrArg _ hd), rfl, ?_, ?_⟩
    · exact detOnly_of rfl (by simp [displacedDet, handOver, startFlags, fBlank, satAdd, max_comm])
    · simpa [rbits, reg] using regOnly_demCount n 16 (modDet n d (displacedDet (atTime t s) (line (atTime t s) n) t w)
        (rxInput (rxOf (atTime t s) n d 3 2 (det s n d).offset [] t) (atTime t s)))
  · intro n d i t s h
    rw [exec_receptionCommit, commitReception_of_none (by simpa using h)]
  · intro n d i t s h
    rcases h with h | h <;> simp [psduOf, h]
  · intro n d i t s h
    simp [psduOf, h]
  · intro n d i t s psdu st hst hh hs hw hp hv
    have hc := (commitReception_of_psdu (i := i) (t := t) (s := atTime t s) (psdu := psdu) (by simpa using hst)
      (by simpa using hh) (by simpa using hp)).trans (commitEntry_of_open (by simpa using hs))
    rw [det_atTime, line_atTime, commitStatus, ← hv] at hc
    refine ⟨_, _, (exec_receptionCommit n d i t s).trans (congrArg _ hc), rfl, ?_⟩
    have h := detOnly_commit_open (n := n) (d := d) (t := t) (s := atTime t s)
      (rxOf (atTime t s) n d 0 st i.offset psdu t) (by simpa using hw)
    rwa [det_atTime] at h
  · intro n d i t s psdu w st hst hh hs hp hv
    have hc := (commitReception_of_psdu (i := i) (t := t) (s := atTime t s) (psdu := psdu) (by simpa using hst)
      (by simpa using hh) (by simpa using hp)).trans (commitEntry_of_window (w := w) (by simpa using hs))
    rw [det_atTime, line_atTime, commitStatus, ← hv] at hc
    refine ⟨_, _, (exec_receptionCommit n d i t s).trans (congrArg _ hc), rfl, ?_⟩
    have h := detOnly_commit_window n d t (atTime t s) (rxOf (atTime t s) n d 0 st i.offset psdu t)
    rwa [det_atTime] at h

end Sys2Proof.Machine
end

section
/-! SUPPORT. A chain is prepared (R175, R176, R180, R208, R211): the cut that has come, enabling and disabling, the retune
and the lock, the settings latched, and the statement assembled from these. -/

namespace Sys2Proof.Machine

/-! ### What each command runs -/

theorem exec_recal (c : Chain) (s : State) :
    exec (.recal c) s = .next (modTx c (fun x => { x with recalDue := true }) s) := rfl

theorem exec_chainEnable (c : Chain) (s : State) : exec (.chainEnable c) s = .next (enableChain c s) := rfl

theorem exec_chainDisable (c : Chain) (t : Stamp) (s : State) :
    exec (.chainDisable c t) s = .next (disableChain c t (chainAt c t s)) := rfl

theorem exec_retune (c : Chain) (t : Stamp) (s : State) :
    exec (.retune c t) s = .next (startRetune c t (chainAt c t s)) := rfl

theorem exec_lockDeclared (c : Chain) (t : Stamp) (s : State) :
    exec (.lockDeclared c t) s = .next (declareLock c (chainAt c t s)) := rfl

/-! ### One chain changed -/

@[simp] theorem tx_modTx_same (c : Chain) (f : Tx → Tx) (s : State) : tx (modTx c f s) c = f (tx s c) := by
  cases c <;> rfl

@[simp] theorem tx_withTx_same (c : Chain) (x : Tx) (s : State) : tx (withTx c x s) c = x := by cases c <;> rfl

@[simp] theorem tx_setReg (o : Nat) (v : Word32) (s : State) (c : Chain) : tx (setReg o v s) c = tx s c := by cases c <;> rfl

@[simp] theorem tx_setRBit (o n : Nat) (s : State) (c : Chain) : tx (setRBit o n s) c = tx s c := tx_setReg _ _ _ _

@[simp] theorem tx_setRBits (o hi lo v : Nat) (s : State) (c : Chain) : tx (setRBits o hi lo v s) c = tx s c :=
  tx_setReg _ _ _ _

theorem withTx_withTx (c : Chain) (x y : Tx) (s : State) : withTx c x (withTx c y s) = withTx c x s := by cases c <;> rfl

/-! ### The cut (R208) -/

theorem applyCut_of_none {c : Chain} {s : State} (h : (tx s c).cut = none) : applyCut c s = s := by
  simp [applyCut, cutFall, h]

/-- A transmission that would end after the cut falls so as to end at it. -/
theorem applyCut_of_due {c : Chain} {s : State} {k : Stamp} (h : (tx s c).cut = some k) (hair : onAir (tx s c) = true)
    (hp : later64 (plannedEnd (tx s c)) k = true)
    (hf : later64 (minus k (rampUs 0 * usTicks)) (atPa s c s.time.tb0) = false) :
    applyCut c s = dropCurtain c 15 8 (minus k (rampUs 0 * usTicks)) s := by
  simp [applyCut, cutFall, h, hair, hp, hf]

/-! ### Enabling and disabling (R180, R208) -/

/-- The word at which a chain calibrates: its first queued carrier, or the centre of its band (R180). -/
def calibrationWord (x : Tx) (c : Chain) : BitVec 64 :=
  match x.queue, c with
  | r :: _, _ => reqWord r
  | [], .a => 1110000000
  | [], .b => 4883500000

theorem enableChain_of_quiet {c : Chain} {s : State} (h : s.pwr.mode = .quiet) : enableChain c s = s := if_pos h

theorem enableChain_of_running {c : Chain} {s : State} (hm : s.pwr.mode ≠ .quiet)
    (h : (tx s c).st ≠ .off ∨ rbit s (txReg c 0) 0 = true ∨ inReplay s = true) :
    enableChain c s = setRBit (txReg c 0) 0 s := by
  refine (if_neg hm).trans (if_neg ?_)
  rintro ⟨hst, hen, hr⟩
  rcases h with h | h | h
  · exact h hst
  · simp [h] at hen
  · simp [h] at hr

theorem calibrate_of_live {c : Chain} {s : State} (h : inReplay s = false) :
    calibrate c s = withTx c { tx s c with
      st := .calibrating, locked := false, tune := some true, target := calibrationWord (tx s c) c } s := by
  unfold calibrate
  rw [if_neg (by simp [h]), withTx_modTx]
  cases hq : (tx s c).queue <;> cases c <;> simp [calibrationWord, hq]

theorem enableChain_of_off {c : Chain} {s : State} (hm : s.pwr.mode ≠ .quiet) (hst : (tx s c).st = .off)
    (hen : rbit s (txReg c 0) 0 = false) (hr : inReplay s = false) :
    enableChain c s = withTx c { tx s c with
      st := .calibrating, locked := false, tune := some true, target := calibrationWord (tx s c) c }
      (setRBit (txReg c 0) 0 s) := by
  refine (if_neg hm).trans ((if_pos ⟨hst, hen, hr⟩).trans ?_)
  rw [calibrate_of_live (s := setRBit (txReg c 0) 0 s) hr, tx_setRBit]

theorem disableChain_of_idle {c : Chain} {t : Stamp} {s : State} (hc : (tx s c).cur = none) (hq : (tx s c).queue = [])
    (hu : curtainUp (tx s c) = false) :
    disableChain c t s = withTx c { tx s c with
      st := .off, test := false, locked := false, tune := none, cut := some t } (setRBits (txReg c 0) 0 0 0 s) := by
  have hcut : cutChain c t (setRBits (txReg c 0) 0 0 0 s) =
      withTx c { tx s c with queue := [], cut := some t } (setRBits (txReg c 0) 0 0 0 s) := by
    simp only [cutChain, tx_setRBits, hc, hq, decideNots, List.foldl_nil, withTx_modTx]
  have hup : curtainUp { tx s c with queue := [], cut := some t } = false := hu
  rw [disableChain, hcut, withTx_modTx, tx_withTx_same, withTx_withTx, hup, ← hq]
  rfl

/-! ### The retune (R175, R176, R180) -/

section
variable {c : Chain} {t : Stamp} {s : State}

theorem chainFree_eq_false (h : (tx s c).st ≠ .idle ∧ ((tx s c).st ≠ .waiting ∨ (tx s c).cur.isSome = true)) :
    chainFree (tx s c) = false := by
  obtain ⟨hi, hw⟩ := h
  rcases hw with hw | hw
  · simp [chainFree, hi, hw]
  · obtain ⟨r, hr⟩ := Option.isSome_iff_exists.mp hw
    simp [chainFree, hi, hr]

theorem chainFree_of (h : (tx s c).st = .idle ∨ ((tx s c).st = .waiting ∧ (tx s c).cur = none)) :
    chainFree (tx s c) = true := by
  rcases h with h | ⟨h, hc⟩
  · simp [chainFree, h]
  · simp [chainFree, h, hc]

theorem startRetune_of_empty (h : (tx s c).queue = []) : startRetune c t s = s := by
  simp only [startRetune, h]

variable {r : TxReq} {q : List TxReq}

theorem startRetune_of_taken (h : chainFree (tx s c) = false) : startRetune c t s = s := by
  cases hq : (tx s c).queue with
  | nil => exact startRetune_of_empty hq
  | cons r q => simp [startRetune, hq, h]

theorem startRetune_of_early (hq : (tx s c).queue = r :: q) (h : ∀ b, later64 (retuneAt s r b) t = true) :
    startRetune c t s = s := by
  simp [startRetune, hq, h]

theorem startRetune_of_parked (hf : chainFree (tx s c) = true) (hq : (tx s c).queue = r :: q)
    (hl : (tx s c).locked = true) (hp : (tx s c).parked = reqWord r) (h : later64 (retuneAt s r false) t = false) :
    startRetune c t s = modTx c (fun x => { x with
      queue := q, cur := some r, hopped := false, curFlags := offsetFlag r, target := reqWord r, result := 0
      st := .waiting }) s := by
  simp [startRetune, hf, hq, hl, hp, h]

theorem startRetune_of_hop (hf : chainFree (tx s c) = true) (hq : (tx s c).queue = r :: q)
    (hp : (tx s c).locked = false ∨ (tx s c).parked ≠ reqWord r)
    (h : later64 (retuneAt s r (recalNeeded s (tx s c) (reqWord r))) t = false) :
    startRetune c t s = latchCfg c (modTx c (fun x => { x with
      queue := q, cur := some r, hopped := true, curFlags := offsetFlag r, target := reqWord r, result := 0
      cal := (rolledTables 6 s).or x.cal, locked := false, tune := some (recalNeeded s (tx s c) (reqWord r))
      st := if recalNeeded s (tx s c) (reqWord r) = true then .calibrating else .retuning }) s) := by
  have hk : ((tx s c).locked && (tx s c).parked == reqWord r) = false := by
    rcases hp with hp | hp <;> simp [hp]
  simp only [startRetune, hq, hk, hf, h, Bool.not_true, Bool.not_false, Bool.true_and, Bool.or_self, Bool.false_eq_true,
    if_false]

end

/-! ### The lock (R176, R180) -/

theorem declareLock_of_none {c : Chain} {s : State} (h : (tx s c).tune = none) : declareLock c s = s := by
  simp only [declareLock, h]

theorem declareLock_of_hop {c : Chain} {s : State} (h : (tx s c).tune = some false) :
    declareLock c s = withTx c { tx s c with
      locked := true, parked := (tx s c).target, tune := none
      st := if (tx s c).st = .retuning ∨ (tx s c).st = .calibrating then .waiting else (tx s c).st } s := by
  simp [declareLock, h, withTx_modTx]

theorem declareLock_of_recal {c : Chain} {s : State} (h : (tx s c).tune = some true) :
    declareLock c s = withTx c { tx s c with
      locked := true, parked := (tx s c).target, tune := none, calValid := true, calWord := (tx s c).target
      calTemp := s.pwr.tPit, recalDue := false
      st := if (tx s c).st = .retuning ∨ (tx s c).st = .calibrating then .waiting else (tx s c).st } s := by
  simp [declareLock, h, withTx_modTx]

/-! ### The settings latched (R189, R211) -/

theorem latchCfg_eq (c : Chain) (s : State) : latchCfg c s = withTx c { tx s c with
    cfg := s.regs.filter fun e => isLatched c e.1
    corr := if fieldOf (cfgWord s c 8) 9 0 == rbits s (txReg c 8) 9 0 then (tx s c).corr else []
    big := if fieldOf (cfgWord s c 8) 9 0 == rbits s (txReg c 8) 9 0 then (tx s c).big else [] } s := by
  rw [latchCfg, withTx_modTx]

theorem isLatched_txReg {c : Chain} {o : Nat} (h : (8 ≤ o ∧ o ≤ 0x10) ∨ (0x40 ≤ o ∧ o < 0x100)) :
    isLatched c (txReg c o) = true := by
  have ho : txReg c o - txReg c 0 = o := by simp [txReg]
  have hle : txReg c 0 ≤ txReg c o := by simp [txReg]
  simp only [isLatched, ho, hle, decide_true, Bool.true_and, Bool.or_eq_true, Bool.and_eq_true, decide_eq_true_eq]
  exact h

theorem cfgWord_latchCfg {c : Chain} {s : State} {o : Nat} (h : (8 ≤ o ∧ o ≤ 0x10) ∨ (0x40 ≤ o ∧ o < 0x100)) :
    cfgWord (latchCfg c s) c o = reg s (txReg c o) := by
  rw [cfgWord, latchCfg_eq, tx_withTx_same]
  exact (smGet_filter _ _ _ _).trans (if_pos (isLatched_txReg h))

/-! ### The statement -/

/-- Settles O41: each clause is the lemma on its case. -/
theorem chainPreparation : Obligations.ChainPreparation := by
  unfold Obligations.ChainPreparation
  refine ⟨?_, ?_, ?_, ?_, ?_, ?_, ?_, ?_, ?_, ?_, ?_, ?_, ?_, ?_, ?_⟩
  · intro c t s h
    exact applyCut_of_none (by simpa using h)
  · rintro c t s k u h hair hp rfl hf
    exact (applyCut_of_due (by simpa using h) (by simpa using hair) (by simpa using hp) hf).trans
      (by rw [dropCurtain, withTx_modTx, tx_atTime])
  · intro c s
    exact ⟨_, exec_recal c s, withTx_modTx c _ s⟩
  · intro c s h
    rw [exec_chainEnable, enableChain_of_quiet h]
  · intro c s hm hst hen hr
    exact ⟨_, _, (exec_chainEnable c s).trans (congrArg _ (enableChain_of_off hm hst hen hr)), regOnly_setRBit _ _ s, rfl⟩
  · intro c s hm h
    exact ⟨_, (exec_chainEnable c s).trans (congrArg _ (enableChain_of_running hm h)), regOnly_setRBit _ _ s⟩
  · rintro c t s z rfl hc hq hu
    exact ⟨_, (exec_chainDisable c t s).trans (congrArg _ (disableChain_of_idle hc hq hu)), regOnly_setRBits _ _ _ _ _⟩
  · rintro c t s z rfl h
    rw [exec_retune]
    rcases h with h | h
    · rw [startRetune_of_taken (chainFree_eq_false h)]
    · rw [startRetune_of_empty h]
  · rintro c t s z r q rfl hq hf ht
    rw [exec_retune, startRetune_of_early hq (by rintro (_ | _) <;> assumption)]
  · rintro c t s z r q rfl hf hq hl hp h
    rw [exec_retune, startRetune_of_parked (chainFree_of hf) hq hl hp h, withTx_modTx]
  · rintro c t s z r q b rfl hf hq hp rfl h
    exact ⟨_, (exec_retune c t s).trans (congrArg _ (startRetune_of_hop (chainFree_of hf) hq hp h)), withTx_modTx c _ _⟩
  · rintro c t s z rfl h
    exact ⟨_, (exec_lockDeclared c t s).trans (congrArg _ (declareLock_of_hop h)), rfl⟩
  · rintro c t s z rfl h
    exact ⟨_, (exec_lockDeclared c t s).trans (congrArg _ (declareLock_of_recal h)), rfl⟩
  · rintro c t s z rfl h
    rw [exec_lockDeclared, declareLock_of_none h]
  · intro c s
    refine ⟨_, rfl, fun h => ?_, fun h => ?_, fun o ho => cfgWord_latchCfg ho⟩
    · simp [latchCfg_eq, h]
    · simp [latchCfg_eq, h]

end Sys2Proof.Machine
end

section
/-! SUPPORT. The launch (R177, R192 to R195): PAEN and COEX_REQ before a request, the curtain, the deadline, and the
statement assembled from these. -/

namespace Sys2Proof.Machine

/-! ### What each command runs -/

theorem exec_paenRise (c : Chain) (t : Stamp) (s : State) :
    exec (.paenRise c t) s = .next (raisePaen c t (chainAt c t s)) := rfl

theorem exec_paenFall (c : Chain) (t : Stamp) (s : State) :
    exec (.paenFall c t) s = .next (dropPaen c t (chainAt c t s)) := rfl

theorem exec_coexReqRise (c : Chain) (t : Stamp) (s : State) :
    exec (.coexReqRise c t) s = .next (raiseCoex c t (chainAt c t s)) := rfl

/-- The level of COEX_INHIBIT as a launch samples it (R196). -/
def inhibitRead (h : Bool) (s : State) : State := modPwr (fun p => { p with inhibit := h }) s

theorem exec_launch (c : Chain) (g : BitVec 4) (h : Bool) (t : Stamp) (s : State) :
    exec (.launch c g h t) s = .next (launchAt c g h t (inhibitRead h (chainAt c t s))) := rfl

theorem exec_launchDeadline (c : Chain) (g : BitVec 4) (h : Bool) (t : Stamp) (s : State) :
    exec (.launchDeadline c g h t) s = .next (deadlineAt c g h t (inhibitRead h (chainAt c t s))) := rfl

section
variable (h : Bool) (s : State)

@[simp] theorem tx_inhibitRead (c : Chain) : tx (inhibitRead h s) c = tx s c := rfl
@[simp] theorem cfgWord_inhibitRead (c : Chain) (o : Nat) : cfgWord (inhibitRead h s) c o = cfgWord s c o := rfl
@[simp] theorem ownStamp_inhibitRead (t : Stamp) : ownStamp (inhibitRead h s) t = ownStamp s t := rfl
@[simp] theorem deadlineOf_inhibitRead (r : TxReq) : deadlineOf (inhibitRead h s) r = deadlineOf s r := rfl

end

/-! ### The lead before a request (R192, R194) -/

theorem leadReached_of_next {s : State} {x : Tx} {us : Nat} {t : Stamp} {p : TxReq → Bool} {r : TxReq} {l : List TxReq}
    (hw : waitingReqs x = r :: l) (hp : p r = false)
    (ht : later64 (minus (ownStamp s r.start) (us * usTicks)) t = false) : leadReached s x us t p = some r := by
  simp [leadReached, hw, hp, ht]

theorem leadReached_of_none {s : State} {x : Tx} {us : Nat} {t : Stamp} {p : TxReq → Bool}
    (h : ∀ r ∈ waitingReqs x, p r = true ∨ later64 (minus (ownStamp s r.start) (us * usTicks)) t = true) :
    leadReached s x us t p = none := by
  rw [leadReached, List.find?_eq_none]
  intro r hr
  rcases h r hr with h | h <;> simp [h]

section
variable {c : Chain} {t : Stamp} {s : State}

theorem raisePaen_of_next {r : TxReq} {l : List TxReq} (hw : waitingReqs (tx s c) = r :: l)
    (hp : (tx s c).paenOf ≠ some r.seq)
    (ht : later64 (minus (ownStamp s r.start) (fieldOf (cfgWord s c 8) 15 10 * usTicks)) t = false) :
    raisePaen c t s = withTx c { tx s c with paen := true, paenOf := some r.seq, paenFrom := none } s := by
  have h := leadReached_of_next (p := fun r => (tx s c).paenOf == some r.seq) hw (by simpa using hp) ht
  simp only [raisePaen, h, withTx_modTx]

theorem raisePaen_of_none (h : ∀ r ∈ waitingReqs (tx s c), (tx s c).paenOf = some r.seq ∨
    later64 (minus (ownStamp s r.start) (fieldOf (cfgWord s c 8) 15 10 * usTicks)) t = true) : raisePaen c t s = s := by
  have h := leadReached_of_none (p := fun r => (tx s c).paenOf == some r.seq) (by simpa using h)
  simp only [raisePaen, h]

theorem raiseCoex_of_next {r : TxReq} {l : List TxReq} (hw : waitingReqs (tx s c) = r :: l)
    (hk : ∀ k ∈ (tx s c).claims, k.seq ≠ r.seq)
    (ht : later64 (minus (ownStamp s r.start) (fieldOf (cfgWord s c 0x10) 15 8 * usTicks)) t = false) :
    raiseCoex c t s = withTx c { tx s c with claims := (tx s c).claims ++
      [⟨r.seq, BitVec.ofNat 4 (fieldOf (cfgWord s c 0x10) 3 0), r.flags.getLsbD 0⟩] } s := by
  have h := leadReached_of_next (p := fun r => (tx s c).claims.any fun k => k.seq == r.seq) hw (by simpa using hk) ht
  simp only [raiseCoex, h, withTx_modTx]

theorem raiseCoex_of_none (h : ∀ r ∈ waitingReqs (tx s c), (∃ k ∈ (tx s c).claims, k.seq = r.seq) ∨
    later64 (minus (ownStamp s r.start) (fieldOf (cfgWord s c 0x10) 15 8 * usTicks)) t = true) : raiseCoex c t s = s := by
  have h := leadReached_of_none (p := fun r => (tx s c).claims.any fun k => k.seq == r.seq) (by simpa using h)
  simp only [raiseCoex, h]

theorem dropPaen_of_due {e : Stamp} (h : (tx s c).paenFrom = some e)
    (ht : later64 (plus e (fieldOf (cfgWord s c 8) 21 16 * usTicks)) t = false) :
    dropPaen c t s = withTx c { tx s c with paen := false, paenOf := none, paenFrom := none } s := by
  simp [dropPaen, h, ht, withTx_modTx]

theorem dropPaen_of_none (h : ∀ e, (tx s c).paenFrom = some e →
    later64 (plus e (fieldOf (cfgWord s c 8) 21 16 * usTicks)) t = true) : dropPaen c t s = s := by
  cases he : (tx s c).paenFrom with
  | none => simp only [dropPaen, he]
  | some e => simp [dropPaen, he, h e he]

/-! ### The launch (R177) -/

variable {g : BitVec 4} {h : Bool} {r : TxReq}

theorem launchAt_of_all (hst : (tx s c).st = .waiting) (hc : (tx s c).cur = some r) (hl : (tx s c).locked = true)
    (h0 : 0 ≤ sdiff64 (atPa s c t) (ownStamp s r.start)) (hd : later64 (atPa s c t) (deadlineOf s r) = false)
    (hg : grantsOk (cfgWord s c 0x10) g = true) (hi : h = true → obeys (cfgWord s c 0x10) = false) :
    launchAt c g h t s = raiseCurtain c r (atPa s c t) s := by
  simp only [launchAt, hst, hc]
  refine if_pos ?_
  cases h with
  | false => simp [hl, h0, hd, hg]
  | true => simp [hl, h0, hd, hg, hi rfl]

theorem launchAt_of_missing (hc : (tx s c).cur = some r)
    (hm : (tx s c).st ≠ .waiting ∨ (tx s c).locked = false ∨ sdiff64 (atPa s c t) (ownStamp s r.start) < 0 ∨
      later64 (atPa s c t) (deadlineOf s r) = true ∨ grantsOk (cfgWord s c 0x10) g = false ∨
      (h = true ∧ obeys (cfgWord s c 0x10) = true)) :
    launchAt c g h t s = s := by
  cases hst : (tx s c).st with
  | waiting =>
    simp only [launchAt, hst, hc]
    refine if_neg ?_
    rcases hm with hm | hm | hm | hm | hm | hm
    · exact absurd hst hm
    · simp [hm]
    · simp [hm]
    · simp [hm]
    · simp [hm]
    · simp [hm]
  | _ => simp [launchAt, hst]

theorem raiseCurtain_eq (c : Chain) (r : TxReq) (t : Stamp) (s : State) {u : State} {p : Int}
    (hu : u = if (tx s c).hopped then s else latchCfg c s) (hp : p = clampPower (cfgWord u c 8) r) :
    raiseCurtain c r t s = withTx c { tx u c with
      st := .rising, curtain := t, result := 0, forced := false, shift := (sdiff64 t (ownStamp u r.start)).toNat
      curFlags := (tx u c).curFlags ||| ((if later64 t (ownStamp u r.start) then 1 else 0) |||
        (if p = r.power then 0 else 2))
      lastSeg := powerSegment (cfgWord u c 8) p
      driver := driverSet u c r p (powerSegment (cfgWord u c 8) p) t
      air := airOf r, paen := true, paenOf := some r.seq, paenFrom := none } u := by
  rw [hp, hu, raiseCurtain, withTx_modTx]

/-! ### The deadline (R177) -/

theorem deadlineAt_of_failed {k : Nat} (hc : (tx s c).cur = some r) (hu : curtainUp (tx s c) = false)
    (hd : later64 (deadlineOf s r) t = false) (hk : deadlineResult (tx s c) (cfgWord s c 0x10) g h = some k) :
    deadlineAt c g h t s = dropCur c r k t s := by
  simp [deadlineAt, hc, hu, hd, hk]

theorem deadlineAt_of_on_air {b : TxReq} {q : List TxReq} (hc : (tx s c).cur = some b) (hu : curtainUp (tx s c) = true)
    (hq : (tx s c).queue = r :: q) (hd : later64 (deadlineOf s r) t = false) :
    deadlineAt c g h t s = decideNot r 2 0 t (withTx c { tx s c with queue := q } s) := by
  simp [deadlineAt, hc, hu, hq, hd, withTx_modTx]

theorem deadlineAt_of_unlocked {q : List TxReq} (hc : (tx s c).cur = none) (hq : (tx s c).queue = r :: q)
    (hd : later64 (deadlineOf s r) t = false) (hp : (tx s c).locked = false ∨ (tx s c).parked ≠ reqWord r) :
    deadlineAt c g h t s = decideNot r 3 0 t (withTx c { tx s c with queue := q } s) := by
  have hk : ((tx s c).locked && (tx s c).parked == reqWord r) = false := by
    rcases hp with hp | hp <;> simp [hp]
  simp [deadlineAt, hc, hq, hd, hk, withTx_modTx]

theorem deadlineAt_of_empty (hc : (tx s c).cur = none) (hq : (tx s c).queue = []) : deadlineAt c g h t s = s := by
  simp [deadlineAt, hc, hq]

end

/-! ### The first condition that fails (R177) -/

section
variable {x : Tx} {w : Word32} {g : BitVec 4} {h : Bool}

theorem deadlineResult_of_unlocked (hl : x.locked = false) : deadlineResult x w g h = some 3 := by
  simp [deadlineResult, hl]

variable (hl : x.locked = true)
include hl

theorem deadlineResult_of_no_grant (hg : grantsOk w g = false) : deadlineResult x w g h = some 9 := by
  simp [deadlineResult, hl, hg]

variable (hg : grantsOk w g = true)
include hg

theorem deadlineResult_of_inhibited (ho : obeys w = true) : deadlineResult x w g true = some 11 := by
  simp [deadlineResult, hl, hg, ho]

theorem deadlineResult_of_all (ho : h = true → obeys w = false) : deadlineResult x w g h = none := by
  simpa [deadlineResult, hl, hg] using ho

end

/-! ### The statement -/

/-- Settles O42: each clause is the lemma on its case. -/
theorem chainLaunch : Obligations.ChainLaunch := by
  unfold Obligations.ChainLaunch
  refine ⟨?_, ?_, ?_, ?_, ?_, ?_, ?_, ?_, ?_, ?_, ?_, ?_, ?_, ?_, ?_, ?_, ?_⟩
  · rintro c t s z r l rfl hw hp ht
    rw [exec_paenRise, raisePaen_of_next hw hp ht]
  · rintro c t s z rfl h
    rw [exec_paenRise, raisePaen_of_none h]
  · rintro c t s z r l rfl hw hk ht
    rw [exec_coexReqRise, raiseCoex_of_next hw hk ht]
  · rintro c t s z rfl h
    rw [exec_coexReqRise, raiseCoex_of_none h]
  · rintro c t s z e rfl h ht
    rw [exec_paenFall, dropPaen_of_due h ht]
  · rintro c t s z rfl h
    rw [exec_paenFall, dropPaen_of_none h]
  · rintro c g h t s z r a rfl hst hc hl rfl h0 hd hg hi
    exact (exec_launch c g h t s).trans (congrArg _ (launchAt_of_all (s := inhibitRead h (chainAt c t s)) hst hc hl h0 hd hg hi))
  · rintro c g h t s z r a rfl hc rfl hm
    exact (exec_launch c g h t s).trans (congrArg _ (launchAt_of_missing (s := inhibitRead h (chainAt c t s)) hc hm))
  · intro c r t s u p hu hp
    exact raiseCurtain_eq c r t s hu hp
  · rintro c g h t s z r k rfl hc hu hd hk
    exact (exec_launchDeadline c g h t s).trans (congrArg _ (deadlineAt_of_failed (s := inhibitRead h (chainAt c t s)) hc hu hd hk))
  · rintro c g h t s z r q b rfl hc hu hq hd
    exact ⟨_, (exec_launchDeadline c g h t s).trans (congrArg _ (deadlineAt_of_on_air
      (s := inhibitRead h (chainAt c t s)) hc hu hq hd)), rfl⟩
  · rintro c g h t s z r q rfl hc hq hd hp
    exact ⟨_, (exec_launchDeadline c g h t s).trans (congrArg _ (deadlineAt_of_unlocked
      (s := inhibitRead h (chainAt c t s)) hc hq hd hp)), rfl⟩
  · rintro c g h t s z rfl hc hq
    exact (exec_launchDeadline c g h t s).trans (congrArg _ (deadlineAt_of_empty (s := inhibitRead h (chainAt c t s)) hc hq))
  · intro x w g h hl
    exact deadlineResult_of_unlocked hl
  · intro x w g h hl hg
    exact deadlineResult_of_no_grant hl hg
  · intro x w g hl hg ho
    exact deadlineResult_of_inhibited hl hg ho
  · intro x w g h hl hg ho
    exact deadlineResult_of_all hl hg ho

end Sys2Proof.Machine
end

section
/-! SUPPORT. A chain on air (R178 to R180, R189, R191, R195, R196, R208, R209): the ramps, the end, the causes that make a
curtain fall, the loss of lock and its self-test, and the statement assembled from these. -/

namespace Sys2Proof.Machine

/-! ### What each command runs -/

theorem exec_risingRampComplete (c : Chain) (t : Stamp) (s : State) :
    exec (.risingRampComplete c t) s = .next (rampDone c t (chainAt c t s)) := rfl

theorem exec_lastModulatedSample (c : Chain) (t : Stamp) (s : State) :
    exec (.lastModulatedSample c t) s = .next (lastSampleAt c t (chainAt c t s)) := rfl

theorem exec_transmitEnd (c : Chain) (m : Int) (t : Stamp) (s : State) :
    exec (.transmitEnd c m t) s = .next (endTransmit c m t (chainAt c t s)) := rfl

theorem exec_preempted (c : Chain) (g : BitVec 4) (t : Stamp) (s : State) :
    exec (.preempted c g t) s = .next (preempt c g t (chainAt c t s)) := rfl

theorem exec_inhibited (t : Stamp) (s : State) : exec (.inhibited t) s =
    .next (inhibitChain .b t (inhibitChain .a t (inhibitRead true (chainAt .b t (chainAt .a t s))))) := rfl

theorem exec_lockLost (c : Chain) (t : Stamp) (s : State) :
    exec (.lockLost c t) s = .next (loseLock c t (chainAt c t s)) := rfl

theorem exec_recalibrationEnd (c : Chain) (p : Bool) (t : Stamp) (s : State) :
    exec (.recalibrationEnd c p t) s = .next (endRecal c p t (chainAt c t s)) := rfl

/-! ### What a record leaves of a chain -/

@[simp] theorem tx_emitLocal (code src a b c d : Nat) (s : State) (x : Chain) :
    tx (emitLocal code src a b c d s) x = tx s x := by
  obtain ⟨_, _, _, _, _, _, _, _, _, h⟩ := recordOnly_emitLocal code src a b c d s
  rw [h]
  cases x <;> rfl

@[simp] theorem reg_withTx (c : Chain) (x : Tx) (s : State) (o : Nat) : reg (withTx c x s) o = reg s o := by cases c <;> rfl

/-- A bit set beside a change of a chain. -/
theorem regOnly_setRBit_withTx (c : Chain) (x : Tx) (s : State) (o n : Nat) :
    regOnly o (reg s o ||| BitVec.ofNat 32 (2 ^ n)) (withTx c x s) (setRBit o n (withTx c x s)) := by
  simpa using regOnly_setRBit o n (withTx c x s)

/-! ### The ramps (R180, R184, R185) -/

section
variable {c : Chain} {t : Stamp} {s : State} {r : TxReq}

theorem rampDone_of_done (hst : (tx s c).st = .rising) (hc : (tx s c).cur = some r)
    (ht : later64 (plus (tx s c).curtain (riseUs r * usTicks)) (atPa s c t) = false) :
    rampDone c t s = withTx c { tx s c with st := .on } s :=
  (if_pos ⟨hst, by simp [hc, ht]⟩).trans (withTx_modTx c _ s)

theorem rampDone_of_none (h : (tx s c).st ≠ .rising ∨ (∃ r, (tx s c).cur = some r ∧
    later64 (plus (tx s c).curtain (riseUs r * usTicks)) (atPa s c t) = true)) : rampDone c t s = s := by
  refine if_neg ?_
  rintro ⟨hst, ht⟩
  rcases h with h | ⟨r, hc, h⟩
  · exact h hst
  · simp [hc, h] at ht

theorem plannedEnd_of_cur {x : Tx} (h : x.cur = some r) : plannedEnd x = plus x.curtain (airTime r / 3) := by
  simp only [plannedEnd, h]

theorem lastSampleAt_of_due (hst : (tx s c).st = .on) (hc : (tx s c).cur = some r)
    (ht : later64 (minus (plus (tx s c).curtain (airTime r / 3)) (fallUs r * usTicks)) (atPa s c t) = false) :
    lastSampleAt c t s = withTx c { tx s c with
      st := .falling, fallAt := atPa s c t, fallUs := fallUs r, forced := false } s := by
  rw [← plannedEnd_of_cur hc] at ht
  simp [lastSampleAt, hst, hc, ht, withTx_modTx]

theorem lastSampleAt_of_none (h : (tx s c).st ≠ .on ∨ (∃ r, (tx s c).cur = some r ∧
    later64 (minus (plus (tx s c).curtain (airTime r / 3)) (fallUs r * usTicks)) (atPa s c t) = true)) :
    lastSampleAt c t s = s := by
  refine if_neg ?_
  rintro ⟨hst, ht⟩
  rcases h with h | ⟨r, hc, h⟩
  · exact h hst
  · rw [← plannedEnd_of_cur hc] at h
    simp [hc, h] at ht

/-! ### The end (R169, R189) -/

theorem endTransmit_of_none {m : Int} (h : (tx s c).st ≠ .falling ∨ (tx s c).cur = none ∨
    later64 (plus (tx s c).fallAt ((tx s c).fallUs * usTicks)) (atPa s c t) = true) : endTransmit c m t s = s := by
  unfold endTransmit
  rcases h with h | h | h
  · cases hst : (tx s c).st <;> simp_all
  · simp [h]
  · simp only [h, if_true]
    split <;> rfl

theorem measuredPower_of_none {m : Int} (h : fieldOf (cfgWord s c 8) 1 0 = 2) : measuredPower s c m = -32768 := by
  simp only [measuredPower, h]

theorem powerLoop_of_unmeasured : powerLoop c (-32768) s = s := by
  cases hc : (tx s c).cur <;> simp [powerLoop, hc]

/-- What is left of a chain as the falling curtain of request `r` ends at `a` (R169, R192, R194, R208). -/
def endedTx (s : State) (c : Chain) (r : TxReq) (a : Stamp) : Tx :=
  { tx s c with
    cur := none, curFlags := 0, air := .none, ends := (tx s c).ends + 1, cut := none, target := (tx s c).parked
    claims := (tx s c).claims.filter fun k => k.seq != r.seq
    blankFrom := if (tx s c).blank && (tx s c).blankOf == some r.seq then some a else (tx s c).blankFrom
    paenFrom := if (tx s c).paenOf == some r.seq then some a else (tx s c).paenFrom
    tune := if rbit s (txReg c 0) 0 && (tx s c).test then some true else (tx s c).tune
    st := if rbit s (txReg c 0) 0 = false then .off else if (tx s c).test = true then .calibrating else .idle }

theorem endTransmit_of_end {m : Int} (hst : (tx s c).st = .falling) (hc : (tx s c).cur = some r)
    (ht : later64 (plus (tx s c).fallAt ((tx s c).fallUs * usTicks)) (atPa s c t) = false)
    (hm : fieldOf (cfgWord s c 8) 1 0 = 2) :
    endTransmit c m t s = txEndInput ⟨c, r.seq, (tx s c).result, (tx s c).curFlags, -32768,
      recStamp s (tx s c).curtain, recStamp s (atPa s c t), r.origin⟩ (withTx c (endedTx s c r (atPa s c t)) s) := by
  simp only [endTransmit, hst, hc, ht, measuredPower_of_none hm, powerLoop_of_unmeasured, withTx_modTx, endWires, endedTx,
    Bool.false_eq_true, if_false]
  simp

/-! ### The power loop (R189, R191) -/

/-- The power error of a measured frame (R189). -/
def powerError (s : State) (c : Chain) (r : TxReq) (m : Int) : Int := clampPower (cfgWord s c 8) r - m

/-- A chain whose loop has taken a measured frame (R189, R191). -/
def loopedTx (s : State) (c : Chain) (r : TxReq) (m : Int) : Tx :=
  { tx s c with
    corr := smSet 0 (tx s c).corr (tx s c).lastSeg
      (clampI (-24) 24 (smGet 0 (tx s c).corr (tx s c).lastSeg + powerError s c r m))
    big := smSet 0 (tx s c).big (tx s c).lastSeg (if 12 < (powerError s c r m).natAbs then 2 * m + 1 else 0)
    measured := some m }

section
variable {m : Int} (hc : (tx s c).cur = some r) (hmode : fieldOf (cfgWord s c 8) 1 0 ≠ 2) (hm : m ≠ -32768)
  (hov : r.flags.getLsbD 1 = false)
include hc hmode hm hov

theorem powerLoop_of_measured : powerLoop c m s =
    if 12 < (powerError s c r m).natAbs ∧ smGet 0 (tx s c).big (tx s c).lastSeg ≠ 0 then
      emitLocal 0x2002 (chainSrc c) (BitVec.ofInt 32 ((smGet 0 (tx s c).big (tx s c).lastSeg - 1) / 2)).toNat
        (BitVec.ofInt 32 m).toNat 0 0 (setRBit (txReg c 0x1C) 1 (withTx c (loopedTx s c r m) s))
    else withTx c (loopedTx s c r m) s := by
  have hmeas : ¬ (fieldOf (cfgWord s c 8) 1 0 = 2 ∨ m = -32768 ∨ r.flags.getLsbD 1 = true) := by
    rintro (h | h | h)
    · exact hmode h
    · exact hm h
    · exact absurd (hov.symm.trans h) (by decide)
  simp only [powerLoop, hc, if_neg hmeas, withTx_modTx]
  have hx : ∀ e : Int, (if decide (12 < e.natAbs) = true then 2 * m + 1 else 0) = if 12 < e.natAbs then 2 * m + 1 else 0 := by
    simp
  rw [hx, ← hc]
  exact if_congr (by simp [powerError]) rfl rfl

theorem powerLoop_of_small
    (h : (powerError s c r m).natAbs ≤ 12 ∨ smGet 0 (tx s c).big (tx s c).lastSeg = 0) :
    powerLoop c m s = withTx c (loopedTx s c r m) s := by
  rw [powerLoop_of_measured hc hmode hm hov, if_neg]
  rintro ⟨h1, h2⟩
  rcases h with h | h
  · omega
  · exact h2 h

theorem powerLoop_of_fault (h1 : 12 < (powerError s c r m).natAbs)
    (h2 : smGet 0 (tx s c).big (tx s c).lastSeg ≠ 0) :
    powerLoop c m s = emitLocal 0x2002 (chainSrc c)
      (BitVec.ofInt 32 ((smGet 0 (tx s c).big (tx s c).lastSeg - 1) / 2)).toNat
      (BitVec.ofInt 32 m).toNat 0 0 (setRBit (txReg c 0x1C) 1 (withTx c (loopedTx s c r m) s)) := by
  rw [powerLoop_of_measured hc hmode hm hov, if_pos ⟨h1, h2⟩]

end

/-! ### Preemption and inhibition (R195, R196, R209) -/

/-- A chain whose curtain falls at once for a cause (R178, R195, R196). -/
def fallingTx (s : State) (c : Chain) (result : Nat) (t : Stamp) : Tx :=
  { tx s c with
    st := .falling, result := result, curFlags := (tx s c).curFlags ||| 8, fallAt := atPa s c t
    fallUs := rampUs 0, forced := true }

theorem preempt_of_yield {g : BitVec 4} (ha : onAir (tx s c) = true) (hy : bit (cfgWord s c 0x10).toNat 16 = true)
    (hg : grantsOk (cfgWord s c 0x10) g = false) : preempt c g t s =
      emitLocal 0x2003 (chainSrc c) 0 0 0 0 (setRBit (txReg c 0x1C) 2 (withTx c (fallingTx s c 10 t) s)) := by
  refine (if_pos (by simp [ha, hy, hg])).trans ?_
  rw [dropCurtain, withTx_modTx, fallingTx]

theorem preempt_of_none {g : BitVec 4} (h : onAir (tx s c) = false ∨ bit (cfgWord s c 0x10).toNat 16 = false ∨
    grantsOk (cfgWord s c 0x10) g = true) : preempt c g t s = s := by
  refine if_neg ?_
  rcases h with h | h | h <;> simp [h]

theorem inhibitChain_of_none
    (h : obeys (cfgWord s c 0x10) = false ∨ (onAir (tx s c) = false ∧ (tx s c).st ≠ .falling)) :
    inhibitChain c t s = s := by
  unfold inhibitChain
  rcases h with h | ⟨ha, hf⟩
  · simp [h]
  · have hs : sameFall (tx s c) (atPa s c t) [10] = false := by simp [sameFall, hf]
    simp [ha, hs]

theorem inhibitChain_of_on_air (ho : obeys (cfgWord s c 0x10) = true) (ha : onAir (tx s c) = true) :
    inhibitChain c t s =
      emitLocal 0x2004 (chainSrc c) 0 0 0 0 (setRBit (txReg c 0x1C) 3 (withTx c (fallingTx s c 11 t) s)) := by
  simp only [inhibitChain, ho, ha, Bool.not_true, Bool.false_eq_true, if_false, if_true]
  rw [dropCurtain, withTx_modTx, fallingTx]

/-! ### The loss of lock (R178, R179, R209) -/

theorem loseLock_of_none (h : (tx s c).st = .off ∨ (tx s c).st = .outOfService ∨ (tx s c).locked = false) :
    loseLock c t s = s := if_pos h

/-- A transmission that falls as its lock is lost (R178, R179). -/
def lockLostTx (s : State) (c : Chain) (t : Stamp) : Tx :=
  { tx s c with
    locked := false, recalDue := true, test := true, st := .falling, result := 4
    curFlags := (tx s c).curFlags ||| (if partSent (tx s c) then 8 else 0)
    fallAt := atPa s c t, fallUs := rampUs 0, forced := true }

theorem onAir_iff {x : Tx} : onAir x = true ↔ x.st = .rising ∨ x.st = .on := by simp [onAir]

theorem loseLock_of_on_air (hl : (tx s c).locked = true) (ha : onAir (tx s c) = true) : loseLock c t s =
    emitLocal 0x2001 (chainSrc c) 0 0 0 0 (setRBit (txReg c 0x1C) 0 (withTx c (lockLostTx s c t) s)) := by
  have hst : ¬ ((tx s c).st = .off ∨ (tx s c).st = .outOfService ∨ (tx s c).locked = false) := by
    rcases onAir_iff.mp ha with h | h <;> simp [h, hl]
  refine (if_neg hst).trans ?_
  simp only [ha, if_true, dropCurtain, withTx_modTx, tx_withTx_same, withTx_withTx]
  rfl

/-- A waiting request that is retuned with a recalibration as the lock is lost (R179). -/
def lockRetriedTx (s : State) (c : Chain) (r : TxReq) : Tx :=
  { tx s c with
    locked := false, recalDue := true, test := true, st := .calibrating, tune := some true, hopped := true
    cal := (rolledTables 6 s).or (tx s c).cal, target := reqWord r }

theorem loseLock_of_waiting (hl : (tx s c).locked = true) (hst : (tx s c).st = .waiting) (hc : (tx s c).cur = some r) :
    loseLock c t s = emitLocal 0x2001 (chainSrc c) 0 0 0 0
      (setRBit (txReg c 0x1C) 0 (latchCfg c (withTx c (lockRetriedTx s c r) s))) := by
  refine (if_neg (by simp [hst, hl])).trans ?_
  simp [onAir, hst, hc, withTx_modTx, withTx_withTx, lockRetriedTx]

/-! ### The self-test after a loss of lock (R179, R180) -/

theorem endRecal_of_none {p : Bool} (h : (tx s c).test = false) : endRecal c p t s = s := if_pos (by simp [h])

theorem tx_testOutcome_pass (n : Nat) : tx (testOutcome 3 (chainIx c) true n s) c = tx s c := by
  rw [testOutcome_of_pass, tx_emitLocal, tx_setRBits]

theorem endRecal_of_pass (h : (tx s c).test = true) (hst : (tx s c).st = .calibrating) :
    endRecal c true t s = withTx c { tx s c with
      test := false, locked := true, parked := (tx s c).target, tune := none, calValid := true
      calWord := (tx s c).target, calTemp := s.pwr.tPit, recalDue := false, st := .waiting }
      (testOutcome 3 (chainIx c) true 0 s) := by
  simp [endRecal, h, hst, withTx_modTx, tx_testOutcome_pass]

theorem endRecal_of_fail (h : (tx s c).test = true) :
    endRecal c false t s = outOfService c t (testOutcome 3 (chainIx c) false 1 s) := by
  simp [endRecal, h]

end

/-! ### The statement -/

/-- Settles O43: each clause is the lemma on its case. -/
theorem chainOnAir : Obligations.ChainOnAir := by
  unfold Obligations.ChainOnAir
  refine ⟨?_, ?_, ?_, ?_, ?_, ?_, ?_, ?_, ?_, ?_, ?_, ?_, ?_, ?_, ?_, ?_, ?_⟩
  · rintro c t s z r rfl hst hc ht
    rw [exec_risingRampComplete, rampDone_of_done hst hc ht]
  · rintro c t s z rfl h
    rw [exec_risingRampComplete, rampDone_of_none h]
  · rintro c t s z r rfl hst hc ht
    rw [exec_lastModulatedSample, lastSampleAt_of_due hst hc ht]
  · rintro c t s z rfl h
    rw [exec_lastModulatedSample, lastSampleAt_of_none h]
  · rintro c m t s z rfl h
    rw [exec_transmitEnd, endTransmit_of_none h]
  · rintro c m t s z r a rfl hst hc rfl ht hm
    exact ⟨_, (exec_transmitEnd c m t s).trans (congrArg _ (endTransmit_of_end hst hc ht hm)), rfl⟩
  · rintro c m s r e hc hmode hm hov rfl
    refine ⟨withTx c (loopedTx s c r m) s, rfl, powerLoop_of_small hc hmode hm hov, fun h1 h2 => ?_⟩
    exact ⟨_, regOnly_setRBit_withTx c (loopedTx s c r m) s _ 1, powerLoop_of_fault hc hmode hm hov h1 h2⟩
  · rintro c g t s z rfl ha hy hg
    exact ⟨_, (exec_preempted c g t s).trans (congrArg _ (preempt_of_yield ha hy hg)),
      regOnly_setRBit_withTx c (fallingTx _ c 10 t) _ _ 2⟩
  · rintro c g t s z rfl h
    rw [exec_preempted, preempt_of_none h]
  · rintro t s z rfl ha hb
    rw [exec_inhibited, inhibitChain_of_none (c := .a) (s := inhibitRead true _) ha,
      inhibitChain_of_none (c := .b) (s := inhibitRead true _) hb]
    rfl
  · rintro t s z rfl ha ho hb
    refine ⟨_, _, ?_, rfl, regOnly_setRBit_withTx .b (fallingTx (inhibitRead true _) .b 11 t) _ _ 3⟩
    rw [exec_inhibited, inhibitChain_of_none (c := .a) (s := inhibitRead true _) ha,
      inhibitChain_of_on_air (c := .b) (s := inhibitRead true _) ho hb]
    rfl
  · rintro c t s z rfl h
    rw [exec_lockLost, loseLock_of_none h]
  · rintro c t s z rfl hl ha
    exact ⟨_, (exec_lockLost c t s).trans (congrArg _ (loseLock_of_on_air hl ha)),
      regOnly_setRBit_withTx c (lockLostTx _ c t) _ _ 0⟩
  · rintro c t s z r rfl hl hst hc
    exact ⟨_, (exec_lockLost c t s).trans (congrArg _ (loseLock_of_waiting hl hst hc)), rfl⟩
  · rintro c p t s z rfl h
    rw [exec_recalibrationEnd, endRecal_of_none h]
  · rintro c t s z rfl h hst
    refine ⟨_, ?_, rfl⟩
    rw [exec_recalibrationEnd, endRecal_of_pass h hst, tx_testOutcome_pass]
  · rintro c t s z rfl h
    refine ⟨_, _, ?_, rfl, rfl⟩
    rw [exec_recalibrationEnd, endRecal_of_fail h, outOfService, withTx_modTx]
    rfl

end Sys2Proof.Machine
end

section
/-! SUPPORT. Capture pins, pulse pins and the wrap of TB2 (R317 to R323, R334): which edges are captured, the event of a
capture, when a pulse fires and ends, the instants of a program, and the statement assembled from these. -/

namespace Sys2Proof.Machine

/-! ### What each command runs -/

theorem exec_tcapEdge (i : Fin 8) (r : Bool) (p : BitVec 8) (w : Nat) (t : Stamp) (s : State) :
    exec (.tcapEdge i r p w t) s = .next (capEdge i r p w t (atTime t s)) := rfl

theorem exec_pinCapture_of_taken {x : PinCap} {s : State} (h : canTake s 10 10 = true) :
    exec (.pinCapture x) s = .next (takeCapture x (charge 10 10 s)) :=
  congrArg Host.Outcome.next (take_item h)

theorem exec_pulseFire (i : Fin 8) (t : Stamp) (s : State) :
    exec (.pulseFire i t) s = .next (firePulse i t (atTime t s)) := rfl

theorem exec_pulseEnd (i : Fin 8) (t : Stamp) (s : State) : exec (.pulseEnd i t) s =
    .next (modPin (8 + i) (fun p => if widthOver p t then { p with active := false } else p) (atTime t s)) := rfl

/-! ### What a pin reads does not change with the time -/

section
variable (t : Stamp) (s : State)

@[simp] theorem pin_atTime (i : Nat) : pin (atTime t s) i = pin s i := by rw [atTime_frame]; rfl

@[simp] theorem capTakes_atTime (i : Nat) (r : Bool) (w : Nat) : capTakes (atTime t s) i r w = capTakes s i r w := by
  rw [atTime_frame]; rfl

@[simp] theorem capCfg_atTime (i : Nat) : capCfg (atTime t s) i = capCfg s i := by rw [atTime_frame]; rfl

@[simp] theorem pinsRun_atTime : pinsRun (atTime t s) = pinsRun s := by rw [atTime_frame]; rfl

@[simp] theorem pulseReached_atTime (q : Pin) (p : Pulse) (x : Stamp) :
    pulseReached (atTime t s) q p x = pulseReached s q p x := by rw [atTime_frame]; rfl

@[simp] theorem isUnderstudy_atTime : isUnderstudy (atTime t s) = isUnderstudy s := by rw [atTime_frame]; rfl

@[simp] theorem inReplay_atTime : inReplay (atTime t s) = inReplay s := by rw [atTime_frame]; rfl

end

/-! ### Captures (R317, R318, R606) -/

theorem capTakes_iff (s : State) (i : Nat) (r : Bool) (w : Nat) : capTakes s i r w = true ↔
    (s.pwr.mode = .full ∨ s.pwr.mode = .quiet) ∧ bit (capCfg s i) 0 = true ∧
      bit (capCfg s i) (if r then 1 else 2) = true ∧ 10 * bits (capCfg s i) 15 8 ≤ w := by
  simp only [capTakes, pinsRun, Bool.and_eq_true, Bool.or_eq_true, beq_iff_eq, decide_eq_true_eq]
  tauto

section
variable {i : Nat} {r : Bool} {p : BitVec 8} {w : Nat} {t : Stamp} {s : State}

theorem capEdge_of_not_taken (h : capTakes s i r w = false) : capEdge i r p w t s = s := if_pos (by simp [h])

/-- A pin that has captured an edge at `t`. -/
def capturedPin (t : Stamp) (p : Pin) : Pin := { p with caps := p.caps + 1, lost := 0, lastCap := some t }

theorem capEdge_of_room (h : capTakes s i r w = true) (hc : (pin s i).caps < bits (capCfg s i) 21 16)
    (hn : ∀ e, (pin s i).lastCap = some e → 1024 ≤ (sdiff64 t e).natAbs) : capEdge i r p w t s =
    input 4 i (capBytes ⟨i, recStamp s t, r, p, (pin s i).lost⟩)
      (.row (.pinCapture ⟨i, recStamp s t, r, p, (pin s i).lost⟩)) (modPin i (capturedPin t) s) := by
  have hnear : ((pin s i).lastCap.any fun e => decide ((sdiff64 t e).natAbs < 1024)) = false := by
    cases hl : (pin s i).lastCap with
    | none => rfl
    | some e => simpa using hn e hl
  simp [capEdge, h, hc, hnear]
  rfl

theorem capEdge_of_lost (h : capTakes s i r w = true) (hl : bits (capCfg s i) 21 16 ≤ (pin s i).caps ∨
    ∃ e, (pin s i).lastCap = some e ∧ (sdiff64 t e).natAbs < 1024) :
    capEdge i r p w t s = countReg (rTimCapLost + 4 * i) 1
      (modPin i (fun p => { p with lost := satAdd 0xFFFF p.lost 1 }) s) := by
  refine (if_neg (by simp [h])).trans (if_neg ?_)
  rintro ⟨hc, hn⟩
  rcases hl with hl | ⟨e, he, hd⟩
  · omega
  · simp [he, hd] at hn

end

/-! ### The event of a capture (R319, R341) -/

section
variable {x : PinCap} {s : State}

theorem takeCapture_of_event (h : mainsEn s = false ∨ x.pin ≠ cfgU s recTime 43 1 ∨ x.rising = false) :
    takeCapture x s = captureEvent x s := by
  refine if_neg ?_
  rcases h with h | h | h <;> simp [h]

theorem captureEvent_of_tb0 (h : reportBase s x.pin = 0) :
    captureEvent x s = withOut 10 (.record ⟨0x5001, 10, 0, s.proc.procCue, x.stamp,
      w32 (x.pin + 256 * ofBool x.rising), w32 x.lost, 0, 0⟩) s := by
  rw [captureEvent, h]
  rfl

/-- A change of a base and a charge touch different parts. -/
theorem modTb_charge (k : Nat) (f : TBase → TBase) (e n : Nat) (s : State) :
    modTb k f (charge e n s) = { modTb k f s with engs := (charge e n s).engs } := by
  unfold modTb
  split <;> rfl

theorem engs_modTb (k : Nat) (f : TBase → TBase) (s : State) : (modTb k f s).engs = s.engs := by
  unfold modTb
  split <;> rfl

theorem captureEvent_of_stepped {v : Word64} {k : Nat} (h : reportBase s x.pin = k) (hk : k ≠ 0)
    (hv : convert s k x.stamp = some v) (hs : (tbAt (tbOf s k) x.stamp).steps ≠ (tbOf s k).shown) :
    captureEvent x s = withOut 10 (.record ⟨0x5001, 10, 2, s.proc.procCue, x.stamp,
      w32 (x.pin + 256 * ofBool x.rising + 512 * k), w32 x.lost, w32 (v.toNat % 2 ^ 32), w32 (v.toNat / 2 ^ 32)⟩)
      (modTb k (fun b => { b with shown := (tbAt (tbOf s k) x.stamp).steps }) s) := by
  have hp : (modTb k (fun b => { b with shown := (tbAt (tbOf s k) x.stamp).steps }) s).proc = s.proc := by
    unfold modTb
    split <;> rfl
  have hlo : (v.setWidth 32).toNat = v.toNat % 2 ^ 32 := by simp
  have hhi : ((v >>> 32).setWidth 32).toNat = v.toNat / 2 ^ 32 := by
    have := v.isLt
    rw [BitVec.toNat_setWidth, BitVec.toNat_ushiftRight, Nat.shiftRight_eq_div_pow, Nat.mod_eq_of_lt (by omega)]
  simp only [captureEvent, h, hv, stepFlag, if_neg hk, if_neg hs, emitFlagged, hp, hlo, hhi]
  rfl

end

/-! ### Pulses (R320 to R323) -/

theorem widthOver_of_running {p : Pin} {t e : Stamp} (he : p.lastEdge = some e)
    (h : 10 * sdiff64 t e < 1024 * (p.width : Int)) : widthOver p t = false := by
  simp only [widthOver, he]
  exact decide_eq_false (by rw [widthTicks10]; push_cast; omega)

theorem widthOver_of_over {p : Pin} {t : Stamp}
    (h : ∀ e, p.lastEdge = some e → 1024 * (p.width : Int) ≤ 10 * sdiff64 t e) : widthOver p t = true := by
  cases he : p.lastEdge with
  | none => simp only [widthOver, he]
  | some e =>
    have := h e he
    simp only [widthOver, he]
    exact decide_eq_true (by rw [widthTicks10]; push_cast; omega)

section
variable {i : Nat} {t : Stamp} {s : State} {p : Pulse}

theorem firePulse_of_no_program (h : (pin s (8 + i)).prog = none) : firePulse i t s = s := by
  simp only [firePulse, h]

/-- A pulse pin that has fired at `t`; `out` when the pulse leaves the ball. -/
def firedPin (p : Pulse) (out : Bool) (t : Stamp) (q : Pin) : Pin :=
  { q with prog := pulseJudged 1 p, active := out, lastEdge := some t, width := p.width }

variable (hp : (pin s (8 + i)).prog = some p)
include hp

theorem firePulse_of_early (h : pinsRun s = false ∨ pulseReached s (pin s (8 + i)) p (recStamp s t) = false) :
    firePulse i t s = s := by
  rcases h with h | h <;> simp [firePulse, hp, h]

variable (hr : pinsRun s = true) (hx : pulseReached s (pin s (8 + i)) p (recStamp s t) = true)
include hr hx

theorem firePulse_of_silent (h : p.mode ≠ 1 ∨ p.notify = false ∨ isUnderstudy s = true ∨ inReplay s = true) :
    firePulse i t s = modPin (8 + i) (firedPin p (!(isUnderstudy s || inReplay s)) t) s := by
  simp only [firePulse, hp, hr, hx, Bool.and_self, if_true]
  refine (if_neg ?_).trans rfl
  rintro ⟨hm, hn, ho⟩
  rcases h with h | h | h | h
  · exact h hm
  · simp [h] at hn
  · simp [h] at ho
  · simp [h] at ho

theorem firePulse_of_notified (hm : p.mode = 1) (hn : p.notify = true) (hu : isUnderstudy s = false)
    (hrep : inReplay s = false) : firePulse i t s =
    emitLocalAt (recStamp s t) 0x5002 (248 + i) 0 0 0 0 (modPin (8 + i) (firedPin p true t) s) := by
  simp only [firePulse, hp, hr, hx, hm, hn, hu, hrep, Bool.and_self, Bool.or_self, Bool.not_false, and_self, if_true]
  rfl

end

theorem pulseReached_iff {s : State} {q : Pin} {p : Pulse} {t : Stamp} {u v : Word64} (hm : p.mode ≠ 3)
    (hu : convert s p.base (t - 1) = some u) (hv : convert s p.base (t + 1) = some v) :
    pulseReached s q p t = true ↔
      sdiff64 u (pulseInstant p p.k) ≤ 0 ∧ 0 ≤ sdiff64 v (pulseInstant p p.k) := by
  simp only [pulseReached, if_neg hm, baseReaches, hu, hv, Bool.and_eq_true, decide_eq_true_eq]

theorem pulseSkips_of_single {p : Pulse} {v : Word64} (hm : p.mode = 1) (h : 0 < sdiff64 v (pulseInstant p p.k)) :
    pulseSkips p v = 1 := by
  have h' : ¬ sdiff64 v (pulseInstant p p.k) ≤ 0 := by omega
  simp [pulseSkips, hm, h']

theorem pulseSkips_of_endless {p : Pulse} {v : Word64} (hm : p.mode = 2) (hc : p.count = 0)
    (h : 0 < sdiff64 v (pulseInstant p p.k)) :
    pulseSkips p v = ceilDiv (sdiff64 v (pulseInstant p p.k)).toNat p.period := by
  have h' : ¬ sdiff64 v (pulseInstant p p.k) ≤ 0 := by omega
  simp [pulseSkips, hm, hc, h']

/-- A count rounded up covers the amount, and one fewer does not. -/
theorem ceilDiv_bounds {a b : Nat} (ha : 0 < a) (hb : b ≠ 0) : a ≤ ceilDiv a b * b ∧ (ceilDiv a b - 1) * b < a := by
  have hdm := Nat.div_add_mod (a + b - 1) b
  have hlt := Nat.mod_lt (a + b - 1) (Nat.pos_of_ne_zero hb)
  rw [Nat.mul_comm] at hdm
  refine ⟨by unfold ceilDiv; omega, ?_⟩
  rw [Nat.sub_mul]
  unfold ceilDiv
  omega

/-! ### The wrap of TB2 (R334) -/

theorem exec_tb2Wrap (s : State) : exec .tb2Wrap s = .next (if tb2Wraps s (nextStart s) && !s.time.ptp.wrapped
    then modPtp (fun p => { p with era := (p.era + 1) % 65536, wrapped := true }) s else s) := rfl

/-! ### The statement -/

/-- Settles O44: each clause is the lemma on its case. -/
theorem pinCapturesAndPulses : Obligations.PinCapturesAndPulses := by
  unfold Obligations.PinCapturesAndPulses
  refine ⟨?_, ?_, ?_, ?_, ?_, ?_, ?_, ?_, ?_, ?_, ?_, ?_, ?_, ?_, ?_, ?_, ?_, ?_, ?_, ?_⟩
  · intro i r p w t s h
    rw [exec_tcapEdge, capEdge_of_not_taken (by simpa using h)]
  · intro i r p w t s h hc hn
    have he := capEdge_of_room (i := i) (p := p) (s := atTime t s) (t := t) (by simpa using h) (by simpa using hc)
      (by simpa using hn)
    rw [recStamp_atTime, pin_atTime] at he
    exact ⟨_, _, (exec_tcapEdge i r p w t s).trans (congrArg _ he), rfl, pinOnly_of rfl (by rw [pin_atTime]; rfl)⟩
  · intro i r p w t s h hl
    refine ⟨modPin i (fun p => { p with lost := satAdd 0xFFFF p.lost 1 }) (atTime t s), _,
      (exec_tcapEdge i r p w t s).trans (congrArg _ (capEdge_of_lost (by simpa using h) (by simpa using hl))), ?_, ?_⟩
    · exact pinOnly_of rfl (by rw [pin_atTime]; rfl)
    · simpa [reg] using regOnly_countReg (rTimCapLost + 4 * i) 1 (modPin i (fun p => { p with lost := satAdd 0xFFFF p.lost 1 }) (atTime t s))
  · intro i r w s
    exact capTakes_iff s i r w
  · intro x s ht h hk
    exact ⟨_, (exec_pinCapture_of_taken ht).trans (congrArg _ ((takeCapture_of_event (s := charge 10 10 s) h).trans
      (captureEvent_of_tb0 (s := charge 10 10 s) hk))), paid_of rfl rfl⟩
  · intro x s v k ht h hk h0 hv hs
    refine ⟨_, (exec_pinCapture_of_taken ht).trans (congrArg _ ((takeCapture_of_event (s := charge 10 10 s) (.inl h)).trans
      (captureEvent_of_stepped (s := charge 10 10 s) hk h0 hv hs))), paid_of (s := s) ?_ ?_⟩
    · rw [modTb_charge]
      rfl
    · exact engs_modTb _ _ s
  · intro i t s e he h
    exact ⟨_, exec_pulseEnd i t s, pinOnly_of rfl (by simp [widthOver_of_running he h])⟩
  · intro i t s h
    exact ⟨_, exec_pulseEnd i t s, pinOnly_of rfl (by simp [widthOver_of_over h])⟩
  · intro i t s h
    rw [exec_pulseFire, firePulse_of_no_program (by simpa using h)]
  · intro i t s p hp h
    rw [exec_pulseFire, firePulse_of_early (p := p) (by simpa using hp) (by simpa using h)]
  · intro i t s p hp hr hx h
    refine ⟨_, (exec_pulseFire i t s).trans (congrArg _ (firePulse_of_silent (p := p) (by simpa using hp) (by simpa using hr)
      (by simpa using hx) (by simpa using h))), pinOnly_of rfl ?_⟩
    simp [firedPin, pulseJudged]
  · intro i t s p hp hr hx hm hn hc hk hu hrep
    have he := firePulse_of_notified (i := i) (t := t) (s := atTime t s) (p := p) (by simpa using hp) (by simpa using hr)
      (by simpa using hx) hm hn (by simpa using hu) (by simpa using hrep)
    rw [recStamp_atTime] at he
    exact ⟨_, (exec_pulseFire i t s).trans (congrArg _ he), pinOnly_of rfl (by simp [firedPin, pulseJudged, hc, hk])⟩
  · intro s q p t u v hm hu hv
    exact pulseReached_iff hm hu hv
  · intro p hm
    simp [pulseInstant]
  · intro p k
    rfl
  · intro p v hm h
    exact pulseSkips_of_single hm h
  · intro p v hm hc hper h
    rw [pulseSkips_of_endless hm hc h]
    exact ceilDiv_bounds (by omega) hper
  · intro s h hw
    rw [exec_tb2Wrap, if_pos (by simp [h, hw])]
    rfl
  · intro s h
    rw [exec_tb2Wrap, if_neg]
    rcases h with h | h <;> simp [h]
  · intro s t
    simp only [tb2Wraps, Bool.and_eq_true, decide_eq_true_eq]

end Sys2Proof.Machine
end

section
/-! SUPPORT. PTP messages and ETH0 frames (R331 to R333, R335): what each message of the master leaves and answers, and
the statement assembled from these. -/

namespace Sys2Proof.Machine

/-! ### What each message runs when its engine takes it -/

section
variable {m : Ptp} {s : State}

theorem exec_sync_taken (h : ptpTaken 40 m s = true) : exec (.sync m) s = .next (takeSync m (charge 10 40 s)) :=
  ptp_taken h

theorem exec_followUp_taken (h : ptpTaken 10 m s = true) : exec (.followUp m) s = .next (takeFollowUp m (charge 10 10 s)) :=
  ptp_taken h

theorem exec_delayResp_taken (h : ptpTaken 10 m s = true) :
    exec (.delayResp m) s = .next (takeDelayResp m (charge 10 10 s)) := ptp_taken h

theorem exec_pdelayReq_taken (h : ptpTaken 40 m s = true) :
    exec (.pdelayReq m) s = .next (answerPdelay m (charge 10 40 s)) := ptp_taken h

theorem exec_pdelayResp_taken (h : ptpTaken 40 m s = true) :
    exec (.pdelayResp m) s = .next (takePdelayResp m (charge 10 40 s)) := ptp_taken h

theorem exec_pdelayRespFollowUp_taken (h : ptpTaken 10 m s = true) :
    exec (.pdelayRespFollowUp m) s = .next (takePdelayFollow m (charge 10 10 s)) := ptp_taken h

theorem canTake_of_frameTaken {e cost : Nat} {st : Stamp} (h : frameTaken e cost st s = true) :
    canTake s e cost = true := by
  simp only [frameTaken, Bool.and_eq_true] at h
  obtain ⟨⟨⟨h, -⟩, -⟩, -⟩ := h
  exact h

/-- A message of another domain is dropped and counted (R348). -/
theorem exec_followUp_of_other_domain (h : frameTaken 10 10 m.stamp s = true) (he : ptpEn s = true)
    (hd : m.domain ≠ cfgU s recTime 2 1) : exec (.followUp m) s =
    .next (modPtp (fun p => { p with dropped := p.dropped + 1 }) (charge 10 10 s)) := by
  refine congrArg Host.Outcome.next ((frame_taken h).trans ((take_item (canTake_of_frameTaken h)).trans ?_))
  have he' : ptpEn (charge 10 10 s) = true := he
  have hd' : m.domain ≠ cfgU (charge 10 10 s) recTime 2 1 := hd
  simp [ptpTake, he', hd']

theorem exec_eth0Frame_taken {st : Stamp} {f : List Byte} (h : frameTaken 9 10 st s = true) (hp : ptpPart s f = none) :
    exec (.eth0Frame st f) s = .next (forwardEth st f (charge 9 10 s)) := by
  refine congrArg Host.Outcome.next ((frame_taken h).trans ((if_pos (by simp [hp])).trans ?_))
  exact take_item (canTake_of_frameTaken h)

end

/-! ### The messages of the master (R335) -/

section
variable {m : Ptp} {s : State}

theorem fromMaster_iff : fromMaster s m = true ↔ s.time.ptp.master = some m.source := by simp [fromMaster]

theorem masterBack_of_heard (h : s.time.ptp.lost = false) : masterBack s = s := if_neg (by simp [h])

/-- The Sync a message begins, on a unit that still waits for its Follow_Up when it is of two steps (R335). -/
def syncBegun (s : State) (m : Ptp) : SyncWait :=
  { seqId := m.seqId, t2 := ingress s m.stamp, corr := m.corr, logIntv := m.logIntv, cue := s.proc.procCue
    t1 := if m.twoStep then none else some ⟨m.seconds, m.nanos, 0⟩ }

theorem takeSync_of_master (hm : fromMaster s m = true) (hl : s.time.ptp.lost = false) :
    takeSync m s = withPtp { s.time.ptp with
      syncAt := some (m.stamp, m.logIntv), sync := some (syncBegun s m) } s := by
  refine (if_neg (by simp [hm])).trans ((masterBack_of_heard ?_).trans rfl)
  exact hl

theorem takeFollowUp_of_sync {w : SyncWait} (hm : fromMaster s m = true) (hs : s.time.ptp.sync = some w)
    (hq : w.seqId = m.seqId) (h1 : w.t1 = none) :
    takeFollowUp m s = withPtp { s.time.ptp with
      sync := some { w with t1 := some ⟨m.seconds, m.nanos, m.corr⟩ } } s := by
  simp [takeFollowUp, hs, hm, hq, h1, modPtp, withPtp]

theorem takeDelayResp_of_exchange {w : SyncWait} {o : PtpTs} {t3 : Stamp} (hr : m.req.toNat = ownClock s)
    (hm : fromMaster s m = true) (hp : bit (cfgU s recTime 0 2) 1 = false)
    (hd : s.time.ptp.dreq = some (m.seqId, t3)) (hs : s.time.ptp.sync = some w) (h1 : w.t1 = some o) :
    takeDelayResp m s = exchange ((sdiff64 (tb2At s w.t2) (tb2At s t3) +
        sdiff64 (ptpTicks m.seconds m.nanos (-m.corr)) (ptpTicks o.sec o.nano (o.corr + w.corr))).tdiv 2)
      (sdiff64 (tb2At s w.t2) (ptpTicks o.sec o.nano (o.corr + w.corr))) w.logIntv
      (withPtp { s.time.ptp with dreq := none, minLog := m.logIntv } s) := by
  simp only [takeDelayResp, hd, hs, hp, hm, hr, syncDiff, h1, Option.map_some, Bool.not_true, Bool.or_self, bne_self_eq_false,
    Bool.false_eq_true, if_false]
  rw [← hs]
  rfl

theorem takeDelayResp_of_other (h : m.req.toNat ≠ ownClock s) : takeDelayResp m s = s := by
  unfold takeDelayResp
  split
  · exact if_pos (by simp [h])
  · rfl

theorem takePdelayFollow_of_other (h : m.req.toNat ≠ ownClock s) : takePdelayFollow m s = s := by
  unfold takePdelayFollow
  split
  · exact if_pos (by simp [h])
  · rfl

theorem takePdelayResp_of_twoStep {t1 : Stamp} (hr : m.req.toNat = ownClock s)
    (hp : bit (cfgU s recTime 0 2) 1 = true) (hd : s.time.ptp.dreq = some (m.seqId, t1)) (h2 : m.twoStep = true) :
    takePdelayResp m s = withPtp { s.time.ptp with
      pdel := some ⟨m.seqId, ingress s m.stamp, ⟨m.seconds, m.nanos, 0⟩, m.corr⟩ } s := by
  simp [takePdelayResp, hd, hp, hr, h2, modPtp, withPtp]

theorem takePdelayFollow_of_exchange {t1 : Stamp} {w : PdelWait} (hr : m.req.toNat = ownClock s)
    (hd : s.time.ptp.dreq = some (m.seqId, t1)) (hw : s.time.ptp.pdel = some w) (hq : w.seqId = m.seqId)
    (hs : s.time.ptp.sync = none) :
    takePdelayFollow m s = withPtp { s.time.ptp with
      peerD := some (peerDelay s t1 w.t4 (ptpTicks w.t2.sec w.t2.nano 0) (ptpTicks m.seconds m.nanos (m.corr + w.corr)))
      dreq := none, pdel := none } s := by
  simp [takePdelayFollow, hd, hw, hr, hq, peerExchange, hs, modPtp, withPtp]

end

/-! ### ETH0 frames (R273, R274) -/

section
variable {st : Stamp} {f : List Byte} {s : State} (ho : slice f 0 6 = (List.range 6).map (cfgByte s recFwd))
include ho

theorem forwardEth_of_own (h6 : beNat (slice f 12 2) ≠ 0x86DD) :
    forwardEth st f s = divert (ethIngress st) 2 f s := by
  simp [forwardEth, ho, h6]

theorem forwardEth_of_ip (h6 : beNat (slice f 12 2) = 0x86DD) :
    forwardEth st f s = routeIp (ethIngress st) f (f.drop 14) s := by
  simp [forwardEth, ho, h6]

end

/-! ### Arrival (R38) -/

theorem arrived_of_present {stamp : Stamp} {body : List Byte} {it : Item} {take : State → State} {s : State}
    (hp : s.proc.processing = true) (h : 0 ≤ sdiff64 stamp s.proc.procStart) :
    arrived stamp body it take s = input 8 0 (le 8 stamp.toNat ++ body) it s := if_pos (by simp [hp, h])

/-! ### The statement -/

/-- Settles O45: each clause is the lemma on its case, on the state its engine has been charged in. -/
theorem ptpMessages : Obligations.PtpMessages := by
  unfold Obligations.PtpMessages
  refine ⟨?_, ?_, ?_, ?_, ?_, ?_, ?_, ?_, ?_, ?_, ?_⟩
  · intro m s h hm hl
    exact ⟨_, (exec_sync_taken h).trans (congrArg _ (takeSync_of_master (s := charge 10 40 s) hm hl)), paid_of rfl rfl⟩
  · intro m s w h hm hs hq h1
    exact ⟨_, (exec_followUp_taken h).trans (congrArg _ (takeFollowUp_of_sync (s := charge 10 10 s) hm hs hq h1)),
      paid_of rfl rfl⟩
  · rintro m s w o t3 d t4 t1 raw h hr hm hp hd hs h1 rfl rfl rfl rfl
    exact (exec_delayResp_taken h).trans
      (congrArg _ (takeDelayResp_of_exchange (s := charge 10 10 s) hr hm hp hd hs h1))
  · intro m s h
    exact ⟨_, _, exec_pdelayReq_taken h, rfl, paid_of rfl rfl⟩
  · intro m s h hr
    exact ⟨_, _, (exec_delayResp_taken h).trans (congrArg _ (takeDelayResp_of_other (s := charge 10 10 s) hr)),
      (exec_pdelayRespFollowUp_taken h).trans (congrArg _ (takePdelayFollow_of_other (s := charge 10 10 s) hr)),
      paid_charge 10 10 s, paid_charge 10 10 s⟩
  · intro m s t1 h hr hp hd h2
    exact ⟨_, (exec_pdelayResp_taken h).trans (congrArg _ (takePdelayResp_of_twoStep (s := charge 10 40 s) hr hp hd h2)),
      paid_of rfl rfl⟩
  · intro m s t1 w h hr hd hw hq hs
    exact ⟨_, _, (exec_pdelayRespFollowUp_taken h).trans
      (congrArg _ (takePdelayFollow_of_exchange (s := charge 10 10 s) hr hd hw hq hs)), rfl, paid_of rfl rfl⟩
  · intro m s h he hd
    exact ⟨_, exec_followUp_of_other_domain h he hd, paid_of rfl rfl⟩
  · intro st f s h hp ho h6
    exact ⟨_, (exec_eth0Frame_taken h hp).trans (congrArg _ (forwardEth_of_own (s := charge 9 10 s) ho h6)), paid_of rfl rfl⟩
  · intro st f s h hp ho h6
    exact (exec_eth0Frame_taken h hp).trans (congrArg _ (forwardEth_of_ip (s := charge 9 10 s) ho h6))
  · intro m s hp hu hr ht
    exact ⟨congrArg Host.Outcome.next (arrived_of_present hp ht), congrArg Host.Outcome.next (arrived_of_present hp ht)⟩

end Sys2Proof.Machine
end

section
/-! SUPPORT. The PTP client (R335 to R339): the choice of a master, the timeouts, exchanges accepted and deviating, and
the statement assembled from these. -/

namespace Sys2Proof.Machine

/-! ### What each command runs when its engine takes it -/

section
variable {s : State}

theorem exec_announce_taken {m : Ptp} (h : ptpTaken 10 m s = true) :
    exec (.announce m) s = .next (takeAnnounce m (charge 10 10 s)) := ptp_taken h

variable (h : canTake s 10 10 = true)
include h

theorem exec_announceReceiptTimeout_taken :
    exec .announceReceiptTimeout s = .next (announceTimeout (charge 10 10 s)) :=
  congrArg Host.Outcome.next (take_item h)

theorem exec_syncTimeout_taken : exec .syncTimeout s = .next (syncLost (charge 10 10 s)) :=
  congrArg Host.Outcome.next (take_item h)

theorem exec_syncPairDiscard_taken : exec .syncPairDiscard s = .next (discardSync (charge 10 10 s)) :=
  congrArg Host.Outcome.next (take_item h)

theorem exec_holdoverLimit_taken : exec .holdoverLimit s = .next (holdoverEnds (charge 10 10 s)) :=
  congrArg Host.Outcome.next (take_item h)

end

/-! ### The choice of a master (R331, R337) -/

section
variable {m : Ptp} {s : State}

theorem takeAnnounce_of_unusable (h : 255 ≤ m.steps ∨ m.source.toNat = ownClock s) : takeAnnounce m s = s :=
  if_pos h.symm

/-- A second Announce in time qualifies its master. -/
theorem foreignMasters_of_second {x : Ptp} {b : Bool} (hs : x.source = m.source)
    (hn : sdiff64 m.stamp x.stamp ≤ (logTicks 4 x.logIntv : Int)) : foreignMasters m [(x, b)] = [(m, true)] := by
  simp [foreignMasters, hs, hn]

theorem bestMaster_single : bestMaster [(m, true)] = some m := rfl

/-- The client as a listening one takes its first master (R337). -/
def firstMaster (m : Ptp) (p : PtpC) : PtpC :=
  { p with
    master := some m.source, utc := utcOf m, st := .acquiring, mpd := none, sync := none, syncAt := none
    dreq := none, pdel := none, dnext := none, minLog := -4, reroute := false, lost := false, traceable := false
    good := 0, deviating := 0, run := [] }

theorem selectMaster_of_first (hst : s.time.ptp.st = .listening) (hm : s.time.ptp.master = none) :
    selectMaster m s = withPtp (firstMaster m s.time.ptp) s := by
  simp [selectMaster, hst, hm, modPtp, withPtp, ptpAcquire, firstMaster]

theorem takeAnnounce_of_first {x : Ptp} (h5 : m.steps < 255) (ho : m.source.toNat ≠ ownClock s)
    (hf : s.time.ptp.masters = [(x, false)]) (hs : x.source = m.source)
    (hn : sdiff64 m.stamp x.stamp ≤ (logTicks 4 x.logIntv : Int)) (hst : s.time.ptp.st = .listening)
    (hm : s.time.ptp.master = none) :
    takeAnnounce m s = withPtp (firstMaster m { s.time.ptp with masters := [(m, true)] }) s := by
  have hq : foreignMasters m s.time.ptp.masters = [(m, true)] := by rw [hf, foreignMasters_of_second hs hn]
  have hneg : ¬ (m.source.toNat = ownClock s ∨ 255 ≤ m.steps) := by omega
  rw [takeAnnounce, if_neg hneg]
  simp only [modPtp, hq, bestMaster_single]
  exact selectMaster_of_first hst hm

end

/-! ### Timeouts (R335, R337, R339) -/

section
variable {s : State}

theorem announceTimeout_of_heard (h : announceOver s = false) : announceTimeout s = s := if_neg (by simp [h])

theorem masterLost_of_idle (h : s.time.ptp.st = .listening ∨
    (s.time.ptp.st = .holdover ∧ s.time.ptp.holdCue ≠ s.proc.procCue)) : masterLost s = s := by
  rcases h with h | ⟨h, hc⟩ <;> simp [masterLost, *]

theorem announceTimeout_of_idle (h : announceOver s = true) (hi : s.time.ptp.st = .listening ∨
    (s.time.ptp.st = .holdover ∧ s.time.ptp.holdCue ≠ s.proc.procCue)) :
    announceTimeout s = withPtp { s.time.ptp with masters := [], master := none } s := by
  rw [announceTimeout, if_pos h, masterLost_of_idle hi]
  rfl

/-- TB2 holds over after the loss of its master (R337). -/
def heldOver (s : State) : State :=
  { s with time := { s.time with
    tb2 := { s.time.tb2 with pend := s.time.tb2.pend ++ [.rate s.time.ptp.i] }
    ptp := { s.time.ptp with
      st := .holdover, reroute := false, lost := true, traceable := true, holdCue := s.proc.procCue, run := []
      good := 0, deviating := 0 } } }

theorem masterLost_of_following (h : s.time.ptp.st = .locked ∨ s.time.ptp.st = .acquiring) :
    masterLost s = withRec 10 0x5006 1 0 0 0 (heldOver s) := by
  rcases h with h | h <;> simp only [masterLost, h] <;> rfl

theorem syncLost_of_over (ho : syncOver s = true) (h : s.time.ptp.st = .locked ∨ s.time.ptp.st = .acquiring) :
    syncLost s = withRec 10 0x5006 1 0 0 0 (heldOver s) := by
  rw [← masterLost_of_following h]
  rcases h with h | h <;> simp [syncLost, h, ho]

theorem syncLost_of_none (h : (s.time.ptp.st ≠ .locked ∧ s.time.ptp.st ≠ .acquiring) ∨ syncOver s = false) :
    syncLost s = s := by
  rcases h with ⟨hl, ha⟩ | h
  · cases hst : s.time.ptp.st with
    | locked => exact absurd hst hl
    | acquiring => exact absurd hst ha
    | _ => simp only [syncLost, hst]
  · cases hst : s.time.ptp.st <;> simp [syncLost, hst, h]

theorem discardSync_of_old {w : SyncWait} (hs : s.time.ptp.sync = some w) (h1 : w.t1 = none)
    (hp : 102400000000 ≤ sdiff64 s.proc.procStart w.t2) :
    discardSync s = withPtp { s.time.ptp with sync := none } s := by
  have hpass : passed s w.t2 102400000000 = true := decide_eq_true hp
  simp only [discardSync, hs, h1, hpass, Option.isNone_none, Bool.and_self, if_true]
  rfl

theorem holdoverEnds_of_limit (hst : s.time.ptp.st = .holdover) (ht : s.time.ptp.traceable = true)
    (hl : (cfgU s recTime 20 4 : Int) ≤ sdiff32 s.proc.procCue s.time.ptp.holdCue) :
    holdoverEnds s = withRec 10 0x5009 0 0 0 0 (withPtp { s.time.ptp with traceable := false } s) :=
  if_pos ⟨hst, ht, decide_eq_true hl⟩

end

/-! ### Exchanges (R335 to R338) -/

section
variable {s : State}

theorem exchange_of_deviating {raw diff log m : Int} (hst : s.time.ptp.st = .locked ∨ s.time.ptp.st = .acquiring)
    (hm : s.time.ptp.mpd = some m) (hx : exceeds (raw - m) (cfgU s recTime 16 4) = true)
    (hd : s.time.ptp.deviating = 0) :
    exchange raw diff log s = withPtp { s.time.ptp with
      discarded := s.time.ptp.discarded + 1, deviating := 1, good := 0, offset := diff - (m + s.time.ptp.asym) } s := by
  have he : exchange raw diff log s = deviate (diff - (m + s.time.ptp.asym)) s := by
    rcases hst with hst | hst <;> simp [exchange, hst, hm, hx]
  rw [he]
  simp [deviate, modPtp, withPtp, hd]

/-- The servo's change after an accepted exchange of offset `o` (R336). -/
def servoed (o : Int) (ir : Int × Int) (s : State) : State :=
  { s with time := { s.time with
    tb2 := { s.time.tb2 with pend := s.time.tb2.pend ++ [.rate ir.2] }
    ptp := { s.time.ptp with i := ir.1, deviating := 0, offset := o } } }

theorem acceptExchange_of_near {o log : Int} (hx : exceeds o (cfgU s recTime 8 4) = false) :
    acceptExchange o log s = if s.time.ptp.st = .acquiring then
      (if 4 ≤ (if exceeds o (cfgU s recTime 12 4) then 0 else s.time.ptp.good + 1) then
        ptpEvent 0x5005 0 (modPtp (fun p => { p with st := .locked, traceable := true, good := 0 }) (servoed o (servo s o log) s))
      else modPtp (fun p => { p with good := if exceeds o (cfgU s recTime 12 4) then 0 else s.time.ptp.good + 1 })
        (servoed o (servo s o log) s))
    else servoed o (servo s o log) s := if_neg (by simp [hx])

theorem acceptExchange_of_fourth {o log : Int} (hst : s.time.ptp.st = .acquiring)
    (hx : exceeds o (cfgU s recTime 8 4) = false) (hl : exceeds o (cfgU s recTime 12 4) = false)
    (hg : s.time.ptp.good = 3) : acceptExchange o log s =
    ptpEvent 0x5005 0 (modPtp (fun p => { p with st := .locked, traceable := true, good := 0 }) (servoed o (servo s o log) s)) := by
  rw [acceptExchange_of_near hx, if_pos hst, hl, hg]
  rfl

theorem acceptExchange_of_locked {o log : Int} (hst : s.time.ptp.st = .locked)
    (hx : exceeds o (cfgU s recTime 8 4) = false) : acceptExchange o log s = servoed o (servo s o log) s := by
  rw [acceptExchange_of_near hx, if_neg (by simp [hst])]

end

/-! ### The statement -/

/-- Settles O46: each clause is the lemma on its case, on the state the Stage Manager has been charged in. -/
theorem ptpStates : Obligations.PtpStates := by
  unfold Obligations.PtpStates
  refine ⟨?_, ?_, ?_, ?_, ?_, ?_, ?_, ?_, ?_, ?_, ?_⟩
  · intro m s h hu
    exact ⟨_, (exec_announce_taken h).trans (congrArg _ (takeAnnounce_of_unusable (s := charge 10 10 s) hu)), paid_charge _ _ _⟩
  · intro m x s h h5 ho hf hs hn hst hm
    exact ⟨_, (exec_announce_taken h).trans (congrArg _ (takeAnnounce_of_first (s := charge 10 10 s) h5 ho hf hs hn hst hm)),
      paid_of rfl rfl⟩
  · intro s h ho
    exact ⟨_, (exec_announceReceiptTimeout_taken h).trans (congrArg _ (announceTimeout_of_heard (s := charge 10 10 s) ho)),
      paid_charge _ _ _⟩
  · intro s h ho hi
    exact ⟨_, (exec_announceReceiptTimeout_taken h).trans (congrArg _ (announceTimeout_of_idle (s := charge 10 10 s) ho hi)),
      paid_of rfl rfl⟩
  · intro s h ho hst
    exact ⟨_, (exec_syncTimeout_taken h).trans (congrArg _ (syncLost_of_over (s := charge 10 10 s) ho hst)), paid_of rfl rfl⟩
  · intro s h hn
    exact ⟨_, (exec_syncTimeout_taken h).trans (congrArg _ (syncLost_of_none (s := charge 10 10 s) hn)), paid_charge _ _ _⟩
  · intro s w h hs h1 hp
    exact ⟨_, (exec_syncPairDiscard_taken h).trans (congrArg _ (discardSync_of_old (s := charge 10 10 s) hs h1 hp)),
      paid_of rfl rfl⟩
  · intro s h hst ht hl
    exact ⟨_, (exec_holdoverLimit_taken h).trans (congrArg _ (holdoverEnds_of_limit (s := charge 10 10 s) hst ht hl)),
      paid_of rfl rfl⟩
  · intro raw diff log m s hst hm hx hd
    exact exchange_of_deviating hst hm hx hd
  · intro o log s hst hx hl hg
    exact ⟨_, _, rfl, acceptExchange_of_fourth hst hx hl hg⟩
  · intro o log s hst hx
    exact ⟨_, _, rfl, acceptExchange_of_locked hst hx⟩

end Sys2Proof.Machine
end

section
/-! SUPPORT. Secured uplinks (R216, R220, R242, R249, R254, R272, R452): what the check of a frame leaves, what each type
then runs, the anchor of a contact, and the statement assembled from these. -/

namespace Sys2Proof.Machine

/-! ### The check of a frame (R220, R452) -/

/-- The uplink of an accepted frame. -/
def uplinkOf (s : State) (rx : Reception) (f : Frame) (i : Nat) (es : List (Nat × List Byte)) (q : List Byte) : Uplink :=
  ⟨i, f, es, q, rx, winOf s rx⟩

theorem acceptUplink_of_unparsed {rx : Reception} {s : State} (h : parseFrame (rxFrame rx) = none) :
    acceptUplink rx s = (none, macDrop s) := by
  simp only [acceptUplink, h]

section
variable {rx : Reception} {s : State} {f : Frame} {i : Nat} {p : List Byte} {h b : Word32}
  {es : List (Nat × List Byte)} {q : List Byte}
  (hf : parseFrame (rxFrame rx) = some f) (hi : nodeByAddr s (uplinkNode f) = some i) (hsec : f.sec = true)
  (hdir : f.dir = false) (hr : f.router = routerId s) (ho : openFrom s i f = .inl (p, h, b))
  (hb : splitBody f p = some (es, q))
include hf hi hsec hdir hr ho hb

theorem acceptUplink_of_opened : acceptUplink rx s =
    if es.all elemOk && payloadOk f.typ q then (some (uplinkOf s rx f i es q), takeCounter i f h b s)
    else (none, macDrop (takeCounter i f h b s)) := by
  simp only [acceptUplink, hf, hi, hsec, hdir, hr, ho, hb, uplinkOf, Bool.not_true, Bool.or_self, bne_self_eq_false,
    Bool.false_eq_true, if_false]

theorem acceptUplink_of_good (he : ∀ e ∈ es, elemOk e = true) (hp : payloadOk f.typ q = true) :
    acceptUplink rx s = (some (uplinkOf s rx f i es q), takeCounter i f h b s) := by
  rw [acceptUplink_of_opened hf hi hsec hdir hr ho hb]
  exact if_pos (by rw [List.all_eq_true.mpr he, hp]; rfl)

theorem acceptUplink_of_bad (hx : (∃ e ∈ es, elemOk e = false) ∨ payloadOk f.typ q = false) :
    acceptUplink rx s = (none, macDrop (takeCounter i f h b s)) := by
  rw [acceptUplink_of_opened hf hi hsec hdir hr ho hb]
  refine if_neg ?_
  rw [Bool.and_eq_true, List.all_eq_true]
  rintro ⟨he, hp⟩
  rcases hx with ⟨e, hm, hx⟩ | hx
  · simp [he e hm] at hx
  · simp [hp] at hx

end

theorem nodeOnly_takeCounter (i : Nat) (f : Frame) (h b : Word32) (s : State) :
    nodeOnly i { node s i with win := h, bits := b, seen := (node s i).seen ++ [BitVec.ofNat 32 f.ctr] } s
      (takeCounter i f h b s) := nodeOnly_of rfl rfl

/-- A dropped frame is counted, and nothing else changes (R220). -/
theorem regOnly_macDrop (s : State) :
    regOnly 0x30034 (w32 (min 0xFFFFFFFF ((reg s 0x30034).toNat + 1))) s (macDrop s) := regOnly_countReg _ _ _

/-! ### What each frame type runs (R216, R249, R272) -/

theorem dropWin_of_none {rx : Reception} {s : State} (h : winOf s rx = none) : dropWin rx s = s := by
  simp only [dropWin, h]

theorem takeUplink_of_accepted {rx : Reception} {forward : Uplink → State → State} {s s1 : State} {u : Uplink}
    (h : acceptUplink rx s = (some u, s1)) : takeUplink rx forward s = dropWin rx (contact u (forward u) s1) := by
  simp only [takeUplink, h]

theorem takeUplink_of_dropped {rx : Reception} {forward : Uplink → State → State} {s s1 : State}
    (h : acceptUplink rx s = (none, s1)) : takeUplink rx forward s = dropWin rx s1 := by
  simp only [takeUplink, h]

theorem takeLost_of_accepted {rx : Reception} {s s1 : State} {u : Uplink} (h : acceptUplink rx s = (some u, s1))
    (hl : u.payload.length = 6) (hb : byteAt u.payload 0 ≤ 2) : takeLost rx s = dropWin rx (contact u id s1) := by
  simp only [takeLost, h, hl, hb, and_self, if_true]
  rfl

theorem takeLost_of_dropped {rx : Reception} {s s1 : State} (h : acceptUplink rx s = (none, s1)) :
    takeLost rx s = dropWin rx s1 := by
  simp only [takeLost, h]

section
variable {rx : Reception} {s : State} (h : canTake s (rxOwner s rx) (rxCost s rx) = true)
include h

theorem exec_data_taken : exec (.data rx) s =
    .next (takeUplink rx forwardData (charge (rxOwner s rx) (rxCost s rx) s)) := congrArg Host.Outcome.next (take_item h)

theorem exec_reply_taken : exec (.reply rx) s =
    .next (takeUplink rx (fun _ => id) (charge (rxOwner s rx) (rxCost s rx) s)) := congrArg Host.Outcome.next (take_item h)

theorem exec_control_taken : exec (.control rx) s =
    .next (takeUplink rx (fun _ => id) (charge (rxOwner s rx) (rxCost s rx) s)) := congrArg Host.Outcome.next (take_item h)

theorem exec_lostRequest_taken : exec (.lostRequest rx) s =
    .next (takeLost rx (charge (rxOwner s rx) (rxCost s rx) s)) := congrArg Host.Outcome.next (take_item h)

end

/-! ### The anchor of a contact (R242, R254) -/

theorem updateLapsed_of_none {i : Nat} {e : Word32} {s : State} (h : (node s i).upd = none) : updateLapsed i e s = s := by
  simp only [updateLapsed, h]

theorem nodeOnly_reanchor {u : Uplink} {s : State} (h : (node s u.i).upd = none) :
    nodeOnly u.i { node s u.i with
      event := contactEvent u (node s u.i), arrival := u.rx.arrival, misses := 0, lastCue := s.proc.procCue
      nextWin := if (node s u.i).st = .dormant ∨ sdiff32 (node s u.i).nextWin (contactEvent u (node s u.i)) ≤ 0
        then contactEvent u (node s u.i) + 1 else (node s u.i).nextWin } s (reanchor u s) := by
  refine nodeOnly_of (by rw [reanchor, updateLapsed_of_none h]) ?_
  simp [takeUpdate_of_none h]

/-! ### The statement -/

/-- Settles O47: each clause is the lemma on its case, on the state the Stagehand has been charged in. -/
theorem uplinks : Obligations.Uplinks := by
  unfold Obligations.Uplinks
  refine ⟨?_, ?_, ?_, ?_, ?_⟩
  · intro rx s u s1 h ha
    refine ⟨?_, ?_, ?_, fun hl hb => ?_⟩
    · rw [exec_data_taken h, takeUplink_of_accepted ha]
    · rw [exec_reply_taken h, takeUplink_of_accepted ha]
    · rw [exec_control_taken h, takeUplink_of_accepted ha]
    · rw [exec_lostRequest_taken h, takeLost_of_accepted ha hl hb]
  · intro rx s h hp hw
    have ha := acceptUplink_of_unparsed (s := charge (rxOwner s rx) (rxCost s rx) s) hp
    have hd : dropWin rx (macDrop (charge (rxOwner s rx) (rxCost s rx) s)) =
        macDrop (charge (rxOwner s rx) (rxCost s rx) s) := dropWin_of_none hw
    refine ⟨charge (rxOwner s rx) (rxCost s rx) s, _, paid_charge _ _ s, regOnly_macDrop _, ?_, ?_, ?_, ?_⟩
    · rw [exec_data_taken h, takeUplink_of_dropped ha, hd]
    · rw [exec_reply_taken h, takeUplink_of_dropped ha, hd]
    · rw [exec_control_taken h, takeUplink_of_dropped ha, hd]
    · rw [exec_lostRequest_taken h, takeLost_of_dropped ha, hd]
  · intro rx s f i p h b es q hf hi hsec hdir hr ho hb he hp
    exact ⟨_, acceptUplink_of_good hf hi hsec hdir hr ho hb he hp, nodeOnly_takeCounter i f h b s⟩
  · intro rx s f i p h b es q hf hi hsec hdir hr ho hb hx
    exact ⟨_, _, acceptUplink_of_bad hf hi hsec hdir hr ho hb hx, nodeOnly_takeCounter i f h b s, regOnly_macDrop _⟩
  · rintro u s n e rfl rfl h
    exact ⟨_, rfl, nodeOnly_reanchor h⟩

end Sys2Proof.Machine
end

section
/-! SUPPORT. Window outcomes, peer routers, floods, transmit ends and map requests (R140 to R144, R199, R244, R251, R252,
R255 to R258), and the statement assembled from these. -/

namespace Sys2Proof.Machine

/-! ### Windows (R244) -/

theorem winOf_charge (e n : Nat) (s : State) (rx : Reception) : winOf (charge e n s) rx = winOf s rx := rfl

section
variable {rx : Reception} {s : State} {w : WinEnt} (h : winOf s rx = some w)
include h

theorem dropWin_of_heard (h2 : rx.outcome ≠ 2) : dropWin rx s = { s with mesh := { s.mesh with
    wins := s.mesh.wins.erase w, judge := s.mesh.judge ++ [w] } } := by
  simp only [dropWin, h, modMesh, if_neg h2]

theorem dropWin_of_missed (h2 : rx.outcome = 2) :
    dropWin rx s = { s with mesh := { s.mesh with wins := s.mesh.wins.erase w } } := by
  simp only [dropWin, h, modMesh, if_pos h2]

end

theorem exec_windowOutcome_taken {rx : Reception} {s : State} {w : WinEnt} (hw : winOf s rx = some w)
    (hg : rxGood rx = false) (h : canTake s (owner w.node) 10 = true) :
    exec (.windowOutcome rx) s = .next (takeOutcome rx (charge (owner w.node) 10 s)) := by
  have ho : outcomeOwner s rx = owner w.node := by simp only [outcomeOwner, hw]
  have hc : (if rxGood rx then 20 else 10) = 10 := by rw [hg]; rfl
  refine congrArg Host.Outcome.next ?_
  rw [ho, hc]
  exact take_item h

theorem takeOutcome_of_bad {rx : Reception} {s : State} (hg : rxGood rx = false) (h0 : rx.outcome ≠ 0) :
    takeOutcome rx s = dropWin rx s := by
  simp only [takeOutcome, hg, h0, false_and, Bool.false_eq_true, if_false]

/-! ### Peer routers (R251, R252) -/

theorem exec_beacon_taken {rx : Reception} {s : State} (h : canTake s 0 20 = true) :
    exec (.beacon rx) s = .next (dropWin rx (takeBeacon rx (charge 0 20 s))) := congrArg Host.Outcome.next (take_item h)

theorem takePeer_of_new {p : Peer} {s : State} (hn : ∀ x ∈ s.mesh.peers, ¬ (x.router = p.router ∧ x.slot = p.slot))
    (hl : s.mesh.peers.length < 32) :
    takePeer p s = withRec 0 0x3004 0 0 0 0 { s with mesh := { s.mesh with peers := s.mesh.peers ++ [p] } } := by
  have hany : (s.mesh.peers.any fun x => x.router == p.router && x.slot == p.slot) = false := by
    rw [List.any_eq_false]
    intro x hx
    simpa using hn x hx
  refine (if_neg (by simp [hany])).trans ((if_pos hl).trans rfl)

theorem takeBeacon_of_peer {rx : Reception} {s : State} {f : Frame} {b : List Byte}
    (hf : parseFrame (rxFrame rx) = some f)
    (hb : ((beaconOf s f).bind fun b => (splitBody f b).map Prod.snd) = some b) (hok : beaconOk b = true)
    (hr : f.router ≠ routerId s) (hbit : bit (byteAt b 7) 1 = false) :
    takeBeacon rx s = takePeer (peerOf s rx f.router b) s := by
  simp [takeBeacon, hf, hb, hok, hr, hbit]

section
variable {i : Nat} {s : State} {p : Peer}

theorem exec_peerBeaconMiss_taken (h : canTake s 0 10 = true) :
    exec (.peerBeaconMiss i) s = .next (missBeacon i (charge 0 10 s)) := congrArg Host.Outcome.next (take_item h)

theorem exec_peerSupervisionExpiry_taken (h : canTake s 0 10 = true) :
    exec (.peerSupervisionExpiry i) s = .next (expirePeer i (charge 0 10 s)) := congrArg Host.Outcome.next (take_item h)

variable (hp : s.mesh.peers[i]? = some p)
include hp

theorem beaconMissDue_of_late (h : 1000 * (usTicks : Int) < sdiff64 s.proc.procStart p.expect) :
    beaconMissDue s i = true := by
  simp only [beaconMissDue, hp]
  exact decide_eq_true h

theorem missBeacon_of_third (hd : beaconMissDue s i = true) (hpr : p.present = true) (hm : p.misses = 2) :
    missBeacon i s = withRec 0 0x3005 0 0 0 0 { s with mesh := { s.mesh with
      peers := s.mesh.peers.set i { p with
        misses := 3, expect := plus p.expect (2 ^ p.log2 * cueTicks), present := false } } } := by
  simp only [missBeacon, hp, hd, hpr, hm]
  rfl

theorem missBeacon_of_earlier (hd : beaconMissDue s i = true) (hm : p.misses < 2) :
    missBeacon i s = { s with mesh := { s.mesh with
      peers := s.mesh.peers.set i { p with
        misses := p.misses + 1, expect := plus p.expect (2 ^ p.log2 * cueTicks) } } } := by
  have h3 : p.misses + 1 < 3 := by omega
  simp [missBeacon, hp, hd, h3, modMesh]

theorem expirePeer_of_over (h : (cfgU s recMesh 16 2 : Int) ≤ sdiff32 s.proc.procCue p.cue) :
    expirePeer i s = withRec 0 0x3006 0 0 0 0 { s with mesh := { s.mesh with peers := s.mesh.peers.eraseIdx i } } := by
  have hx : peerExpired s i = true := by
    simp only [peerExpired, hp]
    exact decide_eq_true h
  exact if_pos hx

theorem expirePeer_of_heard (h : sdiff32 s.proc.procCue p.cue < (cfgU s recMesh 16 2 : Int)) : expirePeer i s = s := by
  have hx : peerExpired s i = false := by
    simp only [peerExpired, hp]
    exact decide_eq_false (by omega)
  exact if_neg (by simp [hx])

end

/-! ### Floods (R255 to R258) -/

theorem exec_floodFrame_taken {rx : Reception} {s : State} {e n : Nat} (hw : floodWork s rx = (e, n))
    (h : canTake s e n = true) :
    exec (.floodFrame rx) s = .next (dropWin rx (takeFlood rx (charge e n s))) := by
  refine congrArg Host.Outcome.next ?_
  rw [hw]
  exact take_item h

theorem exec_floodResend_taken {x : FloodFrame} {s : State} (h : canTake s 0 10 = true) :
    exec (.floodResend x) s = .next (resendFlood x (charge 0 10 s)) := congrArg Host.Outcome.next (take_item h)

section
variable {rx : Reception} {s : State} {f : Frame} {o q n : Nat} (hf : parseFrame (rxFrame rx) = some f)
  (hfl : f.flood = some (o, q, n))
include hf hfl

theorem floodWork_of_seen (hs : isSeen s (floodOwner s o q) o q = true) : floodWork s rx = (floodOwner s o q, 8) := by
  simp only [floodWork, hf, hfl, hs, if_true]

theorem floodWork_of_new (hs : isSeen s (floodOwner s o q) o q = false) :
    floodWork s rx = (floodOwner s o q, 40 + blocksOf 16 f.body.length) := by
  simp only [floodWork, hf, hfl, hs, Bool.false_eq_true, if_false]

theorem takeFlood_of_seen (hs : isSeen s (floodOwner s o q) o q = true) : takeFlood rx s = countReg 0x30038 1 s := by
  simp only [takeFlood, hf, hfl, hs, if_true]

theorem takeFlood_of_foreign {p : List Byte} {es : List (Nat × List Byte)} {x : List Byte}
    (hs : isSeen s (floodOwner s o q) o q = false) (ht : f.typ = 1) (hsec : f.sec = true) (hdir : f.dir = true)
    (ho : openFlood s f o = .inl (p, none)) (hb : splitBody f p = some (es, x)) (he : ∀ y ∈ es, elemOk y = true) :
    takeFlood rx s = relayFlood (floodOwner s o q) f o q n
      (forwardMesh (floodIngress s (floodOwner s o q) o rx) x (insertSeen (floodOwner s o q) o q s)) := by
  have hall : es.all elemOk = true := List.all_eq_true.mpr he
  simp [takeFlood, hf, hfl, hs, ht, hsec, hdir, ho, hb, hall]

end

section
variable {x : FloodFrame} {s : State}

theorem resendFlood_of_room (hl : s.mesh.floods.length < 64) (hne : floodEntries s x.scope x.grand ≠ [])
    (hfit : ∀ j ∈ floodEntries s x.scope x.grand, slotFits s x.frame.length j = true) :
    resendFlood x s = queueFlood none x.scope x.grand x.seq x.frame s := by
  have hall : (floodEntries s x.scope x.grand).all (slotFits s x.frame.length) = true := List.all_eq_true.mpr hfit
  have hl' : ¬ 64 ≤ s.mesh.floods.length := by omega
  simp [resendFlood, hl', hne, hall]

theorem resendFlood_of_dropped (h : 64 ≤ s.mesh.floods.length ∨
    ∃ j ∈ floodEntries s x.scope x.grand, slotFits s x.frame.length j = false) : resendFlood x s = fwdDrop s := by
  by_cases hl : 64 ≤ s.mesh.floods.length
  · exact if_pos hl
  · obtain ⟨j, hj, hx⟩ := h.resolve_left hl
    have hne : floodEntries s x.scope x.grand ≠ [] := List.ne_nil_of_mem hj
    have hall : (floodEntries s x.scope x.grand).all (slotFits s x.frame.length) = false :=
      List.all_eq_false.mpr ⟨j, hj, by simp [hx]⟩
    simp [resendFlood, hl, hne, hall]

end

/-! ### Transmit ends (R170, R199) -/

theorem proc_withTx (c : Chain) (x : Tx) (s : State) : (withTx c x s).proc = s.proc := by cases c <;> rfl

theorem canTake_withTx (c : Chain) (x : Tx) (s : State) (e n : Nat) : canTake (withTx c x s) e n = canTake s e n := by
  cases c <;> rfl

theorem mesh_withTx (c : Chain) (x : Tx) (s : State) : (withTx c x s).mesh = s.mesh := by cases c <;> rfl

theorem ledgerCorrect_eq (x : TxEnd) (s : State) : ledgerCorrect x s = withTx x.chain { tx s x.chain with
    ledger := (tx s x.chain).ledger.map fun g =>
      if g.seq == x.seq then { g with us := (sdiff64 x.endStamp x.curtain).toNat * 3 } else g
    shadow := (tx s x.chain).shadow.filter fun r => r.seq != x.seq } s := by
  rw [ledgerCorrect, withTx_modTx]

theorem exec_transmitEndEntry_taken {x : TxEnd} {s : State} (h : canTake s (x.origin.toNat % 16) 10 = true) :
    exec (.transmitEndEntry x) s = .next (txEnded x (charge (x.origin.toNat % 16) 10 (ledgerCorrect x s))) := by
  refine congrArg Host.Outcome.next (take_item ?_)
  rw [ledgerCorrect_eq, canTake_withTx, h]

theorem txEnded_of_unused {x : TxEnd} {s : State} (h : ∀ v ∈ s.mesh.uses, v.sent ≠ some (x.chain, x.seq)) :
    txEnded x s = s := by
  have hf : s.mesh.uses.find? (fun u => u.sent == some (x.chain, x.seq)) = none := by
    rw [List.find?_eq_none]
    intro v hv
    simpa using h v hv
  simp only [txEnded, hf]

/-! ### Map requests (R140 to R144) -/

theorem exec_mapAllocation_taken {i : Nat} {l : List Nat} {s : State} (h : canTake s 8 10 = true) :
    exec (.mapAllocation i l) s = .next (takeMap i l (charge 8 10 s)) := congrArg Host.Outcome.next (take_item h)

theorem takeMap_of_illegal {i : Nat} {l : List Nat} {s : State} (h : mapLegal l = false) : takeMap i l s = s :=
  if_neg (by simp [h])

theorem takeMap_of_legal {i : Nat} {l : List Nat} {s : State} (h : mapLegal l = true) :
    takeMap i l s = { s with mesh := { s.mesh with mapReqs := s.mesh.mapReqs ++ [(i, l)] } } := if_pos h

/-! ### The statement -/

/-- Settles O48: each clause is the lemma on its case, on the state its engine has been charged in. -/
theorem windowsFloodsAndPeers : Obligations.WindowsFloodsAndPeers := by
  unfold Obligations.WindowsFloodsAndPeers
  refine ⟨?_, ?_, ?_, ?_, ?_, ?_, ?_, ?_, ?_, ?_, ?_, ?_, ?_, ?_⟩
  · intro rx s w h hw hg h0 h2
    exact ⟨_, (exec_windowOutcome_taken hw hg h).trans (congrArg _ ((takeOutcome_of_bad hg h0).trans
      (dropWin_of_heard (s := charge (owner w.node) 10 s) hw h2))), paid_of rfl rfl⟩
  · intro rx s w h hw hg h2
    have h0 : rx.outcome ≠ 0 := by omega
    exact ⟨_, (exec_windowOutcome_taken hw hg h).trans (congrArg _ ((takeOutcome_of_bad hg h0).trans
      (dropWin_of_missed (s := charge (owner w.node) 10 s) hw h2))), paid_of rfl rfl⟩
  · intro rx s f b h hf hb hok hr hbit hw hn hl
    have ht : takeBeacon rx (charge 0 20 s) = _ := (takeBeacon_of_peer (s := charge 0 20 s) hf hb hok hr hbit).trans
      (takePeer_of_new (s := charge 0 20 s) (p := peerOf s rx f.router b) hn hl)
    refine ⟨_, (exec_beacon_taken h).trans (congrArg _ ((congrArg _ ht).trans (dropWin_of_none hw))), paid_of rfl rfl⟩
  · rintro rx s f o q n e hf hfl rfl hs h hw
    have ht := takeFlood_of_seen (s := charge (floodOwner s o q) 8 s) hf hfl hs
    refine ⟨charge (floodOwner s o q) 8 s, _, (exec_floodFrame_taken (floodWork_of_seen hf hfl hs) h).trans
      (congrArg _ ((congrArg _ ht).trans (dropWin_of_none hw))), paid_charge _ _ s, ?_⟩
    exact regOnly_countReg _ _ _
  · rintro rx s f o q n e p es x hf hfl rfl hs h hw ht hsec hdir ho hb he
    exact (exec_floodFrame_taken (floodWork_of_new hf hfl hs) h).trans (congrArg _ (congrArg _ (takeFlood_of_foreign
      (s := charge (floodOwner s o q) (40 + blocksOf 16 f.body.length) s) hf hfl hs ht hsec hdir ho hb he)))
  · intro x s h hl hne hfit
    exact ⟨_, (exec_floodResend_taken h).trans (congrArg _ (resendFlood_of_room (s := charge 0 10 s) hl hne hfit)),
      paid_of rfl rfl⟩
  · intro x s h hx
    exact ⟨charge 0 10 s, _, (exec_floodResend_taken h).trans (congrArg _ (resendFlood_of_dropped (s := charge 0 10 s) hx)),
      paid_charge 0 10 s, regOnly_countReg _ _ _⟩
  · rintro x s e u rfl h hu rfl
    refine ⟨_, (exec_transmitEndEntry_taken h).trans (congrArg _ (txEnded_of_unused ?_)), paid_charge _ _ _, ledgerCorrect_eq x s⟩
    intro v hv
    have hm : (ledgerCorrect x s).mesh = s.mesh := by rw [ledgerCorrect_eq, mesh_withTx]
    exact hu v (by rw [← hm]; exact hv)
  · intro i l s h hl
    exact ⟨_, (exec_mapAllocation_taken h).trans (congrArg _ (takeMap_of_illegal (s := charge 8 10 s) hl)), paid_charge _ _ s⟩
  · intro i l s h hl
    exact ⟨_, (exec_mapAllocation_taken h).trans (congrArg _ (takeMap_of_legal (s := charge 8 10 s) hl)), paid_of rfl rfl⟩
  · intro i s p h hp hpr hm hd
    have hdue := beaconMissDue_of_late (s := charge 0 10 s) hp hd
    exact ⟨_, (exec_peerBeaconMiss_taken h).trans (congrArg _ (missBeacon_of_third (s := charge 0 10 s) hp hdue hpr hm)),
      paid_of rfl rfl⟩
  · intro i s p h hp hm hd
    have hdue := beaconMissDue_of_late (s := charge 0 10 s) hp hd
    exact ⟨_, (exec_peerBeaconMiss_taken h).trans (congrArg _ (missBeacon_of_earlier (s := charge 0 10 s) hp hdue hm)),
      paid_of rfl rfl⟩
  · intro i s p h hp hx
    exact ⟨_, (exec_peerSupervisionExpiry_taken h).trans (congrArg _ (expirePeer_of_over (s := charge 0 10 s) hp hx)),
      paid_of rfl rfl⟩
  · intro i s p h hp hx
    exact ⟨_, (exec_peerSupervisionExpiry_taken h).trans (congrArg _ (expirePeer_of_heard (s := charge 0 10 s) hp hx)),
      paid_charge 0 10 s⟩

end Sys2Proof.Machine
end

section
/-! SUPPORT. The audition, the join and a packet for a node (R230 to R236, R277, R442 to R446), and the statement
assembled from these. -/

namespace Sys2Proof.Machine

/-! ### What each command runs when its engine takes it -/

section
variable {s : State}

theorem exec_auditionRequest_taken {rx : Reception} (h : canTake s 8 120 = true) :
    exec (.auditionRequest rx) s = .next (dropWin rx (audition rx (charge 8 120 s))) :=
  congrArg Host.Outcome.next (take_item h)

theorem exec_joinRequest_taken {rx : Reception} (h : canTake s 8 400 = true) :
    exec (.joinRequest rx) s = .next (dropWin rx (joinRequest rx (charge 8 400 s))) :=
  congrArg Host.Outcome.next (take_item h)

theorem exec_joinHandoff_taken {j : JoinReq} {c : Nat} (hc : boxJoinCost s j = c) (h : canTake s 11 c = true) :
    exec (.joinHandoff j) s = .next (boxJoin j (charge 11 c s)) := by
  subst hc
  exact congrArg Host.Outcome.next (take_item h)

theorem exec_joinResult_taken {r : JoinRes} (h : canTake s 8 10 = true) :
    exec (.joinResult r) s = .next (joinTakeBack r (charge 8 10 s)) := congrArg Host.Outcome.next (take_item h)

theorem exec_forwardedPacket_taken {x : FwdPacket} (h : canTake s (owner x.node) 10 = true) :
    exec (.forwardedPacket x) s = .next (deliverPacket x.node x.packet (charge (owner x.node) 10 s)) :=
  congrArg Host.Outcome.next (take_item h)

end

/-! ### What a charge leaves as it was -/

section
variable (e n : Nat) (s : State)

theorem plainUplink_charge (t k : Nat) (a : Bool) (rx : Reception) :
    plainUplink (charge e n s) t k a rx = plainUplink s t k a rx := rfl

theorem allocBlocked_charge : allocBlocked (charge e n s) = allocBlocked s := rfl

theorem credSlotOk_charge (j : JoinReq) : credSlotOk (charge e n s) j = credSlotOk s j := rfl

theorem credSigOk_charge (j : JoinReq) : credSigOk (charge e n s) j = credSigOk s j := rfl

theorem find_results_charge (k : BitVec 64) :
    (charge e n s).mesh.results.find? (fun r => r.1 == k && resultHolds (charge e n s) r) =
      s.mesh.results.find? (fun r => r.1 == k && resultHolds s r) := rfl

theorem joinKeys_charge (j : JoinReq) (x : List Byte) : joinKeys (charge e n s) j x = joinKeys s j x := rfl

end

/-! ### The audition (R230, R231) -/

/-- The audition that Prompter 0 remembers of a request (R231). -/
def auditKept (b : List Byte) (g : Bool) (p : Nat) : Audit :=
  { eui := BitVec.ofNat 64 (uAt b 0 8), caps := BitVec.ofNat 16 (uAt b 8 2), ppm := byteAt b 11
    wanted := BitVec.ofNat 8 (byteAt b 10), grand := g, pan := p }

/-- The state after an audition of answer `st`, with the audition in place of an earlier one (R231). -/
def auditNoted (b : List Byte) (st : Nat) (g : Bool) (p : Nat) (s : State) : State :=
  { s with mesh := { s.mesh with
    fresh := s.mesh.fresh + 1
    audits := s.mesh.audits.filter (fun x => x.eui != BitVec.ofNat 64 (uAt b 0 8)) ++
      (if st = 0 then [auditKept b g p] else []) } }

theorem audition_of_answer {rx : Reception} {s : State} {f : Frame} {es : List (Nat × List Byte)} {b : List Byte}
    {st p : Nat} {g : Bool} (hp : plainUplink s 3 16 true rx = some (f, es, b)) (hok : auditOk b = true)
    (hb : allocBlocked s = false) (ha : auditAnswer (ctxView s) b = (st, g, p)) :
    audition rx s = prompterSend (auditionChan s) rx { blankFrame 4 addrNone with
      body := slice b 0 8 ++ le 1 st ++ le 1 (if g then 2 else 1) ++ le 1 p ++ le 1 (joinChan s) ++
        le 2 (4 + 2 * s.mesh.joins) ++ le 2 0 } (auditNoted b st g p s) := by
  have hk : (if (st == 0) = true then [auditKept b g p] else []) = if st = 0 then [auditKept b g p] else [] := by simp
  simp only [audition, hp, hok, hb, ha, auditNoted, ← hk, Bool.not_true, Bool.false_eq_true, if_false]
  rfl

/-- The audition that an engine charged for it answers. -/
theorem audition_of_charged {rx : Reception} {s : State} {f : Frame} {es : List (Nat × List Byte)} {b : List Byte}
    {e n st p : Nat} {g : Bool} (hp : plainUplink s 3 16 true rx = some (f, es, b)) (hok : auditOk b = true)
    (hb : allocBlocked s = false) (ha : auditAnswer (ctxView (charge e n s)) b = (st, g, p)) :
    audition rx (charge e n s) = prompterSend (auditionChan s) rx { blankFrame 4 addrNone with
      body := slice b 0 8 ++ le 1 st ++ le 1 (if g then 2 else 1) ++ le 1 p ++ le 1 (joinChan s) ++
        le 2 (4 + 2 * s.mesh.joins) ++ le 2 0 } { charge e n s with mesh := { s.mesh with
      fresh := s.mesh.fresh + 1
      audits := s.mesh.audits.filter (fun x => x.eui != BitVec.ofNat 64 (uAt b 0 8)) ++
        (if st = 0 then [auditKept b g p] else []) } } :=
  audition_of_answer (s := charge e n s) hp hok hb ha

section
variable {b : List Byte} {s : State}

theorem auditAnswer_of_closed (h : joinPolicy s = 2) : (auditAnswer s b).1 = 4 := by
  simp only [auditAnswer, h, if_true]

theorem auditAnswer_of_unknown (h : joinPolicy s = 1) (hn : nodeByEui s (BitVec.ofNat 64 (uAt b 0 8)) = none) :
    (auditAnswer s b).1 = 3 := by
  simp [auditAnswer, h, hn]

theorem auditAnswer_of_other_plan (h : joinPolicy s = 0) (hp : uAt b 12 2 ≠ planCheck s) : (auditAnswer s b).1 = 5 := by
  simp [auditAnswer, h, hp]

end

/-! ### The join request (R232, R235) -/

theorem auditFor_of_remembered {s : State} {e : BitVec 64} {a : Audit}
    (h : s.mesh.audits.find? (fun a => a.eui == e) = some a) : auditFor s e = some a := by
  simp only [auditFor, h]

section
variable {rx : Reception} {s : State} {f : Frame} {es : List (Nat × List Byte)} {b : List Byte}
  (hp : plainUplink s 5 16 false rx = some (f, es, b)) (hz : zeroAt b 10 6 = true) (hl : uAt b 8 2 ≤ 1)
  (hb : allocBlocked s = false)
include hp hz hl hb

section
variable (hbit : bit (byteAt b 8) 0 = false)
include hbit

theorem joinRequest_of_new {a : Audit} {o : List Byte} (ha : auditFor s (BitVec.ofNat 64 (uAt b 0 8)) = some a)
    (ho : offerOf es = some o) (hj : s.mesh.pendingJoin.contains (BitVec.ofNat 64 (uAt b 0 8)) = false) :
    joinRequest rx s = joinRetry rx f (startJoin a o s) := by
  simp only [joinRequest, hp, hz, hl, hb, hbit, ha, ho, hj, decide_true, Bool.and_self, Bool.not_true, Bool.false_eq_true,
    if_false]

theorem joinRequest_of_repeated {o : List Byte} (h : auditFor s (BitVec.ofNat 64 (uAt b 0 8)) = none ∨
    s.mesh.pendingJoin.contains (BitVec.ofNat 64 (uAt b 0 8)) = true) (ho : offerOf es = some o) :
    joinRequest rx s = joinRetry rx f s := by
  have hstep : joinRequest rx s = match auditFor s (BitVec.ofNat 64 (uAt b 0 8)) with
      | none => joinRetry rx f s
      | some a => joinRetry rx f
        (if s.mesh.pendingJoin.contains (BitVec.ofNat 64 (uAt b 0 8)) then s else startJoin a o s) := by
    cases ha : auditFor s (BitVec.ofNat 64 (uAt b 0 8)) <;>
      simp only [joinRequest, hp, hz, hl, hb, hbit, ha, ho, decide_true, Bool.and_self, Bool.not_true,
        Bool.false_eq_true, if_false]
  rw [hstep]
  cases ha : auditFor s (BitVec.ofNat 64 (uAt b 0 8)) with
  | none => rfl
  | some a =>
    rcases h with h | h
    · rw [h] at ha
      cases ha
    · simp only [h, if_true]

end

theorem joinRequest_of_poll (hbit : bit (byteAt b 8) 0 = true)
    (hn : s.mesh.results.find? (fun r => r.1 == BitVec.ofNat 64 (uAt b 0 8) && resultHolds s r) = none) :
    joinRequest rx s = joinRetry rx f s := by
  simp only [joinRequest, joinPoll, hp, hz, hl, hb, hbit, hn, decide_true, Bool.and_self, Bool.not_true, Bool.false_eq_true,
    if_false, if_true]

end

/-! ### The Box Office (R443 to R446) -/

theorem boxJoin_of_refused {j : JoinReq} {s : State} (h : (credSlotOk s j && credSigOk s j) = false) :
    boxJoin j s = withOut 11 (.post 8 (.row (.joinResult (joinRefused j))) false)
      (withRec 11 0x8001 (j.eui.toNat % 2 ^ 32) (j.eui.toNat / 2 ^ 32) j.slot 0 (countReg 0x33118 1 s)) :=
  if_neg (by simp [h])

theorem canTake_iff {s : State} {e n : Nat} : canTake s e n = true ↔ s.proc.processing = true ∧
    (eng s e).blocked = false ∧ (eng s e).paused = false ∧ (eng s e).retired = false ∧ rollPaused s e = false ∧
      n ≤ (eng s e).left := by
  simp only [canTake, engHeld, Bool.and_eq_true, Bool.not_eq_true', Bool.or_eq_false_iff, decide_eq_false_iff_not]
  rw [Nat.not_lt]
  tauto

theorem eng_charge_same (e n : Nat) (s : State) : eng (charge e n s) e = { eng s e with left := (eng s e).left - n } := by
  have h := (paid_charge e n s).2 e
  rwa [if_pos rfl] at h

/-- An engine that can take an item of `a + b` units can take one of `a`, and then one of `b`. -/
theorem canTake_of_both {s : State} {e a b : Nat} (h : canTake s e (a + b) = true) :
    canTake s e a = true ∧ canTake (charge e a s) e b = true := by
  obtain ⟨hp, hb, hpa, hr, hro, hl⟩ := canTake_iff.mp h
  refine ⟨canTake_iff.mpr ⟨hp, hb, hpa, hr, hro, by omega⟩, canTake_iff.mpr ?_⟩
  rw [eng_charge_same]
  exact ⟨hp, hb, hpa, hr, hro, by dsimp only; omega⟩

theorem boxJoin_of_passed {j : JoinReq} {s : State} (h : credSlotOk s j = true) (hs : credSigOk s j = true)
    (ht : canTake s 11 1200 = true) : boxJoin j s = boxKeys j (charge 11 1200 s) :=
  (if_pos (by simp [h, hs])).trans (take_item ht)

theorem boxKeys_eq (j : JoinReq) (s : State) : boxKeys j s =
    withOut 11 (.post 8 (.row (.joinResult (joinKeys s j ((drawOut 11 s).1.take 16)))) false) (drawOut 11 s).2 := rfl

theorem drawOut_charge (e n : Nat) (s : State) : (drawOut e (charge e n s)).1 = (drawOut e s).1 := by
  have h : (eng (charge e n s) e).draws = (eng s e).draws := by rw [eng_charge_same]
  simp only [drawOut, h]
  rfl

/-- The answer of the Box Office, on the state before its charges. -/
theorem boxKeys_charged (j : JoinReq) (a b : Nat) (s : State) : boxKeys j (charge 11 b (charge 11 a s)) =
    withOut 11 (.post 8 (.row (.joinResult (joinKeys s j ((drawOut 11 s).1.take 16)))) false)
      { s with engs := (drawOut 11 (charge 11 b (charge 11 a s))).2.engs } := by
  rw [boxKeys_eq, drawOut_charge, drawOut_charge, joinKeys_charge, joinKeys_charge]
  rfl

theorem joinKeys_kLink (s : State) (j : JoinReq) (nr : List Byte) : (joinKeys s j nr).kLink =
    (sha256 ((ecBytes (ecMul (routerScalar s) (ecPoint j.pubKey))).take 32 ++ j.nonceN ++ nr ++
      be 8 j.eui.toNat ++ be 2 (routerId s))).take 16 := by
  simp only [joinKeys]

/-- An output written beside a change of the engines. -/
theorem withOut_engs (e : Nat) (o : Out) (g : SMap Eng) (s : State) : withOut e o { s with engs := g } =
    withOut e o { s with engs := (withOut e o { s with engs := g }).engs } := rfl

theorem draws_drawOut (e : Nat) (s : State) : (eng (drawOut e s).2 e).draws = (eng s e).draws + 1 := by
  have h := (engOnly_modEng e (fun g => { g with draws := g.draws + 1 }) s).2 e
  rw [if_pos rfl] at h
  exact congrArg Eng.draws h

theorem draws_boxKeys (o : Out) (a b : Nat) (s : State) :
    (eng (withOut 11 o { s with engs := (drawOut 11 (charge 11 b (charge 11 a s))).2.engs }) 11).draws =
      (eng s 11).draws + 1 := by
  refine (draws_drawOut 11 (charge 11 b (charge 11 a s))).trans ?_
  rw [eng_charge_same, eng_charge_same]

theorem boxTicket_eq {i : Nat} {r : JoinRes} {s x : State} {k : List Byte} (h : ticketBody s i r = (k, x)) :
    boxTicket i r s = withOut 11 (.post 8 (.ticketed i r k) false) x := by
  simp only [boxTicket, h]
  rfl

/-! ### Prompter 0 takes the join back (R232, R234, R446) -/

section
variable {r : JoinRes} {s : State}

theorem joinTakeBack_of_blocked (hb : allocBlocked s = true) : joinTakeBack r s = joinBack r.req.eui s := if_pos hb

theorem joinTakeBack_of_refused (hb : allocBlocked s = false) (ha : r.accepted = false) :
    joinTakeBack r s = keepResult r.req.eui 6 (kindCode r.req.grand) [] (joinBack r.req.eui s) :=
  (if_neg (by simp [hb])).trans (if_pos (by simp [ha]))

theorem joinTakeBack_of_index {i : Nat} {w : State} (hb : allocBlocked s = false) (ha : r.accepted = true)
    (hi : joinIndex r s = (.inr i, w)) : joinTakeBack r s = withOut 8 (.post 11 (.ticket i r) false)
      { w with mesh := { w.mesh with ctxOps := w.mesh.ctxOps ++ [.join i r] } } := by
  simp only [joinTakeBack, hb, ha, hi, Bool.not_true, Bool.false_eq_true, if_false]
  rfl

theorem joinDone_of_joining {i : Nat} {k : List Byte} (hst : (node s i).st = .joining) (he : (node s i).eui = r.req.eui) :
    joinDone i r k s = keepResult r.req.eui 0 i (k ++ answerBody r) (joinBack r.req.eui s) := if_pos ⟨hst, he⟩

end

/-! ### A packet for a node (R277) -/

section
variable {i : Nat} {ip : List Byte} {s : State}

theorem deliverPacket_of_refused (h : sendWrong (node s i) false = true) : deliverPacket i ip s = fwdFailed s :=
  if_pos (by simp [h])

/-- The downlink that carries a packet to node `i` (R277). -/
def packetDown (i : Nat) (ip : List Byte) (s : State) : Downlink :=
  { id := s.mesh.items, cmd := none, dest := i, payload := (0x41 : Byte) :: ip, ack := false
    wake := false, coexPri := false, mic16 := false, tries := 3
    expiry := s.proc.procCue + BitVec.ofNat 32 (cfgU s recFwd 10 2) }

theorem deliverPacket_of_queued (h : sendWrong (node s i) false = false)
    (hr : downRefusal s i (ip.length + 1) false = none) : deliverPacket i ip s =
    modNode i (fun n => { n with downs := n.downs ++ [packetDown i ip s] })
      { s with mesh := { s.mesh with items := s.mesh.items + 1 } } := by
  refine (if_neg (by simp [h, hr])).trans (if_neg ?_)
  simp

theorem node_modNode_other {i j : Nat} (f : Node → Node) (s : State) (h : j ≠ i) : node (modNode i f s) j = node s j := by
  have h' := (nodeOnly_modNode i f s).2 j
  rwa [if_neg h] at h'

end

/-! ### The statement -/

/-- Settles O49: each clause is the lemma on its case, on the state its engine has been charged in. -/
theorem auditionsAndJoins : Obligations.AuditionsAndJoins := by
  unfold Obligations.AuditionsAndJoins
  refine ⟨?_, ?_, ?_, ?_, ?_, ?_, ?_, ?_, ?_, ?_, ?_, ?_, ?_, ?_, ?_, ?_, ?_⟩
  · rintro rx s f es b st g p u h hp hok hb hw ha rfl
    exact (exec_auditionRequest_taken h).trans
      (congrArg _ (congrArg _ (audition_of_charged hp hok hb ha)))
  · intro b s h
    exact auditAnswer_of_closed h
  · intro b s h hn
    exact auditAnswer_of_unknown h hn
  · intro b s h hp
    exact auditAnswer_of_other_plan h hp
  · intro rx s f es b a o h hp hz hl hb hbit hw ha ho hj
    exact (exec_joinRequest_taken h).trans
      (congrArg _ (congrArg _ (joinRequest_of_new (s := charge 8 400 s) ((plainUplink_charge ..).trans hp)
        hz hl ((allocBlocked_charge ..).trans hb) hbit ha ho hj)))
  · intro rx s f es b o h hp hz hl hb hbit hw hx ho
    exact (exec_joinRequest_taken h).trans
      (congrArg _ (congrArg _ (joinRequest_of_repeated (s := charge 8 400 s) ((plainUplink_charge ..).trans hp)
        hz hl ((allocBlocked_charge ..).trans hb) hbit hx ho)))
  · intro s e a h
    exact auditFor_of_remembered h
  · intro rx s f es b h hp hz hl hb hbit hn hw
    exact (exec_joinRequest_taken h).trans
      (congrArg _ (congrArg _ (joinRequest_of_poll (s := charge 8 400 s) ((plainUplink_charge ..).trans hp)
        hz hl ((allocBlocked_charge ..).trans hb) hbit ((find_results_charge ..).trans hn))))
  · intro j s c hc h
    have hcost : boxJoinCost s j = c := by
      rcases hc with ⟨hs, rfl⟩ | ⟨hs, -, rfl⟩ <;> simp [boxJoinCost, hs]
    have hfail : (credSlotOk s j && credSigOk s j) = false := by
      rcases hc with ⟨hs, -⟩ | ⟨hs, hg, -⟩
      · rw [hs, Bool.false_and]
      · rw [hg, Bool.and_false]
    exact ⟨charge 11 c s, countReg 0x33118 1 (charge 11 c s), _, (exec_joinHandoff_taken hcost h).trans
      (congrArg _ (boxJoin_of_refused (s := charge 11 c s) hfail)), paid_charge 11 c s, regOnly_countReg _ _ _, rfl⟩
  · intro j s hs hg h
    obtain ⟨h1, h2⟩ := canTake_of_both (a := 2600) (b := 1200) h
    have hcost : boxJoinCost s j = 2600 := by simp [boxJoinCost, hs]
    refine ⟨_, _, (exec_joinHandoff_taken hcost h1).trans (congrArg _ ((boxJoin_of_passed
      (s := charge 11 2600 s) ((credSlotOk_charge ..).trans hs) ((credSigOk_charge ..).trans hg) h2).trans
      (boxKeys_charged j 2600 1200 s))), rfl, joinKeys_kLink s j _, withOut_engs 11 _ _ s, ?_⟩
    exact draws_boxKeys _ 2600 1200 s
  · intro r s h hb ha
    exact ⟨_, (exec_joinResult_taken h).trans (congrArg _ (joinTakeBack_of_refused (s := charge 8 10 s) hb ha)),
      paid_of rfl rfl⟩
  · intro r s h hb
    exact ⟨_, (exec_joinResult_taken h).trans (congrArg _ (joinTakeBack_of_blocked (s := charge 8 10 s) hb)),
      paid_of rfl rfl⟩
  · intro r s i w h hb ha hi
    exact (exec_joinResult_taken h).trans (congrArg _ (joinTakeBack_of_index (s := charge 8 10 s) hb ha hi))
  · intro i r s k x h
    exact boxTicket_eq h
  · intro i r k s hst he
    exact joinDone_of_joining hst he
  · intro x s h hw
    exact ⟨charge (owner x.node) 10 s, _, (exec_forwardedPacket_taken h).trans
      (congrArg _ (deliverPacket_of_refused (s := charge (owner x.node) 10 s) hw)), paid_charge _ _ s, regOnly_countReg _ _ _⟩
  · intro x s h hw hr
    refine ⟨_, (exec_forwardedPacket_taken h).trans
      (congrArg _ (deliverPacket_of_queued (s := charge (owner x.node) 10 s) hw hr)), paid_of rfl rfl, fun j hj => ?_, ?_⟩
    · exact node_modNode_other _ _ hj
    · exact node_modNode_same _ _ _

end Sys2Proof.Machine
end

section
/-! SUPPORT. The timers of the nodes and of the table locks (R236, R238, R247, R248, R254, R262, R289), and the statement
assembled from these. -/

namespace Sys2Proof.Machine

/-! ### What each command runs when the node's Stagehand takes it -/

section
variable {i : Nat} {s : State}

theorem exec_supervisionTimeout_taken (h : canTake s (owner i) 4 = true) :
    exec (.supervisionTimeout i) s = .next (superviseNode i (charge (owner i) 4 s)) :=
  congrArg Host.Outcome.next (take_item h)

variable (h : canTake s (owner i) 10 = true)
include h

theorem exec_joinTimeout_taken : exec (.joinTimeout i) s = .next (timeOutJoin i (charge (owner i) 10 s)) :=
  congrArg Host.Outcome.next (take_item h)

theorem exec_dormantLimit_taken : exec (.dormantLimit i) s = .next (limitDormant i (charge (owner i) 10 s)) :=
  congrArg Host.Outcome.next (take_item h)

theorem exec_overtureRetry_taken : exec (.overtureRetry i) s = .next (repeatOverture i (charge (owner i) 10 s)) :=
  congrArg Host.Outcome.next (take_item h)

theorem exec_holdExpiry_taken (id : Nat) :
    exec (.holdExpiry i id) s = .next (expireHold i id (charge (owner i) 10 s)) :=
  congrArg Host.Outcome.next (take_item h)

theorem exec_leaveHoldExpiry_taken : exec (.leaveHoldExpiry i) s = .next (expireLeave i (charge (owner i) 10 s)) :=
  congrArg Host.Outcome.next (take_item h)

end

theorem exec_lockExpiry (s : State) : exec .lockExpiry s = .next (if s.proc.hkDone then expireLocks s else s) := rfl

/-! ### Supervision and the join timeout (R236, R248) -/

section
variable {i : Nat} {s : State}

theorem superviseNode_of_due (h : supervisionDue s i = true) : superviseNode i s =
    withRec (owner i) 0x3002 i ((node s i).eui.toNat % 2 ^ 32) ((node s i).eui.toNat / 2 ^ 32)
      (node s i).lastCue.toNat (setSt i .dormant s) := by
  refine (if_pos h).trans ?_
  have he : (node (setSt i .dormant s) i).eui = (node s i).eui := by rw [setSt, node_modNode_same]
  rw [nodeEvent, he]
  rfl

theorem superviseNode_of_heard (h : supervisionDue s i = false) : superviseNode i s = s := if_neg (by simp [h])

theorem nodeOnly_setSt (st : NodeSt) :
    nodeOnly i { node s i with st := st, stCue := s.proc.procCue } s (setSt i st s) := nodeOnly_of rfl rfl

theorem timeOutJoin_of_admitted (h : joinTimeoutDue s i = true) (ha : (node s i).byAdmit = true) :
    timeOutJoin i s = setSt i .admitted s := (if_neg (by simp [h])).trans (if_pos ha)

/-! ### A context is freed (R248, R254, R264) -/

/-- The keys that a freed Grand context gives back, its index among them (R234, R278). -/
def grandFreed (i : Nat) (n : Node) (s : State) : State :=
  { s with mesh := { s.mesh with
    ops := s.mesh.ops ++ [.delKey i false n.eui, .delKey i true 0]
    freed := s.mesh.freed.filter (fun x => x.1 != i) ++ [(i, 2)] } }

theorem freeKeys_of_grand (hg : (node s i).grand = true) : freeKeys i s = grandFreed i (node s i) s := by
  simp only [freeKeys, hg, if_true, modMesh]
  rfl

section
variable (hd : (node s i).downs = []) (hu : (node s i).upd = none) (hm : (node s i).mapId = 0)
include hd hu hm

theorem clearContext_of_idle (ev : Nat) (hl : (node s i).leave = none) :
    clearContext ev i s = modNode i (fun _ => {}) s := by
  simp only [clearContext, hd, hu, hl, hm, List.foldl_nil, linkMap, if_true]

theorem clearContext_of_leaving (ev : Nat) {r : Nat} {c : Sub} {x : CueNo} (hl : (node s i).leave = some (r, some c, x)) :
    clearContext ev i s = modNode i (fun _ => {}) (done (owner i) 0x0031 ev c s) := by
  simp only [clearContext, hd, hu, hl, hm, List.foldl_nil, linkMap, if_true]

variable (hg : (node s i).grand = true)
include hg

theorem freeNode_of_idle (hl : (node s i).leave = none) :
    freeNode i s = grandFreed i (node s i) (modNode i (fun _ => {}) s) := by
  rw [freeNode, freeKeys_of_grand hg, clearContext_of_idle (s := grandFreed i (node s i) s) hd hu hm _ hl]
  rfl

theorem freeNode_of_leaving {r : Nat} {c : Sub} {x : CueNo} (hl : (node s i).leave = some (r, some c, x)) :
    freeNode i s = withOut (owner i) (.complete c 0x0031 stOk [] [])
      (grandFreed i (node s i) (modNode i (fun _ => {}) s)) := by
  rw [freeNode, freeKeys_of_grand hg, clearContext_of_leaving (s := grandFreed i (node s i) s) hd hu hm _ hl]
  rfl

end

theorem limitDormant_of_due (h : dormantDue s i = true) : limitDormant i s = freeNode i s := if_pos h

theorem expireLeave_of_over {r : Nat} {o : Option Sub} {x : CueNo} (hl : (node s i).leave = some (r, o, x))
    (hst : (node s i).st = .leaving) (hx : 0 < sdiff32 s.proc.procCue x) : expireLeave i s = freeNode i s := by
  simp [expireLeave, hl, hst, holdOver, hx]

/-! ### An Overture and a hold (R247, R262) -/

/-- The use under which a repeated Overture waits for its transmit end. -/
def overtureUse (s : State) (r : TxReq) : UseEnt :=
  { item := s.mesh.items, use := .other, timed := none
    fall := if isPolar r.pers.toNat then rampUs (bits r.ramps.toNat 7 4) * usTicks else 0 }

/-- The request of a repeated Overture to node `i` (R204, R247). -/
def overtureFor (i : Nat) (s : State) : TxReq :=
  overtureReq s (owner i) (wakeOf s (node s i)).2 (plus s.proc.procStart (cueTicks + 500 * usTicks))
    (node s i).rho (cfgU s recMesh 12 1) (cfgU s recMesh 13 1) (wakeOf s (node s i)).1 (i % 65534 + 1)

theorem repeatOverture_of_due (h : overtureDue s i = true) : repeatOverture i s =
    withOut (owner i) (.tx { overtureFor i s with item := s.mesh.items })
      { modNode i (fun n => { n with ovCue := s.proc.procCue }) s with mesh :=
        { (modNode i (fun n => { n with ovCue := s.proc.procCue }) s).mesh with
          items := s.mesh.items + 1, uses := s.mesh.uses ++ [overtureUse s (overtureFor i s)] } } := if_pos h

theorem closeDown_of_command {reason st : Nat} {d : Downlink} {c : Sub} (hc : d.cmd = some c) :
    closeDown i reason st d s = withOut (owner i) (.complete c 0x0020 st (sendResult reason d) [])
      (modNode i (fun n => { n with downs := n.downs.filter fun x => x.id != d.id }) s) := by
  simp only [closeDown, endDown, hc]
  rfl

section
variable {id : Nat} {d : Downlink} (hd : (node s i).downs.find? (fun d => d.id == id) = some d)
include hd

theorem expireHold_of_over (h : 0 < sdiff32 s.proc.procCue d.expiry) :
    expireHold i id s = closeDown i 2 stTimeout d s := by
  simp [expireHold, hd, holdOver, h]

theorem expireHold_of_running (h : sdiff32 s.proc.procCue d.expiry ≤ 0) : expireHold i id s = s := by
  have hn : ¬ 0 < sdiff32 s.proc.procCue d.expiry := by omega
  simp [expireHold, hd, holdOver, hn]

end

end

/-! ### The locks of the tables (R289) -/

theorem expireLocks_of_single {s : State} {l : Lock} (hl : s.mesh.locks = [l])
    (h : 3 ≤ sdiff32 s.proc.procCue l.cue) : expireLocks s =
    withRec (if l.table = 2 then 9 else 8) 0x4002 0 0 0 0 { s with mesh := { s.mesh with locks := [] } } := by
  have ho : lockOver s l = true := decide_eq_true h
  simp only [expireLocks, hl, modMesh, List.filter_cons, ho, List.filter_nil, if_true, Bool.not_true, Bool.false_eq_true,
    if_false, List.foldl_cons, List.foldl_nil]
  rfl

theorem expireLocks_of_held {s : State} (h : ∀ l ∈ s.mesh.locks, sdiff32 s.proc.procCue l.cue < 3) :
    expireLocks s = s := by
  have ho : ∀ l ∈ s.mesh.locks, lockOver s l = false := fun l hl => decide_eq_false (by have := h l hl; omega)
  have hgone : s.mesh.locks.filter (lockOver s) = [] := List.filter_eq_nil_iff.mpr fun l hl => by simp [ho l hl]
  have hkept : s.mesh.locks.filter (fun l => !lockOver s l) = s.mesh.locks :=
    List.filter_eq_self.mpr fun l hl => by simp [ho l hl]
  simp only [expireLocks, hgone, modMesh, hkept, List.foldl_nil]

/-! ### The statement -/

/-- Settles O50: each clause is the lemma on its case, on the state the Stagehand has been charged in. -/
theorem nodeTimers : Obligations.NodeTimers := by
  unfold Obligations.NodeTimers
  refine ⟨?_, ?_, ?_, ?_, ?_, ?_, ?_, ?_, ?_, ?_, ?_⟩
  · intro i s h hd
    exact ⟨setSt i .dormant s, _, (exec_supervisionTimeout_taken h).trans
      (congrArg _ (superviseNode_of_due (s := charge (owner i) 4 s) hd)), nodeOnly_setSt .dormant, paid_of (s := s) rfl rfl⟩
  · intro i s h hd
    exact ⟨_, (exec_supervisionTimeout_taken h).trans
      (congrArg _ (superviseNode_of_heard (s := charge (owner i) 4 s) hd)), paid_charge _ _ s⟩
  · intro i s h hd ha
    exact ⟨setSt i .admitted s, _, (exec_joinTimeout_taken h).trans
      (congrArg _ (timeOutJoin_of_admitted (s := charge (owner i) 10 s) hd ha)), nodeOnly_setSt .admitted,
      paid_of (s := s) rfl rfl⟩
  · intro i s h hdue hd hu hl hm hg
    exact ⟨modNode i (fun _ => {}) s, _, (exec_dormantLimit_taken h).trans
      (congrArg _ ((limitDormant_of_due (s := charge (owner i) 10 s) hdue).trans
        (freeNode_of_idle (s := charge (owner i) 10 s) hd hu hm hg hl))), nodeOnly_of rfl rfl, paid_of (s := s) rfl rfl⟩
  · intro i s h hdue
    exact ⟨modNode i (fun n => { n with ovCue := s.proc.procCue }) s, _, overtureFor i s, overtureUse s (overtureFor i s),
      (exec_overtureRetry_taken h).trans (congrArg _ (repeatOverture_of_due (s := charge (owner i) 10 s) hdue)),
      rfl, rfl, rfl, nodeOnly_of rfl rfl, rfl, paid_of (s := s) rfl rfl⟩
  · intro i id s d c h hd hx hc
    exact ⟨modNode i (fun n => { n with downs := n.downs.filter fun x => x.id != d.id }) s, _,
      (exec_holdExpiry_taken h id).trans (congrArg _ ((expireHold_of_over (s := charge (owner i) 10 s) hd hx).trans
        (closeDown_of_command hc))), nodeOnly_of rfl rfl, paid_of (s := s) rfl rfl⟩
  · intro i id s d h hd hx
    exact ⟨_, (exec_holdExpiry_taken h id).trans (congrArg _ (expireHold_of_running (s := charge (owner i) 10 s) hd hx)),
      paid_charge _ _ s⟩
  · intro i s r c x h hl hst hx hd hu hm hg
    exact ⟨modNode i (fun _ => {}) s, _, (exec_leaveHoldExpiry_taken h).trans
      (congrArg _ ((expireLeave_of_over (s := charge (owner i) 10 s) hl hst hx).trans
        (freeNode_of_leaving (s := charge (owner i) 10 s) hd hu hm hg hl))), nodeOnly_of rfl rfl, paid_of (s := s) rfl rfl⟩
  · intro s h
    rw [exec_lockExpiry, h]
    rfl
  · intro s l h hl hx
    rw [exec_lockExpiry, h, if_pos rfl, expireLocks_of_single hl hx]
  · intro s h
    rw [exec_lockExpiry, expireLocks_of_held h, ite_self]

end Sys2Proof.Machine
end

section
/-! SUPPORT. The frames of the pair link (R474 to R479), and the statement assembled from these. -/

namespace Sys2Proof.Machine

theorem exec_helloDue (s : State) : exec .helloDue s = .next (helloTick s) := rfl

theorem exec_hello (h : Hello) (s : State) : exec (.hello h) s = .next (hearHello h s) := rfl

theorem exec_record (h : PairHdr) (c : CueNo) (i n : Nat) (b : List Byte) (s : State) :
    exec (.record h c i n b) s = .next (pairTake h (.record c i n b) (takeSegment c i n b) s) := rfl

theorem exec_ack (h : PairHdr) (c : CueNo) (s : State) :
    exec (.ack h c) s = .next (pairTake h (.ack c) (takeAck c) s) := rfl

theorem exec_nak (h : PairHdr) (c : CueNo) (i : Nat) (s : State) :
    exec (.nak h c i) s = .next (pairTake h (.nak c i) (takeNak c i) s) := rfl

/-! ### The checks of a pair frame (R475) -/

section
variable {h : PairHdr} {m : PairMsg} {s : State}

theorem pairTaken_iff : pairTaken h m s = true ↔ pairOpen s = true ∧
    h.mic = pairMic ⟨h.session, h.counter, m⟩ s ∧ s.pair.rxSess = some h.session ∧
    s.pair.rxCtr.toNat < h.counter.toNat := by
  simp [pairTaken, and_assoc]

/-- The state once a frame of header `h` has been counted in (R475). -/
def countedIn (h : PairHdr) (s : State) : State := withPair { s.pair with rxCtr := h.counter } s

theorem pairTake_of_taken (ht : pairTaken h m s = true) (f : State → State) :
    pairTake h m f s = f (countedIn h s) := by
  obtain ⟨ho, hm, hs, hc⟩ := pairTaken_iff.1 ht
  simp [pairTake, ho, hs, hc, ← hm, countedIn, withPair, modPair]

theorem pairTake_of_refused (ho : pairOpen s = true) (ht : pairTaken h m s = false) (f : State → State) :
    pairTake h m f s = pairDrop s := by
  rw [pairTaken, ho, Bool.true_and] at ht
  simp only [pairTake, ho, Bool.not_true, Bool.false_eq_true, if_false, ht]

end

theorem regOnly_pairDrop (s : State) :
    regOnly rUndLinkErrors (w32 (min 0xFFFFFFFF ((reg s rUndLinkErrors).toNat + 1))) s (pairDrop s) :=
  regOnly_countReg rUndLinkErrors 1 s

/-! ### Handing a frame to ETH1 (R475, R476) -/

theorem putPair_of_up {s : State} (hu : s.pwr.eth1Up = true) (m : PairMsg) : putPair m s =
    { s with
      wire1 := s.wire1 ++ [⟨s.pair.session, s.pair.txCtr, m⟩]
      pair := { s.pair with txCtr := s.pair.txCtr + 1 } } := by
  simp only [putPair, hu, if_true]
  rfl

theorem sendPair_of_counting {s : State} (hc : s.pair.txCtr ≠ 0xFFFFFFFF) (m : PairMsg) :
    sendPair m s = putPair m s := by
  exact if_neg hc

theorem sendPair_of_last {s : State} (hc : s.pair.txCtr = 0xFFFFFFFF) (m : PairMsg) :
    sendPair m s = newSession (Config.openWord 63 (fresh (putPair m s)).1) (fresh (putPair m s)).2 := by
  exact if_pos hc

theorem newSession_of_up {s : State} (hu : s.pwr.eth1Up = true) (v : BitVec 64) : newSession v s =
    { s with
      wire1 := s.wire1 ++ [⟨v, 0, .hello (helloOf (withPair { s.pair with
        session := v, txCtr := 0, lastHello := s.proc.cueNow } s))⟩]
      pair := { s.pair with session := v, txCtr := 1, lastHello := s.proc.cueNow } } := by
  rw [newSession, sendHello, putPair_of_up (by exact hu)]
  rfl

/-- The frame with the last counter goes out in the old session; a HELLO with counter 0 opens the new one. -/
theorem sendPair_opens_session {s : State} (hu : s.pwr.eth1Up = true) (hc : s.pair.txCtr = 0xFFFFFFFF) (m : PairMsg) :
    ∃ v h, (sendPair m s).pair.session = v ∧ (sendPair m s).pair.txCtr = 1 ∧ h.session = v ∧ h.counter = 0 ∧
      (sendPair m s).wire1 = s.wire1 ++ [⟨s.pair.session, s.pair.txCtr, m⟩, ⟨v, 0, .hello h⟩] := by
  rw [sendPair_of_last hc, putPair_of_up hu]
  generalize Config.openWord 63 _ = v
  rw [newSession_of_up (by exact hu)]
  refine ⟨v, helloOf (withPair { s.pair with session := v, txCtr := 0, lastHello := s.proc.cueNow } s), rfl, rfl, rfl, rfl, ?_⟩
  exact List.append_assoc _ _ _

theorem helloTick_of_due {s : State} (hp : isPaired s = true) (hd : 64 ≤ sdiff32 s.proc.cueNow s.pair.lastHello) :
    helloTick s = sendPair (.hello (helloOf s)) (withPair { s.pair with lastHello := s.proc.cueNow } s) := by
  simp only [helloTick, hp, hd, decide_true, Bool.and_self, if_true]
  rfl

theorem helloTick_of_idle {s : State} (h : isPaired s = false ∨ sdiff32 s.proc.cueNow s.pair.lastHello < 64) :
    helloTick s = s := by
  rw [helloTick]
  rcases h with h | h
  · simp [h]
  · have hn : ¬ 64 ≤ sdiff32 s.proc.cueNow s.pair.lastHello := by omega
    simp [hn]

/-! ### A HELLO received (R475, R477) -/

section
variable {h : Hello} {s : State}

/-- The pair state once a HELLO has been taken. -/
def helloHeard (h : Hello) (s : State) : State := withPair { s.pair with
  rxSess := some h.session, rxCtr := h.counter, agree := agrees h s, partner := h.role
  heardLead := s.pair.heardLead || h.role == 1 } s

theorem hearHello_of_closed (ho : pairOpen s = false) : hearHello h s = s := by simp [hearHello, ho]

theorem hearHello_of_taken (ho : pairOpen s = true) (hm : h.mic = pairMic ⟨h.session, h.counter, .hello h⟩ s)
    (hn : s.pair.rxSess ≠ some h.session ∨ s.pair.rxCtr.toNat < h.counter.toNat) :
    hearHello h s = takeHello h s := by
  have hk : (s.pair.rxSess != some h.session || decide (s.pair.rxCtr.toNat < h.counter.toNat)) = true := by
    simpa using hn
  simp [hearHello, ho, hk, ← hm]

theorem hearHello_of_refused (ho : pairOpen s = true) (hb : h.mic ≠ pairMic ⟨h.session, h.counter, .hello h⟩ s ∨
    (s.pair.rxSess = some h.session ∧ h.counter.toNat ≤ s.pair.rxCtr.toNat)) : hearHello h s = pairDrop s := by
  rcases hb with hb | ⟨hs, hc⟩
  · simp [hearHello, ho, hb]
  · have hn : ¬ s.pair.rxCtr.toNat < h.counter.toNat := by omega
    simp [hearHello, ho, hs, hn]

theorem takeHello_eq (h : Hello) (s : State) : takeHello h s =
    if !agrees h s then
      if isUnderstudy (emitLocal 0x9004 208 0 0 0 0 (helloHeard h s)) then
        goStale (emitLocal 0x9004 208 0 0 0 0 (helloHeard h s))
      else if (emitLocal 0x9004 208 0 0 0 0 (helloHeard h s)).pair.covered then
        uncover (emitLocal 0x9004 208 0 0 0 0 (helloHeard h s))
      else emitLocal 0x9004 208 0 0 0 0 (helloHeard h s)
    else if isUnderstudy (helloHeard h s) then
      if h.role == 1 && ((helloHeard h s).pair.role == 4 || (helloHeard h s).pair.role == 5) then
        startResync (goStale (helloHeard h s))
      else helloHeard h s
    else if (helloHeard h s).pair.covered && h.role != 2 && h.role != 3 then uncover (helloHeard h s)
    else helloHeard h s := rfl

variable (hu : isUnderstudy s = false) (hc : s.pair.covered = false)
include hu hc

theorem takeHello_of_agreed (ha : agrees h s = true) : takeHello h s = helloHeard h s := by
  have h1 : isUnderstudy (helloHeard h s) = false := hu
  have h2 : (helloHeard h s).pair.covered = false := hc
  simp only [takeHello_eq, ha, h1, h2, Bool.not_true, Bool.false_and, Bool.false_eq_true, if_false]

theorem takeHello_of_disagreed (ha : agrees h s = false) :
    takeHello h s = emitLocal 0x9004 208 0 0 0 0 (helloHeard h s) := by
  have hp : (emitLocal 0x9004 208 0 0 0 0 (helloHeard h s)).pair = (helloHeard h s).pair := emitLocal_pair ..
  have h1 : isUnderstudy (emitLocal 0x9004 208 0 0 0 0 (helloHeard h s)) = false := by
    rw [isUnderstudy, hp]
    exact hu
  have h2 : (emitLocal 0x9004 208 0 0 0 0 (helloHeard h s)).pair.covered = false := by
    rw [hp]
    exact hc
  simp only [takeHello_eq, ha, h1, h2, Bool.not_false, Bool.false_eq_true, if_false, if_true]

end

/-! ### A record segment (R478) -/

section
variable {c : CueNo} {b : List Byte} {s : State}

/-- The pair state once a segment has arrived. -/
def segmentHeard (s : State) : State := withPair { s.pair with lastRec := s.proc.cueNow } s

theorem takeSegment_of_other (h2 : s.pair.role ≠ 2) (h3 : s.pair.role ≠ 3) (h6 : s.pair.role ≠ 6) (i n : Nat) :
    takeSegment c i n b s = segmentHeard s := by
  simp [takeSegment, h2, h3, h6, segmentHeard, withPair, modPair]

theorem length_insertBy {α : Type} (lt : α → α → Bool) (a : α) (l : List α) :
    (insertBy lt a l).length = l.length + 1 := by
  induction l with
  | nil => rfl
  | cons x xs ih =>
    rw [insertBy]
    split
    · rfl
    · simp [ih]

theorem askMissing_of_first (hs : s.pair.segs = [(c, 0, 1, b)]) : askMissing c 0 s = s := by
  have hm : missingSegs s c 0 = [] := rfl
  have ho : ((s.pair.segs.filter fun x => decide (sdiff32 x.1 c < 0)).map fun x => (x.1, x.2.2.1)) = [] := by
    simp [hs, sdiff32]
  simp only [askMissing, hm, ho, List.dedup_nil, List.flatMap_nil, List.append_nil, List.filter_nil, List.map_nil]
  rfl

/-- The state once a record of one segment has arrived whole and `l` is what is then held. -/
def recordHeld (l : List (CueNo × List Byte)) (s : State) : State := withPair { s.pair with
  lastRec := s.proc.cueNow, held := l, role := if l.length ≤ 2 then 2 else 3 } s

theorem holdRecord_of_room {l : List (CueNo × List Byte)}
    (hl : l = insertBy (fun x y => decide (sdiff32 x.1 y.1 < 0)) (c, b) s.pair.held) (h6 : s.pair.role ≠ 6)
    (hh : s.pair.held.length < 8) :
    holdRecord c b s = sendPair (.ack c) (withPair { s.pair with held := l, role := replayRole l.length } s) := by
  have h8 : ¬ 8 < l.length := by
    rw [hl, length_insertBy]
    omega
  subst hl
  simp only [holdRecord, h6, h8, if_false]
  rfl

/-- The pair state while a record of one segment waits to be put together. -/
def segmentPut (c : CueNo) (b : List Byte) (s : State) : State := withPair { s.pair with
  lastRec := s.proc.cueNow, segs := [(c, 0, 1, b)] } s

theorem takeSegment_of_single (h2 : s.pair.role = 2) (hp : s.pair.promo = none) (hs : s.pair.segs = [])
    (hn : s.pair.naks = []) (hh : ∀ x ∈ s.pair.held, x.1 ≠ c) (h8 : s.pair.held.length < 8)
    (hw : recordWhole b = true) (hb : uAt b 8 4 = b.length) :
    takeSegment c 0 1 b s = sendPair (.ack c)
      (recordHeld (insertBy (fun x y => decide (sdiff32 x.1 y.1 < 0)) (c, b) s.pair.held) s) := by
  have ha : askMissing c 0 (segmentPut c b s) = segmentPut c b s := askMissing_of_first rfl
  have hm : missingSegs (segmentPut c b s) c 1 = [] := by simp [missingSegs, segmentPut, withPair]
  have hany : s.pair.held.any (fun x => x.1 == c) = false := by simpa using hh
  have e : takeSegment c 0 1 b s = holdRecord c b (segmentHeard s) := by
    have hput : modPair (fun p => { p with segs := p.segs ++ [(c, 0, 1, b)] }) (segmentHeard s) = segmentPut c b s := by
      simp [modPair, segmentHeard, segmentPut, withPair, hs]
    have hgone : modPair (fun p => { p with
        segs := p.segs.filter (fun x => x.1 != c), naks := p.naks.filter fun x => x.1 != c }) (segmentPut c b s) =
        segmentHeard s := by
      simp [modPair, segmentHeard, segmentPut, withPair, hs, hn]
    have hmine : (segmentPut c b s).pair.segs = [(c, 0, 1, b)] := rfl
    have hheard : modPair (fun p => { p with lastRec := s.proc.cueNow }) s = segmentHeard s := rfl
    have hseg : s.pair.segs.any (fun x => x.1 == c && x.2.1 == 0) = false := by simp [hs]
    simp only [takeSegment, h2, hp, hany, hheard, hseg, hput, ha, hm, hmine, hgone, Bool.false_eq_true, if_false]
    simp [sortBy, insertBy, hw, hb]
  rw [e, holdRecord_of_room (s := segmentHeard s) rfl (by rw [segmentHeard, withPair, h2]; decide) h8]
  rfl

variable {h : PairHdr}

theorem exec_record_single (ht : pairTaken h (.record c 0 1 b) s = true) (h2 : s.pair.role = 2)
    (hp : s.pair.promo = none) (hs : s.pair.segs = []) (hn : s.pair.naks = []) (hh : ∀ x ∈ s.pair.held, x.1 ≠ c)
    (h8 : s.pair.held.length < 8) (hw : recordWhole b = true) (hb : uAt b 8 4 = b.length) :
    exec (.record h c 0 1 b) s = .next (sendPair (.ack c)
      (recordHeld (insertBy (fun x y => decide (sdiff32 x.1 y.1 < 0)) (c, b) s.pair.held)
        (countedIn h s))) := by
  rw [exec_record, pairTake_of_taken ht, takeSegment_of_single (s := countedIn h s) h2 hp hs hn hh h8 hw hb]
  rfl

theorem exec_record_other {i n : Nat} (ht : pairTaken h (.record c i n b) s = true) (h2 : s.pair.role ≠ 2)
    (h3 : s.pair.role ≠ 3) (h6 : s.pair.role ≠ 6) : exec (.record h c i n b) s =
      .next (withPair { s.pair with rxCtr := h.counter, lastRec := s.proc.cueNow } s) := by
  rw [exec_record, pairTake_of_taken ht, takeSegment_of_other (s := countedIn h s) h2 h3 h6]
  rfl

end

/-! ### An acknowledgement and a NAK at the Lead (R478, R479, R501) -/

/-- What a covered Lead releases when cue `c` is acknowledged (R479). -/
def releaseAcked (c : CueNo) (s : State) : State :=
  if s.pair.covered then
    let new := match s.pair.acked with
      | some x => if sdiff32 c x < 0 then x else c
      | none => c
    releaseUpTo new (modPair (fun p => { p with acked := some new }) s)
  else s

section
variable {c : CueNo} {s : State}

theorem releaseAcked_of_first (hc : s.pair.covered = true) (ha : s.pair.acked = none) :
    releaseAcked c s = releaseUpTo c (withPair { s.pair with acked := some c } s) := by
  refine (if_pos hc).trans ?_
  simp only [ha]
  rfl

variable (h1 : s.pair.role = 1)
include h1

theorem takeAck_of_unswept (hs : s.pair.sweeping = false) : takeAck c s = releaseAcked c s := by
  refine (if_neg (not_not.2 h1)).trans ?_
  simp only [hs, Bool.false_eq_true, if_false]
  rfl

theorem takeAck_of_sweeping (hs : s.pair.sweeping = true) : takeAck c s =
    releaseAcked c (withPair { s.pair with sweeping := false, covered := true, partner := 2 } s) := by
  refine (if_neg (not_not.2 h1)).trans ?_
  simp only [hs, if_true]
  rfl

theorem takeNak_of_buffered {b : List Byte} {i : Nat} {m : PairMsg}
    (hf : s.pair.sentRecs.find? (fun x => x.1 == c) = some (c, b)) (hm : (recordFrames c b)[i]? = some m) :
    takeNak c i s = sendPair m s := by
  simp [takeNak, h1, hf, hm]

end

/-- Settles O51: each frame taken or refused by the checks of R475, and what it then does. -/
theorem pairFrames : Obligations.PairFrames := by
  unfold Obligations.PairFrames
  refine ⟨?_, ?_, ?_, ?_, ?_, ?_, ?_, ?_, ?_, ?_, ?_, ?_, ?_, ?_⟩
  · intro s hp hu hd hc
    rw [exec_helloDue, helloTick_of_due hp hd, sendPair_of_counting (by exact hc), putPair_of_up (by exact hu)]
    rfl
  · intro s hp hu hd hc
    obtain ⟨v, h, hopen⟩ := sendPair_opens_session
      (s := withPair { s.pair with lastHello := s.proc.cueNow } s) hu hc (.hello (helloOf s))
    refine ⟨_, v, h, (exec_helloDue s).trans (congrArg _ (helloTick_of_due hp hd)), ?_⟩
    rw [← hc]
    exact hopen
  · exact fun s h => congrArg _ (helloTick_of_idle h)
  · intro h s ho hm hn ha hu hc
    rw [exec_hello, hearHello_of_taken ho hm hn, takeHello_of_agreed hu hc ha, helloHeard, ha]
  · intro h s ho hm hn ha hu hc
    rw [exec_hello, hearHello_of_taken ho hm hn, takeHello_of_disagreed hu hc ha, helloHeard, ha]
  · exact fun h s ho hb => ⟨_, (exec_hello h s).trans (congrArg _ (hearHello_of_refused ho hb)), regOnly_pairDrop s⟩
  · exact fun h s ho => congrArg _ (hearHello_of_closed ho)
  · exact fun h c s ho ht => ⟨_, (exec_ack h c s).trans (congrArg _ (pairTake_of_refused ho ht _)), regOnly_pairDrop s⟩
  · exact fun h m s => pairTaken_iff
  · intro h c b s ht h2 hp hs hn hh h8 hw hb
    exact ⟨_, _, exec_record_single ht h2 hp hs hn hh h8 hw hb, rfl, rfl⟩
  · exact fun h c i n b s ht h2 h3 h6 => exec_record_other ht h2 h3 h6
  · intro h c s ht h1 hs hc ha
    rw [exec_ack, pairTake_of_taken ht, takeAck_of_unswept (s := countedIn h s) h1 hs,
      releaseAcked_of_first (by exact hc) (by exact ha)]
    rfl
  · intro h c s ht h1 hs ha
    rw [exec_ack, pairTake_of_taken ht, takeAck_of_sweeping (s := countedIn h s) h1 hs,
      releaseAcked_of_first rfl (by exact ha)]
    rfl
  · intro h c i s b m ht h1 hf hm
    rw [exec_nak, pairTake_of_taken ht, takeNak_of_buffered (s := countedIn h s) h1 hf hm]
    rfl

end Sys2Proof.Machine
end

section
/-! SUPPORT. Digests and audits, TIME frames, resynchronisation and release (R479, R483, R484, R499 to R501), and the
statement assembled from these. -/

namespace Sys2Proof.Machine

theorem exec_digest (h : PairHdr) (d : Digest) (s : State) :
    exec (.digest h d) s = .next (pairTake h (.digest d) (takeDigest d) s) := rfl

theorem exec_stateAuditEnd (pass : Bool) (s : State) : exec (.stateAuditEnd pass) s = .next (endAudit pass s) := rfl

theorem exec_pairTime (h : PairHdr) (a b c d : Stamp) (s : State) :
    exec (.time h a b c d) s = .next (pairTake h (timeSent a b c s) (takeTimeFrame a b c d) s) := rfl

theorem exec_resync (h : PairHdr) (s : State) :
    exec (.resync h) s = .next (pairTake h .resync takeResync s) := rfl

theorem exec_sweep (h : PairHdr) (r o : Nat) (l : List Word64) (p : Option PairState) (c : CueNo) (s : State) :
    exec (.sweep h r o l p c) s = .next (pairTake h (.sweep r o l p.isSome) (takeSweep r o l p c) s) := rfl

theorem exec_forward (h : PairHdr) (l : List PairWord) (s : State) :
    exec (.forward h l) s = .next (pairTake h (.forward l) (takeForward l) s) := rfl

theorem exec_releaseDeadline (s : State) : exec .releaseDeadline s = .next (releaseDue s) := rfl

theorem exec_pairLinkLost (s : State) : exec .pairLinkLost s = .next (loseLink s) := rfl

/-! ### Digests and the audit (R483) -/

section
variable {s : State} {d m : Digest}

/-- The state once the one digest kept and the one received of its cue have been taken off both lists. -/
def digestsPaired (s : State) : State := withPair { s.pair with mine := [], theirs := [] } s

theorem takeDigest_of_single (hr : s.pair.role = 1 ∨ s.pair.role = 2 ∨ s.pair.role = 3) (hm : s.pair.mine = [m])
    (ht : s.pair.theirs = []) (hc : m.cue = d.cue) : takeDigest d s = compareOne (digestsPaired s) m d := by
  have hrole : (s.pair.role == 1 || s.pair.role == 2 || s.pair.role == 3) = true := by
    rcases hr with h | h | h <;> simp [h]
  simp [takeDigest, hrole, compareDigests, modPair, hm, ht, hc, digestsPaired, withPair]

theorem compareOne_of_equal : compareOne s d d = s := if_pos rfl

theorem compareOne_of_lead (h : m ≠ d) (hu : isUnderstudy s = false) :
    compareOne s m d = withPair { s.pair with audit := true } s := by
  simp [compareOne, h, hu, withPair, modPair]

theorem compareOne_of_understudy (h : m ≠ d) (hu : isUnderstudy s = true) :
    compareOne s m d = modPair (fun p => { p with audit := true }) (sendPair (.digest m) (goStale
      (emitLocal 0x9002 208 (m.state.toNat % 2 ^ 32) (m.state.toNat / 2 ^ 32) (d.state.toNat % 2 ^ 32)
        (d.state.toNat / 2 ^ 32) (countReg rUndMismatch 1 s)))) := by
  simp only [compareOne, h, hu, if_true, if_false]

theorem endAudit_of_none (h : s.pair.audit = false) (pass : Bool) : endAudit pass s = s := by simp [endAudit, h]

theorem endAudit_of_pass (h : s.pair.audit = true) : endAudit true s =
    emitLocal 0x7004 208 6 0 0 0 (countFault true (withPair { s.pair with audit := false } s)) := by
  simp [endAudit, h, withPair, modPair]

theorem endAudit_of_fail (h : s.pair.audit = true) : endAudit false s =
    forceSwap (emitLocal 0x7004 208 6 0 1 0
      (countFault false (withPair { s.pair with audit := false, auditBad := true } s))) := by
  simp [endAudit, h, withPair, modPair]

/-! ### TIME frames (R484) -/

theorem takeTimeFrame_of_lead (h1 : s.pair.role = 1) (a b c e : Stamp) :
    takeTimeFrame a b c e s = sendPair (.time a b (plus s.proc.cueStart (cueTicks + 500 * usTicks))) s := if_pos h1

theorem takeTimeFrame_of_replaying (h2 : s.pair.role = 2) (hl : s.pair.samples.length < 64) (a b c e : Stamp)
    {l : List (CueNo × Int)} (hs : l = s.pair.samples ++ [(s.proc.cueNow, (sdiff64 b a + sdiff64 c e) / 2)]) :
    takeTimeFrame a b c e s = withPair { s.pair with samples := l, delta := fitAt l s.proc.cueNow } s := by
  have h1 : ¬ s.pair.role = 1 := by omega
  have hu : isUnderstudy s = true := by simp [isUnderstudy, h2]
  have hd : s.pair.samples.length + 1 - 64 = 0 := by omega
  subst hs
  simp only [takeTimeFrame, h1, hu, if_true, if_false, modPair, List.length_append, List.length_singleton, hd,
    List.drop_zero, withPair]

/-! ### The sweep (R500, R501) -/

theorem takeResync_of_lead (h1 : s.pair.role = 1) : takeResync s = countReg rUndResyncs 1 (withPair { s.pair with
    sweeping := true, swept := 0, partner := 6, sweepPos := some (0, 0), sweepAgain := false, fwdOut := [] } s) :=
  if_pos h1

theorem takeSweep_of_words (h6 : s.pair.role = 6) (r o : Nat) (l : List Word64) (c : CueNo) :
    takeSweep r o l none c s = withPair { s.pair with
      swept := sweptAt r o, fwd := s.pair.fwd ++ l.mapIdx fun i w => ⟨r, o + 8 * i, w⟩ } s :=
  if_neg (not_not.2 h6)

theorem takeSweep_of_last (h6 : s.pair.role = 6) (r o : Nat) (l : List Word64) (p : PairState) (c : CueNo) :
    takeSweep r o l (some p) c s = endResync p c s := if_neg (not_not.2 h6)

theorem takeForward_of_resyncing (h6 : s.pair.role = 6) (l : List PairWord) :
    takeForward l s = withPair { s.pair with fwd := (s.pair.fwd.filter fun x =>
      !l.any fun w => w.region == x.region && w.offset == x.offset) ++ l } s := if_pos h6

/-! ### Release deadlines and the loss of the link (R479, R499) -/

theorem releaseStamp_of_none (h : s.pair.holdOuts = []) : releaseStamp s = none := by simp [releaseStamp, h]

theorem releaseStamp_of_head {x : CueNo × List Out} {l : List (CueNo × List Out)} (h : s.pair.holdOuts = x :: l)
    (hf : s.pair.fixedD = false) : releaseStamp s =
      some (plus (s.proc.cueStart + BitVec.ofInt 64 (sdiff32 x.1 s.proc.cueNow * cueTicks)) (1400 * usTicks)) := by
  simp [releaseStamp, h, hf]

theorem releaseDue_of_none (h : releaseStamp s = none) : releaseDue s = s := by simp [releaseDue, h]

theorem releaseDue_of_not {t : Stamp} (h : releaseStamp s = some t)
    (hn : ¬ (s.pair.role = 1 ∧ s.pair.covered = true ∧ sdiff64 t (plus s.proc.cueStart cueTicks) < 0)) :
    releaseDue s = s := by
  simp only [releaseDue, h, hn, if_false]

theorem releaseDue_of_idle (h : s.pair.role ≠ 1 ∨ s.pair.covered = false) : releaseDue s = s := by
  cases hr : releaseStamp s with
  | none => exact releaseDue_of_none hr
  | some t =>
    refine releaseDue_of_not hr ?_
    rintro ⟨h1, hc, -⟩
    rcases h with h | h
    · exact h h1
    · simp [h] at hc

theorem releaseDue_of_due {t : Stamp} (h : releaseStamp s = some t) (h1 : s.pair.role = 1) (hc : s.pair.covered = true)
    (hd : sdiff64 t (plus s.proc.cueStart cueTicks) < 0) :
    releaseDue s = emitLocal 0x9003 208 0 0 0 0 (uncover (atTime t s)) := by
  have hall : s.pair.role = 1 ∧ s.pair.covered = true ∧ sdiff64 t (plus s.proc.cueStart cueTicks) < 0 := ⟨h1, hc, hd⟩
  simp only [releaseDue, h, hall, and_self, if_true]

theorem loseLink_of_silent (hp : isPaired s = true) (hr : s.pair.role = 2 ∨ s.pair.role = 3 ∨ s.pair.role = 6)
    (h8 : 8 ≤ sdiff32 s.proc.cueNow s.pair.lastRec) :
    loseLink s = emitLocal 0x9005 208 0 0 0 0 (goStale s) := by
  have hrole : (s.pair.role == 2 || s.pair.role == 3 || s.pair.role == 6) = true := by
    rcases hr with h | h | h <;> simp [h]
  simp [loseLink, hp, hrole, h8]

theorem loseLink_of_heard (h8 : sdiff32 s.proc.cueNow s.pair.lastRec < 8) : loseLink s = s := by
  have hn : ¬ 8 ≤ sdiff32 s.proc.cueNow s.pair.lastRec := by omega
  simp [loseLink, hn]

end

theorem isUnderstudy_of_replaying {s : State} (h : s.pair.role = 2 ∨ s.pair.role = 3) : isUnderstudy s = true := by
  rcases h with h | h <;> simp [isUnderstudy, h]

theorem timeSent_of_lead {s : State} (h : s.pair.role = 1) (a b c : Stamp) : timeSent a b c s = .time a 0 0 := if_pos h

theorem timeSent_of_other {s : State} (h : s.pair.role ≠ 1) (a b c : Stamp) : timeSent a b c s = .time a b c := if_neg h

/-- Settles O52: each frame is taken as its header allows, and each deadline does what its lemma says. -/
theorem pairState : Obligations.PairState := by
  unfold Obligations.PairState
  refine ⟨?_, ?_, ?_, ?_, ?_, ?_, ?_, ?_, ?_, ?_, ?_, ?_, ?_, ?_, ?_, ?_, ?_⟩
  · intro h d s ht hr hm hth
    rw [exec_digest, pairTake_of_taken ht, takeDigest_of_single (s := countedIn h s) hr hm hth rfl, compareOne_of_equal]
    rfl
  · intro h d m s ht hr hm hth hc hd
    rw [exec_digest, pairTake_of_taken ht, takeDigest_of_single (s := countedIn h s) (.inl hr) hm hth hc,
      compareOne_of_lead hd (by simp [isUnderstudy, digestsPaired, countedIn, withPair, hr])]
    rfl
  · intro h d m s ht hr hm hth hc hd
    have hu : isUnderstudy (digestsPaired (countedIn h s)) = true := isUnderstudy_of_replaying hr
    refine ⟨_, _, _, ?_, regOnly_countReg rUndMismatch 1 (digestsPaired (countedIn h s)), rfl, rfl⟩
    rw [exec_digest, pairTake_of_taken ht, takeDigest_of_single (s := countedIn h s) (.inr hr) hm hth hc,
      compareOne_of_understudy hd hu]
    rfl
  · exact fun s h => ⟨congrArg _ (endAudit_of_none h true), congrArg _ (endAudit_of_none h false)⟩
  · exact fun s h => ⟨_, (exec_stateAuditEnd true s).trans (congrArg _ (endAudit_of_pass h)),
      regOnly_setRBits rWngFaults 15 0 _ (withPair { s.pair with audit := false } s)⟩
  · exact fun s h => ⟨_, (exec_stateAuditEnd false s).trans (congrArg _ (endAudit_of_fail h)),
      regOnly_setRBits rWngFaults 31 16 _ (withPair { s.pair with audit := false, auditBad := true } s)⟩
  · intro h a b c d s ht h1
    rw [exec_pairTime, timeSent_of_lead h1, pairTake_of_taken ht, takeTimeFrame_of_lead (s := countedIn h s) h1]
    rfl
  · intro h a b c d s ht h2 hl
    refine ⟨_, ?_, rfl⟩
    rw [exec_pairTime, timeSent_of_other (by omega), pairTake_of_taken ht,
      takeTimeFrame_of_replaying (s := countedIn h s) h2 hl a b c d rfl]
    rfl
  · exact fun h s ht h1 => ⟨_, (exec_resync h s).trans (congrArg _ ((pairTake_of_taken ht _).trans
      (takeResync_of_lead (s := countedIn h s) h1))), regOnly_countReg rUndResyncs 1 _⟩
  · intro h r o l c s ht h6
    rw [exec_sweep, Option.isSome_none, pairTake_of_taken ht, takeSweep_of_words (s := countedIn h s) h6]
    rfl
  · intro h r o l p c s ht h6
    rw [exec_sweep, Option.isSome_some, pairTake_of_taken ht, takeSweep_of_last (s := countedIn h s) h6]
    rfl
  · intro h l s ht h6
    rw [exec_forward, pairTake_of_taken ht, takeForward_of_resyncing (s := countedIn h s) h6]
    rfl
  · intro s h
    rw [exec_releaseDeadline]
    rcases h with h | h | h
    · rw [releaseDue_of_idle (.inl h)]
    · rw [releaseDue_of_idle (.inr h)]
    · rw [releaseDue_of_none (releaseStamp_of_none h)]
  · rintro s x l t - - hl hf rfl hd
    exact congrArg _ (releaseDue_of_not (releaseStamp_of_head hl hf) fun ⟨_, _, hn⟩ => absurd hn (by omega))
  · rintro s x l t h1 hc hl hf rfl hd
    exact ⟨_, (exec_releaseDeadline s).trans (congrArg _ (releaseDue_of_due (releaseStamp_of_head hl hf) h1 hc hd)), rfl⟩
  · exact fun s hp hr h8 => congrArg _ (loseLink_of_silent hp hr h8)
  · exact fun s h8 => congrArg _ (loseLink_of_heard h8)

end Sys2Proof.Machine
end

section
/-! SUPPORT. Votes, promotion, demotion, relief and rehearsal (R489, R492, R493, R503, R504), what a cut of both chains
leaves alone, and the statement assembled from these. -/

namespace Sys2Proof.Machine

theorem exec_promote (r k : Stamp) (s : State) : exec (.promote r k) s = .next (senseRise r k s) := rfl

theorem exec_demote (t : Stamp) (s : State) : exec (.demote t) s = .next (senseFall (atTime t s)) := rfl

theorem exec_leadInTick (w : Nat) (s : State) : exec (.leadInTick w) s = .next (senseTick w s) := rfl

theorem exec_directorLost (s : State) : exec .directorLost s = .next (loseDirector s) := rfl

theorem exec_reliefLapse (s : State) : exec .reliefLapse s = .next (lapseRelief s) := rfl

theorem exec_rehearsal (s : State) : exec .rehearsal s = .next (rehearse s) := rfl

theorem exec_firstLiveCue (i : CueIn) (s : State) :
    exec (.firstLiveCue i) s = .next (if s.proc.processing && liveNext s then cue i s else s) := rfl

/-! ### What dropping requests and cutting chains leaves alone (R177, R208) -/

/-- From `s` to `t` only the chains, registers and the inputs of the next record differ. -/
def chainsOnly (s t : State) : Prop :=
  t = { s with txa := t.txa, txb := t.txb, regs := t.regs, proc := { s.proc with inputs := t.proc.inputs } }

theorem chainsOnly_refl (s : State) : chainsOnly s s := rfl

theorem chainsOnly.trans {s t u : State} (h : chainsOnly s t) (h' : chainsOnly t u) : chainsOnly s u := by
  rw [chainsOnly, h', h]

theorem chainsOnly.pwr {s t : State} (h : chainsOnly s t) : t.pwr = s.pwr := by rw [h]

theorem chainsOnly.pair {s t : State} (h : chainsOnly s t) : t.pair = s.pair := by rw [h]

theorem chainsOnly.processing {s t : State} (h : chainsOnly s t) : t.proc.processing = s.proc.processing := by rw [h]

theorem chainsOnly_modTx (c : Chain) (f : Tx → Tx) (s : State) : chainsOnly s (modTx c f s) := by cases c <;> rfl

theorem chainsOnly_setRBit (o n : Nat) (s : State) : chainsOnly s (setRBit o n s) := rfl

theorem chainsOnly_txEndInput (x : TxEnd) (s : State) : chainsOnly s (txEndInput x s) := by
  unfold txEndInput
  split <;> rfl

theorem chainsOnly_resultEvent (c : Chain) (n : Nat) (s : State) : chainsOnly s (resultEvent c n s) := by
  unfold resultEvent
  split
  · exact chainsOnly_setRBit _ _ s
  · split
    · exact chainsOnly_setRBit _ _ s
    · exact chainsOnly_refl s

theorem chainsOnly_decideNot (r : TxReq) (n : Nat) (f : BitVec 8) (t : Stamp) (s : State) :
    chainsOnly s (decideNot r n f t s) :=
  ((chainsOnly_modTx _ _ s).trans (chainsOnly_txEndInput _ _)).trans (chainsOnly_resultEvent _ _ _)

theorem chainsOnly_foldl {α : Type} {f : State → α → State} (h : ∀ u x, chainsOnly u (f u x)) (l : List α) (s : State) :
    chainsOnly s (l.foldl f s) := by
  induction l generalizing s with
  | nil => exact chainsOnly_refl s
  | cons x xs ih => exact (h s x).trans (ih (f s x))

theorem chainsOnly_decideNots (l : List TxReq) (n : Nat) (t : Stamp) (s : State) :
    chainsOnly s (decideNots l n t s) := chainsOnly_foldl (fun u r => chainsOnly_decideNot r n 0 t u) l s

theorem chainsOnly_dropCur (c : Chain) (r : TxReq) (n : Nat) (t : Stamp) (s : State) :
    chainsOnly s (dropCur c r n t s) :=
  (chainsOnly_decideNot r n (tx s c).curFlags t s).trans
    (chainsOnly_modTx c (fun x => { x with cur := none, curFlags := 0, st := .idle }) _)

theorem chainsOnly_applyCut (c : Chain) (s : State) : chainsOnly s (applyCut c s) := by
  unfold applyCut
  split
  · split
    · exact chainsOnly_refl s
    · exact chainsOnly_modTx _ _ s
  · exact chainsOnly_refl s

theorem chainsOnly_cutChain (c : Chain) (k : Stamp) (s : State) : chainsOnly s (cutChain c k s) := by
  have h := (chainsOnly_modTx c (fun x => { x with queue := [], cut := some k }) s).trans
    (chainsOnly_decideNots (tx s c).queue 14 s.time.tb0 _)
  unfold cutChain
  dsimp only
  split
  · exact h
  · split
    · exact h.trans (chainsOnly_applyCut _ _)
    · exact h.trans (chainsOnly_dropCur _ _ _ _ _)

theorem chainsOnly_cutChains (k : Stamp) (s : State) : chainsOnly s (cutChains k s) :=
  (chainsOnly_cutChain .a k s).trans (chainsOnly_cutChain .b k _)

theorem chainsOnly_endShadow (g : Stamp) (s : State) (c : Chain) : chainsOnly s (endShadow g s c) :=
  (chainsOnly_modTx _ _ s).trans (chainsOnly_decideNots _ _ _ _)

/-! ### A rise of the lead line (R489, R492) -/

/-- The tick comes within 20 µs of the rise (R489). -/
def isVote (r k : Stamp) : Bool := decide (0 ≤ sdiff64 k r) && decide (sdiff64 k r ≤ 20 * usTicks)

theorem isVote_of_within {r k : Stamp} (h0 : 0 ≤ sdiff64 k r) (h1 : sdiff64 k r ≤ 20 * usTicks) : isVote r k = true := by
  rw [isVote, decide_eq_true h0, decide_eq_true h1, Bool.and_self]

theorem isVote_of_outside {r k : Stamp} (h : sdiff64 k r < 0 ∨ 20 * usTicks < sdiff64 k r) : isVote r k = false := by
  rw [isVote]
  rcases h with h | h
  · rw [decide_eq_false (by omega), Bool.false_and]
  · rw [decide_eq_false (by omega : ¬ sdiff64 k r ≤ 20 * usTicks), Bool.and_false]

/-- The state once the lead line has risen. -/
def risen (r k : Stamp) (s : State) : State := withPair { (atTime k s).pair with
  leadIn := true
  tickCue := if isVote r k then some (atTime k s).proc.cueNow else (atTime k s).pair.tickCue } (atTime k s)

section
variable {r k : Stamp} {s : State}

theorem senseRise_eq (r k : Stamp) (s : State) : senseRise r k s =
    if !isPaired (atTime k s) || !isUnderstudy (atTime k s) || !isVote r k || (risen r k s).pair.promo.isSome then
      risen r k s
    else if isFit (atTime k s) then promote (risen r k s)
    else emitLocal 0x9006 209 0 0 0 0 (risen r k s) := rfl

theorem risen_of_vote (h : isVote r k = true) : risen r k s =
    withPair { s.pair with leadIn := true, tickCue := some s.proc.cueNow } (atTime k s) := by simp [risen, h]

theorem risen_of_other (h : isVote r k = false) : risen r k s = withPair { s.pair with leadIn := true } (atTime k s) := by
  simp [risen, h]

theorem senseRise_of_leading (h : isUnderstudy s = false) : senseRise r k s = risen r k s := by
  simp [senseRise_eq, h]

theorem senseRise_of_unvoted (h : isVote r k = false) : senseRise r k s = risen r k s := by simp [senseRise_eq, h]

variable (hp : isPaired s = true) (hu : isUnderstudy s = true) (hv : isVote r k = true) (hn : s.pair.promo = none)
include hp hu hv hn

theorem senseRise_of_voted : senseRise r k s =
    if isFit (atTime k s) then promote (risen r k s) else emitLocal 0x9006 209 0 0 0 0 (risen r k s) := by
  have hp' : isPaired (atTime k s) = true := by
    rw [atTime_frame]
    exact hp
  have hn' : (risen r k s).pair.promo = none := by simpa [risen, withPair] using hn
  simp only [senseRise_eq, hp', isUnderstudy_atTime, hu, hv, hn', Bool.not_true, Option.isSome_none, Bool.or_self,
    Bool.false_eq_true, if_false]

end

theorem isFit_of_stale {s : State} (h : s.pair.role = 4) : isFit s = false := by simp [isFit, h]

theorem isFit_atTime_of_replaying {k : Stamp} {s : State} (h : s.pair.role = 2) : isFit (atTime k s) = isFit s := by
  rw [atTime_frame, isFit, isFit, h]
  rfl

/-- The pair state of a promoted unit: Δ and K are fixed, and the first live cue is set (R485, R492). -/
def promoted (s : State) : State :=
  let n := s.pair.held.length
  let d := fitAt s.pair.samples s.proc.cueNow
  let g := plus s.proc.cueStart ((1 + max n 2) * cueTicks) + BitVec.ofInt 64 d
  let y := lastReplayed s
  withPair { s.pair with
    delta := d, fixedD := true, leadIn := true
    k := sdiff32 (y.1 + BitVec.ofInt 32 (roundDiv (sdiff64 g y.2) cueTicks))
      (s.proc.cueNow + 1 + BitVec.ofNat 32 (max n 2))
    promo := some (s.proc.cueNow, n, n), segs := [], naks := [] } s

theorem promote_of_replaying {s : State} (h2 : s.pair.role = 2) (hv : s.pair.viewLow = none) :
    promote s = emitLocal 0x9001 209 0 0 0 0 (countSwap 0 (promoted s)) := by
  have h5 : ¬ s.pair.role = 5 := by omega
  simp only [promote, h5, hv, if_false, Option.isSome_none, Bool.false_eq_true]
  rw [promoted, withPair, modPair, ← hv]

/-! ### A fall of the lead line (R489, R493) -/

/-- The state once the lead line has fallen. -/
def fallen (s : State) : State := withPair { s.pair with leadIn := false } s

/-- The pair state of a Lead that gives up its role (R493). -/
def stoodDown (s : State) : State := withPair { s.pair with
  leadIn := false, role := 4, demoting := true, covered := false, holdOuts := [], promo := none, viewLow := none } s

theorem senseFall_of_other {s : State} (h : isPaired s = false ∨ (s.pair.role ≠ 1 ∧ s.pair.promo = none)) :
    senseFall s = fallen s := by
  have e : senseFall s = if isPaired s && (s.pair.role == 1 || s.pair.promo.isSome) then _ else fallen s := rfl
  rw [e]
  rcases h with h | ⟨h1, hp⟩
  · simp [h]
  · simp [h1, hp]

theorem senseFall_of_leading {s : State} (hp : isPaired s = true) (h : s.pair.role = 1 ∨ s.pair.promo.isSome = true) :
    senseFall s = emitLocal 0x9001 209 0 0 0 0 (countSwap 24 (restartNext 2
      (cutChains (plus s.proc.cueStart (2 * cueTicks)) (stoodDown s)))) := by
  have hc : (isPaired s && (s.pair.role == 1 || s.pair.promo.isSome)) = true := by
    rcases h with h | h <;> simp [hp, h]
  exact if_pos hc

@[simp] theorem restartNext_pair (n : Nat) (s : State) : (restartNext n s).pair = s.pair := by
  have h : (refuseRetention s).pair = s.pair := by
    unfold refuseRetention
    split
    · rw [emitLocal_pair]
      rfl
    · rfl
  unfold restartNext
  split
  · exact h
  · rfl

theorem restartNext_req {n : Nat} {s : State} (hp : s.proc.processing = true) (hr : s.pwr.restartReq = none) :
    (restartNext n s).pwr.restartReq = some n := by
  simp [restartNext, hp, hr]

theorem leadIn_senseRise (r k : Stamp) (s : State) : (senseRise r k s).pair.leadIn = true := by
  rw [senseRise_eq]
  split
  · rfl
  · split
    · rw [promote, emitLocal_pair]
      rfl
    · rw [emitLocal_pair]
      rfl

theorem leadIn_senseFall (s : State) : (senseFall s).pair.leadIn = false := by
  by_cases h : isPaired s = true ∧ (s.pair.role = 1 ∨ s.pair.promo.isSome = true)
  · rw [senseFall_of_leading h.1 h.2, emitLocal_pair]
    change (restartNext 2 _).pair.leadIn = false
    rw [restartNext_pair, (chainsOnly_cutChains _ _).pair]
    rfl
  · rw [senseFall_of_other]
    · rfl
    · cases hp : isPaired s <;> simp_all

/-! ### Ticks, relief and rehearsal (R489, R503, R504) -/

section
variable {s : State}

theorem loseDirector_of_unvoted (hp : isPaired s = true) (hv : votePresent s = false) :
    loseDirector s = emitLocal 0x9007 209 0 0 0 0 s := by simp [loseDirector, hp, hv]

theorem loseDirector_of_idle (h : isPaired s = false ∨ votePresent s = true) : loseDirector s = s := by
  rcases h with h | h <;> simp [loseDirector, h]

theorem lapseRelief_of_over {c : CueNo} (h : s.pair.viewLow = some c) (hd : 64 ≤ sdiff32 s.proc.cueNow c) :
    lapseRelief s = emitLocal 0x9008 209 0 0 0 0 (withPair { s.pair with viewLow := none } s) := by
  simp only [lapseRelief, h, hd, if_true]
  rfl

theorem lapseRelief_of_none (h : s.pair.viewLow = none) : lapseRelief s = s := by simp [lapseRelief, h]

theorem rehearse_of_due (hp : isPaired s = true) (hd : rehearsalDue s = true) (hq : isQuietBoundary s = true)
    (hv : s.pair.viewLow = none) : rehearse s = withRec 10 0x9009 0 0 0 0
      (countSwap 16 (withPair { s.pair with viewLow := some (s.proc.cueNow + 1) } s)) := by
  have hc : (isPaired s && rehearsalDue s && isQuietBoundary s && s.pair.viewLow.isNone) = true := by
    simp [hp, hd, hq, hv]
  exact if_pos hc

theorem rehearse_of_undue (hd : rehearsalDue s = false) : rehearse s = s := by simp [rehearse, hd]

/-! ### The first live cue (R492) -/

theorem goLive_chainsOnly (s : State) : chainsOnly (withPair { s.pair with
    role := 1, promo := none, lastSwap := bookCue s (s.proc.cueNow + 1), covered := false, acked := none
    holdOuts := [], sentRecs := [], held := [], segs := [], naks := [], viewLow := none, forced := false } s)
    (goLive s) := chainsOnly_foldl (fun u c => chainsOnly_endShadow _ u c) [Chain.a, Chain.b] _

theorem countCue_pwr (s : State) : (countCue s).pwr = s.pwr := pwr_atTime _ s

theorem countCue_processing (s : State) : (countCue s).proc.processing = s.proc.processing := by
  change (atTime _ s).proc.processing = _
  rw [proc_atTime]

theorem cue_of_live {i : CueIn} (hm : s.pwr.mode = .full ∨ s.pwr.mode = .quiet) (hp : s.proc.processing = true)
    (hl : liveNext s = true) (hr : s.pwr.restartReq = none) : cue i s =
      readTemps i.tPit i.tStage (hardwareCue i (processCue i (resumeEngines
        { countCue (goLive s) with proc := { (countCue (goLive s)).proc with nextDraw := i.draw } }))) := by
  have hr' : (countCue (goLive s)).pwr.restartReq = none := by
    rw [countCue_pwr, (goLive_chainsOnly s).pwr]
    exact hr
  have hp' : (countCue (goLive s)).proc.processing = true := by
    rw [countCue_processing, (goLive_chainsOnly s).processing]
    exact hp
  have hpow : cue i s = poweredCue i s := by rcases hm with hm | hm <;> simp only [cue, hm]
  rw [hpow]
  simp only [poweredCue, hl, if_true, modProc, hr', hp']

end

/-- Settles O53: the lead line, its ticks, relief, rehearsal and the first live cue, each by its cases. -/
theorem changesOfRoles : Obligations.ChangesOfRoles := by
  unfold Obligations.ChangesOfRoles
  refine ⟨?_, ?_, ?_, ?_, ?_, ?_, ?_, ?_, ?_, ?_, ?_, ?_, ?_, ?_, ?_, ?_, ?_, ?_, ?_⟩
  · intro r k s _ hr h0 h1
    have hu : isUnderstudy s = false := by rcases hr with h | h <;> simp [isUnderstudy, h]
    rw [exec_promote, senseRise_of_leading hu, risen_of_vote (isVote_of_within h0 h1)]
  · intro r k s _ _ _ h
    rw [exec_promote, senseRise_of_unvoted (isVote_of_outside h), risen_of_other (isVote_of_outside h)]
  · intro r k s hp h4 hn h0 h1
    have hu : isUnderstudy s = true := by simp [isUnderstudy, h4]
    have hv := isVote_of_within h0 h1
    rw [exec_promote, senseRise_of_voted hp hu hv hn, isFit_of_stale (by rw [pair_atTime, h4]), risen_of_vote hv]
    rfl
  · intro r k s hp h2 hn h0 h1 hf hl
    have hv := isVote_of_within h0 h1
    have e : exec (.promote r k) s = .next (emitLocal 0x9001 209 0 0 0 0 (countSwap 0 (promoted (risen r k s)))) := by
      rw [exec_promote, senseRise_of_voted hp (isUnderstudy_of_replaying (.inl h2)) hv hn,
        isFit_atTime_of_replaying h2, hf, if_pos rfl, promote_of_replaying]
      · rw [risen_of_vote hv]
        exact h2
      · rw [risen_of_vote hv]
        exact hl
    refine ⟨_, _, _, _, _, e, rfl, rfl, rfl, rfl, ?_⟩
    rw [risen_of_vote hv, atTime_frame]
    exact regOnly_setRBits rUndSwaps 7 0 _ _
  · intro t s h
    rw [exec_demote, senseFall_of_other, fallen, pair_atTime]
    rw [atTime_frame]
    exact h
  · intro t s hp h1 hr
    have hp' : isPaired (atTime t s) = true := by
      rw [atTime_frame]
      exact hp
    have hrun : s.proc.processing = true := by
      rw [isPaired] at hp
      simp_all
    refine ⟨_, _, (exec_demote t s).trans (congrArg _ (senseFall_of_leading hp' (.inl (by rw [pair_atTime, h1])))),
      ?_, rfl, ?_⟩
    · rw [stoodDown, pair_atTime, proc_atTime]
    · refine restartNext_req ?_ ?_
      · rw [(chainsOnly_cutChains _ _).processing]
        exact (congrArg Proc.processing (proc_atTime t s)).trans hrun
      · rw [(chainsOnly_cutChains _ _).pwr]
        exact (congrArg Pwr.restartReq (pwr_atTime t s)).trans hr
  · exact fun r k s => ⟨_, exec_promote r k s, leadIn_senseRise r k s⟩
  · exact fun t s => ⟨_, exec_demote t s, leadIn_senseFall _⟩
  · exact fun w s h0 h1 => congrArg _ (if_pos ⟨h0, h1⟩)
  · exact fun w s h => congrArg _ (if_neg (by omega))
  · exact fun s hp hv => congrArg _ (loseDirector_of_unvoted hp hv)
  · exact fun s h => congrArg _ (loseDirector_of_idle h)
  · exact fun s c h hd => congrArg _ (lapseRelief_of_over h hd)
  · exact fun s h => congrArg _ (lapseRelief_of_none h)
  · exact fun s hp hd hq hv => ⟨_, (exec_rehearsal s).trans (congrArg _ (rehearse_of_due hp hd hq hv)),
      regOnly_setRBits rUndSwaps 23 16 _ _⟩
  · exact fun s hd => congrArg _ (rehearse_of_undue hd)
  · intro i s hp hl
    rw [exec_firstLiveCue, hp, hl]
    rfl
  · intro i s hm hp hl hr
    refine ⟨goLive s, _, ?_, rfl, ?_, ?_, rfl⟩
    · rw [exec_firstLiveCue, hp, hl, cue_of_live hm hp hl hr]
      rfl
    · rw [(goLive_chainsOnly s).pair]
      rfl
    · rw [(goLive_chainsOnly s).pair]
      rfl
  · intro i s h
    rw [exec_firstLiveCue]
    rcases h with h | h <;> simp [h]

end Sys2Proof.Machine
end

section
/-! SUPPORT. A host write of a register (R5, R6, R353, R402): which row takes it and what word it leaves, and the statement
about register accesses assembled from these. -/

namespace Sys2Proof.Machine

theorem exec_registerWrite (o : Nat) (v : Word32) (s : State) :
    exec (.registerWrite o v) s = .next (hostWriteReg o v s) := rfl

theorem exec_tb0LoRead (p : Path) (s : State) :
    exec (.tb0LoRead p) s = .next (if pathUp p s then readEffect p rTimTb0Lo s else s) := rfl

theorem exec_undOffsetLoRead (p : Path) (s : State) :
    exec (.undOffsetLoRead p) s = .next (if pathUp p s then readEffect p rUndOffsetLo s else s) := rfl

/-! ### Words mixed under masks -/

theorem getLsbD_mixWord (a m b : Word32) (n : Nat) :
    (mixWord a m b).getLsbD n = if m.getLsbD n then b.getLsbD n else a.getLsbD n := by
  simp only [mixWord, BitVec.getLsbD_or, BitVec.getLsbD_and, BitVec.getLsbD_not]
  by_cases hn : n < 32
  · cases m.getLsbD n <;> simp [hn]
  · simp [BitVec.getLsbD_of_ge _ n (Nat.le_of_not_lt hn)]

@[simp] theorem mixWord_zero (a b : Word32) : mixWord a 0 b = a :=
  BitVec.eq_of_getLsbD_eq fun n _ => by simp [getLsbD_mixWord]

theorem mixWord_ones (a b : Word32) : mixWord a (BitVec.allOnes 32) b = b :=
  BitVec.eq_of_getLsbD_eq fun n hn => by
    rw [getLsbD_mixWord, BitVec.getLsbD_allOnes, decide_eq_true hn, if_pos rfl]

/-- Two masked copies of one word are one copy under both masks. -/
theorem mixWord_mixWord (a m k b : Word32) : mixWord (mixWord a m b) k b = mixWord a (m ||| k) b := by
  refine BitVec.eq_of_getLsbD_eq fun n _ => ?_
  rw [getLsbD_mixWord, getLsbD_mixWord, getLsbD_mixWord, BitVec.getLsbD_or]
  cases m.getLsbD n <;> cases k.getLsbD n <;> rfl

/-! ### The fields of a row -/

section
variable {old v : Word32} {acc : Word32 × Word32} {f : RegField}

theorem writeField_ro (h : f.acc = .ro) (locked : Word32) : writeField old v locked acc f = acc := by
  simp [writeField, h]

theorem writeField_w1c (h : f.acc = .w1c) (locked : Word32) :
    writeField old v locked acc f = (acc.1 &&& ~~~ (v &&& f.mask), acc.2) := by simp [writeField, h]

theorem writeField_rw_legal (h : f.acc = .rw) (hl : f.legal.holds (fieldOf v f.hi f.lo) = true) :
    writeField old v 0 acc f = (mixWord acc.1 f.mask v, acc.2) := by
  simp [writeField, h, hl, mixWord]

end

/-! ### A word that no behaviour or lock holds -/

section
variable {s : State} {o : Nat} {v w : Word32} {r : RegRow}

theorem wordAfter_of_free (hr : rampMask o = 0) (hl : lockedMask s o = 0) (hh : heldMask s o = 0) :
    wordAfter s r o v = writeWord r (reg s o) v 0 := by
  simp only [wordAfter, hr, hl, hh, mixWord_zero]

variable (hl : regLookup o = some r) (hs : ¬ (0x23000 ≤ o ∧ o < 0x24000))
include hl hs

theorem writeReg_of_row (p : Path) : writeReg p o v s =
    writeAct p o (reg s o) v (refusedRecord p o v (wordAfter s r o v).2 (setReg o (wordAfter s r o v).1 s)) := by
  simp only [writeReg, hl, hs, if_false]

theorem writeReg_of_taken (hw : wordAfter s r o v = (w, 0)) (p : Path) :
    writeReg p o v s = writeAct p o (reg s o) v (setReg o w s) := by
  rw [writeReg_of_row hl hs, hw, refusedRecord, if_pos rfl]

end

section
variable {s : State} {o : Nat} {v : Word32}

theorem hostWriteReg_of_down (h : pathUp .pcie s = false) : hostWriteReg o v s = s := by simp [hostWriteReg, h]

variable (h : pathUp .pcie s = true)
include h

theorem hostWriteReg_of_unaligned (ha : o % 4 ≠ 0) : hostWriteReg o v s = setRBit rHifErr 0 s := by
  simp [hostWriteReg, h, ha]

theorem hostWriteReg_of_aligned (ha : o % 4 = 0) : hostWriteReg o v s = writeReg .pcie o v s := by
  simp [hostWriteReg, h, ha]

end

theorem writeReg_of_none {o : Nat} (h : regLookup o = none) (p : Path) (v : Word32) (s : State) : writeReg p o v s = s := by
  simp [writeReg, h]

/-! ### Three plain registers: PWR_WAKE_CUE, SYS_ID and CLK_EVENTS -/

section
variable (p : Path) (v : Word32) (s : State)

/-- The row of PWR_WAKE_CUE (R585). -/
def rowWakeCue : RegRow := ⟨0x1004, 0, 1, [⟨31, 0, .rw, 0, .any⟩]⟩

/-- The row of SYS_ID (R27). -/
def rowSysId : RegRow :=
  ⟨0x0, 0, 1, [⟨15, 0, .ro, 16640, .any⟩, ⟨19, 16, .ro, 0, .any⟩, ⟨23, 20, .ro, 1, .any⟩, ⟨25, 24, .ro, 0, .any⟩]⟩

/-- The row of CLK_EVENTS (R586). -/
def rowClkEvents : RegRow := ⟨0x2004, 0, 1, [⟨13, 0, .w1c, 0, .any⟩]⟩

theorem writeReg_wakeCue : writeReg p rPwrWakeCue v s = setReg rPwrWakeCue v s := by
  refine (writeReg_of_taken (r := rowWakeCue) (w := v) rfl (by decide) ?_ p).trans rfl
  rw [wordAfter_of_free rfl rfl rfl]
  exact (writeField_rw_legal (old := reg s rPwrWakeCue) (f := ⟨31, 0, .rw, 0, .any⟩) rfl rfl).trans (congrArg (·, 0) (mixWord_ones _ v))

theorem writeReg_sysId : writeReg p rSysId v s = setReg rSysId (reg s rSysId) s := by
  refine (writeReg_of_taken (r := rowSysId) (w := reg s rSysId) rfl (by decide) ?_ p).trans rfl
  rw [wordAfter_of_free rfl rfl rfl]
  rfl

theorem writeReg_clkEvents : writeReg p rClkEvents v s =
    setReg rClkEvents (reg s rClkEvents &&& ~~~ (v &&& 0x3FFF#32)) s := by
  refine (writeReg_of_taken (r := rowClkEvents) (w := reg s rClkEvents &&& ~~~ (v &&& 0x3FFF#32)) rfl (by decide) ?_
    p).trans rfl
  rw [wordAfter_of_free rfl rfl rfl]
  exact writeField_w1c (old := reg s rClkEvents) (f := ⟨13, 0, .w1c, 0, .any⟩) rfl 0

end

/-- Settles O19: a host write by its path, alignment and row; a read of a low half latches the high one. -/
theorem registerAccesses : Obligations.RegisterAccesses := by
  unfold Obligations.RegisterAccesses
  refine ⟨?_, ?_, ?_, ?_, ?_, ?_, ?_, ?_, ?_, ?_, ?_⟩
  · exact fun o v s h => congrArg _ (hostWriteReg_of_down h)
  · exact fun o v s h ha => ⟨_, (exec_registerWrite o v s).trans (congrArg _ (hostWriteReg_of_unaligned h ha)),
      regOnly_setRBit rHifErr 0 s⟩
  · exact fun o v s h ha hn => congrArg _ ((hostWriteReg_of_aligned h ha).trans (writeReg_of_none hn .pcie v s))
  · exact fun v s h => ⟨_, (exec_registerWrite _ v s).trans (congrArg _ ((hostWriteReg_of_aligned h rfl).trans
      (writeReg_wakeCue .pcie v s))), regOnly_setReg _ _ s⟩
  · exact fun v s h => ⟨_, (exec_registerWrite _ v s).trans (congrArg _ ((hostWriteReg_of_aligned h rfl).trans
      (writeReg_sysId .pcie v s))), regOnly_setReg _ _ s⟩
  · exact fun v s h => ⟨_, (exec_registerWrite _ v s).trans (congrArg _ ((hostWriteReg_of_aligned h rfl).trans
      (writeReg_clkEvents .pcie v s))), regOnly_setReg _ _ s⟩
  · exact fun s h => congrArg _ (if_pos h)
  · exact fun s h => congrArg _ (if_pos h)
  · exact fun s h => congrArg _ (if_pos h)
  · exact fun s h => congrArg _ (if_pos h)
  · exact fun p s h => ⟨congrArg _ (if_neg (by simp [h])), congrArg _ (if_neg (by simp [h]))⟩

end Sys2Proof.Machine
end

section
/-! SUPPORT. Writes of CUE_BOOK_CTL, UND_CTL and the export pointers (R67, R72, R73, R470), and the statement assembled
from these. -/

namespace Sys2Proof.Machine

theorem exec_cueBookCtlModeWrite (p : Path) (v : Word32) (s : State) :
    exec (.cueBookCtlModeWrite p v) s = .next (pathWrite p rCueBookCtl v s) := rfl

theorem exec_undCtlModeWrite (p : Path) (v : Word32) (s : State) :
    exec (.undCtlModeWrite p v) s = .next (pathWrite p rUndCtl v s) := rfl

theorem exec_cueBufPointerWrite (tail : Bool) (v : Word32) (s : State) : exec (.cueBufPointerWrite tail v) s =
    .next (hostWriteReg (if tail then rCueBufTail else rCueBufHead) v s) := rfl

theorem pathWrite_of_down {p : Path} {s : State} (h : pathUp p s = false) (o : Nat) (v : Word32) :
    pathWrite p o v s = s := by
  cases p with
  | pcie => exact hostWriteReg_of_down h
  | door => simp [pathWrite, h]

/-- A write through a path that is up of an aligned word that the stage door, too, may write. -/
theorem pathWrite_of_up {p : Path} {s : State} (h : pathUp p s = true) {o : Nat} (ha : o % 4 = 0)
    (hd : p = .door → doorReaches o = true) (v : Word32) : pathWrite p o v s = writeReg p o v s := by
  cases p with
  | pcie => exact hostWriteReg_of_aligned h ha
  | door => simp [pathWrite, h, doorWriteReg, hd rfl, ha]

/-! ### Words of which a behaviour holds some bits -/

section
variable {s : State} {o : Nat} {v : Word32} {r : RegRow}

theorem wordAfter_of_held (hr : rampMask o = 0) (hl : lockedMask s o = 0) : wordAfter s r o v =
    (mixWord (writeWord r (reg s o) v 0).1 (heldMask s o) (reg s o), (writeWord r (reg s o) v 0).2) := by
  simp only [wordAfter, hr, hl, mixWord_zero]

/-- Bits that are held again after a masked copy are left out of the copy. -/
theorem mixWord_held (a m k b : Word32) : mixWord (mixWord a m b) k a = mixWord a (m &&& ~~~ k) b := by
  refine BitVec.eq_of_getLsbD_eq fun n hn => ?_
  rw [getLsbD_mixWord, getLsbD_mixWord, getLsbD_mixWord, BitVec.getLsbD_and, BitVec.getLsbD_not, decide_eq_true hn]
  cases m.getLsbD n <;> cases k.getLsbD n <;> rfl

end

/-! ### CUE_BOOK_CTL and UND_CTL -/

/-- The row of CUE_BOOK_CTL (R72). -/
def rowBookCtl : RegRow := ⟨0x10010, 0, 1, [⟨1, 0, .rw, 0, (.range 0 2)⟩, ⟨12, 8, .rw, 20, (.range 20 30)⟩]⟩

/-- The row of UND_CTL (R508). -/
def rowUndCtl : RegRow := ⟨0x12000, 0, 1, [⟨1, 0, .rw, 0, (.range 0 2)⟩, ⟨2, 2, .rw, 0, .any⟩]⟩

section
variable {v : Word32}

theorem holds_range {a b x : Nat} (ha : a ≤ x) (hb : x ≤ b) : (Legal.range a b).holds x = true := by
  simp [Legal.holds, ha, hb]

theorem writeWord_bookCtl (h2 : fieldOf v 1 0 ≤ 2) (h20 : 20 ≤ fieldOf v 12 8) (h30 : fieldOf v 12 8 ≤ 30)
    (old : Word32) : writeWord rowBookCtl old v 0 = (mixWord old 0x1F03 v, 0) := by
  have hm := writeField_rw_legal (old := old) (acc := (old, 0)) (f := ⟨1, 0, .rw, 0, (.range 0 2)⟩) rfl
    (holds_range (Nat.zero_le _) h2)
  have hs := writeField_rw_legal (old := old) (acc := (mixWord old 3 v, 0)) (f := ⟨12, 8, .rw, 20, (.range 20 30)⟩) rfl
    (holds_range h20 h30)
  refine (congrArg (writeField old v 0 · _) hm).trans (hs.trans ?_)
  exact congrArg (·, 0) (mixWord_mixWord old _ _ v)

theorem writeWord_undCtl (h2 : fieldOf v 1 0 ≤ 2) (old : Word32) :
    writeWord rowUndCtl old v 0 = (mixWord old 7 v, 0) := by
  have hm := writeField_rw_legal (old := old) (acc := (old, 0)) (f := ⟨1, 0, .rw, 0, (.range 0 2)⟩) rfl
    (holds_range (Nat.zero_le _) h2)
  have hs := writeField_rw_legal (v := v) (old := old) (acc := (mixWord old 3 v, 0)) (f := ⟨2, 2, .rw, 0, .any⟩) rfl rfl
  refine (congrArg (writeField old v 0 · _) hm).trans (hs.trans ?_)
  exact congrArg (·, 0) (mixWord_mixWord old _ _ v)

end

section
variable {v : Word32} {s : State}

theorem heldMask_mode {o : Nat} (ho : o = rCueBookCtl ∨ o = rUndCtl) :
    heldMask s o = if s.proc.processing then 3 else 0 := by
  rcases ho with rfl | rfl <;> rfl

section
variable (h2 : fieldOf v 1 0 ≤ 2) (h20 : 20 ≤ fieldOf v 12 8) (h30 : fieldOf v 12 8 ≤ 30)
include h2 h20 h30

theorem writeReg_bookCtl_stopped (hp : s.proc.processing = false) (p : Path) :
    writeReg p rCueBookCtl v s = setReg rCueBookCtl (mixWord (reg s rCueBookCtl) 0x1F03 v) s := by
  have hw : wordAfter s rowBookCtl rCueBookCtl v = (mixWord (reg s rCueBookCtl) 0x1F03 v, 0) := by
    rw [wordAfter_of_held rfl rfl, writeWord_bookCtl h2 h20 h30, heldMask_mode (.inl rfl), hp]
    exact congrArg (·, 0) (mixWord_zero _ _)
  refine (writeReg_of_taken (r := rowBookCtl) rfl (by decide) hw p).trans ?_
  exact if_neg (ne_true_of_eq_false hp)

theorem writeReg_bookCtl_running (hp : s.proc.processing = true) (p : Path) : writeReg p rCueBookCtl v s =
    emitLocal 0x000A 13 rCueBookCtl v.toNat s.proc.bookMode (pathIx p)
      (setReg rCueBookCtl (mixWord (reg s rCueBookCtl) 0x1F00 v) s) := by
  have hw : wordAfter s rowBookCtl rCueBookCtl v = (mixWord (reg s rCueBookCtl) 0x1F00 v, 0) := by
    rw [wordAfter_of_held rfl rfl, writeWord_bookCtl h2 h20 h30, heldMask_mode (.inl rfl), hp]
    exact congrArg (·, 0) (mixWord_held _ _ _ v)
  refine (writeReg_of_taken (r := rowBookCtl) rfl (by decide) hw p).trans ?_
  exact if_pos hp

end

section
variable (h2 : fieldOf v 1 0 ≤ 2)
include h2

theorem writeReg_undCtl_stopped (hp : s.proc.processing = false) (p : Path) :
    writeReg p rUndCtl v s = setReg rUndCtl (mixWord (reg s rUndCtl) 7 v) s := by
  have hw : wordAfter s rowUndCtl rUndCtl v = (mixWord (reg s rUndCtl) 7 v, 0) := by
    rw [wordAfter_of_held rfl rfl, writeWord_undCtl h2, heldMask_mode (.inr rfl), hp]
    exact congrArg (·, 0) (mixWord_zero _ _)
  refine (writeReg_of_taken (r := rowUndCtl) rfl (by decide) hw p).trans ?_
  exact if_neg (ne_true_of_eq_false hp)

theorem writeReg_undCtl_running (hp : s.proc.processing = true) (p : Path) : writeReg p rUndCtl v s =
    emitLocal 0x000A 13 rUndCtl v.toNat s.pair.mode (pathIx p) (setReg rUndCtl (mixWord (reg s rUndCtl) 4 v) s) := by
  have hw : wordAfter s rowUndCtl rUndCtl v = (mixWord (reg s rUndCtl) 4 v, 0) := by
    rw [wordAfter_of_held rfl rfl, writeWord_undCtl h2, heldMask_mode (.inr rfl), hp]
    exact congrArg (·, 0) (mixWord_held _ _ _ v)
  refine (writeReg_of_taken (r := rowUndCtl) rfl (by decide) hw p).trans ?_
  exact if_pos hp

end

/-! ### The export pointers -/

/-- The register of an export pointer. -/
def pointerReg (tail : Bool) : Nat := if tail then rCueBufTail else rCueBufHead

/-- The row of an export pointer (R72). -/
def rowPointer (tail : Bool) : RegRow := ⟨pointerReg tail, 0, 1, [⟨30, 0, .rw, 0, .any⟩]⟩

theorem wordAfter_pointer (tail : Bool) : wordAfter s (rowPointer tail) (pointerReg tail) v =
    (mixWord (mixWord (reg s (pointerReg tail)) 0x7FFFFFFF v) (if pointerOwned tail s then BitVec.allOnes 32 else 0)
      (reg s (pointerReg tail)), 0) := by
  rw [wordAfter_of_held (by cases tail <;> rfl) (by cases tail <;> rfl)]
  have hf := writeField_rw_legal (v := v) (old := reg s (pointerReg tail)) (acc := (reg s (pointerReg tail), 0))
    (f := ⟨30, 0, .rw, 0, .any⟩) rfl rfl
  have hw : writeWord (rowPointer tail) (reg s (pointerReg tail)) v 0 = _ := hf
  have hh : heldMask s (pointerReg tail) = if pointerOwned tail s then BitVec.allOnes 32 else 0 := by
    cases tail <;> rfl
  rw [hw, hh]
  rfl

theorem writeReg_pointer (tail : Bool) {w : Word32} (p : Path)
    (hw : wordAfter s (rowPointer tail) (pointerReg tail) v = (w, 0)) :
    writeReg p (pointerReg tail) v s = setReg (pointerReg tail) w s := by
  cases tail <;> exact (writeReg_of_taken rfl (by decide) hw p).trans rfl

theorem writeReg_pointer_owned {tail : Bool} (h : pointerOwned tail s = true) (p : Path) :
    writeReg p (pointerReg tail) v s = setReg (pointerReg tail) (reg s (pointerReg tail)) s := by
  refine writeReg_pointer tail p ?_
  rw [wordAfter_pointer, h, if_pos rfl, mixWord_ones]

theorem writeReg_pointer_free {tail : Bool} (h : pointerOwned tail s = false) (p : Path) :
    writeReg p (pointerReg tail) v s =
      setReg (pointerReg tail) (mixWord (reg s (pointerReg tail)) 0x7FFFFFFF v) s := by
  refine writeReg_pointer tail p ?_
  rw [wordAfter_pointer, h]
  exact congrArg (·, 0) (mixWord_zero _ _)

variable (hu : pathUp .pcie s = true)
include hu

theorem exec_pointerWrite_owned {tail : Bool} (h : pointerOwned tail s = true) :
    exec (.cueBufPointerWrite tail v) s = .next (setReg (pointerReg tail) (reg s (pointerReg tail)) s) :=
  congrArg Host.Outcome.next ((hostWriteReg_of_aligned hu (by cases tail <;> rfl)).trans
    (writeReg_pointer_owned h .pcie))

theorem exec_pointerWrite_free {tail : Bool} (h : pointerOwned tail s = false) :
    exec (.cueBufPointerWrite tail v) s =
      .next (setReg (pointerReg tail) (mixWord (reg s (pointerReg tail)) 0x7FFFFFFF v) s) :=
  congrArg Host.Outcome.next ((hostWriteReg_of_aligned hu (by cases tail <;> rfl)).trans
    (writeReg_pointer_free h .pcie))

end

theorem pointerOwned_head (s : State) : pointerOwned false s = (s.proc.processing && !(s.proc.bookMode == 2)) := by
  rw [pointerOwned]
  cases s.proc.bookMode == 2 <;> rfl

theorem pointerOwned_tail (s : State) : pointerOwned true s = (s.proc.processing && s.proc.bookMode == 2) := by
  rw [pointerOwned]
  cases s.proc.bookMode == 2 <;> rfl

/-- Settles O20: the mode fields are held while processing runs, and a pointer while the device owns it. -/
theorem modeWritesAndExport : Obligations.ModeWritesAndExport := by
  unfold Obligations.ModeWritesAndExport
  refine ⟨?_, ?_, ?_, ?_, ?_, ?_, ?_, ?_, ?_, ?_⟩
  · exact fun p v s h => ⟨congrArg _ (pathWrite_of_down h _ v), congrArg _ (pathWrite_of_down h _ v)⟩
  · exact fun v s hu hp h2 h20 h30 => ⟨_, (exec_cueBookCtlModeWrite .pcie v s).trans (congrArg _
      ((hostWriteReg_of_aligned hu rfl).trans (writeReg_bookCtl_stopped h2 h20 h30 hp .pcie))), regOnly_setReg _ _ s⟩
  · exact fun v s hu hp h2 h20 h30 => ⟨_, (exec_cueBookCtlModeWrite .pcie v s).trans (congrArg _
      ((hostWriteReg_of_aligned hu rfl).trans (writeReg_bookCtl_running h2 h20 h30 hp .pcie))), regOnly_setReg _ _ s⟩
  · exact fun v s hu hp h2 => ⟨_, (exec_undCtlModeWrite .door v s).trans (congrArg _
      ((pathWrite_of_up hu rfl (fun _ => rfl) v).trans (writeReg_undCtl_stopped h2 hp .door))), regOnly_setReg _ _ s⟩
  · exact fun v s hu hp h2 => ⟨_, (exec_undCtlModeWrite .door v s).trans (congrArg _
      ((pathWrite_of_up hu rfl (fun _ => rfl) v).trans (writeReg_undCtl_running h2 hp .door))), regOnly_setReg _ _ s⟩
  · exact fun b v s h => congrArg _ (hostWriteReg_of_down h)
  · intro v s hu h
    refine ⟨_, exec_pointerWrite_free hu ?_, regOnly_setReg _ _ s⟩
    rcases h with h | h <;> simp [pointerOwned_head, h]
  · exact fun v s hu hp h => ⟨_, exec_pointerWrite_owned hu (by simp [pointerOwned_head, hp, h]), regOnly_setReg _ _ s⟩
  · intro v s hu h
    refine ⟨_, exec_pointerWrite_free hu ?_, regOnly_setReg _ _ s⟩
    rcases h with h | h <;> simp [pointerOwned_tail, h]
  · exact fun v s hu hp h => ⟨_, exec_pointerWrite_owned hu (by simp [pointerOwned_tail, hp, h]), regOnly_setReg _ _ s⟩

end Sys2Proof.Machine
end

section
/-! SUPPORT. MSI-X vectors, the endpoint reset and the Ethernet links (R355, R394, R395, R616, R617), and the statement
assembled from these. -/

namespace Sys2Proof.Machine

/-! ### Vectors (R395) -/

section
variable {v : Nat} {s : State}

theorem exec_vectorHoldExpiry (h : v < 64) (t : Stamp) :
    exec (.vectorHoldExpiry ⟨v, t⟩) s = .next (holdEnds v (atTime t s)) := if_pos h

theorem exec_msixUnmask (h : v < 64) : exec (.msixUnmask v) s = .next (maskVector v false s) := if_pos h

theorem exec_vector_of_none (h : 64 ≤ v) (t : Stamp) :
    exec (.msixUnmask v) s = .fault .noSuchUnit ∧ exec (.vectorHoldExpiry ⟨v, t⟩) s = .fault .noSuchUnit :=
  ⟨if_neg (Nat.not_lt.2 h), if_neg (Nat.not_lt.2 h)⟩

/-- The state once the hold of a vector is over. -/
def holdOver1 (v : Nat) (s : State) : State := modHif (fun h => { h with
  vecHold := smSet false h.vecHold v false, vecDue := smSet false h.vecDue v false }) s

theorem holdEnds_of_running (hh : smGet false s.hif.vecHold v = true)
    (hl : later64 (smGet 0 s.hif.vecEnd v) s.time.tb0 = true) : holdEnds v s = s :=
  if_pos (by rw [hh, hl]; rfl)

theorem holdEnds_of_over (h : smGet false s.hif.vecHold v = false ∨ later64 (smGet 0 s.hif.vecEnd v) s.time.tb0 = false) :
    holdEnds v s = if smGet false s.hif.vecDue v then vecSignal v (holdOver1 v s) else holdOver1 v s := by
  refine if_neg ?_
  rcases h with h | h <;> rw [h]
  · exact Bool.false_ne_true
  · rw [Bool.and_false]
    exact Bool.false_ne_true

/-- The state once a pending vector is unmasked and its pending bit is taken. -/
def unmasked (v : Nat) (s : State) : State := modHif (fun h => { h with
  vecMask := smSet false h.vecMask v true, pba := smSet false h.pba v false }) s

theorem maskVector_of_pending (hp : smGet false s.hif.pba v = true) :
    maskVector v false s = vecSignal v (unmasked v s) := by
  simp only [maskVector, hp, Bool.not_false, Bool.and_self, if_true]
  rfl

theorem maskVector_of_idle (hp : smGet false s.hif.pba v = false) : maskVector v false s =
    { s with hif := { s.hif with vecMask := smSet false s.hif.vecMask v true } } := by
  simp [maskVector, hp, modHif]

theorem vecSignal_unmasked_held (hh : smGet false s.hif.vecHold v = true) : vecSignal v (unmasked v s) =
    modHif (fun h => { h with vecDue := smSet false h.vecDue v true }) (unmasked v s) := by
  have hm : smGet false (unmasked v s).hif.vecMask v = true := smGet_set_same false s.hif.vecMask v true
  have hh' : smGet false (unmasked v s).hif.vecHold v = true := hh
  simp [vecSignal, hm, hh']

theorem vecSignal_unmasked_free (hh : smGet false s.hif.vecHold v = false) :
    vecSignal v (unmasked v s) = vecSend v (unmasked v s) := by
  have hm : smGet false (unmasked v s).hif.vecMask v = true := smGet_set_same false s.hif.vecMask v true
  have hh' : smGet false (unmasked v s).hif.vecHold v = false := hh
  simp [vecSignal, hm, hh']

theorem vecSent_vecSend (w : Nat) : smGet 0 (vecSend v s).hif.vecSent w =
    if w = v then smGet 0 s.hif.vecSent v + 1 else smGet 0 s.hif.vecSent w := by
  simp [vecSend, modHif, smGet_mod]

theorem pba_vecSend (w : Nat) : smGet false (vecSend v s).hif.pba w =
    if w = v then false else smGet false s.hif.pba w := by
  simp [vecSend, modHif, smGet_set]

theorem vecHold_vecSend : smGet false (vecSend v s).hif.vecHold v =
    decide (rbits s (rHifVecHold + 4 * v) 7 0 ≠ 0) := by
  refine (smGet_set_same false s.hif.vecHold v _).trans (Bool.eq_iff_iff.2 ?_)
  simp only [bne_iff_ne, decide_eq_true_eq]

end

theorem exec_endpointReset (s : State) : exec .endpointReset s = .next (resetEndpoint s) := rfl

theorem exec_ethLinkReconfigure (b : Bool) (v : Word32) (s : State) :
    exec (.ethLinkReconfigure b v) s = .next (hostWriteReg (ethCfg b) v s) := rfl

/-! ### The endpoint reset (R355, R364) -/

/-- From `s` to `t` only rings differ, and no completion ring in its epoch or its buffers. -/
def ringsOnly (s t : State) : Prop :=
  t = { s with hif := { s.hif with sq := t.hif.sq, cq := t.hif.cq } } ∧
    ∀ c, (cq t c).epoch = (cq s c).epoch ∧ (cq t c).pool = (cq s c).pool

theorem ringsOnly_refl (s : State) : ringsOnly s s := ⟨rfl, fun _ => ⟨rfl, rfl⟩⟩

theorem ringsOnly.trans {s t u : State} (h : ringsOnly s t) (h' : ringsOnly t u) : ringsOnly s u := by
  obtain ⟨e, he⟩ := h
  obtain ⟨e', he'⟩ := h'
  refine ⟨?_, fun c => ⟨(he' c).1.trans (he c).1, (he' c).2.trans (he c).2⟩⟩
  rw [e', e]

theorem ringsOnly_dropFlight (q : Nat) (s : State) : ringsOnly s (dropFlight q s) := by
  refine ⟨rfl, fun c => ?_⟩
  obtain ⟨-, hc⟩ := cqOnly_modCq q (fun r => { r with outst := r.outst - (sq s q).flight })
    (modSq q (fun r => { r with flight := 0 }) s)
  rw [dropFlight, hc c]
  by_cases h : c = q
  · subst h
    rw [if_pos rfl]
    exact ⟨rfl, rfl⟩
  · rw [if_neg h]
    exact ⟨rfl, rfl⟩

/-- The entries in flight of every submission ring dropped. -/
def flightsDropped (s : State) : State :=
  (List.range 64).foldl (fun s q => if (sq s q).flight = 0 then s else dropFlight q s) s

theorem ringsOnly_flightsDropped (s : State) : ringsOnly s (flightsDropped s) := by
  unfold flightsDropped
  induction List.range 64 generalizing s with
  | nil => exact ringsOnly_refl s
  | cons q l ih =>
    refine ringsOnly.trans ?_ (ih _)
    dsimp only
    split
    · exact ringsOnly_refl s
    · exact ringsOnly_dropFlight q s

/-- The endpoint and the Host interface block at their reset values. -/
def endpointCleared (s : State) : State :=
  modHif (fun h => { h with
    sq := []
    cq := smMapAll {} h.cq fun _ r => { r with head := 0, tail := 0, error := false, bell := 0 }
    evr := {}
    vecHold := [], vecDue := [], vecEnd := [], vecMask := [], pba := [], rr := 0 })
    { s with regs := regsOutside 0x40000 0x50000 s.regs }

theorem resetEndpoint_cleared (s : State) : resetEndpoint s = endpointCleared (flightsDropped s) := by
  unfold resetEndpoint endpointCleared flightsDropped
  rfl

theorem resetEndpoint_eq (s : State) : resetEndpoint s = { s with
    regs := regsOutside 0x40000 0x50000 s.regs
    hif := { s.hif with
      sq := []
      cq := smMapAll {} (flightsDropped s).hif.cq fun _ r => { r with head := 0, tail := 0, error := false, bell := 0 }
      evr := {}
      vecHold := [], vecDue := [], vecEnd := [], vecMask := [], pba := [], rr := 0 } } := by
  have e := (ringsOnly_flightsDropped s).1
  rw [resetEndpoint_cleared]
  generalize flightsDropped s = u at e ⊢
  rw [e]
  rfl

theorem cq_resetEndpoint (s : State) (c : Nat) : cq (resetEndpoint s) c =
    { cq (flightsDropped s) c with head := 0, tail := 0, error := false, bell := 0 } := by
  rw [resetEndpoint_eq, cq, smGet_mapAll _ _ _ _ rfl]
  rfl

theorem reg_resetEndpoint (s : State) (o : Nat) :
    reg (resetEndpoint s) o = if o < 0x40000 ∨ 0x50000 ≤ o then reg s o else regReset o := by
  rw [resetEndpoint_eq]
  exact regGet_outside 0x40000 0x50000 s.regs o

/-! ### The Ethernet links (R616, R617) -/

/-- The row of a link's configuration register (R616). -/
def rowEth (b : Bool) : RegRow :=
  if b then ⟨0x3004, 0, 1, [⟨0, 0, .rw, 0, .any⟩, ⟨2, 1, .ro, 2, .any⟩, ⟨3, 3, .ro, 0, .any⟩, ⟨11, 8, .rw, 8, (.range 0 10)⟩]⟩
  else ⟨0x3000, 0, 1, [⟨0, 0, .rw, 0, .any⟩, ⟨2, 1, .rw, 0, (.range 0 2)⟩, ⟨3, 3, .rw, 1, .any⟩, ⟨11, 8, .rw, 8, (.range 0 10)⟩]⟩

/-- The bits of a link's configuration register that a write may change. -/
def ethMask (b : Bool) : Word32 := if b then 0xF01 else 0xF0F

section
variable {v : Word32} (h10 : fieldOf v 11 8 ≤ 10) (h2 : fieldOf v 2 1 ≤ 2)
include h10

theorem writeField_ethSpeed (old : Word32) (acc : Word32 × Word32) :
    writeField old v 0 acc ⟨11, 8, .rw, 8, (.range 0 10)⟩ = (mixWord acc.1 0xF00 v, acc.2) :=
  writeField_rw_legal rfl (holds_range (Nat.zero_le _) h10)

include h2

theorem writeWord_eth (b : Bool) (old : Word32) : writeWord (rowEth b) old v 0 = (mixWord old (ethMask b) v, 0) := by
  have h0 := writeField_rw_legal (v := v) (old := old) (acc := (old, 0)) (f := ⟨0, 0, .rw, 0, .any⟩) rfl rfl
  cases b with
  | true =>
    have e : writeWord (rowEth true) old v 0 =
        writeField old v 0 (writeField old v 0 (old, 0) ⟨0, 0, .rw, 0, .any⟩) ⟨11, 8, .rw, 8, (.range 0 10)⟩ := rfl
    rw [e, h0, writeField_ethSpeed h10]
    exact congrArg (·, 0) (mixWord_mixWord old _ _ v)
  | false =>
    have e : writeWord (rowEth false) old v 0 = writeField old v 0 (writeField old v 0 (writeField old v 0
        (writeField old v 0 (old, 0) ⟨0, 0, .rw, 0, .any⟩) ⟨2, 1, .rw, 0, (.range 0 2)⟩) ⟨3, 3, .rw, 1, .any⟩)
        ⟨11, 8, .rw, 8, (.range 0 10)⟩ := rfl
    rw [e, h0, writeField_rw_legal (f := ⟨2, 1, .rw, 0, (.range 0 2)⟩) rfl (holds_range (Nat.zero_le _) h2),
      writeField_rw_legal (f := ⟨3, 3, .rw, 1, .any⟩) rfl rfl, writeField_ethSpeed h10]
    exact congrArg (·, 0) (((mixWord_mixWord _ _ _ v).trans (mixWord_mixWord _ _ _ v)).trans (mixWord_mixWord _ _ _ v))

theorem hostWriteReg_eth {s : State} (hu : pathUp .pcie s = true) (b : Bool) : hostWriteReg (ethCfg b) v s =
    actEthCfg b (reg s (ethCfg b)) (setReg (ethCfg b) (mixWord (reg s (ethCfg b)) (ethMask b) v) s) := by
  have hw : wordAfter s (rowEth b) (ethCfg b) v = (mixWord (reg s (ethCfg b)) (ethMask b) v, 0) := by
    rw [wordAfter_of_free (by cases b <;> rfl) (by cases b <;> rfl) (by cases b <;> rfl), writeWord_eth h10 h2]
  cases b <;> exact (hostWriteReg_of_aligned hu rfl).trans ((writeReg_of_taken rfl (by decide) hw .pcie).trans rfl)

end

section
variable {b : Bool} {s : State}

theorem reg_setReg_same (o : Nat) (w : Word32) (s : State) : reg (setReg o w s) o = w :=
  reg_of_regOnly_same (regOnly_setReg o w s)

theorem actEthCfg_of_kept {w : Word32} (h : (reg s (ethCfg b) ^^^ w) &&& 7#32 = 0) :
    actEthCfg b (reg s (ethCfg b)) (setReg (ethCfg b) w s) = setReg (ethCfg b) w s := by
  rw [actEthCfg, reg_setReg_same]
  exact if_pos h

theorem actEthCfg_of_changed {w : Word32} (h : (reg s (ethCfg b) ^^^ w) &&& 7#32 ≠ 0) :
    actEthCfg b (reg s (ethCfg b)) (setReg (ethCfg b) w s) = linkCut b (setReg (ethCfg b) w s) := by
  rw [actEthCfg, reg_setReg_same]
  exact if_neg h

/-- From `s` to `t` the links and every register but the counts of dropped frames are the same. -/
def linksKept (s t : State) : Prop :=
  t.pwr = s.pwr ∧ ∀ o, o ≠ rPadEth0Drops → o ≠ rPadEth1Drops → reg t o = reg s o

theorem linksKept_countDrops {o : Nat} (ho : o = rPadEth0Drops ∨ o = rPadEth1Drops) {s u : State} (hp : u.pwr = s.pwr)
    (hr : u.regs = s.regs) : linksKept s (countReg o 1 u) := by
  refine ⟨hp, fun j h0 h1 => ?_⟩
  have hj : j ≠ o := by rcases ho with rfl | rfl <;> assumption
  rw [(regOnly_countReg o 1 u).2 j, if_neg hj, reg, hr, reg]

theorem linkCut_of_up (h : ethUp s b = true) : linksKept (linkDown b s) (linkCut b s) := by
  have hk : ∀ o, (o = rPadEth0Drops ∨ o = rPadEth1Drops) → ∀ u : State, u.pwr = (linkDown b s).pwr →
      u.regs = (linkDown b s).regs → linksKept (linkDown b s) (countReg o 1 u) :=
    fun o ho u hp hr => linksKept_countDrops ho hp hr
  have h0 : linksKept (linkDown b s) (fresh (linkDown b s)).2 := ⟨rfl, fun _ _ _ => rfl⟩
  simp only [linkCut, h, Bool.not_true, Bool.false_eq_true, if_false]
  split
  · split
    · split
      · exact h0
      · exact hk _ (.inr rfl) _ rfl rfl
    · split
      · exact h0
      · exact hk _ (.inl rfl) _ rfl rfl
  · exact h0

theorem ethUp_linkDown (b c : Bool) (s : State) : ethUp (linkDown b s) c = if c = b then false else ethUp s c := by
  cases b <;> cases c <;> rfl

theorem linkUp_of_enabled (hr : rbit s (ethCfg b) 0 = true) (hp : isPowered s = true) (hm : s.pwr.mode ≠ .retention)
    (n : Nat) : linkUp b n s = if b then
      (if s.proc.processing && s.pair.mode == 1 then
        sendHello (modPwr (fun p => { p with eth1Up := true }) (modPair (fun p => { p with linkUp := true }) s))
      else modPwr (fun p => { p with eth1Up := true }) (modPair (fun p => { p with linkUp := true }) s))
    else modPwr (fun p => { p with eth0Up := true, speed0 := n % 4 }) s := by
  refine if_neg ?_
  simp [hr, hp, hm]

theorem linkUp_of_disabled (hr : rbit s (ethCfg b) 0 = false) (n : Nat) : linkUp b n s = s := if_pos (by simp [hr])

end

/-- Settles O17: vectors by mask and hold, the reset as one equation, and the links by their configuration word. -/
theorem hostLinks : Obligations.HostLinks := by
  unfold Obligations.HostLinks
  refine ⟨?_, ?_, ?_, ?_, ?_, ?_, ?_, ?_, ?_, ?_, ?_, ?_, ?_, ?_, ?_, ?_⟩
  · intro v t s hv hh hl
    rw [exec_vectorHoldExpiry hv, holdEnds_of_running (by simpa using hh) (by simpa using hl)]
  · intro v t s hv h
    refine ⟨_, rfl, ?_⟩
    rw [exec_vectorHoldExpiry hv, holdEnds_of_over (by simpa using h), hif_atTime, holdOver1, modHif, hif_atTime]
  · intro v s hv hp hh
    refine ⟨_, (exec_msixUnmask hv).trans (congrArg _ ((maskVector_of_pending hp).trans (vecSignal_unmasked_free hh))),
      smGet_set_same false s.hif.vecMask v true, ?_, ?_, vecHold_vecSend, fun w hw => ⟨?_, ?_⟩, rfl⟩
    · rw [pba_vecSend, if_pos rfl]
    · rw [vecSent_vecSend, if_pos rfl]
      rfl
    · rw [vecSent_vecSend, if_neg hw]
      rfl
    · rw [pba_vecSend, if_neg hw]
      exact smGet_set_other false s.hif.pba v w false hw
  · intro v s hv hp hh
    exact ⟨_, (exec_msixUnmask hv).trans (congrArg _ ((maskVector_of_pending hp).trans (vecSignal_unmasked_held hh))),
      smGet_set_same false s.hif.vecDue v true, rfl⟩
  · exact fun v s hv hp => (exec_msixUnmask hv).trans (congrArg _ (maskVector_of_idle hp))
  · exact fun v t s hv => exec_vector_of_none hv t
  · exact fun w s => ⟨_, rfl, regOnly_setRBit rHifErr 0 s⟩
  · exact fun o v s => ⟨_, rfl, regOnly_setRBit rHifErr 1 s⟩
  · intro s
    refine ⟨resetEndpoint s, exec_endpointReset s, fun q => ?_, ?_, fun c => ?_, fun o h0 h1 => ?_, fun o h => ?_, ?_⟩
    · rw [resetEndpoint_eq]
      rfl
    · rw [resetEndpoint_eq]
    · obtain ⟨he, hp⟩ := (ringsOnly_flightsDropped s).2 c
      rw [cq_resetEndpoint]
      generalize cq (flightsDropped s) c = r at he hp ⊢
      exact ⟨rfl, rfl, rfl, he, hp⟩
    · rw [reg_resetEndpoint, if_neg (by omega)]
    · rw [reg_resetEndpoint, if_pos h]
    · rw [resetEndpoint_eq]
      generalize flightsDropped s = u
      exact ⟨rfl, rfl, rfl, rfl⟩
  · rintro b v s m w hu rfl h10 h2 rfl hk
    exact ⟨_, (exec_ethLinkReconfigure b v s).trans (congrArg _ ((hostWriteReg_eth h10 h2 hu b).trans (actEthCfg_of_kept hk))), regOnly_setReg _ _ s⟩
  · rintro b v s m w hu rfl h10 h2 rfl hk he
    have he' : ethUp (setReg (ethCfg b) (mixWord (reg s (ethCfg b)) (ethMask b) v) s) b = true := by
      cases b <;> exact he
    obtain ⟨hpwr, hreg⟩ := linkCut_of_up he'
    refine ⟨_, (exec_ethLinkReconfigure b v s).trans (congrArg _ ((hostWriteReg_eth h10 h2 hu b).trans (actEthCfg_of_changed hk))), ?_, ?_, ?_⟩
    · rw [ethUp, hpwr]
      exact (ethUp_linkDown b b _).trans (if_pos rfl)
    · rw [ethUp, hpwr]
      refine (ethUp_linkDown b (!b) _).trans ((if_neg (by cases b <;> decide)).trans ?_)
      cases b <;> rfl
    · rw [hreg _ (by cases b <;> decide) (by cases b <;> decide)]
      cases b <;> exact reg_setReg_same _ _ s
  · intro n v s hr hp hm
    exact congrArg _ (linkUp_of_enabled (b := false) hr hp hm n)
  · intro n v s hr hp hm hrun
    refine congrArg _ ((linkUp_of_enabled (b := true) hr hp hm n).trans ?_)
    simp [hrun, modPwr, modPair]
  · exact fun b n v s hr => congrArg _ (linkUp_of_disabled hr n)
  · exact fun s => rfl
  · exact fun s => rfl

end Sys2Proof.Machine
end

section
/-! SUPPORT. Power-mode requests, the supplies, the restart request, snapshots and the resets (R514, R515, R563, R566 to
R573), and the two statements assembled from these. -/

namespace Sys2Proof.Machine

/-! ### Requests (R566, R568) -/

section
variable {s : State}

theorem exec_reqQuiet (s : State) : exec .reqQuiet s = .next (askQuiet s) := rfl

theorem exec_reqFull (s : State) : exec .reqFull s = .next (askFull s) := rfl

theorem exec_reqRetention (s : State) : exec .reqRetention s = .next (askRetention s) := rfl

theorem askQuiet_of_full (h : s.pwr.mode = .full) :
    askQuiet s = modPwr (fun p => { p with quietReq := some true }) (setRBits rPwrMode 1 0 1 s) := if_pos h

theorem askFull_of_quiet (h : s.pwr.mode = .quiet) :
    askFull s = modPwr (fun p => { p with quietReq := some false }) (setRBits rPwrMode 1 0 0 s) := if_pos h

theorem askFull_of_retention (h : s.pwr.mode = .retention) :
    askFull s = modPwr (fun p => { p with doorFull := true }) (setRBits rPwrMode 1 0 0 s) := by
  simp [askFull, h]

theorem askRetention_of_elsewhere (h : (s.pwr.mode ≠ .full ∧ s.pwr.mode ≠ .quiet) ∨ s.pwr.retReq.isSome = true) :
    askRetention s = setRBits rPwrMode 1 0 2 s := if_pos h

/-- What `retentionOk` says of the mode and of an earlier request. -/
theorem open_of_retentionOk (h : retentionOk s = true) :
    ¬ ((s.pwr.mode ≠ .full ∧ s.pwr.mode ≠ .quiet) ∨ s.pwr.retReq.isSome = true) := by
  simp only [retentionOk, Bool.and_eq_true, Bool.or_eq_true, beq_iff_eq, Option.isNone_iff_eq_none] at h
  obtain ⟨⟨⟨⟨⟨⟨⟨-, hm⟩, -⟩, -⟩, -⟩, -⟩, -⟩, hr⟩ := h
  rintro (⟨hf, hq⟩ | hs)
  · exact hm.elim hf hq
  · simp [hr] at hs

theorem askRetention_of_ok (h : retentionOk s = true) : askRetention s = modPwr (fun p => { p with
    retReq := some ((s.pwr.wakeIn.map (· - 1)).getD s.proc.cueNow) }) (setRBits rPwrMode 1 0 2 s) :=
  (if_neg (open_of_retentionOk h)).trans (if_pos h)

theorem askRetention_of_refused (hm : s.pwr.mode = .full ∨ s.pwr.mode = .quiet) (hr : s.pwr.retReq = none)
    (h : retentionOk s = false) : askRetention s = emitLocal 0xB00E 14 0 0 0 0 (setRBit rPwrMode 4 s) := by
  refine (if_neg ?_).trans (if_neg (ne_true_of_eq_false h))
  rintro (⟨hf, hq⟩ | hs)
  · exact hm.elim hf hq
  · simp [hr] at hs

theorem retentionOk_of_busy (h : s.pair.mode ≠ 0 ∨ (∃ q, q < 64 ∧ sqEn s q = true) ∨ s.hif.outstanding ≠ [] ∨
    s.hif.capture.isSome = true) : retentionOk s = false := by
  rw [← Bool.not_eq_true]
  intro hok
  simp only [retentionOk, Bool.and_eq_true, beq_iff_eq, List.all_eq_true, List.mem_range, Bool.not_eq_true',
    List.isEmpty_iff, Option.isNone_iff_eq_none] at hok
  obtain ⟨⟨⟨⟨⟨⟨-, hp⟩, hq⟩, ho⟩, hc⟩, -⟩, -⟩ := hok
  rcases h with h | ⟨q, hlt, hen⟩ | h | h
  · exact h hp
  · simp [hq q hlt] at hen
  · exact h ho
  · simp [hc] at h

end

/-! ### A loss of power during a write (R461, R518, R531) -/

section
variable {s : State}

/-- The place that a loss of power finds in its writes. -/
def cutWord (s : State) : Word64 := cutBits (fresh s).1

theorem cutCopies_of_idle {u : Upd} (b : Word64) (h0 : u.selBusy = none) (h1 : u.setBusy = none) : cutCopies b u = u := by
  simp [cutCopies, h0, h1]

theorem cutJournal_of_idle {b : Word64} (h : s.board.copied = false) : cutJournal b s = s := if_neg (by simp [h])

theorem cutWrites_of_settled (hc : s.upd.confirming = none) (hb : s.board.copied = false) :
    cutWrites s = modUpd (cutCopies (cutWord s)) (fresh s).2 := by
  have hj : (modUpd (cutCopies (cutWord s)) (fresh s).2).board.copied = false := hb
  simp only [cutWrites, hc, Option.isSome_none, Bool.false_eq_true, if_false]
  exact cutJournal_of_idle hj

theorem cutCopies_of_selector {u : Upd} {k : Bool} (b : Word64) (h0 : u.selBusy = some k) (h1 : u.setBusy = none) :
    cutCopies b u = if b.getLsbD 0 then (if k then { u with sel1 := none } else { u with sel0 := none }) else u := by
  unfold cutCopies
  rw [h0, h1]
  cases k <;> cases b.getLsbD 0 <;> cases b.getLsbD 1 <;> rfl

@[simp] theorem cutWrites_proc (s : State) : (cutWrites s).proc = s.proc := by
  have hj : ∀ (b : Word64) (u : State), (cutJournal b u).proc = u.proc := by
    intro b u
    unfold cutJournal
    split
    · exact emitLocal_proc ..
    · rfl
  rw [cutWrites, hj]
  split <;> rfl

section
variable (b : Word64) (f : Fuses) (v : Nat) (r : BitVec 4)

theorem secVer_cutFuses (h : f.secVer ≤ v) : f.secVer ≤ (cutFuses b f v r).secVer ∧ (cutFuses b f v r).secVer ≤ v := by
  have hlt := Nat.mod_lt (b.toNat / 8) (Nat.succ_pos (v - f.secVer))
  rw [Nat.succ_eq_add_one] at hlt
  have he : (cutFuses b f v r).secVer = f.secVer + (b.toNat / 8) % (v - f.secVer + 1) := rfl
  omega

theorem revoke_cutFuses (i : Nat) : (cutFuses b f v r).revoke.getLsbD i =
    (f.revoke.getLsbD i || (r.getLsbD i && ((b >>> 16).setWidth 4).getLsbD i)) := by
  rw [cutFuses, BitVec.getLsbD_or, BitVec.getLsbD_and]

end

end

/-! ### The supplies (R566, R574) -/

section
variable {s : State}

theorem exec_vkeepGood (s : State) : exec .vkeepGood s = .next (keepStart s) := rfl

theorem exec_vkeepLost (s : State) : exec .vkeepLost s = .next (loseKeep s) := rfl

theorem tryMainStart_of_cool {a b : Int} (hm : s.pwr.mode = .keepOnly) (hv : s.pwr.vin = true) (ha : a < 100) (hb : b < 100) :
    tryMainStart a b s = startMain (modPwr (fun p => { p with tPit := a, tStage := b }) s) := by
  have hc : coolEnough a b = true := by simp [coolEnough, ha, hb]
  exact if_pos ⟨hm, hv, hc⟩

theorem tryMainStart_of_hot {a b : Int} (h : 100 ≤ a ∨ 100 ≤ b) :
    tryMainStart a b s = modPwr (fun p => { p with tPit := a, tStage := b }) s := by
  have hc : coolEnough a b = false := by
    rw [coolEnough]
    rcases h with h | h
    · rw [decide_eq_false (by omega), Bool.false_and]
    · rw [decide_eq_false (by omega : ¬ b < 100), Bool.and_false]
  refine if_neg ?_
  rintro ⟨-, -, ht⟩
  simp [hc] at ht

theorem exec_vinGood_of_keepOnly {a b : Int} (hm : s.pwr.mode = .keepOnly) :
    exec (.vinGood a b) s = .next (tryMainStart a b (modPwr (fun p => { p with vin := true }) s)) :=
  congrArg Host.Outcome.next (if_neg (by simp [hm]))

theorem exec_mainStartOnCooling_of_keepOnly {a b : Int} (hm : s.pwr.mode = .keepOnly) :
    exec (.mainStartOnCooling a b) s = .next (tryMainStart a b s) := congrArg Host.Outcome.next (if_pos hm)

theorem loseMain_of_stopped (hp : s.proc.processing = false) (code : Nat) :
    loseMain code s = emitLocal code 14 0 0 0 0 (keepDomain .keepOnly (cutWrites s)) := by
  have h : (cutWrites s).proc.processing = false := by rw [cutWrites_proc, hp]
  simp only [loseMain, h, Bool.false_eq_true, if_false]

end

/-- Settles O21: each request by its mode, each supply by what it finds. -/
theorem modeAndPowerRequests : Obligations.ModeAndPowerRequests := by
  unfold Obligations.ModeAndPowerRequests
  refine ⟨?_, ?_, ?_, ?_, ?_, ?_, ?_, ?_, ?_, ?_, ?_, ?_, ?_, ?_, ?_, ?_, ?_, ?_⟩
  · exact fun s h => ⟨_, regOnly_setRBits rPwrMode 1 0 1 s, congrArg _ (askQuiet_of_full h)⟩
  · exact fun s h => ⟨_, regOnly_setRBits rPwrMode 1 0 0 s, congrArg _ (askFull_of_quiet h)⟩
  · exact fun s h => ⟨_, regOnly_setRBits rPwrMode 1 0 0 s, congrArg _ (askFull_of_retention h)⟩
  · intro s h hw
    refine ⟨_, regOnly_setRBits rPwrMode 1 0 2 s, (exec_reqRetention s).trans (congrArg _ ((askRetention_of_ok h).trans ?_))⟩
    rw [hw, modPwr]
    rfl
  · intro s c h hw
    refine ⟨_, regOnly_setRBits rPwrMode 1 0 2 s, (exec_reqRetention s).trans (congrArg _ ((askRetention_of_ok h).trans ?_))⟩
    rw [hw, modPwr]
    rfl
  · exact fun s h => ⟨_, (exec_reqRetention s).trans (congrArg _ (askRetention_of_elsewhere h)),
      regOnly_setRBits rPwrMode 1 0 2 s⟩
  · exact fun s hm hr hb => ⟨_, (exec_reqRetention s).trans (congrArg _
      (askRetention_of_refused hm hr (retentionOk_of_busy hb))), regOnly_setRBit rPwrMode 4 s⟩
  · exact fun s h => ⟨_, (exec_vkeepGood s).trans (congrArg _ (if_pos h)), rfl⟩
  · exact fun s h => congrArg _ (if_neg h)
  · exact fun s => ⟨_, exec_vkeepLost s, rfl, rfl, rfl, rfl, rfl, rfl, rfl, rfl⟩
  · intro s h0 h1 hc hb
    rw [cutWrites_of_settled hc hb, modUpd, cutCopies_of_idle _ (by exact h0) (by exact h1)]
    rfl
  · intro s b h0 h1 hc hb
    rw [cutWrites_of_settled hc hb, modUpd, cutCopies_of_selector (k := b) _ (by exact h0) (by exact h1)]
    cases b <;> cases (cutWord s).getLsbD 0 <;> simp [fresh, modSec]
  · intro b f v r hv
    obtain ⟨hlo, hhi⟩ := secVer_cutFuses b f v r hv
    refine ⟨hlo, hhi, fun i hi => ?_, fun i hi => ?_, rfl⟩
    · rw [revoke_cutFuses, Bool.or_eq_true, Bool.and_eq_true] at hi
      exact hi.imp id And.left
    · rw [revoke_cutFuses, hi, Bool.true_or]
  · exact fun a b s hm ha hb => (exec_vinGood_of_keepOnly hm).trans (congrArg _
      (tryMainStart_of_cool (s := modPwr (fun p => { p with vin := true }) s) hm rfl ha hb))
  · exact fun a b s hm h => (exec_vinGood_of_keepOnly hm).trans (congrArg _ (tryMainStart_of_hot h))
  · exact fun a b s hm hv ha hb => (exec_mainStartOnCooling_of_keepOnly hm).trans (congrArg _
      (tryMainStart_of_cool hm hv ha hb))
  · exact fun s => ⟨_, rfl, rfl⟩
  · intro s hm hv hp
    have hn : ¬ (s.pwr.mode = .off ∨ s.pwr.vin = false) := by simp [hm, hv]
    refine (congrArg Host.Outcome.next (if_neg hn)).trans ?_
    rw [loseMain_of_stopped hp]
    rfl

end Sys2Proof.Machine
end

section
/-! SUPPORT. The restart request, snapshots and the resets (R514, R515, R563, R568, R572, R573), and the statement
assembled from these. -/

namespace Sys2Proof.Machine

/-! ### A restart taken at the next cue start (R572, R576) -/

section
variable {s : State} {n : Nat}

theorem exec_restart (s : State) : exec .restart s = .next (restartNext 4 s) := rfl

theorem restartNext_of_free (hp : s.proc.processing = true) (hr : s.pwr.restartReq = none) :
    restartNext n s = modPwr (fun p => { p with restartReq := some n }) (refuseRetention s) := by
  simp [restartNext, hp, hr]

theorem restartNext_of_idle (h : s.proc.processing = false ∨ s.pwr.restartReq.isSome = true) : restartNext n s = s := by
  refine if_neg ?_
  rcases h with h | h
  · simp [h]
  · simp [Option.isNone_iff_eq_none, Option.isSome_iff_ne_none.1 h]

theorem refuseRetention_of_none (h : s.pwr.retReq = none ∨ s.pwr.mode = .retention) : refuseRetention s = s := by
  refine if_neg ?_
  rcases h with h | h <;> simp [h]

theorem refuseRetention_of_pending (hr : s.pwr.retReq.isSome = true) (hm : s.pwr.mode ≠ .retention) :
    refuseRetention s = emitLocal 0xB00E 14 0 0 0 0 (modPwr (fun p => { p with retReq := none })
      (setRBit rPwrMode 4 (setRBits rPwrMode 1 0 (if s.pwr.mode = .quiet then 1 else 0) s))) := by
  have hc : (s.pwr.retReq.isSome && s.pwr.mode != .retention) = true := by simp [hr, hm]
  exact if_pos hc

/-- Two writes of one register are the last one, read after the first. -/
theorem regOnly_setRBit_setRBits (o hi lo v b : Nat) (s : State) :
    regOnly o (withField (reg s o) hi lo v ||| BitVec.ofNat 32 (2 ^ b)) s (setRBit o b (setRBits o hi lo v s)) := by
  obtain ⟨e, h⟩ := regOnly_setRBits o hi lo v s
  obtain ⟨e', h'⟩ := regOnly_setRBit o b (setRBits o hi lo v s)
  refine ⟨rfl, fun j => ?_⟩
  rw [h' j, h j, h o, if_pos rfl]
  by_cases hj : j = o
  · simp [hj]
  · simp [hj]

end

/-! ### Snapshots (R514, R515) -/

theorem length_chunksN {α : Type} {k : Nat} (hk : 0 < k) (n : Nat) (l : List α) (h : l.length ≤ n) :
    (chunksN k n l).length = ceilDiv l.length k := by
  induction n generalizing l with
  | zero =>
    have hl : l = [] := List.length_eq_zero_iff.1 (by omega)
    subst hl
    simp [chunksN, ceilDiv, Nat.div_eq_of_lt (Nat.sub_lt hk Nat.one_pos)]
  | succ n ih =>
    rw [chunksN]
    by_cases hl : l = []
    · subst hl
      simp [ceilDiv, Nat.div_eq_of_lt (Nat.sub_lt hk Nat.one_pos)]
    · have hpos : 0 < l.length := List.length_pos_of_ne_nil hl
      have hd : (l.drop k).length ≤ n := by
        rw [List.length_drop]
        omega
      rw [if_neg (by simpa using hl), List.length_cons, ih _ hd, List.length_drop, ceilDiv, ceilDiv]
      by_cases hkl : l.length ≤ k
      · have h1 : l.length - k + k - 1 = k - 1 := by omega
        have h2 : l.length + k - 1 = (l.length - 1) + k := by omega
        rw [h1, h2, Nat.add_div_right _ hk, Nat.div_eq_of_lt (by omega), Nat.div_eq_of_lt (by omega)]
      · have h2 : l.length + k - 1 = (l.length - k + k - 1) + k := by omega
        rw [h2, Nat.add_div_right _ hk]

theorem length_chunks {α : Type} {k : Nat} (hk : 0 < k) (l : List α) : (chunks k l).length = ceilDiv l.length k :=
  length_chunksN hk l.length l (Nat.le_refl _)

/-- The continuations of a snapshot on request (R514). -/
def snapTail (s : State) : List (List Word32) :=
  snapConts 224 (reg s rCbdSnapBase).toNat
    (chunks 6 (snapWords s (reg s rCbdSnapBase).toNat (rbits s rCbdSnapCtl 6 0)))

theorem length_snapTail (s : State) : (snapTail s).length = ceilDiv (rbits s rCbdSnapCtl 6 0) 6 := by
  rw [snapTail, snapConts, List.length_map, List.length_range, length_chunks (by decide), snapWords, List.length_map,
    List.length_range]

theorem takeSnapshot_eq (s : State) : takeSnapshot s =
    (recWords ⟨0x0005, 224, 5, s.proc.cueNow, s.time.tb0, w32 (reg s rCbdSnapBase).toNat, w32 (rbits s rCbdSnapCtl 6 0),
      0, w32 (snapTail s).length⟩ :: snapTail s).foldl (fun u x => emitWords 224 x u) s := rfl

/-! ### The resets (R572, R573) -/

section
variable {s : State}

theorem reg_keepDomain (m : Power) (o : Nat) :
    reg (keepDomain m s) o = if 0x200000 ≤ o then reg s o else regReset o := by
  have h := smGet_filter (regReset o) s.regs (fun k => decide (0x200000 ≤ k)) o
  simp only [decide_eq_true_eq] at h
  exact h

/-- What a boot restart leaves before its record. -/
def bootKept (s : State) : State :=
  { keepDomain .startup s with
    regs := s.regs.filter fun x => !bootReaches x.1
    ports := s.ports
    time := { s.time with ptp := {}, mains := {} }
    wings := s.wings
    wire0 := s.wire0
    wire1 := s.wire1
    pwr := { (keepDomain .startup s).pwr with
      cause := 8, hot := s.pwr.hot, warned := s.pwr.warned, feid := s.pwr.feid
      eth0Up := s.pwr.eth0Up, eth1Up := s.pwr.eth1Up, speed0 := s.pwr.speed0
      clocks := s.pwr.clocks } }

theorem bootRestart_of_powered (h : isPowered s = true) :
    bootRestart s = emitLocal 0xB001 13 8 s.pwr.count 0 0 (bootKept s) := if_pos h

theorem bootRestart_of_unpowered (h : isPowered s = false) : bootRestart s = s := if_neg (by simp [h])

theorem systemReset_of_unpowered (h : isPowered s = false) (n : Nat) : systemReset n s = s := if_neg (by simp [h])

theorem reg_bootKept (o : Nat) : reg (bootKept s) o = if bootReaches o then regReset o else reg s o := by
  have h := smGet_filter (regReset o) s.regs (fun k => !bootReaches k) o
  cases hb : bootReaches o
  · rw [hb] at h
    exact h
  · rw [hb] at h
    exact h

theorem exec_vioFault_of_powered (h : isPowered s = true) (b : Bool) : exec (.vioFault b) s =
    .next (emitLocal 0xB00F 14 0 0 0 0 (setRBit rPwrSupply 4 (modPwr (fun p => { p with
      vioStuck := p.vioStuck || (s.pwr.mode == .startup && !s.pwr.rom) }) s))) := congrArg Host.Outcome.next (if_pos h)

end

/-- Settles O22: a restart by what is pending, and each reset by what `keepDomain` and the boot restart keep. -/
theorem restartsAndResets : Obligations.RestartsAndResets := by
  unfold Obligations.RestartsAndResets
  refine ⟨?_, ?_, ?_, ?_, ?_, ?_, ?_, ?_, ?_, ?_, ?_, ?_, ?_, ?_, ?_, ?_⟩
  · intro s hp hr h
    rw [exec_restart, restartNext_of_free hp hr, refuseRetention_of_none h]
    rfl
  · intro s hp hr h hm
    refine ⟨_, _, regOnly_setRBit_setRBits rPwrMode 1 0 _ 4 s, rfl, ?_⟩
    rw [exec_restart, restartNext_of_free hp hr, refuseRetention_of_pending h hm]
    rfl
  · exact fun s h => congrArg _ (restartNext_of_idle h)
  · exact fun s => rfl
  · exact fun s => rfl
  · exact fun s => rfl
  · exact fun s h => congrArg _ (if_pos h)
  · exact fun s h => congrArg _ (if_neg (by simp [h]))
  · intro s
    refine ⟨_, _, takeSnapshot_eq s, ?_, length_snapTail s⟩
    rw [w32, BitVec.ofNat_toNat, BitVec.setWidth_eq]
  · exact fun s => ⟨rfl, rfl, fun _ => rfl⟩
  · exact fun s n h => systemReset_record h
  · refine fun s => ⟨_, rfl, rfl, rfl, rfl, rfl, rfl, rfl, rfl, rfl, rfl, rfl, rfl, rfl, rfl, rfl, rfl,
      fun o h => ?_, fun o h => ?_⟩
    · rw [reg_keepDomain, if_neg (by omega)]
    · rw [reg_keepDomain, if_pos h]
  · refine fun s h => ⟨_, congrArg _ (bootRestart_of_powered h), rfl, rfl, rfl, rfl, rfl, fun o ho => ?_, fun o ho => ?_⟩
    · rw [reg_bootKept, ho, if_pos rfl]
    · rw [reg_bootKept, ho]
      rfl
  · exact fun s h => ⟨congrArg _ (bootRestart_of_unpowered h), congrArg _ (systemReset_of_unpowered h 2),
      congrArg _ (systemReset_of_unpowered h 3)⟩
  · exact fun s => rfl
  · exact fun b s h => ⟨_, exec_vioFault_of_powered h b, regOnly_setRBit rPwrSupply 4 _⟩

end Sys2Proof.Machine
end

section
/-! SUPPORT. The stage door (R396 to R398, R533), and the statement assembled from these. -/

namespace Sys2Proof.Machine

theorem exec_ident (s : State) : exec .ident s = .next (doorServe doorIdent s) := rfl

theorem exec_doorStatus (s : State) : exec .status s = .next (doorServe doorReadStatus s) := rfl

theorem exec_badCmd (b : Byte) (s : State) : exec (.badCmd b) s = .next (doorServe (fun u =>
    if [0x9F#8, 0x05#8, 0x0B#8, 0x02#8, 0x30#8, 0x31#8].contains b then u
    else modHif (fun h => { h with badCmd := true }) u) s) := rfl

theorem exec_doorRead (b : List Byte) (n : Nat) (s : State) : exec (.read b n) s = .next (doorServe (doorRead b n) s) := rfl

theorem exec_doorWrite (b : List Byte) (s : State) : exec (.write b) s = .next (doorServe (doorWrite b) s) := rfl

theorem exec_doorLoad (b : List Byte) (s : State) : exec (.load b) s = .next (doorServe (doorLoad b) s) := rfl

theorem exec_doorBoot (b : List Byte) (r : ImageIn) (s : State) :
    exec (.boot b r) s = .next (doorServe (doorBoot b r) s) := rfl

/-- The state as a transaction finds it: nothing returned yet. -/
def doorOpen (s : State) : State := { s with hif := { s.hif with miso := [] } }

section
variable {s : State}

theorem doorServe_of_down (h : pathUp .door s = false) (f : State → State) : doorServe f s = doorOpen s := by
  have h' : pathUp .door (modHif (fun x => { x with miso := [] }) s) = false := h
  simp only [doorServe, h, Bool.false_eq_true, if_false]
  rfl

theorem doorServe_of_up (h : pathUp .door s = true) (f : State → State) : doorServe f s = f (doorOpen s) := by
  simp only [doorServe, h, if_true]
  rfl

/-! ### READ (R397) -/

theorem readEffect_of_plain {p : Path} {o : Nat} (ht : o ≠ rTimTb0Lo) (hu : o ≠ rUndOffsetLo) : readEffect p o s = s :=
  (if_neg ht).trans (if_neg hu)

theorem doorRead_of_word {b : List Byte} (hb : 5 ≤ b.length) (ha : uAt b 0 4 % 4 = 0) (ht : uAt b 0 4 ≠ rTimTb0Lo)
    (hu : uAt b 0 4 ≠ rUndOffsetLo) : doorRead b 1 s = answer (le 4 (readReg .door s (uAt b 0 4)).toNat) s := by
  have hw : doorReadWord (s, []) (uAt b 0 4) = (s, le 4 (readReg .door s (uAt b 0 4)).toNat) := by
    simp only [doorReadWord, ha, ne_eq, not_true_eq_false, if_false, readEffect_of_plain ht hu, List.nil_append]
  have hl : ((List.range 1).map fun i => uAt b 0 4 + 4 * i) = [uAt b 0 4] := rfl
  rw [doorRead, if_neg (Nat.not_lt.2 hb)]
  simp only [hl, List.foldl_cons, List.foldl_nil, hw]

/-! ### WRITE (R397, R398) -/

theorem doorWrite_of_bad {b : List Byte} (h : b.length < 10 ∨ b.length % 4 ≠ 2 ∨ doorCrcOk 0x02 b = false) :
    doorWrite b s = doorCrcErr s := if_pos h

theorem words32_of_four {l : List Byte} (h : l.length = 4) : words32 l = [BitVec.ofNat 32 (leNat l)] := by
  obtain ⟨a, b, c, d, rfl⟩ := List.length_eq_four.1 h
  rfl

theorem doorWrite_of_word {b : List Byte} (hl : b.length = 10) (hc : doorCrcOk 0x02 b = true) :
    doorWrite b s = doorWriteReg (uAt b 0 4) (w32 (uAt b 4 4)) s := by
  have hn : ¬ (b.length < 10 ∨ b.length % 4 ≠ 2 ∨ doorCrcOk 0x02 b = false) := by
    rw [hc, hl]
    decide
  have hw : words32 ((b.drop 4).take (b.length - 6)) = [w32 (uAt b 4 4)] := by
    rw [words32_of_four (by simp [hl]), hl, uAt, slice,
      show (List.take 4 (List.drop 4 b)).length = 4 by simp [hl]]
    simp [w32]
  rw [doorWrite, if_neg hn]
  simp only [hw]
  rfl

theorem doorWriteReg_of_denied {o : Nat} (h : doorReaches o = false) (v : Word32) :
    doorWriteReg o v s = modHif (fun x => { x with denied := true }) s := by simp [doorWriteReg, h]

theorem doorWriteReg_wakeCue (v : Word32) : doorWriteReg rPwrWakeCue v s = setReg rPwrWakeCue v s :=
  writeReg_wakeCue .door v s

/-! ### LOAD and BOOT (R397, R533) -/

theorem doorLoad_of_running (h : s.hif.recovery = false) (b : List Byte) : doorLoad b s = doorDenied s := by
  simp [doorLoad, h]

theorem doorBoot_of_running (h : s.hif.recovery = false) (b : List Byte) (r : ImageIn) : doorBoot b r s = doorDenied s := by
  simp [doorBoot, h]

/-- The bytes of `l` put into the recovery window from offset `o`. -/
def windowPut (l : List Byte) (m : SMap Byte) (o : Nat) : SMap Byte :=
  (l.foldl (fun (a : SMap Byte × Nat) x => (if a.2 < 262144 then smSet 0 a.1 a.2 x else a.1, a.2 + 1)) (m, o)).1

theorem windowPut_cons (x : Byte) (l : List Byte) (m : SMap Byte) (o : Nat) :
    windowPut (x :: l) m o = windowPut l (if o < 262144 then smSet 0 m o x else m) (o + 1) := rfl

theorem smGet_windowPut (l : List Byte) (m : SMap Byte) (o a : Nat) (h : o + l.length ≤ 262144) :
    smGet 0 (windowPut l m o) a = if o ≤ a ∧ a < o + l.length then l.getD (a - o) 0 else smGet 0 m a := by
  induction l generalizing m o with
  | nil =>
    have hn : ¬ (o ≤ a ∧ a < o + ([] : List Byte).length) := by
      rw [List.length_nil]
      omega
    rw [if_neg hn]
    rfl
  | cons x l ih =>
    rw [List.length_cons] at h
    have ho : o < 262144 := by omega
    rw [windowPut_cons, if_pos ho, ih _ _ (by omega), List.length_cons]
    by_cases ha : a = o
    · subst ha
      have h1 : ¬ (a + 1 ≤ a ∧ a < a + 1 + l.length) := by omega
      have h2 : a ≤ a ∧ a < a + (l.length + 1) := by omega
      rw [if_neg h1, if_pos h2, smGet_set_same, Nat.sub_self, List.getD_cons_zero]
    · by_cases hi : o + 1 ≤ a ∧ a < o + 1 + l.length
      · have h2 : o ≤ a ∧ a < o + (l.length + 1) := by omega
        have h3 : a - o = (a - (o + 1)) + 1 := by omega
        rw [if_pos hi, if_pos h2, h3, List.getD_cons_succ]
      · have h2 : ¬ (o ≤ a ∧ a < o + (l.length + 1)) := by omega
        rw [if_neg hi, if_neg h2, smGet_set_other _ _ _ _ _ ha]

variable (hr : s.hif.recovery = true)
include hr

theorem doorLoad_of_good {b : List Byte} (hl : 6 ≤ b.length) (hc : doorCrcOk 0x30 b = true) : doorLoad b s =
    modHif (fun x => { x with window := windowPut ((b.drop 4).take (b.length - 6)) x.window (uAt b 0 4) }) s := by
  have hn : ¬ (b.length < 6 ∨ doorCrcOk 0x30 b = false) := by
    rw [hc]
    rintro (h | h)
    · omega
    · exact Bool.noConfusion h
  simp only [doorLoad, hr, Bool.not_true, Bool.false_eq_true, if_false, hn]
  rfl

variable {b : List Byte} {r : ImageIn} (hl : b.length = 2) (hc : doorCrcOk 0x31 b = true)
include hl hc

theorem doorBoot_of_good (h0 : imageReason s r = 0) : doorBoot b r s =
    modPwr (fun p => { p with recImage := true }) (modHif (fun h => { h with recovery := false }) (windowBoot r s)) := by
  have hn : ¬ (b.length ≠ 2 ∨ doorCrcOk 0x31 b = false) := by
    rw [hc, hl]
    decide
  simp only [doorBoot, hr, Bool.not_true, Bool.false_eq_true, if_false, hn, h0, ne_eq, not_true_eq_false]

theorem doorBoot_of_bad (h0 : imageReason s r ≠ 0) : doorBoot b r s = doorDenied (windowBoot r s) := by
  have hn : ¬ (b.length ≠ 2 ∨ doorCrcOk 0x31 b = false) := by
    rw [hc, hl]
    decide
  simp only [doorBoot, hr, Bool.not_true, Bool.false_eq_true, if_false, hn, h0, ne_eq, not_false_eq_true, if_true]

end

theorem pwr_windowBoot (r : ImageIn) (s : State) : (windowBoot r s).pwr = s.pwr := emitLocal_pwr ..

theorem recovery_windowBoot (r : ImageIn) (s : State) : (windowBoot r s).hif.recovery = s.hif.recovery := by
  obtain ⟨b, g, m, e, p, d, h, n, w, hw⟩ :=
    recordOnly_emitLocal 0x8007 bootSource (imageReason s r) r.keySlot r.secVersion 2 s
  have e : windowBoot r s = _ := hw
  rw [e]
  rfl

theorem getD_take_drop (b : List Byte) {n i : Nat} (h : i < n) : ((b.drop 4).take n).getD i 0 = b.getD (4 + i) 0 := by
  simp [List.getD_eq_getElem?_getD, h, List.getElem?_drop]

/-- Settles O23: a dead port returns nothing; each transaction of a live one by its checks. -/
theorem stageDoor : Obligations.StageDoor := by
  unfold Obligations.StageDoor
  refine ⟨?_, ?_, ?_, ?_, ?_, ?_, ?_, ?_, ?_, ?_, ?_, ?_, ?_⟩
  · intro s h i hi
    rcases List.mem_pair.1 hi with rfl | rfl
    · exact ⟨_, (exec_ident s).trans (congrArg _ (doorServe_of_down h _)), rfl⟩
    · exact ⟨_, (exec_doorStatus s).trans (congrArg _ (doorServe_of_down h _)), rfl⟩
  · intro b n w r s h i hi
    simp only [List.mem_cons, List.not_mem_nil, or_false] at hi
    rcases hi with rfl | rfl | rfl | rfl | rfl <;> exact congrArg _ (doorServe_of_down h _)
  · exact fun s h => congrArg _ (doorServe_of_up h _)
  · exact fun s h => congrArg _ (doorServe_of_up h _)
  · intro b s h hb
    rw [exec_badCmd, doorServe_of_up h, if_neg (by simpa using hb)]
    rfl
  · intro b s h hb ha ht hu
    exact congrArg _ ((doorServe_of_up h _).trans (doorRead_of_word hb ha ht hu))
  · exact fun b s h hb => congrArg _ ((doorServe_of_up h _).trans (doorWrite_of_bad hb))
  · exact fun b s h hl hc hd => congrArg _ (((doorServe_of_up h _).trans (doorWrite_of_word hl hc)).trans
      (doorWriteReg_of_denied hd _))
  · intro b s h hl hc ho
    refine ⟨_, (exec_doorWrite b s).trans (congrArg _ ((doorServe_of_up h _).trans (doorWrite_of_word hl hc))), ?_⟩
    rw [ho, doorWriteReg_wakeCue]
    exact regOnly_setReg _ _ _
  · intro b r s h hr i hi
    rcases List.mem_pair.1 hi with rfl | rfl
    · exact congrArg _ ((doorServe_of_up h _).trans (doorLoad_of_running (s := doorOpen s) hr b))
    · exact congrArg _ ((doorServe_of_up h _).trans (doorBoot_of_running (s := doorOpen s) hr b r))
  · intro b s h hr hl hc hw
    refine ⟨_, (exec_doorLoad b s).trans (congrArg _ ((doorServe_of_up h _).trans
      (doorLoad_of_good (s := doorOpen s) hr hl hc))), rfl, fun a => ?_⟩
    have hlen : ((b.drop 4).take (b.length - 6)).length = b.length - 6 := by
      rw [List.length_take, List.length_drop]
      omega
    have hget := smGet_windowPut ((b.drop 4).take (b.length - 6)) s.hif.window (uAt b 0 4) a (by rw [hlen]; exact hw)
    rw [hlen] at hget
    refine hget.trans ?_
    by_cases hin : uAt b 0 4 ≤ a ∧ a < uAt b 0 4 + (b.length - 6)
    · rw [if_pos hin, if_pos hin, getD_take_drop b (by omega)]
    · rw [if_neg hin, if_neg hin]
  · intro b r s h hr hl hc h0
    refine ⟨_, (exec_doorBoot b r s).trans (congrArg _ ((doorServe_of_up h _).trans
      (doorBoot_of_good (s := doorOpen s) hr hl hc h0))), ?_, rfl⟩
    exact congrArg (fun p : Pwr => { p with recImage := true }) (pwr_windowBoot r (doorOpen s))
  · intro b r s h hr hl hc h0
    exact ⟨_, (exec_doorBoot b r s).trans (congrArg _ ((doorServe_of_up h _).trans
      (doorBoot_of_bad (s := doorOpen s) hr hl hc h0))), pwr_windowBoot r (doorOpen s),
      (recovery_windowBoot r (doorOpen s)).trans hr, rfl⟩

end Sys2Proof.Machine
end

section
/-! SUPPORT. Programming ROOT, the debug lock and the TRNG's tests (R425, R437, R441, R464), and the statement assembled
from these. -/

namespace Sys2Proof.Machine

section
variable {s : State}

theorem exec_rootProgram (s : State) : exec .rootProgram s = .next (programRoot s) := rfl

theorem exec_newChal (d : List Byte) (s : State) : exec (.newChal d) s = .next (newChallenge d s) := rfl

theorem exec_unlock (s : State) : exec .unlock s = .next (tryUnlock s) := rfl

theorem exec_trngRestartEnd (pass : Bool) (s : State) : exec (.trngRestartEnd pass) s = .next (endTrngTest pass s) := rfl

/-! ### PROGRAM (R437) -/

theorem programRoot_of_fused (h : s.sec.fuses.root.isSome = true) : programRoot s = rootRefused 0 s := if_pos h

theorem programRoot_of_running (h : s.sec.fuses.root = none) (hp : s.proc.processing = true) :
    programRoot s = rootRefused 1 s := (if_neg (by simp [h])).trans (if_pos hp)

theorem programRoot_of_stopped (h : s.sec.fuses.root = none) (hp : s.proc.processing = false) : programRoot s =
    modSec (fun x => { x with fuses := { x.fuses with root := some (rootOctets s) }, fusing := true }) s :=
  (if_neg (by simp [h])).trans (if_neg (by simp [hp]))

/-! ### The debug lock (R464) -/

theorem take_padTo_of_length {n : Nat} {l : List Byte} (h : l.length = n) : (padTo n l).take n = l := by
  rw [padTo, h, Nat.sub_self, List.replicate_zero, List.append_nil, ← h, List.take_length]

theorem newChallenge_of_stopped {d : List Byte} (hp : s.proc.processing = false) (hd : d.length = 32) :
    newChallenge d s = modSec (fun x => { x with chal := d, chalUsed := false }) s := by
  simp only [newChallenge, hp, Bool.false_eq_true, if_false, take_padTo_of_length hd]

theorem newChallenge_of_running {d : List Byte} (hp : s.proc.processing = true) :
    newChallenge d s = debugAttempt false s := if_pos hp

theorem tryUnlock_of_ok (h : unlockOk s = true) : tryUnlock s = emitLocal 0x8008 195 0 s.sec.fuses.dbg.toNat 0 0
    (modSec (fun x => { x with chalUsed := true, jtag := true }) s) := by
  simp [tryUnlock, h, debugAttempt, modSec]

theorem tryUnlock_of_bad (h : unlockOk s = false) : tryUnlock s = emitLocal 0x8008 195 1 s.sec.fuses.dbg.toNat 0 0
    (modSec (fun x => { x with chalUsed := true, dbgRef := true }) s) := by
  simp [tryUnlock, h, debugAttempt, modSec]

theorem unlockOk_of_barred (h : s.proc.processing = true ∨ s.sec.fuses.dbg ≠ 1 ∨ s.sec.chalUsed = true) :
    unlockOk s = false := by
  rw [unlockOk]
  rcases h with h | h | h
  · simp [h]
  · have hb : (s.sec.fuses.dbg == 1) = false := beq_eq_false_iff_ne.2 h
    simp only [hb, Bool.and_false, Bool.false_and]
  · simp [h]

/-! ### The restart test of the TRNG (R425, R441) -/

theorem endTrngTest_of_none (h : s.sec.trngTest = false) (pass : Bool) : endTrngTest pass s = s := by simp [endTrngTest, h]

theorem endTrngTest_of_pass (h : s.sec.trngTest = true) : endTrngTest true s =
    testOutcome 5 0 true 0 (modSec (fun x => { x with trngTest := false, trngOk := true }) s) := by
  simp [endTrngTest, h]

@[simp] theorem testOutcome_proc (cls ix : Nat) (pass : Bool) (n : Nat) (s : State) :
    (testOutcome cls ix pass n s).proc = s.proc := by
  have hf : ∀ u : State, (forceSwap u).proc = u.proc := by
    intro u
    unfold forceSwap
    split <;> rfl
  cases pass
  · rw [testOutcome, if_neg Bool.false_ne_true, hf, emitLocal_proc]
    rfl
  · rw [testOutcome, if_pos rfl, emitLocal_proc]
    rfl

theorem endTrngTest_of_fail (h : s.sec.trngTest = true) (hp : s.proc.processing = false) : endTrngTest false s =
    modWings (fun w => { w with lasting := true })
      (testOutcome 5 0 false 1 (modSec (fun x => { x with trngTest := false, trngOk := false }) s)) := by
  have e : endTrngTest false s = if (modWings (fun w => { w with lasting := true }) (testOutcome 5 0 false 1
      (modSec (fun x => { x with trngTest := false, trngOk := false }) s))).pair.role = 1 then _ else restartNext 6 _ :=
    if_neg (by simp [h])
  rw [e, restartNext_of_idle]
  · split <;> rfl
  · exact .inl ((congrArg Proc.processing (testOutcome_proc ..)).trans hp)

end

/-- Settles O26: PROGRAM by the fuse and processing, UNLOCK by its checks, the restart test by its outcome. -/
theorem fusesDebugAndRandomness : Obligations.FusesDebugAndRandomness := by
  unfold Obligations.FusesDebugAndRandomness
  refine ⟨?_, ?_, ?_, ?_, ?_, ?_, ?_, ?_, ?_, ?_, ?_, ?_, ?_, ?_⟩
  · exact fun s h hp => (exec_rootProgram s).trans (congrArg _ (programRoot_of_stopped h hp))
  · exact fun s h => (exec_rootProgram s).trans (congrArg _ (programRoot_of_fused h))
  · exact fun s h hp => (exec_rootProgram s).trans (congrArg _ (programRoot_of_running h hp))
  · exact fun s h => congrArg _ (if_pos h)
  · exact fun s h => congrArg _ (if_neg (by simp [h]))
  · exact fun d s hp hd => (exec_newChal d s).trans (congrArg _ (newChallenge_of_stopped hp hd))
  · exact fun d s hp => (exec_newChal d s).trans (congrArg _ (newChallenge_of_running hp))
  · exact fun s h => (exec_unlock s).trans (congrArg _ (tryUnlock_of_ok h))
  · exact fun s h => (exec_unlock s).trans (congrArg _ (tryUnlock_of_bad h))
  · exact fun s h => unlockOk_of_barred h
  · exact fun n s => rfl
  · exact fun b s h => (exec_trngRestartEnd b s).trans (congrArg _ (endTrngTest_of_none h b))
  · exact fun s h => (exec_trngRestartEnd true s).trans (congrArg _ (endTrngTest_of_pass h))
  · exact fun s h hp => ⟨_, rfl, (exec_trngRestartEnd false s).trans (congrArg _ (endTrngTest_of_fail h hp))⟩

end Sys2Proof.Machine
end

section
/-! SUPPORT. What no function of the model breaks (`Kept`): the rules for its shared operations. Each rule of this
layer says that a state reached from `a` within `Kept` is so still after one function more. So a function keeps what
its callees keep, and only the fuse operations and the writes of host memory need an argument of their own. -/

namespace Sys2Proof.Machine

/-! ### The relation -/

theorem fusesGrow_refl (f : Fuses) : fusesGrow f f := ⟨.inr rfl, Nat.le_refl _, by simp, rfl, rfl, rfl, rfl, rfl, rfl⟩

theorem fusesGrow.trans {f g h : Fuses} (hfg : fusesGrow f g) (hgh : fusesGrow g h) : fusesGrow f h := by
  obtain ⟨hr, hv, hk, e1, e2, e3, e4, e5, e6⟩ := hfg
  obtain ⟨hr', hv', hk', e1', e2', e3', e4', e5', e6'⟩ := hgh
  refine ⟨?_, hv.trans hv', ?_, e1'.trans e1, e2'.trans e2, e3'.trans e3, e4'.trans e4, e5'.trans e5, e6'.trans e6⟩
  · rcases hr with hr | hr
    · exact .inl hr
    · rw [← hr]
      exact hr'
  · rw [← hk', ← hk, ← BitVec.or_assoc, ← BitVec.or_assoc, BitVec.or_self]

theorem kept_refl (a : State) : Kept a a := ⟨rfl, fusesGrow_refl _, id⟩

section
variable {a s t : State} (h : Kept a s)
include h

/-- The three parts that `Kept` speaks of decide it. -/
theorem kept_of_same (hp : t.pending = s.pending) (hf : t.sec.fuses = s.sec.fuses)
    (hm : t.hif.hostMem = s.hif.hostMem) : Kept a t := by
  obtain ⟨h1, h2, h3⟩ := h
  refine ⟨hp.trans h1, ?_, fun ha => ?_⟩
  · rw [hf]
    exact h2
  · rw [memWf, hm]
    exact h3 ha

theorem kept_of_fuses (hp : t.pending = s.pending) (hf : fusesGrow s.sec.fuses t.sec.fuses)
    (hm : t.hif.hostMem = s.hif.hostMem) : Kept a t := by
  obtain ⟨h1, h2, h3⟩ := h
  refine ⟨hp.trans h1, h2.trans hf, fun ha => ?_⟩
  rw [memWf, hm]
  exact h3 ha

omit h in
theorem kept_ite {c : Prop} [Decidable c] {u : State} (h1 : Kept a t) (h2 : Kept a u) :
    Kept a (if c then t else u) := by
  split
  · exact h1
  · exact h2

omit h in
theorem kept_foldl {β : Type} {f : State → β → State} (hf : ∀ u x, Kept a u → Kept a (f u x)) (l : List β)
    (h : Kept a s) : Kept a (l.foldl f s) := by
  induction l generalizing s with
  | nil => exact h
  | cons x xs ih => exact ih (hf s x h)

/-! ### Parts of the state -/

theorem kept_setReg (o : Nat) (v : Word32) : Kept a (setReg o v s) := kept_of_same h rfl rfl rfl

theorem kept_setRBits (o hi lo v : Nat) : Kept a (setRBits o hi lo v s) := kept_of_same h rfl rfl rfl

theorem kept_setRBit (o n : Nat) : Kept a (setRBit o n s) := kept_of_same h rfl rfl rfl

theorem kept_countReg (o n : Nat) : Kept a (countReg o n s) := kept_of_same h rfl rfl rfl

theorem kept_modEng (e : Nat) (f : Eng → Eng) : Kept a (modEng e f s) := kept_of_same h rfl rfl rfl

theorem kept_modPort (p : Nat) (f : Port → Port) : Kept a (modPort p f s) := kept_of_same h rfl rfl rfl

theorem kept_modLine (n : Nat) (f : Line → Line) : Kept a (modLine n f s) := kept_of_same h rfl rfl rfl

theorem kept_modDet (n d : Nat) (f : Det → Det) : Kept a (modDet n d f s) := kept_of_same h rfl rfl rfl

theorem kept_modTx (c : Chain) (f : Tx → Tx) : Kept a (modTx c f s) := by
  cases c <;> exact kept_of_same h rfl rfl rfl

theorem kept_modNode (i : Nat) (f : Node → Node) : Kept a (modNode i f s) := kept_of_same h rfl rfl rfl

theorem kept_modMesh (f : Mesh → Mesh) : Kept a (modMesh f s) := kept_of_same h rfl rfl rfl

theorem kept_modProc (f : Proc → Proc) : Kept a (modProc f s) := kept_of_same h rfl rfl rfl

theorem kept_modTime (f : Time → Time) : Kept a (modTime f s) := kept_of_same h rfl rfl rfl

theorem kept_modPtp (f : PtpC → PtpC) : Kept a (modPtp f s) := kept_of_same h rfl rfl rfl

theorem kept_modWings (f : Wings → Wings) : Kept a (modWings f s) := kept_of_same h rfl rfl rfl

theorem kept_modPair (f : Pair → Pair) : Kept a (modPair f s) := kept_of_same h rfl rfl rfl

theorem kept_modBoard (f : Board → Board) : Kept a (modBoard f s) := kept_of_same h rfl rfl rfl

theorem kept_modUpd (f : Upd → Upd) : Kept a (modUpd f s) := kept_of_same h rfl rfl rfl

theorem kept_modPwr (f : Pwr → Pwr) : Kept a (modPwr f s) := kept_of_same h rfl rfl rfl

theorem kept_modPin (i : Nat) (f : Pin → Pin) : Kept a (modPin i f s) := kept_of_same h rfl rfl rfl

theorem kept_modSq (q : Nat) (f : Sq → Sq) : Kept a (modSq q f s) := kept_of_same h rfl rfl rfl

theorem kept_modCq (c : Nat) (f : Cq → Cq) : Kept a (modCq c f s) := kept_of_same h rfl rfl rfl

theorem kept_modHwq (q : Nat) (f : Hwq → Hwq) : Kept a (modHwq q f s) := kept_of_same h rfl rfl rfl

/-- A change of the host interface that leaves host memory alone. -/
theorem kept_modHif {f : Hif → Hif} (hf : ∀ x, (f x).hostMem = x.hostMem) : Kept a (modHif f s) :=
  kept_of_same h rfl rfl (hf _)

/-- A change of the Box Office that leaves the fuses alone. -/
theorem kept_modSec {f : Sec → Sec} (hf : ∀ x, (f x).fuses = x.fuses) : Kept a (modSec f s) :=
  kept_of_same h rfl (hf _) rfl

theorem kept_cfgs (x : SMap Cfg) : Kept a { s with cfgs := x } := kept_of_same h rfl rfl rfl

theorem kept_lines (x : SMap Line) : Kept a { s with lines := x } := kept_of_same h rfl rfl rfl

theorem kept_wire0 (x : List (List Byte)) : Kept a { s with wire0 := x } := kept_of_same h rfl rfl rfl

theorem kept_wire1 (x : List PairFrame) : Kept a { s with wire1 := x } := kept_of_same h rfl rfl rfl

theorem kept_fresh : Kept a (fresh s).2 := kept_of_same h rfl rfl rfl

theorem kept_atTime (x : Stamp) : Kept a (atTime x s) := kept_ite (kept_of_same h rfl rfl rfl) h

omit h in
theorem keptO_next (ht : Kept a t) : KeptO a (.next t) := fun _ e => Host.Outcome.next.inj e ▸ ht

omit h in
theorem keptO_fault (f : Fault) : KeptO a (.fault f) := by
  intro u e
  simp at e

/-- The effect of a command's row keeps what every step keeps. -/
def ActKept (a : State) (k : CmdSpec) : Prop := ∀ ⦃s : State⦄, Kept a s → ∀ (e : Nat) (c : Sub), Kept a (k.act e c s)

/-! ### Host memory and interrupts -/

theorem kept_hostWrite (n : Nat) (l : List Byte) : Kept a (hostWrite n l s) := by
  obtain ⟨h1, h2, h3⟩ := h
  exact ⟨h1, h2, fun ha => memWf_hostWrite n l (h3 ha)⟩

theorem kept_vecSend (v : Nat) : Kept a (vecSend v s) := kept_of_same h rfl rfl rfl

theorem kept_vecSignal (v : Nat) : Kept a (vecSignal v s) := by
  unfold vecSignal
  apply_rules [kept_ite, kept_vecSend, kept_modHif]

theorem kept_vecSignals (l : List Nat) : Kept a (vecSignals l s) := kept_foldl (fun _ v hu => kept_vecSignal hu v) _ h

end

end Sys2Proof.Machine
end

section
/-! SUPPORT. What no function of the model breaks (`Kept`): the shared operations, host commands and the
host interface. -/

namespace Sys2Proof.Machine

section
variable {s₀ s : State} (hk : Kept s₀ s)
include hk

/-! ### Model section `Ops` -/

theorem kept_evPut (l : List Word32) : Kept s₀ (evPut l s) := by grind [evPut, kept_hostWrite, kept_modHif]

theorem kept_evWrite (src : Nat) (l : List Word32) : Kept s₀ (evWrite src l s) := by
  grind [evWrite, kept_evPut, kept_countReg, kept_modHif]

theorem kept_evWriteback : Kept s₀ (evWriteback s) := by grind [evWriteback, kept_hostWrite]

theorem kept_evBatch (src : Nat) : Kept s₀ (evBatch src s) := by grind [evBatch, kept_vecSignal, kept_evWriteback]

theorem kept_emitWords (src : Nat) (l : List Word32) : Kept s₀ (emitWords src l s) := by
  grind [emitWords, kept_evBatch, kept_evWrite, kept_modBoard]

theorem kept_emitLocalAt (t : Stamp) (code src p1 p2 p3 p4 : Nat) :
    Kept s₀ (emitLocalAt t code src p1 p2 p3 p4 s) := by
  grind [emitLocalAt, kept_emitWords]

theorem kept_emitLocal (code src p1 p2 p3 p4 : Nat) : Kept s₀ (emitLocal code src p1 p2 p3 p4 s) := by
  grind [emitLocal, kept_emitLocalAt]

theorem kept_evLost : Kept s₀ (evLost s) := by grind [evLost, kept_emitLocal, kept_modHif]

theorem kept_out (e : Nat) (o : Out) : Kept s₀ (out e o s) := by grind [out, kept_modProc]

theorem kept_emitFlagged (e flags : Nat) (t : Stamp) (code p1 p2 p3 p4 : Nat) :
    Kept s₀ (emitFlagged e flags t code p1 p2 p3 p4 s) := by
  grind [emitFlagged, kept_out]

theorem kept_emit (e code p1 p2 p3 p4 : Nat) : Kept s₀ (emit e code p1 p2 p3 p4 s) := by
  grind [emit, kept_emitFlagged]

theorem kept_finish (e op status : Nat) (c : Sub) (result : List Byte) (data : List Byte) :
    Kept s₀ (finish e op status c result data s) := by
  grind [finish, kept_out]

theorem kept_done (e op status : Nat) (c : Sub) : Kept s₀ (done e op status c s) := by grind [done, kept_finish]

theorem kept_post (e receiver : Nat) (it : Item) (packet : Bool) : Kept s₀ (post e receiver it packet s) := by
  grind [post, kept_out, kept_countReg, kept_modEng, kept_modProc]

theorem kept_outEth0 (e : Nat) (frame : List Byte) : Kept s₀ (outEth0 e frame s) := by grind [outEth0, kept_out]

theorem kept_takeSeq (cls src : Nat) : Kept s₀ (takeSeq cls src s).2 := by grind [takeSeq, kept_modProc]

theorem kept_input (cls src : Nat) (body : List Byte) (it : Item) : Kept s₀ (input cls src body it s) := by
  grind [input, kept_takeSeq, kept_modProc]

theorem kept_defer (e : Nat) (it : Item) : Kept s₀ (defer e it s) := by grind [defer, kept_modEng]

theorem kept_charge (e cost : Nat) : Kept s₀ (charge e cost s) := by grind [charge, kept_modEng]

theorem kept_takeItem (e cost : Nat) (it : Item) (eff : State → State) (heff : ∀ u, Kept s₀ u → Kept s₀ (eff u)) :
    Kept s₀ (takeItem e cost it eff s) := by
  grind [takeItem, kept_defer, kept_charge]

/-! ### Model section `HostCmd` -/

theorem kept_settle (c : Sub) : Kept s₀ (settle c s) := by grind [settle, kept_modCq, kept_modHif]

theorem kept_completeWrite (c : Sub) (status : Nat) (result data : List Byte) (cue : CueNo) (aside : Bool) :
    Kept s₀ (completeWrite c status result data cue aside s) := by
  grind [completeWrite, kept_hostWrite, kept_modCq, kept_countReg, kept_settle]

theorem kept_completeAside (c : Sub) (status : Nat) (result data : List Byte) :
    Kept s₀ (completeAside c status result data s) := by
  grind [completeAside, kept_completeWrite, kept_vecSignal]

theorem kept_reply (e op status : Nat) (c : Sub) (result data : List Byte) :
    Kept s₀ (reply e op status c result data s) := by
  grind [reply, kept_completeAside, kept_finish]

theorem kept_replySt (e op status : Nat) (c : Sub) : Kept s₀ (replySt e op status c s) := by
  grind [replySt, kept_reply]

theorem kept_wrongRecord (e op : Nat) (c : Sub) : Kept s₀ (wrongRecord e op c s) := by
  grind [wrongRecord, kept_emitLocal, kept_emit]

theorem kept_refuse (e op status : Nat) (c : Sub) : Kept s₀ (refuse e op status c s) := by
  grind [refuse, kept_wrongRecord, kept_replySt]

theorem kept_mapSubs (f : Sub → Sub) : Kept s₀ (mapSubs f s) := kept_of_same hk rfl rfl rfl

theorem kept_accepted (k : CmdSpec) (ha : ActKept s₀ k) (e : Nat) (c : Sub) : Kept s₀ (accepted k e c s) := by
  unfold accepted
  split
  · exact kept_refuse hk ..
  · exact kept_ite (kept_modProc hk _) (ha hk e c)

theorem kept_tagNote (c : Sub) : Kept s₀ (tagNote c s) := by grind [tagNote, kept_modPair]

theorem kept_handle (k : CmdSpec) (ha : ActKept s₀ k) (e : Nat) (c : Sub) : Kept s₀ (handle k e c s) := by
  grind [handle, kept_refuse, kept_accepted, kept_finish, kept_mapSubs]

theorem kept_runCmd (k : CmdSpec) (ha : ActKept s₀ k) (it : Item) (c : Sub) : Kept s₀ (runCmd k it c s) :=
  kept_ite (kept_handle hk k ha ..) (kept_takeItem hk _ _ _ _ fun _ hu => kept_handle hu k ha ..)

theorem kept_runHeld (k : CmdSpec) (ha : ActKept s₀ k) (c : Sub) : Kept s₀ (runHeld k c s) := by
  unfold runHeld
  dsimp only
  split
  · exact kept_refuse hk ..
  · split
    · exact kept_refuse hk ..
    · exact ha hk ..

omit hk in
theorem actKept_cmdNop (s₀ : State) : ActKept s₀ cmdNop := fun _ hk _ _ => kept_replySt hk ..

omit hk in
theorem actKept_cmdReserved (s₀ : State) (op : Nat) : ActKept s₀ (cmdReserved op) :=
  fun _ hk _ _ => kept_replySt hk ..

theorem keptO_execNop (c : Sub) : KeptO s₀ (execNop c s) := by
  grind [execNop, kept_runCmd, actKept_cmdNop, keptO_next]

theorem keptO_execReservedOpcode (op : BitVec 16) (c : Sub) : KeptO s₀ (execReservedOpcode op c s) := by
  grind [execReservedOpcode, kept_runCmd, actKept_cmdReserved, keptO_next]

omit hk in
theorem actKept_cmdRxPost (s₀ : State) : ActKept s₀ cmdRxPost := fun _ hk _ _ => kept_modCq hk ..

theorem keptO_execRxPost (c : Sub) : KeptO s₀ (execRxPost c s) := by
  grind [execRxPost, kept_runCmd, actKept_cmdRxPost, keptO_next]

/-! ### Model section `SelfTest` -/

theorem kept_countFault (pass : Bool) : Kept s₀ (countFault pass s) := by grind [countFault, kept_setRBits]

theorem kept_forceSwap : Kept s₀ (forceSwap s) := by grind [forceSwap, kept_modPair]

theorem kept_testOutcome (cls ix : Nat) (pass : Bool) (fails : Nat) : Kept s₀ (testOutcome cls ix pass fails s) := by
  grind [testOutcome, kept_emitLocal, kept_countFault, kept_forceSwap]

/-! ### Model section `HostIf` -/

theorem kept_ringErrorRecord (k : RingKind) : Kept s₀ (ringErrorRecord k s) := by
  cases k <;> exact kept_emitLocal hk ..

theorem kept_ringError (k : RingKind) (q : Nat) : Kept s₀ (ringError k q s) := by
  refine kept_ringErrorRecord ?_ k
  cases k with
  | submission => exact kept_modSq hk ..
  | completion => exact kept_modCq hk ..
  | event => exact kept_modHif hk fun _ => rfl

theorem kept_dropFlight (q : Nat) : Kept s₀ (dropFlight q s) := by grind [dropFlight, kept_modCq, kept_modSq]

theorem kept_enableRing (k : RingKind) (q : Nat) : Kept s₀ (enableRing k q s) := by
  grind [enableRing, kept_setRBit, kept_modSq, kept_modCq, kept_evLost, kept_modHif]

theorem kept_disableRing (k : RingKind) (q : Nat) : Kept s₀ (disableRing k q s) := by
  cases k with
  | submission => exact kept_dropFlight (kept_setRBits hk ..) q
  | completion => exact kept_setRBits hk ..
  | event => exact kept_setRBits hk ..

theorem keptO_execRingEnable (k : RingKind) (q : Fin 64) : KeptO s₀ (execRingEnable k q s) := by
  grind [execRingEnable, kept_enableRing, keptO_next]

theorem keptO_execRingDisable (k : RingKind) (q : Fin 64) : KeptO s₀ (execRingDisable k q s) := by
  grind [execRingDisable, kept_disableRing, keptO_next]

theorem kept_doorbellOff : Kept s₀ (doorbellOff s) := by grind [doorbellOff, kept_setRBit]

theorem kept_ringTail (q v : Nat) : Kept s₀ (ringTail q v s) := by
  grind [ringTail, kept_modSq, kept_doorbellOff, kept_ringError]

theorem kept_ringHead (c v : Nat) : Kept s₀ (ringHead c v s) := by
  grind [ringHead, kept_modCq, kept_doorbellOff, kept_ringError]

theorem kept_eventHead (v : Nat) : Kept s₀ (eventHead v s) := by
  have h1 := kept_modHif (f := fun h => { h with evr := { h.evr with bell := w32 v } }) hk fun _ => rfl
  exact kept_ite (kept_doorbellOff h1) (kept_ite (kept_ringError h1 ..) (kept_evLost (kept_modHif h1 fun _ => rfl)))

theorem keptO_execSubmissionDoorbell (q : Nat) (v : Nat) : KeptO s₀ (execSubmissionDoorbell q v s) := by
  grind [execSubmissionDoorbell, kept_ringTail, keptO_next]

theorem keptO_execCompletionDoorbell (c : Nat) (v : Nat) : KeptO s₀ (execCompletionDoorbell c v s) := by
  grind [execCompletionDoorbell, kept_ringHead, keptO_next]

theorem keptO_execEventDoorbell (v : Nat) : KeptO s₀ (execEventDoorbell v s) := by
  grind [execEventDoorbell, kept_eventHead, keptO_next]

theorem kept_startFetch (q : Nat) : Kept s₀ (startFetch q s) := by
  grind [startFetch, kept_modHif, kept_modCq, kept_modSq]

theorem keptO_execSubmissionFetch (q : Nat) : KeptO s₀ (execSubmissionFetch q s) := by
  grind [execSubmissionFetch, kept_startFetch, keptO_next, keptO_fault]

theorem kept_holdEnds (v : Nat) : Kept s₀ (holdEnds v s) := by grind [holdEnds, kept_modHif, kept_vecSignal]

theorem kept_maskVector (v : Nat) (masked : Bool) : Kept s₀ (maskVector v masked s) := by
  unfold maskVector
  apply_rules [kept_ite, kept_vecSignal, kept_modHif]

theorem keptO_execVectorHoldExpiry (e : HoldEnd) : KeptO s₀ (execVectorHoldExpiry e s) := by
  grind [execVectorHoldExpiry, kept_holdEnds, kept_atTime, keptO_next, keptO_fault]

theorem keptO_execMsixUnmask (v : Nat) : KeptO s₀ (execMsixUnmask v s) := by
  grind [execMsixUnmask, kept_maskVector, keptO_next, keptO_fault]

theorem kept_resetEndpoint : Kept s₀ (resetEndpoint s) := by
  rw [resetEndpoint_eq]
  exact kept_of_same hk rfl rfl rfl

theorem keptO_execEndpointReset : KeptO s₀ (execEndpointReset s) := by
  grind [execEndpointReset, kept_resetEndpoint, keptO_next]

theorem keptO_execBarAccessError (write : Bool) : KeptO s₀ (execBarAccessError write s) := by
  grind [execBarAccessError, kept_setRBit, keptO_next]

theorem keptO_execBar4Write (off : Nat) (v : Word32) : KeptO s₀ (execBar4Write off v s) := by
  grind [execBar4Write, kept_setRBit, keptO_next]

theorem kept_queueNotice (q : Nat) : Kept s₀ (queueNotice q s) := by grind [queueNotice, kept_emitLocal]

theorem kept_crossHigh (q a b : Nat) : Kept s₀ (crossHigh q a b s) := by
  grind [crossHigh, kept_modHwq, kept_queueNotice]

theorem kept_crossLow (q a b : Nat) : Kept s₀ (crossLow q a b s) := by grind [crossLow, kept_modHwq, kept_queueNotice]

theorem kept_hwqChange (q : Nat) (f : Hwq → Hwq) : Kept s₀ (hwqChange q f s) := by
  grind [hwqChange, kept_modHwq, kept_crossLow, kept_crossHigh]

theorem kept_ackNotices (q : Nat) (high low : Bool) : Kept s₀ (ackNotices q high low s) := by
  grind [ackNotices, kept_modHwq, kept_queueNotice]

theorem kept_askFlush (q : Nat) : Kept s₀ (askFlush q s) := by grind [askFlush, kept_modHwq]

theorem kept_flushNow (q : Nat) : Kept s₀ (flushNow q s) := by grind [flushNow, kept_hwqChange, kept_countReg]

theorem kept_resumeProducer (q : Nat) : Kept s₀ (resumeProducer q s) := by grind [resumeProducer, kept_modHwq]

theorem kept_storeQueue (q n : Nat) (v : Word64) : Kept s₀ (storeQueue q n v s) := by
  grind [storeQueue, kept_modWings]

theorem kept_rewindPacket (q : Nat) (more : Bool) : Kept s₀ (rewindPacket q more s) := by
  grind [rewindPacket, kept_countReg, kept_modHwq]

theorem kept_queueWord (q : Nat) (v : Word64) : Kept s₀ (queueWord q v s) := by
  grind [queueWord, kept_rewindPacket, kept_modHwq, kept_storeQueue]

theorem kept_queueCommit (q : Nat) (kind : BitVec 8) : Kept s₀ (queueCommit q kind s) := by
  grind [queueCommit, kept_modHwq, kept_countReg, kept_storeQueue, kept_hwqChange]

theorem kept_queueRewind (q : Nat) : Kept s₀ (queueRewind q s) := by
  grind [queueRewind, kept_modHwq, kept_rewindPacket]

theorem kept_queueRead (q n : Nat) : Kept s₀ (queueRead q n s) := by grind [queueRead, kept_hwqChange]

theorem kept_discardPacket (q : Nat) : Kept s₀ (discardPacket q s) := by
  grind [discardPacket, kept_countReg, kept_queueRead]

theorem kept_queueMismatch (q : Nat) : Kept s₀ (queueMismatch q s) := by
  grind [queueMismatch, kept_emitLocal, kept_hwqChange]

theorem kept_queueTested (q : Nat) (pass : Bool) : Kept s₀ (queueTested q pass s) := by
  grind [queueTested, kept_testOutcome, kept_modHwq]

theorem keptO_execNoticeAcknowledge (q : Fin 256) (high : Bool) (low : Bool) :
    KeptO s₀ (execNoticeAcknowledge q high low s) := by
  grind [execNoticeAcknowledge, kept_ackNotices, keptO_next]

theorem keptO_execQueueFlush (q : Fin 256) : KeptO s₀ (execQueueFlush q s) := by
  grind [execQueueFlush, kept_askFlush, keptO_next]

theorem keptO_execFlushEffect (q : Fin 256) : KeptO s₀ (execFlushEffect q s) := by
  grind [execFlushEffect, kept_flushNow, keptO_next]

theorem keptO_execProducerResume (q : Fin 256) : KeptO s₀ (execProducerResume q s) := by
  grind [execProducerResume, kept_resumeProducer, keptO_next]

theorem keptO_execQueuePointerMismatch (q : Fin 256) : KeptO s₀ (execQueuePointerMismatch q s) := by
  grind [execQueuePointerMismatch, kept_queueMismatch, keptO_next]

theorem keptO_execQueueTestEnd (q : Fin 256) (pass : Bool) : KeptO s₀ (execQueueTestEnd q pass s) := by
  grind [execQueueTestEnd, kept_queueTested, keptO_next]

end

end Sys2Proof.Machine
end

section
/-! SUPPORT. What no function of the model breaks (`Kept`): the transmit chains, the mesh engines, the time
bases and the pins. -/

namespace Sys2Proof.Machine

section
variable {s₀ s : State} (hk : Kept s₀ s)
include hk

/-! ### Model section `TxChain` -/

theorem kept_txEndInput (x : TxEnd) : Kept s₀ (txEndInput x s) := by grind [txEndInput, kept_modProc]

theorem kept_resultEvent (c : Chain) (result : Nat) : Kept s₀ (resultEvent c result s) := by
  grind [resultEvent, kept_setRBit]

theorem kept_decideNot (r : TxReq) (result : Nat) (flags : BitVec 8) (t : Stamp) :
    Kept s₀ (decideNot r result flags t s) := by
  grind [decideNot, kept_resultEvent, kept_txEndInput, kept_modTx]

theorem kept_decideNots (l : List TxReq) (result : Nat) (t : Stamp) : Kept s₀ (decideNots l result t s) := by
  grind [decideNots, kept_foldl, kept_decideNot]

theorem kept_numberReq (r : TxReq) : Kept s₀ (numberReq r s).2 := by grind [numberReq, kept_modTx]

theorem kept_ledgerRecord (c : Chain) (result : Nat) : Kept s₀ (ledgerRecord c result s) := by
  grind [ledgerRecord, kept_emitLocal]

theorem kept_admitReq (r : TxReq) : Kept s₀ (admitReq r s) := by
  grind [admitReq, kept_modTx, kept_ledgerRecord, kept_decideNot]

theorem kept_ledgerCorrect (x : TxEnd) : Kept s₀ (ledgerCorrect x s) := by grind [ledgerCorrect, kept_modTx]

theorem kept_latchCfg (c : Chain) : Kept s₀ (latchCfg c s) := by grind [latchCfg, kept_modTx]

theorem kept_startRetune (c : Chain) (t : Stamp) : Kept s₀ (startRetune c t s) := by
  grind [startRetune, kept_modTx, kept_latchCfg]

theorem kept_declareLock (c : Chain) : Kept s₀ (declareLock c s) := by grind [declareLock, kept_modTx]

theorem kept_raiseCurtain (c : Chain) (r : TxReq) (t : Stamp) : Kept s₀ (raiseCurtain c r t s) := by
  grind [raiseCurtain, kept_latchCfg, kept_modTx]

theorem kept_launchAt (c : Chain) (grants : BitVec 4) (inhibit : Bool) (t : Stamp) :
    Kept s₀ (launchAt c grants inhibit t s) := by
  grind [launchAt, kept_raiseCurtain]

theorem kept_dropCur (c : Chain) (r : TxReq) (result : Nat) (t : Stamp) : Kept s₀ (dropCur c r result t s) := by
  grind [dropCur, kept_modTx, kept_decideNot]

theorem kept_deadlineAt (c : Chain) (grants : BitVec 4) (inhibit : Bool) (t : Stamp) :
    Kept s₀ (deadlineAt c grants inhibit t s) := by
  have hd (r : TxReq) (l : List TxReq) (k : Nat) :
      Kept s₀ (decideNot r k 0 t (modTx c (fun x => { x with queue := l }) s)) := kept_decideNot (kept_modTx hk ..) ..
  unfold deadlineAt
  generalize tx s c = x, cfgWord s c 0x10 = coex
  dsimp only
  split
  · split
    · split
      · exact kept_ite hk (hd ..)
      · exact hk
    · split
      · exact hk
      · split
        · exact kept_dropCur hk ..
        · exact hk
  · exact kept_ite hk (hd ..)
  · exact hk

theorem kept_dropCurtain (c : Chain) (result : Nat) (flags : BitVec 8) (t : Stamp) :
    Kept s₀ (dropCurtain c result flags t s) := by
  grind [dropCurtain, kept_modTx]

theorem kept_applyCut (c : Chain) : Kept s₀ (applyCut c s) := by grind [applyCut, kept_dropCurtain]

theorem kept_chainAt (c : Chain) (t : Stamp) : Kept s₀ (chainAt c t s) := by
  grind [chainAt, kept_applyCut, kept_atTime]

theorem kept_loseLock (c : Chain) (t : Stamp) : Kept s₀ (loseLock c t s) := by
  grind [loseLock, kept_modTx, kept_dropCurtain, kept_latchCfg, kept_emitLocal, kept_setRBit]

theorem kept_outOfService (c : Chain) (t : Stamp) : Kept s₀ (outOfService c t s) := by
  grind [outOfService, kept_modTx, kept_emitLocal, kept_setRBit, kept_decideNots]

theorem kept_endRecal (c : Chain) (pass : Bool) (t : Stamp) : Kept s₀ (endRecal c pass t s) := by
  grind [endRecal, kept_testOutcome, kept_modTx, kept_outOfService]

theorem kept_powerLoop (c : Chain) (measured : Int) : Kept s₀ (powerLoop c measured s) := by
  grind [powerLoop, kept_modTx, kept_emitLocal, kept_setRBit]

theorem kept_endTransmit (c : Chain) (measured : Int) (t : Stamp) : Kept s₀ (endTransmit c measured t s) := by
  grind [endTransmit, kept_powerLoop, kept_txEndInput, kept_modTx]

theorem kept_cutChain (c : Chain) (cut : Stamp) : Kept s₀ (cutChain c cut s) := by
  grind [cutChain, kept_decideNots, kept_modTx, kept_applyCut, kept_dropCur]

theorem kept_cutChains (cut : Stamp) : Kept s₀ (cutChains cut s) := by grind [cutChains, kept_cutChain]

theorem kept_calibrate (c : Chain) : Kept s₀ (calibrate c s) := kept_ite hk (kept_modTx hk ..)

theorem kept_enableChain (c : Chain) : Kept s₀ (enableChain c s) := by
  grind [enableChain, kept_setRBit, kept_calibrate]

theorem kept_disableChain (c : Chain) (t : Stamp) : Kept s₀ (disableChain c t s) := by
  grind [disableChain, kept_cutChain, kept_setRBits, kept_modTx]

theorem kept_raisePaen (c : Chain) (t : Stamp) : Kept s₀ (raisePaen c t s) := by grind [raisePaen, kept_modTx]

theorem kept_dropPaen (c : Chain) (t : Stamp) : Kept s₀ (dropPaen c t s) := by grind [dropPaen, kept_modTx]

theorem kept_raiseCoex (c : Chain) (t : Stamp) : Kept s₀ (raiseCoex c t s) := by grind [raiseCoex, kept_modTx]

theorem kept_rampDone (c : Chain) (t : Stamp) : Kept s₀ (rampDone c t s) := by grind [rampDone, kept_modTx]

theorem kept_lastSampleAt (c : Chain) (t : Stamp) : Kept s₀ (lastSampleAt c t s) := by
  grind [lastSampleAt, kept_modTx]

theorem kept_preempt (c : Chain) (grants : BitVec 4) (t : Stamp) : Kept s₀ (preempt c grants t s) := by
  grind [preempt, kept_emitLocal, kept_setRBit, kept_dropCurtain]

theorem kept_inhibitChain (c : Chain) (t : Stamp) : Kept s₀ (inhibitChain c t s) := by
  grind [inhibitChain, kept_emitLocal, kept_setRBit, kept_dropCurtain, kept_modTx]

theorem keptO_execChainEnable (c : Chain) : KeptO s₀ (execChainEnable c s) := by
  grind [execChainEnable, kept_enableChain, keptO_next]

theorem keptO_execChainDisable (c : Chain) (t : Stamp) : KeptO s₀ (execChainDisable c t s) := by
  grind [execChainDisable, kept_disableChain, kept_chainAt, keptO_next]

theorem keptO_execRecal (c : Chain) : KeptO s₀ (execRecal c s) := by grind [execRecal, kept_modTx, keptO_next]

theorem keptO_execRetune (c : Chain) (t : Stamp) : KeptO s₀ (execRetune c t s) := by
  grind [execRetune, kept_startRetune, kept_chainAt, keptO_next]

theorem keptO_execLockDeclared (c : Chain) (t : Stamp) : KeptO s₀ (execLockDeclared c t s) := by
  grind [execLockDeclared, kept_declareLock, kept_chainAt, keptO_next]

theorem keptO_execPaenRise (c : Chain) (t : Stamp) : KeptO s₀ (execPaenRise c t s) := by
  grind [execPaenRise, kept_raisePaen, kept_chainAt, keptO_next]

theorem keptO_execPaenFall (c : Chain) (t : Stamp) : KeptO s₀ (execPaenFall c t s) := by
  grind [execPaenFall, kept_dropPaen, kept_chainAt, keptO_next]

theorem keptO_execCoexReqRise (c : Chain) (t : Stamp) : KeptO s₀ (execCoexReqRise c t s) := by
  grind [execCoexReqRise, kept_raiseCoex, kept_chainAt, keptO_next]

theorem keptO_execLaunch (c : Chain) (grants : BitVec 4) (inhibit : Bool) (t : Stamp) :
    KeptO s₀ (execLaunch c grants inhibit t s) := by
  grind [execLaunch, kept_launchAt, kept_modPwr, kept_chainAt, keptO_next]

theorem keptO_execLaunchDeadline (c : Chain) (grants : BitVec 4) (inhibit : Bool) (t : Stamp) :
    KeptO s₀ (execLaunchDeadline c grants inhibit t s) := by
  grind [execLaunchDeadline, kept_deadlineAt, kept_modPwr, kept_chainAt, keptO_next]

theorem keptO_execRisingRampComplete (c : Chain) (t : Stamp) : KeptO s₀ (execRisingRampComplete c t s) := by
  grind [execRisingRampComplete, kept_rampDone, kept_chainAt, keptO_next]

theorem keptO_execLastModulatedSample (c : Chain) (t : Stamp) : KeptO s₀ (execLastModulatedSample c t s) := by
  grind [execLastModulatedSample, kept_lastSampleAt, kept_chainAt, keptO_next]

theorem keptO_execTransmitEnd (c : Chain) (measured : Int) (t : Stamp) :
    KeptO s₀ (execTransmitEnd c measured t s) := by
  grind [execTransmitEnd, kept_endTransmit, kept_chainAt, keptO_next]

theorem keptO_execLockLost (c : Chain) (t : Stamp) : KeptO s₀ (execLockLost c t s) := by
  grind [execLockLost, kept_loseLock, kept_chainAt, keptO_next]

theorem keptO_execRecalibrationEnd (c : Chain) (pass : Bool) (t : Stamp) :
    KeptO s₀ (execRecalibrationEnd c pass t s) := by
  grind [execRecalibrationEnd, kept_endRecal, kept_chainAt, keptO_next]

theorem keptO_execPreempted (c : Chain) (grants : BitVec 4) (t : Stamp) : KeptO s₀ (execPreempted c grants t s) := by
  grind [execPreempted, kept_preempt, kept_chainAt, keptO_next]

theorem keptO_execInhibited (t : Stamp) : KeptO s₀ (execInhibited t s) :=
  keptO_next (kept_inhibitChain (kept_inhibitChain (kept_modPwr (kept_chainAt (kept_chainAt hk ..) ..) _) ..) ..)

/-! ### Model section `Mesh` -/

theorem kept_planWindows (k i : Nat) : Kept s₀ (planWindows k i s) := by
  induction k generalizing s with
  | zero => exact hk
  | succ k ih =>
    unfold planWindows
    dsimp only
    split
    · exact hk
    · split
      · exact ih (kept_modNode hk ..)
      · split
        · exact ih (kept_countReg (kept_modNode (kept_modNode hk ..) ..) ..)
        · exact ih (kept_out (kept_modMesh (kept_modNode (kept_modNode hk ..) ..) ..) ..)

theorem kept_sendReq (e : Nat) (r : TxReq) (use : TxUse) (timed : Option Nat) :
    Kept s₀ (sendReq e r use timed s) := by
  grind [sendReq, kept_out, kept_modMesh]

theorem kept_elementsSent (u : State) (i : Nat) : Kept s₀ (elementsSent u i s) := by
  unfold elementsSent
  dsimp only
  split
  · split
    · exact kept_finish (kept_modNode (kept_modNode hk ..) ..) ..
    · exact kept_modNode hk ..
  · exact kept_modNode hk ..

theorem kept_nextSeq (e : Nat) : Kept s₀ (nextSeq e s).2 := by grind [nextSeq, kept_modMesh]

theorem kept_nodeFrame (i : Nat) (f : Frame) : Kept s₀ (nodeFrame i f s).2 := by
  grind [nodeFrame, kept_nextSeq, kept_modNode, kept_emit]

theorem kept_sendTo (i chan : Nat) (start : Stamp) (coex : Bool) (f : Frame) (use : TxUse) (timed : Bool) :
    Kept s₀ (sendTo i chan start coex f use timed s) := by
  grind [sendTo, kept_nodeFrame, kept_sendReq]

theorem kept_sendOverture (i : Nat) : Kept s₀ (sendOverture i s) := by
  grind [sendOverture, kept_sendReq, kept_modNode]

theorem kept_groupFrame (e : Nat) (f : Frame) : Kept s₀ (groupFrame e f s).2 := by
  grind [groupFrame, kept_modSec, kept_emit]

theorem kept_buildBeacon (j : Nat) : Kept s₀ (buildBeacon j s) := by
  unfold buildBeacon
  grind [kept_nextSeq, kept_modMesh, kept_groupFrame, kept_emit, kept_sendReq]

theorem kept_extraBeacon (i chan : Nat) (more : Bool) (rx : Reception) : Kept s₀ (extraBeacon i chan more rx s) :=
  kept_ite hk (kept_ite (kept_elementsSent (kept_sendTo hk ..) ..) (kept_sendTo hk ..))

/-! ### Model section `TimeOps` -/

theorem kept_modTb (k : Nat) (f : TBase → TBase) : Kept s₀ (modTb k f s) := by
  unfold modTb
  split <;> exact kept_modTime hk _

theorem kept_reanchorBase (k : Nat) (c : Stamp) : Kept s₀ (reanchorBase k c s) := by
  grind [reanchorBase, kept_modTb, kept_modPtp]

theorem kept_decide_ (k : Nat) (x : TbChange) : Kept s₀ (decide_ k x s) := by grind [decide_, kept_modTb]

theorem kept_stepRecord (k reason : Nat) (d : Int) : Kept s₀ (stepRecord k reason d s) := by
  grind [stepRecord, kept_out]

theorem kept_stepBase (k reason : Nat) (d : Int) : Kept s₀ (stepBase k reason d s) := by
  grind [stepBase, kept_stepRecord, kept_decide_]

theorem kept_timeSetDo (c : Sub) : Kept s₀ (timeSetDo c s) := by
  grind [timeSetDo, kept_stepRecord, kept_decide_, kept_stepBase, kept_modPtp]

omit hk in
theorem actKept_cmdTimeSet (s₀ : State) : ActKept s₀ cmdTimeSet :=
  fun _ hk _ _ => kept_finish (kept_timeSetDo hk _) ..

theorem keptO_execTimeSet (c : Sub) : KeptO s₀ (execTimeSet c s) := by
  grind [execTimeSet, kept_runCmd, actKept_cmdTimeSet, keptO_next]

theorem kept_followTb1 : Kept s₀ (followTb1 s) := by grind [followTb1, kept_decide_, kept_stepBase]

theorem kept_takeTimeChanges : Kept s₀ (takeTimeChanges s) := by
  grind [takeTimeChanges, kept_foldl, kept_reanchorBase, kept_modPtp]

theorem keptO_execTb2Wrap : KeptO s₀ (execTb2Wrap s) := keptO_next (kept_ite (kept_modPtp hk _) hk)

theorem kept_stepFlag (k : Nat) (t : Stamp) : Kept s₀ (stepFlag k t s).2 := by grind [stepFlag, kept_modTb]

/-! ### Model section `Pins` -/

theorem kept_capEdge (i : Nat) (rising : Bool) (pins : BitVec 8) (widthNs : Nat) (t : Stamp) :
    Kept s₀ (capEdge i rising pins widthNs t s) := by
  grind [capEdge, kept_input, kept_modPin, kept_countReg]

theorem keptO_execTcapEdge (i : Fin 8) (rising : Bool) (pins : BitVec 8) (widthNs : Nat) (t : Stamp) :
    KeptO s₀ (execTcapEdge i rising pins widthNs t s) := by
  grind [execTcapEdge, kept_capEdge, kept_atTime, keptO_next]

theorem kept_captureEvent (x : PinCap) : Kept s₀ (captureEvent x s) := by
  grind [captureEvent, kept_stepFlag, kept_emitFlagged]

theorem kept_modMains (f : Mains → Mains) : Kept s₀ (modMains f s) := by grind [modMains, kept_modTime]

theorem kept_mainsRestart (reason : Nat) (interval : Int) : Kept s₀ (mainsRestart reason interval s) := by
  grind [mainsRestart, kept_modMains, kept_emit]

theorem kept_mainsReport (v : Word64) (t : Stamp) : Kept s₀ (mainsReport v t s) := by
  grind [mainsReport, kept_modMains, kept_emitFlagged]

theorem kept_mainsCrossing (x : PinCap) : Kept s₀ (mainsCrossing x s) := by
  grind [mainsCrossing, kept_mainsRestart, kept_modMains, kept_mainsReport]

theorem kept_takeCapture (x : PinCap) : Kept s₀ (takeCapture x s) := by
  grind [takeCapture, kept_mainsCrossing, kept_captureEvent]

theorem keptO_execPinCapture (x : PinCap) : KeptO s₀ (execPinCapture x s) := by
  grind [execPinCapture, kept_takeItem, kept_takeCapture, keptO_next]

omit hk in
theorem actKept_cmdPulseProgram (s₀ : State) : ActKept s₀ cmdPulseProgram :=
  fun _ hk _ _ => kept_replySt (kept_modPin hk ..) ..

theorem keptO_execPulseProgram (c : Sub) : KeptO s₀ (execPulseProgram c s) := by
  grind [execPulseProgram, kept_runCmd, actKept_cmdPulseProgram, keptO_next]

theorem kept_pulseCue (i : Nat) : Kept s₀ (pulseCue i s) := by grind [pulseCue, kept_modPin, kept_emit]

theorem kept_pinsCue : Kept s₀ (pinsCue s) := by grind [pinsCue, kept_foldl, kept_modPin]

theorem kept_pulsesCue : Kept s₀ (pulsesCue s) := by grind [pulsesCue, kept_foldl, kept_pulseCue]

theorem kept_firePulse (i : Nat) (t : Stamp) : Kept s₀ (firePulse i t s) := by
  grind [firePulse, kept_modPin, kept_out, kept_emitLocalAt]

theorem keptO_execPulseFire (i : Fin 8) (t : Stamp) : KeptO s₀ (execPulseFire i t s) := by
  grind [execPulseFire, kept_firePulse, kept_atTime, keptO_next]

theorem keptO_execPulseEnd (i : Fin 8) (t : Stamp) : KeptO s₀ (execPulseEnd i t s) := by
  grind [execPulseEnd, kept_modPin, kept_atTime, keptO_next]

theorem kept_stopPins : Kept s₀ (stopPins s) := by grind [stopPins, kept_foldl, kept_modPin]

/-! ### Model section `Forward` -/

theorem kept_fwdDrop : Kept s₀ (fwdDrop s) := by grind [fwdDrop, kept_countReg]

theorem kept_fwdFailed : Kept s₀ (fwdFailed s) := by grind [fwdFailed, kept_countReg]

theorem kept_toRing (g : Ingress) (ring reason : Nat) (packet : List Byte) :
    Kept s₀ (toRing g ring reason packet s) := by
  grind [toRing, kept_out]

theorem kept_divert (g : Ingress) (reason : Nat) (packet : List Byte) : Kept s₀ (divert g reason packet s) := by
  grind [divert, kept_toRing]

theorem kept_addDown (i : Nat) (d : Downlink) : Kept s₀ (addDown i d s) := by
  grind [addDown, kept_modMesh, kept_modNode, kept_sendOverture]

theorem kept_deliverPacket (i : Nat) (ip : List Byte) : Kept s₀ (deliverPacket i ip s) := by
  grind [deliverPacket, kept_fwdFailed, kept_addDown]

theorem kept_toNode (g : Ingress) (param : Nat) (ip : List Byte) : Kept s₀ (toNode g param ip s) := by
  grind [toNode, kept_fwdDrop, kept_deliverPacket, kept_post]

theorem kept_toEth (g : Ingress) (hop : Nat) (whole ip : List Byte) : Kept s₀ (toEth g hop whole ip s) := by
  grind [toEth, kept_divert, kept_outEth0]

theorem kept_routeIp (g : Ingress) (whole ip : List Byte) : Kept s₀ (routeIp g whole ip s) := by
  grind [routeIp, kept_fwdDrop, kept_toRing, kept_divert, kept_countReg, kept_toNode, kept_toEth]

theorem kept_forwardMesh (g : Ingress) (payload : List Byte) : Kept s₀ (forwardMesh g payload s) := by
  cases payload with
  | nil => exact kept_divert hk ..
  | cons b ip => exact kept_ite (kept_routeIp hk ..) (kept_divert hk ..)

theorem kept_forwardEth (stamp : Stamp) (f : List Byte) : Kept s₀ (forwardEth stamp f s) := by
  grind [forwardEth, kept_routeIp, kept_fwdDrop, kept_divert]

theorem keptO_execForwardedPacket (x : FwdPacket) : KeptO s₀ (execForwardedPacket x s) := by
  grind [execForwardedPacket, kept_takeItem, kept_deliverPacket, keptO_next]

end

end Sys2Proof.Machine
end

section
/-! SUPPORT. What no function of the model breaks (`Kept`): PTP, the configuration records, the links and the tables. -/

namespace Sys2Proof.Machine

section
variable {s₀ s : State} (hk : Kept s₀ s)
include hk

/-! ### Model section `Ptp` -/

theorem kept_arrived (stamp : Stamp) (body : List Byte) (it : Item) (take : State → State)
    (htake : ∀ u, Kept s₀ u → Kept s₀ (take u)) : Kept s₀ (arrived stamp body it take s) := by
  grind [arrived, kept_input]

theorem kept_ptpEvent (code p1 : Nat) : Kept s₀ (ptpEvent code p1 s) := by grind [ptpEvent, kept_emit]

theorem kept_enterHoldover (reroute lost : Bool) : Kept s₀ (enterHoldover reroute lost s) := by
  grind [enterHoldover, kept_decide_, kept_modPtp]

theorem kept_masterLost : Kept s₀ (masterLost s) := by
  grind [masterLost, kept_ptpEvent, kept_enterHoldover, kept_modPtp]

theorem kept_masterBack : Kept s₀ (masterBack s) := by grind [masterBack, kept_modPtp]

theorem kept_selectMaster (m : Ptp) : Kept s₀ (selectMaster m s) := by
  grind [selectMaster, kept_modPtp, kept_masterBack, kept_ptpEvent]

theorem kept_takeAnnounce (m : Ptp) : Kept s₀ (takeAnnounce m s) := by
  grind [takeAnnounce, kept_modPtp, kept_selectMaster]

theorem kept_acceptExchange (o log : Int) : Kept s₀ (acceptExchange o log s) := by
  grind [acceptExchange, kept_decide_, kept_modPtp, kept_stepBase, kept_ptpEvent]

theorem kept_deviate (o : Int) : Kept s₀ (deviate o s) := by
  grind [deviate, kept_modPtp, kept_ptpEvent, kept_enterHoldover]

theorem kept_holdoverExchange (raw : Int) (diff : Int) : Kept s₀ (holdoverExchange raw diff s) := by
  grind [holdoverExchange, kept_modPtp, kept_stepBase, kept_ptpEvent]

theorem kept_exchange (raw diff log : Int) : Kept s₀ (exchange raw diff log s) := by
  grind [exchange, kept_deviate, kept_acceptExchange, kept_modPtp, kept_holdoverExchange]

theorem kept_takeSync (m : Ptp) : Kept s₀ (takeSync m s) := by grind [takeSync, kept_masterBack, kept_modPtp]

theorem kept_takeFollowUp (m : Ptp) : Kept s₀ (takeFollowUp m s) := by grind [takeFollowUp, kept_modPtp]

theorem kept_takeDelayResp (m : Ptp) : Kept s₀ (takeDelayResp m s) := by
  grind [takeDelayResp, kept_exchange, kept_modPtp]

theorem kept_peerExchange (raw : Int) : Kept s₀ (peerExchange raw s) := by
  grind [peerExchange, kept_modPtp, kept_exchange]

theorem kept_takePdelayResp (m : Ptp) : Kept s₀ (takePdelayResp m s) := by
  grind [takePdelayResp, kept_modPtp, kept_peerExchange]

theorem kept_takePdelayFollow (m : Ptp) : Kept s₀ (takePdelayFollow m s) := by
  grind [takePdelayFollow, kept_peerExchange]

theorem kept_answerPdelay (m : Ptp) : Kept s₀ (answerPdelay m s) := by grind [answerPdelay, kept_outEth0]

theorem kept_ptpTake (m : Ptp) (eff : State → State) (heff : ∀ u, Kept s₀ u → Kept s₀ (eff u)) :
    Kept s₀ (ptpTake m eff s) := by
  grind [ptpTake, kept_modPtp]

theorem keptO_ptpRow (cost : Nat) (kind : PtpKind) (it : Item) (m : Ptp) (eff : State → State)
    (heff : ∀ u, Kept s₀ u → Kept s₀ (eff u)) : KeptO s₀ (ptpRow cost kind it m eff s) := by
  grind [ptpRow, kept_arrived, kept_takeItem, kept_ptpTake, keptO_next]

theorem keptO_execSync (m : Ptp) : KeptO s₀ (execSync m s) := by
  grind [execSync, keptO_ptpRow, kept_takeSync, keptO_next]

theorem keptO_execFollowUp (m : Ptp) : KeptO s₀ (execFollowUp m s) := by
  grind [execFollowUp, keptO_ptpRow, kept_takeFollowUp, keptO_next]

theorem keptO_execDelayResp (m : Ptp) : KeptO s₀ (execDelayResp m s) := by
  grind [execDelayResp, keptO_ptpRow, kept_takeDelayResp, keptO_next]

theorem keptO_execPdelayReq (m : Ptp) : KeptO s₀ (execPdelayReq m s) := by
  grind [execPdelayReq, keptO_ptpRow, kept_answerPdelay, keptO_next]

theorem keptO_execPdelayResp (m : Ptp) : KeptO s₀ (execPdelayResp m s) := by
  grind [execPdelayResp, keptO_ptpRow, kept_takePdelayResp, keptO_next]

theorem keptO_execPdelayRespFollowUp (m : Ptp) : KeptO s₀ (execPdelayRespFollowUp m s) := by
  grind [execPdelayRespFollowUp, keptO_ptpRow, kept_takePdelayFollow, keptO_next]

theorem keptO_execAnnounce (m : Ptp) : KeptO s₀ (execAnnounce m s) := by
  grind [execAnnounce, keptO_ptpRow, kept_takeAnnounce, keptO_next]

theorem kept_ptpKind {i : Instr} {cost : Nat} {m : Ptp} {eff : State → State} (h : ptpKind i = some (cost, m, eff)) :
    Kept s₀ (eff s) := by
  unfold ptpKind at h
  split at h <;> cases h
  · exact kept_takeSync hk _
  · exact kept_takeFollowUp hk _
  · exact kept_takeDelayResp hk _
  · exact kept_answerPdelay hk _
  · exact kept_takePdelayResp hk _
  · exact kept_takePdelayFollow hk _
  · exact kept_takeAnnounce hk _

theorem kept_takeEth (stamp : Stamp) (f : List Byte) : Kept s₀ (takeEth stamp f s) := by
  unfold takeEth
  refine kept_ite (kept_takeItem hk _ _ _ _ fun _ hu => kept_forwardEth hu ..) ?_
  split
  next h => exact kept_takeItem hk _ _ _ _ fun _ hu => kept_ptpTake hu _ _ fun _ hv => kept_ptpKind hv h
  · exact kept_takeItem hk _ _ _ _ fun _ hu => kept_modPtp hu _

theorem keptO_execEth0Frame (stamp : Stamp) (bytes : List Byte) : KeptO s₀ (execEth0Frame stamp bytes s) := by
  grind [execEth0Frame, kept_arrived, kept_takeEth, keptO_next]

theorem kept_announceTimeout : Kept s₀ (announceTimeout s) := by grind [announceTimeout, kept_modPtp, kept_masterLost]

theorem kept_syncLost : Kept s₀ (syncLost s) := by grind [syncLost, kept_masterLost]

theorem kept_discardSync : Kept s₀ (discardSync s) := by grind [discardSync, kept_modPtp]

theorem kept_holdoverEnds : Kept s₀ (holdoverEnds s) := by grind [holdoverEnds, kept_ptpEvent, kept_modPtp]

theorem keptO_execAnnounceReceiptTimeout : KeptO s₀ (execAnnounceReceiptTimeout s) := by
  grind [execAnnounceReceiptTimeout, kept_takeItem, kept_announceTimeout, keptO_next]

theorem keptO_execSyncTimeout : KeptO s₀ (execSyncTimeout s) := by
  grind [execSyncTimeout, kept_takeItem, kept_syncLost, keptO_next]

theorem keptO_execSyncPairDiscard : KeptO s₀ (execSyncPairDiscard s) := by
  grind [execSyncPairDiscard, kept_takeItem, kept_discardSync, keptO_next]

theorem keptO_execHoldoverLimit : KeptO s₀ (execHoldoverLimit s) := by
  grind [execHoldoverLimit, kept_takeItem, kept_holdoverEnds, keptO_next]

theorem kept_ptpRequest : Kept s₀ (ptpRequest s) := by grind [ptpRequest, kept_outEth0, kept_modPtp]

theorem kept_ptpRetention : Kept s₀ (ptpRetention s) := by grind [ptpRetention, kept_enterHoldover, kept_modPtp]

/-! ### Model section `CfgCmd` -/

theorem kept_applyAct (e : Nat) (c : Sub) : Kept s₀ (applyAct e c s) :=
  kept_reply (s := { s with cfgs := _ }) (kept_cfgs hk _) ..

omit hk in
theorem actKept_cmdConfigApply (s₀ : State) : ActKept s₀ cmdConfigApply := fun _ hk _ _ => kept_applyAct hk ..

theorem keptO_execConfigApply (c : Sub) : KeptO s₀ (execConfigApply c s) := by
  grind [execConfigApply, kept_runCmd, actKept_cmdConfigApply, keptO_next]

omit hk in
theorem actKept_cmdConfigRead (s₀ : State) : ActKept s₀ cmdConfigRead := fun _ hk _ _ => kept_reply hk ..

theorem keptO_execConfigRead (c : Sub) : KeptO s₀ (execConfigRead c s) := by
  grind [execConfigRead, kept_runCmd, actKept_cmdConfigRead, keptO_next]

theorem kept_takeRecord (t : Nat) (b : List Byte) (g : Nat) : Kept s₀ (takeRecord t b g s) := by
  have h1 : Kept s₀ { s with cfgs := smSet {} s.cfgs t { bytes := b, gen := g } } := kept_of_same hk rfl rfl rfl
  unfold takeRecord
  generalize ({ s with cfgs := smSet {} s.cfgs t { bytes := b, gen := g } } : State) = u at h1 ⊢
  grind [kept_modProc, kept_modPtp, kept_modTime]

theorem kept_takeRecords : Kept s₀ (takeRecords s) := by grind [takeRecords, kept_foldl, kept_takeRecord]

/-! ### Model section `Links` -/

theorem kept_sendEth0 (frame : List Byte) : Kept s₀ (sendEth0 frame s) :=
  kept_ite (kept_of_same hk rfl rfl rfl) (kept_countReg hk ..)

theorem kept_putPair (m : PairMsg) : Kept s₀ (putPair m s) := by
  refine kept_modPair (kept_ite ?_ (kept_countReg hk ..)) _
  exact kept_of_same hk rfl rfl rfl

theorem kept_sendHello : Kept s₀ (sendHello s) := by grind [sendHello, kept_putPair, kept_modPair]

theorem kept_newSession (v : BitVec 64) : Kept s₀ (newSession v s) := by
  grind [newSession, kept_sendHello, kept_modPair]

theorem kept_sendPair (m : PairMsg) : Kept s₀ (sendPair m s) := by
  grind [sendPair, kept_putPair, kept_fresh, kept_newSession]

theorem kept_sendPairs (l : List PairMsg) : Kept s₀ (sendPairs l s) := by grind [sendPairs, kept_foldl, kept_sendPair]

/-! ### Model section `Restart` -/

theorem kept_flushOutstanding : Kept s₀ (flushOutstanding s) := by
  grind [flushOutstanding, kept_foldl, kept_completeWrite, kept_vecSignal]

theorem kept_refuseRetention : Kept s₀ (refuseRetention s) := by
  grind [refuseRetention, kept_emitLocal, kept_setRBit, kept_setRBits, kept_modPwr]

theorem kept_stopNow : Kept s₀ (stopNow s) := by
  grind [stopNow, kept_cutChains, kept_modProc, kept_modPair, kept_modHif, kept_flushOutstanding]

theorem kept_resetRecord (cause trigger : Nat) : Kept s₀ (resetRecord cause trigger s) := by
  grind [resetRecord, kept_emitLocal]

theorem kept_restartNow (trigger : Nat) : Kept s₀ (restartNow trigger s) := by
  grind [restartNow, kept_foldl, kept_refuseRetention, kept_stopNow, kept_resetRecord, kept_modPwr, kept_modEng]

theorem kept_restartNext (trigger : Nat) : Kept s₀ (restartNext trigger s) := by
  grind [restartNext, kept_modPwr, kept_refuseRetention]

theorem keptO_execProcessingRestart (trigger : Fin 7) : KeptO s₀ (execProcessingRestart trigger s) := by
  grind [execProcessingRestart, kept_restartNow, keptO_next]

theorem keptO_execRestart : KeptO s₀ (execRestart s) := by grind [execRestart, kept_restartNext, keptO_next]

/-! ### Model section `Tables` -/

theorem kept_hkCharge (e cost : Nat) : Kept s₀ (hkCharge e cost s) := by grind [hkCharge, kept_modEng]

theorem kept_addrCount (p : Nat) : Kept s₀ (addrCount p s) := by grind [addrCount, kept_modMesh]

theorem kept_putKey (p i node : Nat) (iid : Bool) (k : BitVec 64) : Kept s₀ (putKey p i node iid k s) := by
  grind [putKey, kept_addrCount, kept_modMesh]

theorem kept_clearKey (p i : Nat) : Kept s₀ (clearKey p i s) := by grind [clearKey, kept_modMesh, kept_addrCount]

theorem kept_removeKey (node : Nat) (iid : Bool) : Kept s₀ (removeKey node iid s) := by
  grind [removeKey, kept_clearKey]

theorem kept_askIid (node : Nat) (k : Option (BitVec 64)) : Kept s₀ (askIid node k s) := by
  grind [askIid, kept_modMesh]

theorem kept_insertIid {t : State} (n : Nat) (k : BitVec 64) (ht : insertIid n k s = some t) : Kept s₀ t := by
  unfold insertIid at ht
  dsimp only at ht
  split at ht
  · split at ht
    · cases ht
      exact kept_askIid (kept_putKey hk ..) ..
    · obtain ⟨j, -, rfl⟩ := Option.map_eq_some_iff.1 ht
      exact kept_askIid (kept_putKey (kept_clearKey hk ..) ..) ..
  · obtain ⟨j, -, rfl⟩ := Option.map_eq_some_iff.1 ht
    exact kept_askIid (kept_putKey hk ..) ..

theorem kept_deleteIid (node : Nat) (k : BitVec 64) : Kept s₀ (deleteIid node k s) := by
  grind [deleteIid, kept_askIid, kept_clearKey]

theorem kept_unplaceable (iid : Bool) (node : Nat) (k : BitVec 64) : Kept s₀ (unplaceable iid node k s) := by
  grind [unplaceable, kept_emit]

theorem kept_twDone (e status applied count : Nat) (c : Sub) : Kept s₀ (twDone e status applied count c s) := by
  grind [twDone, kept_finish]

theorem kept_applyAddr (o : TabOp) : Kept s₀ (applyAddr o s).2 := by
  cases o with
  | addKey n iid k =>
    unfold applyAddr
    dsimp only
    split
    · exact kept_putKey hk ..
    · exact hk
  | delKey n iid k => exact kept_removeKey hk ..
  | write c k =>
    unfold applyAddr
    dsimp only
    split
    · exact kept_unplaceable (kept_twDone hk ..) ..
    next s1 hs1 =>
      have h1 : Kept s₀ s1 := by
        split at hs1
        · cases hs1
          exact kept_deleteIid hk ..
        · exact kept_insertIid hk _ _ hs1
      split
      · exact h1
      · exact kept_twDone h1 ..

theorem kept_hkAddrLoop (fuel : Nat) (todo kept : List TabOp) (held : List Nat) :
    Kept s₀ (hkAddrLoop fuel todo kept held s) := by
  induction fuel generalizing s todo kept held with
  | zero => exact kept_modMesh hk _
  | succ f ih =>
    cases todo with
    | nil => exact kept_modMesh hk _
    | cons o rest =>
      exact kept_ite (ih hk ..) (kept_ite (kept_modMesh hk _) (ih (kept_applyAddr (kept_hkCharge hk ..) _) ..))

theorem kept_hkAddr : Kept s₀ (hkAddr s) := by grind [hkAddr, kept_hkAddrLoop]

theorem kept_attCount (p : Nat) : Kept s₀ (attCount p s) := by grind [attCount, kept_modMesh]

theorem kept_flap (x : Learn) (old : Node) : Kept s₀ (flap x old s) := by
  grind [flap, kept_countReg, kept_emit, kept_modNode]

theorem kept_learnOne (x : Learn) : Kept s₀ (learnOne x s) := by
  grind [learnOne, kept_attCount, kept_modNode, kept_flap]

theorem kept_hkLearnLoop (todo kept : List Learn) : Kept s₀ (hkLearnLoop todo kept s) := by
  induction todo generalizing s kept with
  | nil => exact kept_modMesh hk _
  | cons x rest ih =>
    exact kept_ite (ih hk _) (kept_ite (ih (kept_countReg hk ..) _)
      (kept_ite (ih (kept_learnOne (kept_hkCharge hk ..) _) _) (ih hk _)))

theorem kept_hkLearn : Kept s₀ (hkLearn s) := by grind [hkLearn, kept_hkLearnLoop]

theorem kept_lpmPut (i : Nat) (x : Lpm) : Kept s₀ (lpmPut i x s) := by grind [lpmPut, kept_modMesh]

theorem kept_lpmClear (i : Nat) : Kept s₀ (lpmClear i s) := by grind [lpmClear, kept_modMesh]

theorem kept_lpmDelete (i : Nat) : Kept s₀ (lpmDelete i s) := by grind [lpmDelete, kept_modMesh, kept_lpmClear]

theorem kept_lpmMove (a b : Nat) : Kept s₀ (lpmMove a b s) := by
  grind [lpmMove, kept_lpmClear, kept_lpmPut, kept_setReg, kept_modMesh]

theorem kept_lpmPlan (x : Lpm) {u : State} {cost : Nat} {last : Bool} {g : State → State} (hg : lpmPlan u x = some
    (cost, last, g)) :
    Kept s₀ (g s) := by
  unfold lpmPlan at hg
  extract_lets es r low next first at hg
  split at hg
  · cases hg
    exact kept_lpmPut hk ..
  split at hg
  · cases hg
  split at hg
  · split at hg
    · cases hg
      exact kept_lpmPut hk ..
    · extract_lets q at hg
      split at hg
      · cases hg
        exact kept_lpmMove hk ..
      · cases hg
  · split at hg
    · split at hg
      · cases hg
        exact kept_lpmPut hk ..
      · extract_lets q at hg
        split at hg
        · cases hg
          exact kept_lpmMove hk ..
        · cases hg
    · obtain ⟨h, -, e⟩ := Option.map_eq_some_iff.1 hg
      cases e
      exact kept_lpmPut hk ..

theorem kept_lpmAdvance (c : Sub) (k : Nat) (rest : List TabOp) : Kept s₀ (lpmAdvance c k rest s) := by
  grind [lpmAdvance, kept_modMesh, kept_twDone]

theorem kept_hkLpmLoop (fuel : Nat) : Kept s₀ (hkLpmLoop fuel s) := by
  induction fuel generalizing s with
  | zero => exact hk
  | succ f ih =>
    unfold hkLpmLoop
    split
    · dsimp only
      split
      · refine kept_ite (ih (kept_lpmAdvance ?_ ..)) hk
        split
        · exact kept_lpmDelete (kept_hkCharge hk ..) _
        · exact kept_hkCharge hk ..
      · split
        · exact ih (kept_twDone (kept_modMesh hk _) ..)
        next hg =>
          have h1 := fun cost => kept_lpmPlan (kept_hkCharge hk 9 cost) _ hg
          exact kept_ite (ih (kept_ite (kept_lpmAdvance (h1 _) ..) (h1 _))) hk
    · exact ih (kept_modMesh hk _)
    · exact hk

theorem kept_hkLpm : Kept s₀ (hkLpm s) := by grind [hkLpm, kept_hkLpmLoop]

theorem kept_allocMap (i : Nat) (codes : List Nat) : Kept s₀ (allocMap i codes s) := by grind [allocMap, kept_modMesh]

theorem kept_dropMap (id : Nat) : Kept s₀ (dropMap s id) := by grind [dropMap, kept_modMesh]

theorem kept_hkMapLoop (todo : List (Nat × List Nat)) : Kept s₀ (hkMapLoop todo s) := by
  induction todo generalizing s with
  | nil => exact kept_modMesh hk _
  | cons x rest ih => exact kept_ite (ih (kept_allocMap (kept_hkCharge hk ..) ..)) (kept_modMesh hk _)

theorem kept_hkDropLoop (todo : List Nat) : Kept s₀ (hkDropLoop todo s) := by
  induction todo generalizing s with
  | nil => exact kept_modMesh hk _
  | cons x rest ih => exact kept_ite (ih (kept_dropMap (kept_hkCharge hk ..) _)) (kept_modMesh hk _)

theorem kept_linkMap (id : Nat) (up : Bool) : Kept s₀ (linkMap id up s) := by grind [linkMap, kept_modMesh]

theorem kept_countLink (id : Nat) (up : Bool) : Kept s₀ (countLink id up s) := by grind [countLink, kept_modMesh]

theorem kept_hkLinkLoop (todo : List (Nat × Bool)) : Kept s₀ (hkLinkLoop todo s) := by
  induction todo generalizing s with
  | nil => exact kept_modMesh hk _
  | cons x rest ih => exact kept_ite (ih (kept_countLink (kept_hkCharge hk ..) ..)) (kept_modMesh hk _)

theorem kept_hkMaps : Kept s₀ (hkMaps s) := by grind [hkMaps, kept_hkLinkLoop, kept_hkDropLoop, kept_hkMapLoop]

theorem kept_takeMap (i : Nat) (codes : List Nat) : Kept s₀ (takeMap i codes s) := by grind [takeMap, kept_modMesh]

theorem keptO_execMapAllocation (i : Nat) (codes : List Nat) : KeptO s₀ (execMapAllocation i codes s) := by
  grind [execMapAllocation, kept_takeItem, kept_takeMap, keptO_next]

theorem kept_tableRead (e : Nat) (c : Sub) : Kept s₀ (tableRead e c s) := by
  grind [tableRead, kept_finish, kept_modMesh]

omit hk in
theorem actKept_cmdTableRead (s₀ : State) : ActKept s₀ cmdTableRead := fun _ hk _ _ => kept_tableRead hk ..

theorem keptO_execTableRead (c : Sub) : KeptO s₀ (execTableRead c s) := by
  grind [execTableRead, kept_runCmd, actKept_cmdTableRead, keptO_next]

theorem kept_tableWrite (e : Nat) (c : Sub) : Kept s₀ (tableWrite e c s) := by grind [tableWrite, kept_modMesh]

omit hk in
theorem actKept_cmdTableWrite (s₀ : State) : ActKept s₀ cmdTableWrite := fun _ hk e c => kept_tableWrite hk e c

theorem keptO_execTableWrite (c : Sub) : KeptO s₀ (execTableWrite c s) := by
  grind [execTableWrite, kept_runCmd, actKept_cmdTableWrite, keptO_next]

theorem kept_tableUnlock (e : Nat) (c : Sub) : Kept s₀ (tableUnlock e c s) := by
  grind [tableUnlock, kept_finish, kept_modMesh]

omit hk in
theorem actKept_cmdTableUnlock (s₀ : State) : ActKept s₀ cmdTableUnlock := fun _ hk _ _ => kept_tableUnlock hk ..

theorem keptO_execTableUnlock (c : Sub) : KeptO s₀ (execTableUnlock c s) := by
  grind [execTableUnlock, kept_runCmd, actKept_cmdTableUnlock, keptO_next]

theorem kept_releaseLocks : Kept s₀ (releaseLocks s) := by grind [releaseLocks, kept_modMesh]

theorem kept_expireLocks : Kept s₀ (expireLocks s) := by grind [expireLocks, kept_foldl, kept_modMesh, kept_emit]

theorem kept_hkLocks : Kept s₀ (hkLocks s) := by grind [hkLocks, kept_expireLocks, kept_releaseLocks]

theorem keptO_execLockExpiry : KeptO s₀ (execLockExpiry s) := by grind [execLockExpiry, kept_expireLocks, keptO_next]

end

end Sys2Proof.Machine
end

section
/-! SUPPORT. What no function of the model breaks (`Kept`): contacts, joins, the Box Office and the intake. -/

namespace Sys2Proof.Machine

section
variable {s₀ s : State} (hk : Kept s₀ s)
include hk

/-! ### Model section `Contacts` -/

theorem kept_ageFreed : Kept s₀ (ageFreed s) := by grind [ageFreed, kept_modMesh]

theorem kept_joinContext (i : Nat) (r : JoinRes) : Kept s₀ (joinContext i r s) := by grind [joinContext, kept_modNode]

theorem kept_setAnchor (i : Nat) (a : Stamp) : Kept s₀ (setAnchor i a s) := kept_of_same hk rfl rfl rfl

theorem kept_ctxView : Kept s₀ (ctxView s) := by
  grind [ctxView, kept_foldl, kept_modNode, kept_joinContext, kept_setAnchor]

theorem kept_askCtx (o : CtxOp) : Kept s₀ (askCtx o s) := by grind [askCtx, kept_modMesh]

theorem kept_allocNode (eui : BitVec 64) (grand : Bool) (pan : Nat) (st : NodeSt) (byAdmit : Bool) :
    Kept s₀ (allocNode eui grand pan st byAdmit s).2 := by
  grind [allocNode, kept_ctxView, kept_unplaceable, kept_askCtx, kept_modMesh]

theorem kept_endDown (e reason status : Nat) (d : Downlink) : Kept s₀ (endDown e reason status d s) := by
  grind [endDown, kept_finish, kept_fwdFailed]

theorem kept_closeDown (i : Nat) (reason status : Nat) (d : Downlink) : Kept s₀ (closeDown i reason status d s) := by
  grind [closeDown, kept_endDown, kept_modNode]

theorem kept_freeKeys (i : Nat) : Kept s₀ (freeKeys i s) := by grind [freeKeys, kept_modMesh]

theorem kept_clearContext (evict i : Nat) : Kept s₀ (clearContext evict i s) := by
  have h1 : Kept s₀ ((node s i).downs.foldl (fun s d => endDown (owner i) 6 stFlushed d s) s) :=
    kept_foldl (fun _ _ hu => kept_endDown hu ..) _ hk
  unfold clearContext
  grind [kept_done, kept_modNode, kept_linkMap]

theorem kept_freeNode (i : Nat) : Kept s₀ (freeNode i s) := by grind [freeNode, kept_clearContext, kept_freeKeys]

theorem kept_nodeEvent (code i p4 : Nat) : Kept s₀ (nodeEvent code i p4 s) := by grind [nodeEvent, kept_emit]

theorem kept_setSt (i : Nat) (st : NodeSt) : Kept s₀ (setSt i st s) := by grind [setSt, kept_modNode]

theorem kept_macDrop : Kept s₀ (macDrop s) := by grind [macDrop, kept_countReg]

theorem kept_secFailure (i : Nat) (k : SecFail) : Kept s₀ (secFailure i k s) := by
  cases k <;> grind [secFailure, kept_countReg, kept_modNode, kept_emit]

theorem kept_dropWin (rx : Reception) : Kept s₀ (dropWin rx s) := by grind [dropWin, kept_modMesh]

theorem kept_takeCounter (i : Nat) (f : Frame) (h b : Word32) : Kept s₀ (takeCounter i f h b s) := by
  grind [takeCounter, kept_modNode]

theorem kept_acceptUplink (rx : Reception) : Kept s₀ (acceptUplink rx s).2 := by
  have hd := kept_macDrop hk
  unfold acceptUplink
  split
  · exact hd
  split
  · exact hd
  split
  · exact hd
  split
  · exact kept_macDrop (kept_secFailure hk ..)
  split
  · exact kept_macDrop (kept_takeCounter hk ..)
  split
  · exact kept_takeCounter hk ..
  · exact kept_macDrop (kept_takeCounter hk ..)

theorem kept_updateLapsed (i : Nat) (e : Word32) : Kept s₀ (updateLapsed i e s) := by grind [updateLapsed, kept_done]

theorem kept_reanchor (u : Uplink) : Kept s₀ (reanchor u s) := by grind [reanchor, kept_modNode, kept_updateLapsed]

theorem kept_learnRho (u : Uplink) : Kept s₀ (learnRho u s) := by grind [learnRho, kept_modNode]

theorem kept_learnDelay (u : Uplink) : Kept s₀ (learnDelay u s) := by grind [learnDelay, kept_modNode]

theorem kept_queueLearn (i : Nat) (rx : Reception) (es : List (Nat × List Byte)) :
    Kept s₀ (queueLearn i rx es s) := by
  grind [queueLearn, kept_modMesh]

theorem kept_considerMap (u : Uplink) : Kept s₀ (considerMap u s) := by grind [considerMap, kept_modNode, kept_post]

theorem kept_mapElement (i : Nat) (b : List Byte) : Kept s₀ (mapElement i b s) :=
  kept_ite (kept_ite (kept_emit hk ..) (kept_ite hk (kept_modNode hk ..)))
    (kept_ite (kept_ite (kept_modNode (kept_linkMap (kept_linkMap hk ..) ..) ..) hk) hk)

theorem kept_modDown (i id : Nat) (f : Downlink → Downlink) : Kept s₀ (modDown i id f s) := by
  grind [modDown, kept_modNode]

theorem kept_applyDown (i id : Nat) (k : DownOp) : Kept s₀ (applyDown i id k s) := by
  grind [applyDown, kept_modDown, kept_closeDown]

theorem kept_onDown (e i id : Nat) (k : DownOp) : Kept s₀ (onDown e i id k s) := by
  grind [onDown, kept_applyDown, kept_askCtx]

theorem kept_settleDown (u : Uplink) (ans : Bool) (d : Downlink) : Kept s₀ (settleDown u ans s d) := by
  grind [settleDown, kept_onDown]

theorem kept_settleDowns (u : Uplink) : Kept s₀ (settleDowns u s) := by
  grind [settleDowns, kept_foldl, kept_settleDown]

theorem kept_numberDown (i : Nat) (d : Downlink) : Kept s₀ (numberDown i d s) := by
  grind [numberDown, kept_nextSeq, kept_modDown, kept_modNode, kept_emit]

theorem kept_hkNumber : Kept s₀ (hkNumber s) := by grind [hkNumber, kept_foldl, kept_numberDown, kept_hkCharge]

theorem kept_applyCtx (o : CtxOp) : Kept s₀ (applyCtx o s) := by
  cases o with
  | place i n => exact kept_modNode hk ..
  | join i r => exact kept_ite (kept_joinContext hk ..) hk
  | anchor i a => exact kept_ite (kept_setAnchor hk ..) hk
  | offer i id codes => exact kept_ite (kept_modNode hk ..) hk
  | free i => exact kept_clearContext hk ..
  | iid i k => exact kept_ite (kept_modNode hk ..) hk
  | down i id k => exact kept_applyDown hk ..

theorem kept_hkCtxLoop (todo late : List CtxOp) : Kept s₀ (hkCtxLoop todo late s) := by
  induction todo generalizing s late with
  | nil => exact kept_modMesh hk _
  | cons o rest ih => exact kept_ite (ih hk _) (ih (kept_applyCtx (kept_hkCharge hk ..) _) _)

theorem kept_hkContexts : Kept s₀ (hkContexts s) := by grind [hkContexts, kept_hkNumber, kept_hkCtxLoop]

theorem kept_timeSentTo (i : Nat) : Kept s₀ (timeSentTo i s) := by grind [timeSentTo, kept_modNode]

theorem kept_sendWith (i chan : Nat) (heard start : Stamp) (coex : Bool) (f : Frame) (payload : List Byte) (use :
    TxUse) :
    Kept s₀ (sendWith i chan heard start coex f payload use s) :=
  kept_ite (kept_sendTo hk ..) (kept_ite (kept_elementsSent (kept_sendTo hk ..) ..)
    (kept_timeSentTo (kept_elementsSent (kept_sendTo hk ..) ..) _))

theorem kept_sendDirect (i chan : Nat) (heard start : Stamp) (seq : Nat) (d : Downlink) (more : Bool) :
    Kept s₀ (sendDirect i chan heard start seq d more s) := by
  grind [sendDirect, kept_closeDown, kept_sendWith, kept_onDown, kept_nextSeq]

theorem kept_sendRouted (i chan : Nat) (start : Stamp) (d : Downlink) (path : List Nat) (more : Bool) :
    Kept s₀ (sendRouted i chan start d path more s) := by
  grind [sendRouted, kept_onDown, kept_sendReq]

theorem kept_sendPlain (u : Uplink) (chan : Nat) (start : Stamp) (more : Bool) :
    Kept s₀ (sendPlain u chan start more s) := by
  grind [sendPlain, kept_sendWith]

theorem kept_answerUplink (u : Uplink) : Kept s₀ (answerUplink u s) := by
  grind [answerUplink, kept_sendDirect, kept_sendPlain, kept_sendRouted]

theorem kept_withinExchange (u : Uplink) (answer : State → State) (hanswer : ∀ u, Kept s₀ u → Kept s₀ (answer u)) :
    Kept s₀ (withinExchange u answer s) := by
  grind [withinExchange, kept_modNode]

theorem kept_noteReport (x : TourRep) : Kept s₀ (noteReport x s) := by grind [noteReport, kept_post, kept_modNode]

theorem kept_tourElement (i : Nat) (b : List Byte) : Kept s₀ (tourElement i b s) := by
  grind [tourElement, kept_noteReport]

theorem kept_takeElement (i : Nat) (e : Nat × List Byte) : Kept s₀ (takeElement i s e) := by
  grind [takeElement, kept_mapElement, kept_tourElement]

theorem kept_contactState (i : Nat) : Kept s₀ (contactState i s) := by
  grind [contactState, kept_nodeEvent, kept_setSt]

theorem kept_contact (u : Uplink) (forward : State → State) (hf : ∀ u, Kept s₀ u → Kept s₀ (forward u)) :
    Kept s₀ (contact u forward s) := by
  have h1 := kept_queueLearn (kept_considerMap (kept_learnDelay (kept_learnRho hk u) u) u) u.i u.rx u.es
  have h2 := kept_foldl (fun _ x hu => kept_takeElement hu u.i x) u.es (kept_settleDowns h1 u)
  have h4 := hf _ (kept_contactState (kept_reanchor h2 u) u.i)
  exact kept_ite (kept_freeNode h4 _) (kept_ite
    (kept_withinExchange h4 u _ fun _ hu => kept_extraBeacon hu ..)
    (kept_withinExchange h4 u _ fun _ hu => kept_answerUplink hu ..))

/-! ### Model section `Join` -/

theorem kept_drawOut (e : Nat) : Kept s₀ (drawOut e s).2 := by grind [drawOut, kept_modEng]

theorem kept_boxSign (tries d : Nat) (hash : List Byte) : Kept s₀ (boxSign tries d hash s).2 := by
  induction tries generalizing s with
  | zero => exact hk
  | succ k ih =>
    have h2 := kept_drawOut (kept_drawOut hk 11) 11
    unfold boxSign
    dsimp only
    split
    · exact h2
    · exact ih h2

theorem kept_prompterSend (fixed : Nat) (rx : Reception) (f : Frame) : Kept s₀ (prompterSend fixed rx f s) := by
  grind [prompterSend, kept_nextSeq, kept_sendReq]

theorem kept_audition (rx : Reception) : Kept s₀ (audition rx s) := by
  grind [audition, kept_macDrop, kept_ctxView, kept_modMesh, kept_prompterSend]

theorem keptO_execAuditionRequest (rx : Reception) : KeptO s₀ (execAuditionRequest rx s) := by
  grind [execAuditionRequest, kept_takeItem, kept_dropWin, kept_audition, keptO_next]

theorem kept_joinRetry (rx : Reception) (f : Frame) : Kept s₀ (joinRetry rx f s) := by
  grind [joinRetry, kept_prompterSend]

theorem kept_replaceContext (eui : BitVec 64) : Kept s₀ (replaceContext eui s) := by
  grind [replaceContext, kept_modMesh, kept_ctxView, kept_freeKeys, kept_emit, kept_askCtx]

theorem kept_startJoin (a : Audit) (offer : List Byte) : Kept s₀ (startJoin a offer s) := by
  grind [startJoin, kept_post, kept_modMesh, kept_replaceContext]

theorem kept_joinResponse (rx : Reception) (status i : Nat) (stored : List Byte) :
    Kept s₀ (joinResponse rx status i stored s) := by
  grind [joinResponse, kept_prompterSend, kept_ctxView, kept_askCtx]

theorem kept_joinPoll (rx : Reception) (f : Frame) (eui : BitVec 64) : Kept s₀ (joinPoll rx f eui s) := by
  grind [joinPoll, kept_joinResponse, kept_joinRetry]

theorem kept_joinRequest (rx : Reception) : Kept s₀ (joinRequest rx s) := by
  grind [joinRequest, kept_macDrop, kept_joinPoll, kept_joinRetry, kept_startJoin]

theorem keptO_execJoinRequest (rx : Reception) : KeptO s₀ (execJoinRequest rx s) := by
  grind [execJoinRequest, kept_takeItem, kept_dropWin, kept_joinRequest, keptO_next]

theorem kept_boxKeys (j : JoinReq) : Kept s₀ (boxKeys j s) := by grind [boxKeys, kept_drawOut, kept_post]

theorem kept_boxJoin (j : JoinReq) : Kept s₀ (boxJoin j s) := by
  grind [boxJoin, kept_takeItem, kept_boxKeys, kept_countReg, kept_emit, kept_post]

theorem keptO_execJoinHandoff (j : JoinReq) : KeptO s₀ (execJoinHandoff j s) := by
  grind [execJoinHandoff, kept_takeItem, kept_boxJoin, keptO_next]

theorem kept_ticketBody (i : Nat) (r : JoinRes) : Kept s₀ (ticketBody s i r).2 := by grind [ticketBody, kept_boxSign]

theorem kept_boxTicket (i : Nat) (r : JoinRes) : Kept s₀ (boxTicket i r s) := by
  grind [boxTicket, kept_ticketBody, kept_post]

theorem kept_joinIndex (r : JoinRes) : Kept s₀ (joinIndex r s).2 := by
  grind [joinIndex, kept_ctxView, kept_allocNode, kept_replaceContext]

theorem kept_keepResult (eui : BitVec 64) (status i : Nat) (stored : List Byte) :
    Kept s₀ (keepResult eui status i stored s) := by
  grind [keepResult, kept_modMesh]

theorem kept_joinBack (eui : BitVec 64) : Kept s₀ (joinBack eui s) := by grind [joinBack, kept_modMesh]

theorem kept_joinDone (i : Nat) (r : JoinRes) (t : List Byte) : Kept s₀ (joinDone i r t s) := by
  grind [joinDone, kept_joinBack, kept_keepResult]

theorem kept_joinTakeBack (r : JoinRes) : Kept s₀ (joinTakeBack r s) := by
  grind [joinTakeBack, kept_joinBack, kept_keepResult, kept_ctxView, kept_joinIndex, kept_countReg, kept_emit,
    kept_post, kept_askCtx]

theorem keptO_execJoinResult (r : JoinRes) : KeptO s₀ (execJoinResult r s) := by
  grind [execJoinResult, kept_takeItem, kept_joinTakeBack, keptO_next]

theorem kept_nodeAdmit (e : Nat) (c : Sub) : Kept s₀ (nodeAdmit e c s) := by
  grind [nodeAdmit, kept_allocNode, kept_replySt, kept_ctxView, kept_countReg, kept_finish]

omit hk in
theorem actKept_cmdNodeAdmit (s₀ : State) : ActKept s₀ cmdNodeAdmit := fun _ hk _ _ => kept_nodeAdmit hk ..

theorem keptO_execNodeAdmit (c : Sub) : KeptO s₀ (execNodeAdmit c s) := by
  grind [execNodeAdmit, kept_runCmd, actKept_cmdNodeAdmit, keptO_next]

theorem kept_flushNode (i : Nat) : Kept s₀ (flushNode i s) := by
  have h1 : Kept s₀ ((node s i).downs.foldl (fun s d => closeDown i 6 stFlushed d s) s) :=
    kept_foldl (fun _ _ hu => kept_closeDown hu ..) _ hk
  unfold flushNode
  grind [kept_done, kept_modNode]

theorem kept_nodeEvict (e : Nat) (c : Sub) : Kept s₀ (nodeEvict e c s) := by
  grind [nodeEvict, kept_modNode, kept_flushNode, kept_done, kept_freeNode]

omit hk in
theorem actKept_cmdNodeEvict (s₀ : State) : ActKept s₀ cmdNodeEvict := fun _ hk _ _ => kept_nodeEvict hk ..

theorem keptO_execNodeEvict (c : Sub) : KeptO s₀ (execNodeEvict c s) := by
  grind [execNodeEvict, kept_runCmd, actKept_cmdNodeEvict, keptO_next]

theorem kept_superviseNode (i : Nat) : Kept s₀ (superviseNode i s) := by
  grind [superviseNode, kept_nodeEvent, kept_setSt]

theorem keptO_execSupervisionTimeout (i : Nat) : KeptO s₀ (execSupervisionTimeout i s) := by
  grind [execSupervisionTimeout, kept_takeItem, kept_superviseNode, keptO_next]

theorem kept_timeOutJoin (i : Nat) : Kept s₀ (timeOutJoin i s) := by grind [timeOutJoin, kept_setSt, kept_freeNode]

theorem keptO_execJoinTimeout (i : Nat) : KeptO s₀ (execJoinTimeout i s) := by
  grind [execJoinTimeout, kept_takeItem, kept_timeOutJoin, keptO_next]

theorem kept_limitDormant (i : Nat) : Kept s₀ (limitDormant i s) := by grind [limitDormant, kept_freeNode]

theorem keptO_execDormantLimit (i : Nat) : KeptO s₀ (execDormantLimit i s) := by
  grind [execDormantLimit, kept_takeItem, kept_limitDormant, keptO_next]

theorem kept_repeatOverture (i : Nat) : Kept s₀ (repeatOverture i s) := by grind [repeatOverture, kept_sendOverture]

theorem keptO_execOvertureRetry (i : Nat) : KeptO s₀ (execOvertureRetry i s) := by
  grind [execOvertureRetry, kept_takeItem, kept_repeatOverture, keptO_next]

theorem kept_expireHold (i id : Nat) : Kept s₀ (expireHold i id s) := by grind [expireHold, kept_closeDown]

theorem keptO_execHoldExpiry (i : Nat) (id : Nat) : KeptO s₀ (execHoldExpiry i id s) := by
  grind [execHoldExpiry, kept_takeItem, kept_expireHold, keptO_next]

theorem kept_expireLeave (i : Nat) : Kept s₀ (expireLeave i s) := by grind [expireLeave, kept_freeNode]

theorem keptO_execLeaveHoldExpiry (i : Nat) : KeptO s₀ (execLeaveHoldExpiry i s) := by
  grind [execLeaveHoldExpiry, kept_takeItem, kept_expireLeave, keptO_next]

/-! ### Model section `Sec` -/

theorem kept_keyChange (f : Keys → Keys) : Kept s₀ (keyChange f s) := by grind [keyChange, kept_modSec]

theorem kept_takeKeys : Kept s₀ (takeKeys s) := by grind [takeKeys, kept_modSec, kept_emit]

theorem kept_turnGroupKey : Kept s₀ (turnGroupKey s) := by grind [turnGroupKey, kept_emit, kept_modSec]

theorem kept_installGroup (c : Sub) : Kept s₀ (installGroup c s).2 := by
  have owed {u : State} (hu : Kept s₀ u) (m : Mesh) : Kept s₀ { u with mesh := m } := kept_of_same hu rfl rfl rfl
  unfold installGroup
  dsimp only
  split <;> exact owed (kept_keyChange hk _) _

theorem kept_keyAct (e : Nat) (c : Sub) : Kept s₀ (keyAct e c s) := by
  grind [keyAct, kept_keyChange, kept_installGroup, kept_finish, kept_emit]

omit hk in
theorem actKept_cmdKeyInstall (s₀ : State) : ActKept s₀ cmdKeyInstall := fun _ hk _ _ => kept_keyAct hk ..

theorem keptO_execKeyInstall (c : Sub) : KeptO s₀ (execKeyInstall c s) := by
  grind [execKeyInstall, kept_runCmd, actKept_cmdKeyInstall, keptO_next]

theorem kept_rootRefused (why : Nat) : Kept s₀ (rootRefused why s) := by
  grind [rootRefused, kept_emitLocal, kept_modSec]

theorem kept_programRoot : Kept s₀ (programRoot s) := by
  unfold programRoot
  split
  · exact kept_rootRefused hk _
  next hr =>
    refine kept_ite (kept_rootRefused hk _) (kept_of_fuses hk rfl ?_ rfl)
    exact ⟨.inl (by simpa using hr), le_rfl, BitVec.or_self, rfl, rfl, rfl, rfl, rfl, rfl⟩

theorem keptO_execRootProgram : KeptO s₀ (execRootProgram s) := by
  grind [execRootProgram, kept_programRoot, keptO_next]

theorem keptO_execRootFusingComplete : KeptO s₀ (execRootFusingComplete s) := by
  grind [execRootFusingComplete, kept_modSec, keptO_next]

theorem kept_trngRecord (test outcome : Nat) : Kept s₀ (trngRecord test outcome s) := by
  grind [trngRecord, kept_emitLocal]

theorem kept_failTrng (test : Nat) : Kept s₀ (failTrng test s) := by grind [failTrng, kept_trngRecord, kept_modSec]

theorem kept_endTrngTest (pass : Bool) : Kept s₀ (endTrngTest pass s) := by
  grind [endTrngTest, kept_modSec, kept_testOutcome, kept_modWings, kept_restartNext]

theorem keptO_execTrngHealthFail (test : Nat) : KeptO s₀ (execTrngHealthFail test s) := by
  grind [execTrngHealthFail, kept_failTrng, keptO_next]

theorem keptO_execTrngRestartEnd (pass : Bool) : KeptO s₀ (execTrngRestartEnd pass s) := by
  grind [execTrngRestartEnd, kept_endTrngTest, keptO_next]

theorem kept_takeDraw : Kept s₀ (takeDraw s) := by grind [takeDraw, kept_modSec]

theorem kept_debugAttempt (ok : Bool) : Kept s₀ (debugAttempt ok s) := by
  grind [debugAttempt, kept_emitLocal, kept_modSec]

theorem kept_newChallenge (draw : List Byte) : Kept s₀ (newChallenge draw s) := by
  grind [newChallenge, kept_debugAttempt, kept_modSec]

theorem kept_tryUnlock : Kept s₀ (tryUnlock s) := by grind [tryUnlock, kept_debugAttempt, kept_modSec]

theorem keptO_execNewChal (draw : List Byte) : KeptO s₀ (execNewChal draw s) := by
  grind [execNewChal, kept_newChallenge, keptO_next]

theorem keptO_execUnlock : KeptO s₀ (execUnlock s) := by grind [execUnlock, kept_tryUnlock, keptO_next]

/-! ### Model section `Intake` -/

theorem kept_sendRecord (r : Latched) : Kept s₀ (sendRecord r s) := by
  grind [sendRecord, kept_modPair, kept_sendPairs]

theorem kept_noteAccept (cue : CueNo) (x : Input) : Kept s₀ (noteAccept cue s x) := by grind [noteAccept, kept_modHif]

theorem kept_latchLive : Kept s₀ (latchLive s) := by
  unfold latchLive
  extract_lets cue start last y l r s1 s2 waits
  have h1 : Kept s₀ s1 := kept_foldl (fun _ _ hu => kept_noteAccept hu ..) _ hk
  clear_value s1
  have h2 : Kept s₀ s2 := kept_modProc h1 _
  clear_value s2 waits r
  have h3 := kept_modHif (f := fun h => { h with fetchedBytes := waits.sum }) h2 fun _ => rfl
  exact kept_sendRecord (kept_takeDraw h3) _

theorem kept_latchRead (partner : Bool) (bytes : List Byte) : Kept s₀ (latchRead partner bytes s) := by
  grind [latchRead, kept_modProc]

theorem kept_resetBudgets : Kept s₀ (resetBudgets s) := by grind [resetBudgets, kept_foldl, kept_modEng]

theorem kept_correctLedgers : Kept s₀ (correctLedgers s) := by
  grind [correctLedgers, kept_foldl, kept_ledgerCorrect, kept_modTx]

theorem kept_takeTime : Kept s₀ (takeTime s) := by
  grind [takeTime, kept_takeTimeChanges, kept_pulsesCue, kept_mainsRestart]

theorem kept_noteTags : Kept s₀ (noteTags s) := by grind [noteTags, kept_foldl, kept_tagNote]

theorem kept_beginCue : Kept s₀ (beginCue s) := by
  unfold beginCue
  split
  · exact hk
  · exact kept_noteTags (kept_turnGroupKey (kept_takeKeys (kept_takeTime (kept_takeRecords (kept_correctLedgers
      (kept_modMesh (kept_resetBudgets (kept_modProc hk _)) _))))))

theorem kept_beginNext : Kept s₀ (beginNext s) := by grind [beginNext, kept_beginCue, kept_modProc]

end

end Sys2Proof.Machine
end

section
/-! SUPPORT. What no function of the model breaks (`Kept`): the receive side, the die link and integrity. -/

namespace Sys2Proof.Machine

section
variable {s₀ s : State} (hk : Kept s₀ s)
include hk

/-! ### Model section `Rx` -/

theorem kept_markPort (p : Nat) (fl : BitVec 16) : Kept s₀ (markPort p fl s) := kept_of_same hk rfl rfl rfl

theorem kept_rxInput (r : Reception) : Kept s₀ (rxInput r s) := by grind [rxInput, kept_input]

theorem kept_missWindow (n : Nat) (t : Stamp) (w : Window) : Kept s₀ (missWindow n t s w) := by
  grind [missWindow, kept_rxInput]

theorem kept_endWindow (n : Nat) : Kept s₀ (endWindow n s) := by grind [endWindow, kept_modLine]

theorem kept_noSync (n : Nat) (t : Stamp) : Kept s₀ (noSync n t s) := by grind [noSync, kept_rxInput, kept_endWindow]

theorem kept_demCount (n lo : Nat) : Kept s₀ (demCount n lo s) := by grind [demCount, kept_setRBits]

theorem kept_falseDet (n : Nat) : Kept s₀ (falseDet n s) := by grind [falseDet, kept_demCount]

theorem kept_settleWindow (n : Nat) (t : Stamp) : Kept s₀ (settleWindow n t s) := by grind [settleWindow, kept_noSync]

theorem kept_abortDet (n : Nat) (t : Stamp) (d : Nat) : Kept s₀ (abortDet n t s d) := by
  grind [abortDet, kept_modDet, kept_rxInput, kept_falseDet, kept_endWindow]

theorem kept_abortLine (t : Stamp) (n : Nat) : Kept s₀ (abortLine t s n) := by
  grind [abortLine, kept_foldl, kept_abortDet]

theorem kept_missWindows (p : Window → Bool) (t : Stamp) (n : Nat) : Kept s₀ (missWindows p t s n) := by
  grind [missWindows, kept_foldl, kept_missWindow, kept_endWindow, kept_modLine]

theorem kept_spotOpen (c : CueNo) (p : Nat) : Kept s₀ (spotOpen c s p) := by grind [spotOpen, kept_modPort]

theorem kept_spotRoll : Kept s₀ (spotRoll s) := kept_ite hk (kept_foldl (fun _ _ hu => kept_spotOpen hu ..) _ hk)

theorem kept_spotNote (p : Nat) (f : Spot → Spot) : Kept s₀ (spotNote p f s) := by
  grind [spotNote, kept_modPort, kept_spotRoll]

theorem kept_spotCue : Kept s₀ (spotCue s) := by grind [spotCue, kept_foldl, kept_spotOpen]

theorem kept_stepGain (p g : Nat) : Kept s₀ (stepGain p g s) := by
  unfold stepGain
  split
  · exact hk
  · exact kept_lines (kept_modPort (kept_spotNote hk ..) ..) _

theorem kept_applyGain (p : Nat) (want : Int) : Kept s₀ (applyGain p want s) := by
  grind [applyGain, kept_modPort, kept_stepGain]

theorem kept_forceGain (p : Nat) (want : Int) : Kept s₀ (forceGain p want s) := by
  grind [forceGain, kept_emitLocal, kept_setRBit, kept_markPort, kept_applyGain]

theorem kept_keepPending (p : Nat) (want : Int) : Kept s₀ (keepPending p want s) := by
  grind [keepPending, kept_modPort]

theorem kept_gainLoop (p : Nat) (m : Option PortMeas) (hold : Bool) : Kept s₀ (gainLoop p m hold s) := by
  grind [gainLoop, kept_keepPending, kept_modPort, kept_applyGain, kept_forceGain]

theorem kept_gainDecision (m : Option PortMeas) (p : Nat) : Kept s₀ (gainDecision m s p) := by
  grind [gainDecision, kept_modPort, kept_gainLoop]

theorem kept_gainDecisions (meas : List PortMeas) : Kept s₀ (gainDecisions meas s) := by
  grind [gainDecisions, kept_foldl, kept_gainDecision]

theorem kept_overload (p clips : Nat) : Kept s₀ (overload p clips s) := by
  grind [overload, kept_modPort, kept_emitLocal, kept_setRBit, kept_countReg, kept_markPort, kept_stepGain,
    kept_spotNote]

theorem kept_enablePort (p : Nat) : Kept s₀ (enablePort p s) := by
  grind [enablePort, kept_modPort, kept_spotNote, kept_setRBit]

theorem kept_captureLost (p : Nat) : Kept s₀ (captureLost p s) := by grind [captureLost, kept_modHif]

theorem kept_silencePort (p : Nat) (t : Stamp) : Kept s₀ (silencePort p t s) := by
  grind [silencePort, kept_foldl, kept_abortLine, kept_captureLost, kept_missWindows]

theorem kept_disablePort (p : Nat) (t : Stamp) : Kept s₀ (disablePort p t s) := by
  grind [disablePort, kept_modPort, kept_silencePort, kept_setRBits]

theorem kept_forcePort (p : Nat) : Kept s₀ (forcePort p s) := by
  grind [forcePort, kept_markPort, kept_modPort, kept_stepGain]

theorem kept_setBlank (c : Chain) (on : Bool) (p : Nat) : Kept s₀ (setBlank c on p s) := by
  grind [setBlank, kept_modPort]

theorem kept_blankBegin (c : Chain) (q : Word32) : Kept s₀ (blankBegin c q s) := by
  grind [blankBegin, kept_foldl, kept_markPort, kept_setBlank, kept_spotNote, kept_modTx]

theorem kept_blankEnd (c : Chain) : Kept s₀ (blankEnd c s) := by
  grind [blankEnd, kept_foldl, kept_setBlank, kept_spotRoll, kept_modTx]

theorem kept_blankBegins (c : Chain) (t : Stamp) : Kept s₀ (blankBegins c t s) := by
  grind [blankBegins, kept_blankBegin]

theorem kept_blankEnds (c : Chain) (t : Stamp) : Kept s₀ (blankEnds c t s) := by grind [blankEnds, kept_blankEnd]

theorem kept_judgeBand (n : Nat) : Kept s₀ (judgeBand s n) := by
  grind [judgeBand, kept_modLine, kept_emitLocal, kept_setRBit]

theorem kept_judgeBw (n : Nat) : Kept s₀ (judgeBw s n) := by grind [judgeBw, kept_modLine, kept_emitLocal]

theorem kept_takeShadows (t : Stamp) (n : Nat) : Kept s₀ (takeShadows t n s) := by
  grind [takeShadows, kept_missWindows, kept_judgeBw, kept_judgeBand, kept_modLine]

theorem kept_shadowTake (n : Nat) : Kept s₀ (shadowTake s n) := by
  grind [shadowTake, kept_takeShadows, kept_abortLine]

theorem kept_lineTables (n : Nat) : Kept s₀ (lineTables s n) := by grind [lineTables, kept_modLine]

theorem kept_shadowTakes : Kept s₀ (shadowTakes s) := by
  grind [shadowTakes, kept_foldl, kept_shadowTake, kept_lineTables]

theorem kept_writeWindow (n : Nat) (w : Window) : Kept s₀ (writeWindow n w s) := by
  grind [writeWindow, kept_missWindow, kept_modLine]

theorem kept_lineRetune (n : Nat) (t : Stamp) : Kept s₀ (lineRetune n t s) := by
  grind [lineRetune, kept_modLine, kept_missWindow, kept_noSync, kept_judgeBw, kept_judgeBand]

theorem kept_windowStart (n : Nat) (t : Stamp) : Kept s₀ (windowStart n t s) := by grind [windowStart, kept_modLine]

theorem kept_windowEnd (n : Nat) (t : Stamp) : Kept s₀ (windowEnd n t s) := by
  grind [windowEnd, kept_settleWindow, kept_modLine]

theorem kept_sampleLoss (p : Nat) (t : Stamp) : Kept s₀ (sampleLoss p t s) := by
  grind [sampleLoss, kept_emitLocal, kept_setRBit, kept_markPort, kept_modPort, kept_spotNote]

theorem kept_portOut (p : Nat) (t : Stamp) : Kept s₀ (portOut p t s) := by
  grind [portOut, kept_modPort, kept_silencePort]

theorem keptO_execPortEnable (p : Fin 4) : KeptO s₀ (execPortEnable p s) := by
  grind [execPortEnable, kept_enablePort, keptO_next]

theorem keptO_execPortDisable (p : Fin 4) : KeptO s₀ (execPortDisable p s) := by
  grind [execPortDisable, kept_disablePort, keptO_next]

theorem keptO_execPortForce (p : Fin 4) : KeptO s₀ (execPortForce p s) := by
  grind [execPortForce, kept_forcePort, keptO_next]

theorem keptO_execLineCommit (n : Fin 96) : KeptO s₀ (execLineCommit n s) := by
  grind [execLineCommit, kept_modLine, keptO_next]

theorem keptO_execLineForce (n : Fin 96) : KeptO s₀ (execLineForce n s) := by
  grind [execLineForce, kept_modLine, keptO_next]

theorem keptO_execOverloadStep (p : Fin 4) (clips : Nat) (t : Stamp) : KeptO s₀ (execOverloadStep p clips t s) := by
  grind [execOverloadStep, kept_overload, kept_atTime, keptO_next]

theorem keptO_execBlankBegin (c : Chain) (t : Stamp) : KeptO s₀ (execBlankBegin c t s) := by
  grind [execBlankBegin, kept_blankBegins, kept_atTime, keptO_next]

theorem keptO_execBlankEnd (c : Chain) (t : Stamp) : KeptO s₀ (execBlankEnd c t s) := by
  grind [execBlankEnd, kept_blankEnds, kept_atTime, keptO_next]

theorem keptO_execLineRetune (n : Fin 96) (t : Stamp) : KeptO s₀ (execLineRetune n t s) := by
  grind [execLineRetune, kept_lineRetune, kept_atTime, keptO_next]

theorem keptO_execWindowStart (n : Fin 96) (t : Stamp) : KeptO s₀ (execWindowStart n t s) := by
  grind [execWindowStart, kept_windowStart, kept_atTime, keptO_next]

theorem keptO_execWindowEnd (n : Fin 96) (t : Stamp) : KeptO s₀ (execWindowEnd n t s) := by
  grind [execWindowEnd, kept_windowEnd, kept_atTime, keptO_next]

theorem keptO_execSampleBlockCrcFail (b : BlockFail) : KeptO s₀ (execSampleBlockCrcFail b s) := by
  grind [execSampleBlockCrcFail, kept_sampleLoss, kept_atTime, keptO_next]

/-! ### Model section `Lanes` -/

theorem kept_setSpare (down : Bool) (l : Option Nat) : Kept s₀ (setSpare down l s) := by
  grind [setSpare, kept_modWings]

theorem kept_moveTraffic (down : Bool) (lane : Nat) : Kept s₀ (moveTraffic down lane s) := by
  grind [moveTraffic, kept_setSpare, kept_modWings]

theorem kept_laneFails (down : Bool) (lane : Nat) : Kept s₀ (laneFails down lane s) := by
  grind [laneFails, kept_moveTraffic, kept_setSpare, kept_emitLocal, kept_modWings]

theorem kept_laneLost (down : Bool) (n : Nat) : Kept s₀ (laneLost down n s) := by
  grind [laneLost, kept_outOfService, kept_portOut]

theorem kept_laneTested (down : Bool) (lane : Nat) (pass : Bool) : Kept s₀ (laneTested down lane pass s) := by
  grind [laneTested, kept_modWings, kept_testOutcome, kept_setSpare, kept_moveTraffic, kept_laneLost]

theorem kept_bootLanes (bad : List (Bool × Nat)) : Kept s₀ (bootLanes bad s) := by
  grind [bootLanes, kept_foldl, kept_moveTraffic, kept_setSpare, kept_modPort, kept_modWings]

theorem kept_returnLane (down : Bool) (lane : Nat) : Kept s₀ (returnLane down lane s) := by
  grind [returnLane, kept_modWings, kept_setSpare]

theorem keptO_execLaneError (down : Bool) (lane : Nat) : KeptO s₀ (execLaneError down lane s) := by
  grind [execLaneError, kept_laneFails, keptO_next, keptO_fault]

theorem keptO_execLanePatternTestEnd (down : Bool) (lane : Nat) (pass : Bool) :
    KeptO s₀ (execLanePatternTestEnd down lane pass s) := by
  grind [execLanePatternTestEnd, kept_laneTested, keptO_next, keptO_fault]

/-! ### Model section `Integrity` -/

theorem kept_latchError (f : EccFault) : Kept s₀ (latchError f s) := by grind [latchError, kept_setReg]

theorem kept_planMarch (b row cells : Nat) : Kept s₀ (planMarch b row cells s) := by grind [planMarch, kept_modWings]

theorem kept_raiseException (e : Nat) : Kept s₀ (raiseException e s) := by
  grind [raiseException, kept_modProc, kept_modEng, kept_modPair, kept_emitLocal]

theorem kept_loseRecord : Kept s₀ (loseRecord s) := by
  unfold loseRecord
  split
  · exact hk
  · refine kept_modPair ?_ _
    exact kept_of_same hk rfl rfl rfl

theorem kept_flushFrame (c : Chain) : Kept s₀ (flushFrame c s) := by
  grind [flushFrame, kept_dropCur, kept_decideNot, kept_modTx]

theorem kept_poisonedRead (r : Reader) : Kept s₀ (poisonedRead r s) := by
  cases r with
  | engine e => exact kept_raiseException hk e
  | queue h => exact kept_discardPacket hk h
  | chain c => exact kept_flushFrame hk c
  | pairLink => exact kept_loseRecord hk
  | hostDma => exact hk
  | bar4 => exact hk
  | scrubber => exact hk

theorem kept_eccError (f : EccFault) : Kept s₀ (eccError f s) := by
  have h1 := kept_latchError hk f
  unfold eccError
  exact kept_ite (kept_poisonedRead (kept_modWings (kept_planMarch (kept_emitLocal (kept_countReg h1 ..) ..) ..) _) _)
    (kept_planMarch (kept_emitLocal (kept_modWings (kept_countReg h1 ..) _) ..) ..)

theorem kept_assignSpare (b sp : Nat) : Kept s₀ (assignSpare b sp s) := by grind [assignSpare, kept_modWings]

theorem kept_bankFails (b : Nat) : Kept s₀ (bankFails b s) := by
  grind [bankFails, kept_assignSpare, kept_emitLocal, kept_modWings]

theorem kept_marchTest (b row cells : Nat) : Kept s₀ (marchTest b row cells s) := by
  grind [marchTest, kept_testOutcome, kept_bankFails]

theorem kept_marchTests : Kept s₀ (marchTests s) := by grind [marchTests, kept_foldl, kept_marchTest, kept_modWings]

theorem kept_scrub : Kept s₀ (scrub s) := by grind [scrub, kept_modWings, kept_setRBits]

theorem kept_migrate : Kept s₀ (migrate s) := by grind [migrate, kept_modWings]

theorem kept_bankSwap : Kept s₀ (bankSwap s) := by grind [bankSwap, kept_modWings, kept_emitLocal]

theorem keptO_execEngineException (e : Fin 12) : KeptO s₀ (execEngineException e s) := by
  grind [execEngineException, kept_raiseException, keptO_next]

theorem kept_liveCoreTest (e : Nat) (pass : Bool) (checks : Nat) : Kept s₀ (liveCoreTest e pass checks s) := by
  grind [liveCoreTest, kept_testOutcome, kept_modEng, kept_restartNext, kept_restartNow]

theorem kept_restartCoreTest (e : Nat) (pass : Bool) (checks : Nat) : Kept s₀ (restartCoreTest e pass checks s) := by
  grind [restartCoreTest, kept_modPwr, kept_testOutcome, kept_modEng, kept_emitLocal, kept_modProc]

theorem kept_returnUnit (cls ix : Nat) : Kept s₀ (returnUnit cls ix s) := by
  unfold returnUnit
  split
  · exact kept_modWings hk _
  · exact kept_modHwq hk ..
  · exact kept_returnLane hk ..
  · exact kept_modTx hk ..
  · exact kept_modEng hk ..

theorem kept_selftestReply (c : Sub) (fails : Nat) : Kept s₀ (selftestReply c fails s) := by
  grind [selftestReply, kept_reply]

theorem kept_selftestEnds (c : Sub) (fails : Nat) : Kept s₀ (selftestEnds c fails s) := by
  grind [selftestEnds, kept_testOutcome, kept_selftestReply, kept_returnUnit, kept_bankFails]

theorem kept_selftestStarts (c : Sub) (fails : Nat) : Kept s₀ (selftestStarts c fails s) := by
  grind [selftestStarts, kept_modHif, kept_modEng, kept_selftestEnds]

theorem kept_sweepBanks : Kept s₀ (sweepBanks s) := by grind [sweepBanks, kept_foldl, kept_selftestEnds, kept_modHif]

theorem kept_selfCoreTest (e : Nat) (pass : Bool) (checks : Nat) : Kept s₀ (selfCoreTest e pass checks s) := by
  grind [selfCoreTest, kept_foldl, kept_modHif, kept_selftestReply, kept_modEng, kept_testOutcome, kept_liveCoreTest]

theorem keptO_execCoreTestEnd (e : Fin 12) (pass : Bool) (checks : Nat) :
    KeptO s₀ (execCoreTestEnd e pass checks s) := by
  grind [execCoreTestEnd, kept_restartCoreTest, kept_selfCoreTest, kept_liveCoreTest, keptO_next]

omit hk in
theorem actKept_cmdSelftest (s₀ : State) (n : Nat) : ActKept s₀ (cmdSelftest n) :=
  fun _ hk _ _ => kept_selftestStarts hk ..

theorem keptO_execSelftestRun (c : Sub) (fails : Nat) : KeptO s₀ (execSelftestRun c fails s) := by
  grind [execSelftestRun, kept_runCmd, actKept_cmdSelftest, keptO_next]

end

end Sys2Proof.Machine
end

section
/-! SUPPORT. What no function of the model breaks (`Kept`): power, updates, the boot and the Call Board. -/

namespace Sys2Proof.Machine

section
variable {s₀ s : State} (hk : Kept s₀ s)
include hk

/-! ### Model section `Power` -/

theorem kept_modeRecord : Kept s₀ (modeRecord s) := by grind [modeRecord, kept_emitLocal]

theorem kept_cutJournal (b : Word64) : Kept s₀ (cutJournal b s) := by
  grind [cutJournal, kept_emitLocal, kept_modBoard]

theorem kept_cutWrites : Kept s₀ (cutWrites s) := by
  unfold cutWrites
  extract_lets x b s1 s2
  have h1 : Kept s₀ s1 := kept_modUpd (kept_fresh hk) _
  clear_value s1
  have h2 : Kept s₀ s2 := by
    refine kept_ite (kept_of_fuses h1 rfl ?_ rfl) h1
    refine ⟨.inr rfl, Nat.le_add_right _ _, ?_, rfl, rfl, rfl, rfl, rfl, rfl⟩
    exact BitVec.or_assoc .. ▸ congrArg (· ||| _) BitVec.or_self
  exact kept_cutJournal h2 _

theorem kept_keepDomain (m : Power) : Kept s₀ (keepDomain m s) := kept_of_same hk rfl rfl rfl

theorem kept_startMain : Kept s₀ (startMain s) := by
  grind [startMain, kept_keepDomain, kept_modeRecord, kept_resetRecord, kept_modPwr]

theorem kept_systemReset (cause : Nat) : Kept s₀ (systemReset cause s) := by
  grind [systemReset, kept_modPwr, kept_keepDomain, kept_resetRecord, kept_setRBit]

theorem kept_bootRestart : Kept s₀ (bootRestart s) := by
  unfold bootRestart
  split
  · refine kept_resetRecord ?_ 8 0
    exact kept_of_same hk rfl rfl rfl
  · exact hk

theorem kept_loseMain (code : Nat) : Kept s₀ (loseMain code s) := by
  grind [loseMain, kept_cutWrites, kept_stopNow, kept_emitLocal, kept_keepDomain]

theorem kept_tryMainStart (a b : Int) : Kept s₀ (tryMainStart a b s) := by
  grind [tryMainStart, kept_modPwr, kept_startMain]

theorem kept_keepStart : Kept s₀ (keepStart s) := by
  unfold keepStart
  split
  · exact kept_of_same hk rfl rfl rfl
  · exact hk

theorem kept_loseKeep : Kept s₀ (loseKeep s) := kept_of_same (kept_cutWrites hk) rfl rfl rfl

theorem keptO_execVkeepGood : KeptO s₀ (execVkeepGood s) := by grind [execVkeepGood, kept_keepStart, keptO_next]

theorem keptO_execVkeepLost : KeptO s₀ (execVkeepLost s) := by grind [execVkeepLost, kept_loseKeep, keptO_next]

theorem keptO_execVinGood (tPit : Int) (tStage : Int) : KeptO s₀ (execVinGood tPit tStage s) := by
  grind [execVinGood, kept_tryMainStart, kept_modPwr, keptO_next]

theorem keptO_execMainStartOnCooling (tPit : Int) (tStage : Int) :
    KeptO s₀ (execMainStartOnCooling tPit tStage s) := by
  grind [execMainStartOnCooling, kept_tryMainStart, keptO_next]

theorem keptO_execVinLost : KeptO s₀ (execVinLost s) := by grind [execVinLost, kept_modPwr, kept_loseMain, keptO_next]

theorem keptO_execRailFault (rail : Fin 7) : KeptO s₀ (execRailFault rail s) := by
  grind [execRailFault, kept_systemReset, keptO_next]

theorem keptO_execVioFault (bankB : Bool) : KeptO s₀ (execVioFault bankB s) := by
  grind [execVioFault, kept_emitLocal, kept_setRBit, kept_modPwr, keptO_next]

theorem keptO_execRstN : KeptO s₀ (execRstN s) := by grind [execRstN, kept_systemReset, keptO_next]

theorem keptO_execSystemReset : KeptO s₀ (execSystemReset s) := by
  grind [execSystemReset, kept_systemReset, keptO_next]

theorem keptO_execReboot : KeptO s₀ (execReboot s) := by grind [execReboot, kept_bootRestart, keptO_next]

theorem keptO_execTrstN : KeptO s₀ (execTrstN s) := by grind [execTrstN, kept_modSec, keptO_next]

theorem kept_watchdogRecord (n : Nat) : Kept s₀ (watchdogRecord n s) := by grind [watchdogRecord, kept_emitLocal]

theorem keptO_execBootWatchdog : KeptO s₀ (execBootWatchdog s) := by
  grind [execBootWatchdog, kept_systemReset, kept_watchdogRecord, keptO_next]

theorem keptO_execKeepWatchdog : KeptO s₀ (execKeepWatchdog s) := by
  grind [execKeepWatchdog, kept_systemReset, kept_watchdogRecord, keptO_next]

theorem keptO_execHostWatchdog : KeptO s₀ (execHostWatchdog s) := by
  grind [execHostWatchdog, kept_watchdogRecord, kept_setRBit, kept_modPwr, kept_restartNext, keptO_next]

theorem kept_kickHost : Kept s₀ (kickHost s) := by grind [kickHost, kept_modPwr]

theorem keptO_execKick : KeptO s₀ (execKick s) := by grind [execKick, kept_kickHost, keptO_next]

theorem kept_readTemps (a b : Int) : Kept s₀ (readTemps a b s) := by
  have h0 := kept_modPwr hk fun p => { p with tPit := a, tStage := b }
  unfold readTemps
  generalize modPwr (fun p => { p with tPit := a, tStage := b }) s = u at h0 ⊢
  extract_lets t w v s1 s2
  have h1 : Kept s₀ s1 :=
    kept_ite (kept_emitLocal (kept_setRBit (kept_modPwr h0 _) ..) ..) (kept_ite (kept_modPwr h0 _) h0)
  clear_value s1
  have h2 : Kept s₀ s2 :=
    kept_ite (kept_emitLocal (kept_cutChains (kept_modPwr h1 _) _) ..) (kept_ite (kept_modPwr h1 _) h1)
  clear_value s2
  exact kept_ite (kept_modPwr (kept_loseMain h2 _) _) h2

theorem kept_quietSet : Kept s₀ (quietSet s) := by
  grind [quietSet, kept_foldl, kept_missWindows, kept_abortLine, kept_modLine, kept_modPort]

theorem kept_quietClear : Kept s₀ (quietClear s) := kept_of_same hk rfl rfl rfl

theorem kept_takeMode : Kept s₀ (takeMode s) := by
  unfold takeMode
  split
  · exact kept_quietSet (kept_modeRecord (kept_modPwr (kept_disableChain (kept_disableChain hk ..) ..) _))
  · exact kept_quietClear (kept_modeRecord (kept_modPwr hk _))
  · exact kept_ite (kept_quietSet hk) hk

theorem kept_askQuiet : Kept s₀ (askQuiet s) := by grind [askQuiet, kept_setRBits, kept_modPwr]

theorem kept_askFull : Kept s₀ (askFull s) := by grind [askFull, kept_setRBits, kept_modPwr]

theorem keptO_execReqQuiet : KeptO s₀ (execReqQuiet s) := by grind [execReqQuiet, kept_askQuiet, keptO_next]

theorem keptO_execReqFull : KeptO s₀ (execReqFull s) := by grind [execReqFull, kept_askFull, keptO_next]

theorem kept_askRetention : Kept s₀ (askRetention s) := by
  grind [askRetention, kept_setRBits, kept_modPwr, kept_emitLocal, kept_setRBit]

theorem keptO_execReqRetention : KeptO s₀ (execReqRetention s) := by
  grind [execReqRetention, kept_askRetention, keptO_next]

theorem kept_suspend : Kept s₀ (suspend s) := by
  grind [suspend, kept_foldl, kept_resetEndpoint, kept_disablePort, kept_cutChains]

theorem kept_enterRetention : Kept s₀ (enterRetention s) := by
  grind [enterRetention, kept_modeRecord, kept_stopPins, kept_ptpRetention, kept_modPwr]

theorem kept_wake : Kept s₀ (wake s) := by
  grind [wake, kept_modWings, kept_setRBits, kept_modeRecord, kept_quietClear, kept_modPwr]

theorem keptO_execRetentionWake (t : Stamp) : KeptO s₀ (execRetentionWake t s) := by
  grind [execRetentionWake, kept_wake, kept_atTime, keptO_next]

theorem kept_loseClock (d : Nat) : Kept s₀ (loseClock d s) := by
  grind [loseClock, kept_emitLocal, kept_setRBit, kept_modPwr, kept_stopNow, kept_refuseRetention, kept_cutChains]

theorem keptO_execClockLost (domain : Fin 14) (t : Stamp) : KeptO s₀ (execClockLost domain t s) := by
  grind [execClockLost, kept_loseClock, kept_atTime, keptO_next]

theorem kept_clocksBack : Kept s₀ (clocksBack s) := by grind [clocksBack, kept_modPwr, kept_restartNow]

theorem keptO_execClockRecovered (t : Stamp) : KeptO s₀ (execClockRecovered t s) := by
  grind [execClockRecovered, kept_clocksBack, kept_atTime, keptO_next]

/-! ### Model section `Update` -/

theorem kept_modUpdOf (partner : Bool) (f : Upd → Upd) : Kept s₀ (modUpdOf partner f s) := by
  cases partner <;> exact kept_of_same hk rfl rfl rfl

theorem kept_secureBoot (reason key sec image : Nat) : Kept s₀ (secureBoot reason key sec image s) := by
  grind [secureBoot, kept_emitLocal]

theorem kept_imageStage (e : Nat) (c : Sub) : Kept s₀ (imageStage e c s) := by grind [imageStage, kept_modUpdOf]

omit hk in
theorem actKept_cmdImageStage (s₀ : State) : ActKept s₀ cmdImageStage := fun _ hk e c => kept_imageStage hk e c

theorem keptO_execImageStage (c : Sub) : KeptO s₀ (execImageStage c s) := by
  grind [execImageStage, kept_runCmd, actKept_cmdImageStage, keptO_next]

theorem kept_endStage (c : Sub) (x : UpdEnd) : Kept s₀ (endStage c x s) := by
  grind [endStage, kept_modUpdOf, kept_reply, kept_emitLocal, kept_emit, kept_replySt]

theorem kept_imageVerify (b : BundleInfo) (e : Nat) (c : Sub) : Kept s₀ (imageVerify b e c s) := by
  grind [imageVerify, kept_modUpdOf]

omit hk in
theorem actKept_cmdImageVerify (s₀ : State) (b : BundleInfo) : ActKept s₀ (cmdImageVerify b) :=
  fun _ hk e c => kept_imageVerify hk b e c

theorem keptO_execImageVerify (c : Sub) (b : BundleInfo) : KeptO s₀ (execImageVerify c b s) := by
  grind [execImageVerify, kept_runCmd, actKept_cmdImageVerify, keptO_next]

theorem kept_endVerify (c : Sub) (b : BundleInfo) (x : UpdEnd) : Kept s₀ (endVerify c b x s) := by
  grind [endVerify, kept_modUpdOf, kept_replySt, kept_emitLocal, kept_emit, kept_reply]

theorem kept_stopAndBoot : Kept s₀ (stopAndBoot s) := by
  grind [stopAndBoot, kept_modPair, kept_bootRestart, kept_stopNow]

theorem kept_imageActivate (e : Nat) (c : Sub) : Kept s₀ (imageActivate e c s) := by
  grind [imageActivate, kept_stopAndBoot, kept_reply, kept_modUpd, kept_emit, kept_modUpdOf]

omit hk in
theorem actKept_cmdImageActivate (s₀ : State) : ActKept s₀ cmdImageActivate :=
  fun _ hk _ _ => kept_imageActivate hk ..

theorem keptO_execImageActivate (c : Sub) : KeptO s₀ (execImageActivate c s) := by
  grind [execImageActivate, kept_runCmd, actKept_cmdImageActivate, keptO_next]

theorem kept_stopRoll (partner : Bool) (step : Nat) : Kept s₀ (stopRoll partner step s) := by
  grind [stopRoll, kept_modUpdOf, kept_emit, kept_finish]

theorem kept_completeRoll (partner : Bool) (r : Roll) : Kept s₀ (completeRoll partner r s) := by
  grind [completeRoll, kept_modUpdOf, kept_emit, kept_finish]

theorem kept_switchNext (partner : Bool) : Kept s₀ (switchNext partner s) := by
  grind [switchNext, kept_completeRoll, kept_modUpdOf, kept_modEng, kept_emit, kept_stopRoll]

theorem kept_switchSteps (n : Nat) (partner : Bool) : Kept s₀ (switchSteps n partner s) := by
  induction n generalizing s with
  | zero => exact hk
  | succ n ih => exact ih (kept_switchNext hk _)

theorem kept_takeSwitches : Kept s₀ (takeSwitches s) := by grind [takeSwitches, kept_switchSteps]

theorem keptO_execStepSwitch : KeptO s₀ (execStepSwitch s) := by grind [execStepSwitch, kept_takeSwitches, keptO_next]

theorem kept_endLoad (c : Sub) (x : UpdEnd) : Kept s₀ (endLoad c x s) := by
  grind [endLoad, kept_modUpdOf, kept_stopRoll]

theorem kept_imageConfirm (e : Nat) (c : Sub) : Kept s₀ (imageConfirm e c s) := by grind [imageConfirm, kept_modUpdOf]

omit hk in
theorem actKept_cmdImageConfirm (s₀ : State) : ActKept s₀ cmdImageConfirm := fun _ hk e c => kept_imageConfirm hk e c

theorem keptO_execImageConfirm (c : Sub) : KeptO s₀ (execImageConfirm c s) := by
  grind [execImageConfirm, kept_runCmd, actKept_cmdImageConfirm, keptO_next]

theorem kept_endConfirm (c : Sub) (x : UpdEnd) : Kept s₀ (endConfirm c x s) := by
  grind [endConfirm, kept_modUpdOf, kept_reply, kept_emitLocal, kept_emit, kept_replySt]

theorem kept_endOp (c : Sub) (x : UpdEnd) : Kept s₀ (endOp c x s) := by
  grind [endOp, kept_endStage, kept_endVerify, kept_endLoad, kept_endConfirm]

theorem kept_takeUpdEnd (x : UpdEnd) : Kept s₀ (takeUpdEnd x s) := by grind [takeUpdEnd, kept_endOp, kept_charge]

theorem keptO_execUpdateEnd (u : UpdEnd) : KeptO s₀ (execUpdateEnd u s) := by
  grind [execUpdateEnd, kept_takeUpdEnd, keptO_next]

theorem kept_endBlow (x : UpdEnd) : Kept s₀ (endBlow x s).2 := by
  unfold endBlow
  split
  · refine kept_of_fuses hk rfl ⟨.inr rfl, Nat.le_max_left _ _, ?_, rfl, rfl, rfl, rfl, rfl, rfl⟩ rfl
    exact BitVec.or_assoc .. ▸ congrArg (· ||| _) BitVec.or_self
  · exact hk

theorem kept_flashEnd (x0 : UpdEnd) : Kept s₀ (flashEnd x0 s) := by
  grind [flashEnd, kept_endBlow, kept_emitLocal, kept_secureBoot, kept_endOp, kept_input]

theorem keptO_execFlashOperationEnd (u : UpdEnd) : KeptO s₀ (execFlashOperationEnd u s) := by
  grind [execFlashOperationEnd, kept_flashEnd, keptO_next]

theorem kept_writeItems : Kept s₀ (writeItems s) := by grind [writeItems, kept_modUpd]

theorem kept_takeSettings : Kept s₀ (takeSettings s) := by
  grind [takeSettings, kept_emitLocal, kept_modUpd, kept_modTx]

/-! ### Model section `Boot` -/

theorem kept_pickSlot (v : VerifyIn) : Kept s₀ (pickSlot v s).2 := by grind [pickSlot, kept_emitLocal, kept_modUpd]

theorem kept_slotFails (v : VerifyIn) (slot : Nat) : Kept s₀ (slotFails v slot s) := by
  grind [slotFails, kept_secureBoot]

theorem kept_enterRecovery : Kept s₀ (enterRecovery s) := by grind [enterRecovery, kept_emitLocal, kept_modHif]

theorem kept_bootTables : Kept s₀ (bootTables s) := kept_of_same hk rfl rfl rfl

theorem kept_bootSlot (v : VerifyIn) (slot : Nat) : Kept s₀ (bootSlot v slot s) := by
  unfold bootSlot
  extract_lets b s1
  have h1 : Kept s₀ s1 := kept_modUpd (kept_modPwr (kept_bootTables hk) _) _
  clear_value s1
  split
  · exact h1
  · exact kept_modTx (kept_modTx (kept_bootLanes (kept_modWings h1 _) _) ..) ..

theorem kept_romStart (v : VerifyIn) : Kept s₀ (romStart v s) := by
  have h1 := kept_modPwr hk fun p => { p with rom := true }
  have h2 := kept_pickSlot h1 v
  unfold romStart
  grind [kept_enterRecovery, kept_secureBoot, kept_bootSlot, kept_slotFails, kept_emitLocal, kept_modUpd]

theorem keptO_execRomStart (v : VerifyIn) : KeptO s₀ (execRomStart v s) := by
  grind [execRomStart, kept_romStart, keptO_next]

theorem kept_finishBoot (hashesOk : Bool) : Kept s₀ (finishBoot hashesOk s) := by
  grind [finishBoot, kept_secureBoot, kept_modSec, kept_modPwr]

theorem keptO_execBootDone (hashesOk : Bool) (t : Stamp) : KeptO s₀ (execBootDone hashesOk t s) := by
  grind [execBootDone, kept_finishBoot, kept_atTime, keptO_next]

theorem kept_busError : Kept s₀ (busError s) := by grind [busError, kept_setRBit, kept_emitLocal, kept_modPwr]

theorem kept_moduleHappens (x : ModuleEv) : Kept s₀ (moduleHappens x s) := by
  grind [moduleHappens, kept_input, kept_setRBit]

theorem kept_scanRead (a : Nat) (b : List Byte) : Kept s₀ (scanRead a b s) := by
  grind [scanRead, kept_modPwr, kept_moduleHappens]

theorem kept_moduleRead (a : Nat) (b : List Byte) : Kept s₀ (moduleRead a b s) := by
  grind [moduleRead, kept_busError, kept_scanRead, kept_modPwr]

theorem keptO_execModuleReadEnd (a : Fin 8) (bytes : List Byte) : KeptO s₀ (execModuleReadEnd a bytes s) := by
  grind [execModuleReadEnd, kept_moduleRead, keptO_next]

theorem kept_takeModule (x : ModuleEv) : Kept s₀ (takeModule x s) := by grind [takeModule, kept_emit]

theorem keptO_execModuleEvent (x : ModuleEv) : KeptO s₀ (execModuleEvent x s) := by
  grind [execModuleEvent, kept_takeItem, kept_takeModule, keptO_next]

theorem kept_linkDown (eth1 : Bool) : Kept s₀ (linkDown eth1 s) := by grind [linkDown, kept_modPwr, kept_modPair]

theorem kept_linkUp (eth1 : Bool) (speed : Nat) : Kept s₀ (linkUp eth1 speed s) := by
  grind [linkUp, kept_modPwr, kept_modPair, kept_sendHello]

theorem keptO_execEthLinkUp (eth1 : Bool) (speed : Nat) (session : BitVec 64) :
    KeptO s₀ (execEthLinkUp eth1 speed session s) := by
  grind [execEthLinkUp, kept_linkUp, keptO_next]

theorem keptO_execEthLinkDown (eth1 : Bool) : KeptO s₀ (execEthLinkDown eth1 s) := by
  grind [execEthLinkDown, kept_linkDown, keptO_next]

theorem kept_linkCut (eth1 : Bool) : Kept s₀ (linkCut eth1 s) := by
  have h1 := kept_fresh (kept_linkDown hk eth1)
  unfold linkCut
  dsimp only
  generalize (fresh (linkDown eth1 s)).2 = u at h1 ⊢
  exact kept_ite hk (kept_ite (kept_ite (kept_ite h1 (kept_countReg (kept_wire1 h1 _) ..))
    (kept_ite h1 (kept_countReg (kept_wire0 h1 _) ..))) h1)

/-! ### Model section `CallBoard` -/

theorem kept_journalGap : Kept s₀ (journalGap s) := by grind [journalGap, kept_emitLocal, kept_modBoard]

theorem kept_journalCopy : Kept s₀ (journalCopy s) := by grind [journalCopy, kept_journalGap, kept_modBoard]

theorem keptO_execJournalEraseEnd : KeptO s₀ (execJournalEraseEnd s) := by
  grind [execJournalEraseEnd, kept_modBoard, keptO_next]

theorem kept_scanComplete : Kept s₀ (scanComplete s) := by
  grind [scanComplete, kept_foldl, kept_modBoard, kept_emitLocal]

theorem keptO_execJournalScanComplete (t : Stamp) : KeptO s₀ (execJournalScanComplete t s) := by
  grind [execJournalScanComplete, kept_scanComplete, kept_atTime, keptO_next]

omit hk in
theorem actKept_cmdCallboardRead (s₀ : State) : ActKept s₀ cmdCallboardRead := fun _ hk _ _ => kept_reply hk ..

theorem keptO_execCallboardRead (c : Sub) : KeptO s₀ (execCallboardRead c s) := by
  grind [execCallboardRead, kept_runCmd, actKept_cmdCallboardRead, keptO_next]

end

end Sys2Proof.Machine
end

section
/-! SUPPORT. What no function of the model breaks (`Kept`): the banks, publishing and the pair. -/

namespace Sys2Proof.Machine

section
variable {s₀ s : State} (hk : Kept s₀ s)
include hk

/-! ### Model section `Banks` -/

theorem kept_putWord (a : Nat) (v : Word64) : Kept s₀ (putWord a v s) := kept_of_same hk rfl rfl rfl

theorem kept_findPoisoned (who : Reader) (portB : Bool) (p : Nat × Nat × Nat) :
    Kept s₀ (findPoisoned who portB p s) := by
  grind [findPoisoned, kept_fresh, kept_eccError]

theorem kept_readPoisoned (who : Reader) (portB : Bool) (a : Nat) : Kept s₀ (readPoisoned who portB a s) := by
  grind [readPoisoned, kept_findPoisoned]

theorem kept_scrubRead : Kept s₀ (scrubRead s) := by grind [scrubRead, kept_foldl, kept_scrub, kept_findPoisoned]

theorem kept_migrateRead : Kept s₀ (migrateRead s) := by
  grind [migrateRead, kept_foldl, kept_migrate, kept_findPoisoned]

theorem kept_atomicOp (f : Nat → Nat) (who : Reader) (p : Part) (a : Nat) : Kept s₀ (atomicOp f who p a s).2 := by
  grind [atomicOp, kept_readPoisoned, kept_putWord]

theorem kept_atomicAdd (v : Nat) (who : Reader) (p : Part) (a : Nat) : Kept s₀ (atomicAdd v who p a s).2 := by
  grind [atomicAdd, kept_atomicOp]

theorem kept_atomicSwap (v : Nat) (who : Reader) (p : Part) (a : Nat) : Kept s₀ (atomicSwap v who p a s).2 := by
  grind [atomicSwap, kept_atomicOp]

theorem kept_yieldPortB (w : PortB) : Kept s₀ (yieldPortB w s) := by
  cases w with
  | queue h tries => exact kept_ite (kept_rewindPacket hk ..) hk
  | image => exact kept_modUpd hk _
  | scrubber => exact hk

theorem kept_collide (bank : Nat) (w : PortB) : Kept s₀ (collide bank w s) := by
  grind [collide, kept_yieldPortB, kept_emitLocal, kept_countReg]

theorem kept_bar4Read (off : Nat) : Kept s₀ (bar4Read off s) := by grind [bar4Read, kept_modWings, kept_readPoisoned]

theorem kept_bankOp (o : BankOp) : Kept s₀ (bankOp o s) := by
  cases o with
  | error f => exact kept_eccError hk f
  | collision b w => exact kept_collide hk ..
  | write a v => exact kept_putWord hk ..
  | atomicAdd who a p v => exact kept_atomicAdd hk ..
  | atomicSwap who a p v => exact kept_atomicSwap hk ..
  | bar4Read off => exact kept_bar4Read hk _
  | queueWord h v => exact kept_queueWord hk ..
  | queueCommit h k => exact kept_queueCommit hk ..
  | queueRewind h => exact kept_queueRewind hk _
  | queueRead h n => exact kept_queueRead hk ..

theorem kept_bankOps (l : List BankOp) : Kept s₀ (bankOps l s) := by grind [bankOps, kept_foldl, kept_bankOp]

theorem kept_zeroWords : Kept s₀ (zeroWords s) := by grind [zeroWords, kept_modWings]

/-! ### Model section `Publish` -/

theorem kept_hashOut (l : List Word64) : Kept s₀ (hashOut l s) := by grind [hashOut, kept_modProc]

theorem kept_exportPut (base size off : Nat) (l : List Byte) : Kept s₀ (exportPut base size off l s) := by
  grind [exportPut, kept_hostWrite]

theorem kept_exportWrite (record digest : List Byte) : Kept s₀ (exportWrite record digest s) := by
  grind [exportWrite, kept_modProc, kept_countReg, kept_setReg, kept_exportPut]

theorem kept_releaseOne (cue : CueNo) (o : Out) : Kept s₀ (releaseOne cue o s) := by
  cases o with
  | complete c op status result data => exact kept_completeWrite hk ..
  | tx r => exact kept_modTx hk ..
  | record r => exact kept_evWrite hk ..
  | exported b => exact kept_exportWrite hk ..
  | _ => exact hk

theorem kept_releaseBatch (cue : CueNo) (l : List Out) : Kept s₀ (releaseBatch cue l s) := by
  grind [releaseBatch, kept_foldl, kept_releaseOne, kept_evLost, kept_vecSignals, kept_evWriteback]

theorem kept_releaseHeld : Kept s₀ (releaseHeld s) := by
  grind [releaseHeld, kept_foldl, kept_releaseBatch, kept_modPair]

theorem kept_releaseUpTo (c : CueNo) : Kept s₀ (releaseUpTo c s) := by
  grind [releaseUpTo, kept_foldl, kept_out, kept_releaseBatch, kept_modPair]

theorem kept_tagFill (c : Sub) (status : Nat) (result : List Byte) : Kept s₀ (tagFill c status result s) := by
  grind [tagFill, kept_modPair]

theorem kept_putComplete (c : Sub) (op status : Nat) (result data : List Byte) :
    Kept s₀ (putComplete c op status result data s).1 := by
  grind [putComplete, kept_tagFill, kept_hashOut]

theorem kept_putDelivery (ring : Nat) (cue : CueNo) (h packet : List Byte) :
    Kept s₀ (putDelivery ring cue h packet s).1 := by
  grind [putDelivery, kept_countReg, kept_modCq, kept_putComplete]

theorem kept_queueMessage (e receiver : Nat) (it : Item) (packet : Bool) :
    Kept s₀ (queueMessage e receiver it packet s) := by
  grind [queueMessage, kept_countReg, kept_modEng]

theorem kept_postOne (e : Nat) (it : Item) : Kept s₀ (postOne e it s) := by
  grind [postOne, kept_takeSeq, kept_modProc]

theorem kept_postMessages (e : Nat) : Kept s₀ (postMessages e s) := by
  grind [postMessages, kept_foldl, kept_postOne, kept_modEng]

theorem kept_noteSent (r : TxReq) : Kept s₀ (noteSent r s) := by grind [noteSent, kept_modMesh]

theorem kept_putTx (r : TxReq) : Kept s₀ (putTx r s).1 := by
  grind [putTx, kept_numberReq, kept_admitReq, kept_noteSent, kept_hashOut, kept_modTx]

theorem kept_putRecord (r : Rec) : Kept s₀ (putRecord r s).1 := by grind [putRecord, kept_hashOut, kept_modBoard]

omit hk in
theorem kept_putOut {s₀ : State} {a : State × List Out × List Nat} (hk : Kept s₀ a.1) (e : Nat) (o : Out) :
    Kept s₀ (putOut e o a).1 := by
  cases o with
  | complete c op status result data => exact kept_putComplete hk c op status result data
  | tx r => exact kept_putTx hk _
  | record r => exact kept_putRecord hk _
  | deliver ring src reason nd arr cue ctx rssi ln pkt => exact kept_putDelivery hk ..
  | post receiver it packet => exact kept_queueMessage hk ..
  | eth0 f => exact kept_ite (kept_sendEth0 hk _) hk
  | exported b => exact hk
  | window n w => exact kept_ite hk (kept_writeWindow hk ..)

omit hk in
theorem kept_putEngine {s₀ : State} {a : State × List Out × List Nat} (hk : Kept s₀ a.1) (e : Nat) :
    Kept s₀ (putEngine e a).1 := by
  have h1 (l : List (Nat × Out)) : Kept s₀ (l.foldl (fun a x => putOut e x.2 a) a).1 := by
    induction l generalizing a with
    | nil => exact hk
    | cons x l ih => exact ih (kept_putOut hk ..)
  unfold putEngine
  dsimp only
  split
  · exact kept_postMessages (h1 _) _
  · exact kept_putRecord (kept_postMessages (h1 _) _) _

omit hk in
theorem kept_putExhausted {s₀ : State} {a : State × List Out × List Nat} (hk : Kept s₀ a.1) :
    Kept s₀ (putExhausted a).1 := by
  have h1 (l : List Nat) (b : State × List Out) (hb : Kept s₀ b.1) : Kept s₀ (l.foldl (fun b ring =>
      let x := putRecord (ownRecord 146 0x6005 ring (a.2.2.filter (· == ring)).length b.1) b.1
      (x.1, b.2 ++ x.2)) b).1 := by
    induction l generalizing b with
    | nil => exact hb
    | cons x l ih => exact ih _ (kept_putRecord hb _)
  exact h1 _ _ hk

theorem kept_giveDigest (d : Digest) : Kept s₀ (giveDigest d s) := by
  grind [giveDigest, kept_modProc, kept_sendPair, kept_modPair, kept_emitLocalAt]

theorem kept_leave (cue : CueNo) (l : List Out) : Kept s₀ (leave cue l s) := by
  grind [leave, kept_releaseBatch, kept_modPair]

theorem kept_publish : Kept s₀ (publish s) := by
  have h1 (l : List Nat) (a : State × List Out × List Nat) (ha : Kept s₀ a.1) :
      Kept s₀ (l.foldl (fun a e => putEngine e a) a).1 := by
    induction l generalizing a with
    | nil => exact ha
    | cons e l ih => exact ih _ (kept_putEngine ha e)
  unfold publish
  extract_lets a b s1 d ex
  have h2 : Kept s₀ a.1 := h1 _ _ hk
  clear_value a
  exact kept_giveDigest (kept_leave (kept_modProc (kept_putExhausted h2) _) ..) _

/-! ### Model section `Pair` -/

theorem kept_pairDrop : Kept s₀ (pairDrop s) := by grind [pairDrop, kept_countReg]

theorem kept_pairTake (h : PairHdr) (m : PairMsg) (f : State → State) (hf : ∀ u, Kept s₀ u → Kept s₀ (f u)) :
    Kept s₀ (pairTake h m f s) := by
  grind [pairTake, kept_modPair, kept_pairDrop]

theorem kept_goStale : Kept s₀ (goStale s) := by grind [goStale, kept_modPair]

theorem kept_uncover : Kept s₀ (uncover s) := by grind [uncover, kept_modPair, kept_releaseHeld]

theorem kept_startResync : Kept s₀ (startResync s) := by
  grind [startResync, kept_countReg, kept_sendPair, kept_modPair]

theorem kept_takeHello (h : Hello) : Kept s₀ (takeHello h s) := by
  grind [takeHello, kept_modPair, kept_emitLocal, kept_goStale, kept_uncover, kept_startResync]

theorem kept_hearHello (h : Hello) : Kept s₀ (hearHello h s) := by grind [hearHello, kept_takeHello, kept_pairDrop]

theorem keptO_execHello (h : Hello) : KeptO s₀ (execHello h s) := by grind [execHello, kept_hearHello, keptO_next]

theorem kept_helloTick : Kept s₀ (helloTick s) := by grind [helloTick, kept_sendPair, kept_modPair]

theorem keptO_execHelloDue : KeptO s₀ (execHelloDue s) := by grind [execHelloDue, kept_helloTick, keptO_next]

theorem kept_holdRecord (cue : CueNo) (b : List Byte) : Kept s₀ (holdRecord cue b s) := by
  grind [holdRecord, kept_modPair, kept_goStale, kept_sendPair]

theorem kept_askMissing (cue : CueNo) (seg : Nat) : Kept s₀ (askMissing cue seg s) := by
  grind [askMissing, kept_sendPairs, kept_modPair]

theorem kept_takeSegment (cue : CueNo) (seg total : Nat) (b : List Byte) :
    Kept s₀ (takeSegment cue seg total b s) := by
  grind [takeSegment, kept_modPair, kept_askMissing, kept_holdRecord]

theorem keptO_execRecord (h : PairHdr) (cue : CueNo) (segment : Nat) (segments : Nat) (bytes : List Byte) :
    KeptO s₀ (execRecord h cue segment segments bytes s) := by
  grind [execRecord, kept_pairTake, kept_takeSegment, keptO_next]

theorem kept_takeAck (cue : CueNo) : Kept s₀ (takeAck cue s) := by grind [takeAck, kept_modPair, kept_releaseUpTo]

theorem keptO_execAck (h : PairHdr) (cue : CueNo) : KeptO s₀ (execAck h cue s) := by
  grind [execAck, kept_pairTake, kept_takeAck, keptO_next]

theorem kept_takeNak (cue : CueNo) (seg : Nat) : Kept s₀ (takeNak cue seg s) := by grind [takeNak, kept_sendPair]

theorem keptO_execNak (h : PairHdr) (cue : CueNo) (segment : Nat) : KeptO s₀ (execNak h cue segment s) := by
  grind [execNak, kept_pairTake, kept_takeNak, keptO_next]

theorem kept_releaseDue : Kept s₀ (releaseDue s) := by grind [releaseDue, kept_emitLocal, kept_uncover, kept_atTime]

theorem keptO_execReleaseDeadline : KeptO s₀ (execReleaseDeadline s) := by
  grind [execReleaseDeadline, kept_releaseDue, keptO_next]

theorem kept_compareOne (mine theirs : Digest) : Kept s₀ (compareOne s mine theirs) := by
  grind [compareOne, kept_emitLocal, kept_countReg, kept_modPair, kept_sendPair, kept_goStale]

theorem kept_compareDigests : Kept s₀ (compareDigests s) := by
  grind [compareDigests, kept_foldl, kept_compareOne, kept_modPair]

theorem kept_takeDigest (d : Digest) : Kept s₀ (takeDigest d s) := by
  grind [takeDigest, kept_compareDigests, kept_modPair]

theorem keptO_execDigest (h : PairHdr) (d : Digest) : KeptO s₀ (execDigest h d s) := by
  grind [execDigest, kept_pairTake, kept_takeDigest, keptO_next]

theorem kept_endAudit (pass : Bool) : Kept s₀ (endAudit pass s) := by
  grind [endAudit, kept_emitLocal, kept_countFault, kept_modPair, kept_forceSwap]

theorem keptO_execStateAuditEnd (pass : Bool) : KeptO s₀ (execStateAuditEnd pass s) := by
  grind [execStateAuditEnd, kept_endAudit, keptO_next]

theorem kept_takeTimeFrame (t1 t2 t3 t4 : Stamp) : Kept s₀ (takeTimeFrame t1 t2 t3 t4 s) := by
  grind [takeTimeFrame, kept_sendPair, kept_modPair]

theorem keptO_execTime (h : PairHdr) (t1 : Stamp) (t2 : Stamp) (t3 : Stamp) (t4 : Stamp) :
    KeptO s₀ (execTime h t1 t2 t3 t4 s) := by
  grind [execTime, kept_pairTake, kept_takeTimeFrame, keptO_next]

theorem kept_sendTime : Kept s₀ (sendTime s) := by grind [sendTime, kept_sendPair]

theorem kept_takeResync : Kept s₀ (takeResync s) := by grind [takeResync, kept_countReg, kept_modPair]

theorem kept_sendSweeps (n : Nat) : Kept s₀ (sendSweeps n s) := by
  induction n generalizing s with
  | zero => exact hk
  | succ n ih =>
    cases h : s.pair.sweepPos with
    | none =>
      rw [sendSweeps.eq_2 _ _ (by simp) h]
      exact hk
    | some p =>
      rw [sendSweeps.eq_3 _ _ _ h]
      exact kept_ite hk (ih (kept_modPair (kept_sendPair hk _) _))

theorem kept_sendForwards (n : Nat) : Kept s₀ (sendForwards n s) := by
  grind [sendForwards, kept_sendPairs, kept_modPair]

theorem kept_streamPair : Kept s₀ (streamPair s) := by
  grind [streamPair, kept_modPair, kept_countReg, kept_sendSweeps, kept_sendForwards]

theorem kept_endStream : Kept s₀ (endStream s) := by grind [endStream, kept_sendForwards, kept_modPair, kept_sendPair]

theorem kept_noteWrites (u : State) : Kept s₀ (noteWrites u s) := by
  unfold noteWrites
  split
  · exact hk
  · exact kept_ite hk (kept_modPair hk _)

theorem keptO_execResync (h : PairHdr) : KeptO s₀ (execResync h s) := by
  grind [execResync, kept_pairTake, kept_takeResync, keptO_next]

theorem kept_asPartner : Kept s₀ (asPartner s) := by grind [asPartner, kept_mapSubs]

theorem kept_applyPair (p : PairState) (e : CueNo) : Kept s₀ (applyPair p e s) := by
  refine kept_asPartner (kept_foldl (fun _ _ hu => kept_modEng hu ..) _ (kept_foldl (fun _ _ hu => kept_modPin hu ..) _
    (kept_foldl (fun _ _ hu => kept_modCq hu ..) _ ?_)))
  exact kept_of_same hk rfl rfl rfl

theorem kept_exportSnapshot (e : CueNo) : Kept s₀ (exportSnapshot e s) := by
  grind [exportSnapshot, kept_fresh, kept_exportWrite]

theorem kept_endResync (p : PairState) (e : CueNo) : Kept s₀ (endResync p e s) := by
  grind [endResync, kept_applyPair, kept_exportSnapshot, kept_modPair]

theorem kept_takeSweep (region offset : Nat) (words : List Word64) (last : Option PairState) (cue : CueNo) :
    Kept s₀ (takeSweep region offset words last cue s) := by
  unfold takeSweep
  split
  · exact hk
  · split
    · exact kept_endResync hk ..
    · exact kept_modPair hk _

theorem keptO_execSweep (h : PairHdr) (region : Nat) (offset : Nat) (words : List Word64) (last : Option PairState)
    (cue : CueNo) :
    KeptO s₀ (execSweep h region offset words last cue s) := by
  grind [execSweep, kept_pairTake, kept_takeSweep, keptO_next]

theorem kept_takeForward (words : List PairWord) : Kept s₀ (takeForward words s) := by
  grind [takeForward, kept_modPair]

theorem keptO_execForward (h : PairHdr) (words : List PairWord) : KeptO s₀ (execForward h words s) := by
  grind [execForward, kept_pairTake, kept_takeForward, keptO_next]

theorem kept_loseLink : Kept s₀ (loseLink s) := by grind [loseLink, kept_emitLocal, kept_goStale]

theorem keptO_execPairLinkLost : KeptO s₀ (execPairLinkLost s) := by
  grind [execPairLinkLost, kept_loseLink, keptO_next]

theorem kept_countSwap (lo : Nat) : Kept s₀ (countSwap lo s) := by grind [countSwap, kept_setRBits]

theorem kept_promote : Kept s₀ (promote s) := by grind [promote, kept_modPair, kept_emitLocal, kept_countSwap]

theorem kept_senseRise (rise tick : Stamp) : Kept s₀ (senseRise rise tick s) := by
  grind [senseRise, kept_atTime, kept_modPair, kept_promote, kept_emitLocal]

theorem keptO_execPromote (levelRise : Stamp) (tick : Stamp) : KeptO s₀ (execPromote levelRise tick s) := by
  grind [execPromote, kept_senseRise, keptO_next]

theorem kept_senseFall : Kept s₀ (senseFall s) := by
  grind [senseFall, kept_modPair, kept_cutChains, kept_emitLocal, kept_countSwap, kept_restartNext]

theorem keptO_execDemote (t : Stamp) : KeptO s₀ (execDemote t s) := by
  grind [execDemote, kept_senseFall, kept_atTime, keptO_next]

theorem kept_senseTick (width : Nat) : Kept s₀ (senseTick width s) := by grind [senseTick, kept_modPair]

theorem keptO_execLeadInTick (widthNs : Nat) : KeptO s₀ (execLeadInTick widthNs s) := by
  grind [execLeadInTick, kept_senseTick, keptO_next]

theorem kept_loseDirector : Kept s₀ (loseDirector s) := by grind [loseDirector, kept_emitLocal]

theorem keptO_execDirectorLost : KeptO s₀ (execDirectorLost s) := by
  grind [execDirectorLost, kept_loseDirector, keptO_next]

theorem kept_hearBeat (unitB : Bool) (width : Nat) (view : Bool) : Kept s₀ (hearBeat unitB width view s) := by
  grind [hearBeat, kept_modPair]

theorem keptO_execHeartbeat (unitB : Bool) (widthNs : Nat) (view : Bool) (t : Stamp) :
    KeptO s₀ (execHeartbeat unitB widthNs view t s) := by
  grind [execHeartbeat, kept_hearBeat, kept_atTime, keptO_next]

theorem kept_driveLines (a b : Bool) : Kept s₀ (driveLines a b s) := kept_of_same hk rfl rfl rfl

theorem kept_leadUnit (b : Bool) : Kept s₀ (leadUnit b s) := by grind [leadUnit, kept_modPair, kept_driveLines]

theorem kept_swapTo (b : Bool) (reason : Nat) : Kept s₀ (swapTo b reason s) := by
  grind [swapTo, kept_emitLocal, kept_modPair, kept_leadUnit]

theorem kept_dirConflict : Kept s₀ (dirConflict s) := by grind [dirConflict, kept_emitLocal]

theorem kept_decideLead (x : Bool) : Kept s₀ (decideLead x s) := by
  grind [decideLead, kept_swapTo, kept_modPair, kept_driveLines, kept_dirConflict]

theorem kept_decideDirector : Kept s₀ (decideDirector s) := by
  grind [decideDirector, kept_modPair, kept_leadUnit, kept_dirConflict, kept_driveLines, kept_decideLead]

theorem kept_endHold : Kept s₀ (endHold s) := by grind [endHold, kept_modPair]

theorem keptO_execDirectorHoldExpiry : KeptO s₀ (execDirectorHoldExpiry s) := by
  grind [execDirectorHoldExpiry, kept_endHold, keptO_next]

theorem kept_setRelief : Kept s₀ (setRelief s) := by grind [setRelief, kept_modPair]

omit hk in
theorem actKept_cmdRoleRequest (s₀ : State) : ActKept s₀ cmdRoleRequest :=
  fun _ hk _ _ => kept_ite (kept_replySt (kept_setRelief hk) ..) (kept_reply hk ..)

theorem keptO_execRoleRequest (c : Sub) : KeptO s₀ (execRoleRequest c s) := by
  grind [execRoleRequest, kept_runCmd, actKept_cmdRoleRequest, keptO_next]

theorem kept_lapseRelief : Kept s₀ (lapseRelief s) := by grind [lapseRelief, kept_emitLocal, kept_modPair]

theorem keptO_execReliefLapse : KeptO s₀ (execReliefLapse s) := by
  grind [execReliefLapse, kept_lapseRelief, keptO_next]

theorem kept_rehearse : Kept s₀ (rehearse s) := by grind [rehearse, kept_emit, kept_countSwap, kept_setRelief]

theorem keptO_execRehearsal : KeptO s₀ (execRehearsal s) := by grind [execRehearsal, kept_rehearse, keptO_next]

theorem kept_addTag (x : TagEnt) : Kept s₀ (addTag x s) := by grind [addTag, kept_modPair, kept_emit]

theorem kept_updateTagLoop (todo : List TagEnt) : Kept s₀ (updateTagLoop todo s) := by
  induction todo generalizing s with
  | nil => exact kept_modPair hk _
  | cons x rest ih => exact kept_ite (ih (kept_addTag (kept_hkCharge hk ..) _)) (kept_modPair hk _)

theorem kept_updateTags : Kept s₀ (updateTags s) := by grind [updateTags, kept_updateTagLoop]

end

end Sys2Proof.Machine
end

section
/-! SUPPORT. What no function of the model breaks (`Kept`): received frames, mesh and transmit commands and Tours. -/

namespace Sys2Proof.Machine

section
variable {s₀ s : State} (hk : Kept s₀ s)
include hk

/-! ### Model section `MeshRx` -/

theorem kept_missNode (w : WinEnt) : Kept s₀ (missNode w s) := by
  grind [missNode, kept_modNode, kept_setSt, kept_sendOverture]

theorem kept_judgeWin (w : WinEnt) : Kept s₀ (judgeWin s w) := by grind [judgeWin, kept_missNode]

theorem kept_judgeWins : Kept s₀ (judgeWins s) := by grind [judgeWins, kept_foldl, kept_judgeWin, kept_modMesh]

theorem kept_offerAgain (rx : Reception) : Kept s₀ (offerAgain rx s) := by grind [offerAgain, kept_modNode]

theorem kept_takeOutcome (rx : Reception) : Kept s₀ (takeOutcome rx s) := by
  grind [takeOutcome, kept_offerAgain, kept_dropWin, kept_macDrop]

theorem keptO_execWindowOutcome (rx : Reception) : KeptO s₀ (execWindowOutcome rx s) := by
  grind [execWindowOutcome, kept_takeItem, kept_takeOutcome, keptO_next]

theorem kept_takeUplink (rx : Reception) (forward : Uplink → State → State)
    (hf : ∀ x u, Kept s₀ u → Kept s₀ (forward x u)) : Kept s₀ (takeUplink rx forward s) := by
  have h1 := kept_acceptUplink hk rx
  unfold takeUplink
  split
  next h =>
    rw [h] at h1
    exact kept_dropWin h1 rx
  next h =>
    rw [h] at h1
    exact kept_dropWin (kept_contact h1 _ _ (hf _)) rx

theorem kept_forwardData (u : Uplink) : Kept s₀ (forwardData u s) := by grind [forwardData, kept_forwardMesh]

theorem kept_takeData (rx : Reception) : Kept s₀ (takeData rx s) := by
  grind [takeData, kept_takeUplink, kept_forwardData]

theorem kept_takePlain (rx : Reception) : Kept s₀ (takePlain rx s) := by grind [takePlain, kept_takeUplink]

theorem kept_takeLost (rx : Reception) : Kept s₀ (takeLost rx s) := by
  grind [takeLost, kept_acceptUplink, kept_dropWin, kept_contact, kept_macDrop]

theorem keptO_execLostRequest (rx : Reception) : KeptO s₀ (execLostRequest rx s) := by
  grind [execLostRequest, kept_takeItem, kept_takeLost, keptO_next]

theorem keptO_execData (rx : Reception) : KeptO s₀ (execData rx s) := by
  grind [execData, kept_takeItem, kept_takeData, keptO_next]

theorem keptO_execReply (rx : Reception) : KeptO s₀ (execReply rx s) := by
  grind [execReply, kept_takeItem, kept_takePlain, keptO_next]

theorem keptO_execControl (rx : Reception) : KeptO s₀ (execControl rx s) := by
  grind [execControl, kept_takeItem, kept_takePlain, keptO_next]

theorem kept_insertSeen (e origin seq : Nat) : Kept s₀ (insertSeen e origin seq s) := by
  grind [insertSeen, kept_modMesh]

theorem kept_relayFlood (e : Nat) (f : Frame) (origin seq ttl : Nat) : Kept s₀ (relayFlood e f origin seq ttl s) := by
  grind [relayFlood, kept_post]

theorem kept_takeFlood (rx : Reception) : Kept s₀ (takeFlood rx s) := by
  have hd {u : State} (hu : Kept s₀ u) := kept_macDrop hu
  unfold takeFlood
  split
  · exact hd hk
  split
  · exact hd hk
  extract_lets e
  refine kept_ite (kept_countReg hk ..) (kept_ite (hd hk) ?_)
  split
  · exact hd hk
  · exact hd (kept_secFailure hk ..)
  next plain own _ =>
    extract_lets s1
    have h1 : Kept s₀ s1 := by
      cases own with
      | none => exact hk
      | some x => exact kept_takeCounter hk ..
    clear_value s1
    split
    · exact hd h1
    next es p hs =>
      extract_lets s2
      have h2 : Kept s₀ s2 := by
        cases own with
        | none => exact h1
        | some x => exact kept_queueLearn h1 ..
      clear_value s2
      exact kept_ite (hd h1) (kept_relayFlood (kept_forwardMesh (kept_insertSeen h2 ..) ..) ..)

theorem keptO_execFloodFrame (rx : Reception) : KeptO s₀ (execFloodFrame rx s) := by
  grind [execFloodFrame, kept_takeItem, kept_dropWin, kept_takeFlood, keptO_next]

theorem kept_queueFlood (cmd : Option Sub) (scope : BitVec 8) (grand : Bool) (seq : BitVec 16) (frame : List Byte) :
    Kept s₀ (queueFlood cmd scope grand seq frame s) := by
  grind [queueFlood, kept_modMesh]

theorem kept_resendFlood (x : FloodFrame) : Kept s₀ (resendFlood x s) := by
  grind [resendFlood, kept_fwdDrop, kept_queueFlood]

theorem keptO_execFloodResend (x : FloodFrame) : KeptO s₀ (execFloodResend x s) := by
  grind [execFloodResend, kept_takeItem, kept_resendFlood, keptO_next]

theorem kept_closeFlood (id : Nat) : Kept s₀ (closeFlood id s) := by grind [closeFlood, kept_modMesh, kept_finish]

theorem kept_sendFloodIn (j : Nat) (x : Flood) : Kept s₀ (sendFloodIn j x s) := by
  grind [sendFloodIn, kept_closeFlood, kept_modMesh, kept_sendReq]

theorem kept_floodSent (id j : Nat) (x : TxEnd) : Kept s₀ (floodSent id j x s) := by
  grind [floodSent, kept_closeFlood, kept_modMesh]

theorem kept_takePeer (p : Peer) : Kept s₀ (takePeer p s) := by grind [takePeer, kept_modMesh, kept_emit]

theorem kept_takeBeacon (rx : Reception) : Kept s₀ (takeBeacon rx s) := by
  grind [takeBeacon, kept_macDrop, kept_emit, kept_takePeer]

theorem keptO_execBeacon (rx : Reception) : KeptO s₀ (execBeacon rx s) := by
  grind [execBeacon, kept_takeItem, kept_dropWin, kept_takeBeacon, keptO_next]

theorem kept_missBeacon (i : Nat) : Kept s₀ (missBeacon i s) := by grind [missBeacon, kept_modMesh, kept_emit]

theorem keptO_execPeerBeaconMiss (i : Nat) : KeptO s₀ (execPeerBeaconMiss i s) := by
  grind [execPeerBeaconMiss, kept_takeItem, kept_missBeacon, keptO_next]

theorem kept_expirePeer (i : Nat) : Kept s₀ (expirePeer i s) := by grind [expirePeer, kept_emit, kept_modMesh]

theorem keptO_execPeerSupervisionExpiry (i : Nat) : KeptO s₀ (execPeerSupervisionExpiry i s) := by
  grind [execPeerSupervisionExpiry, kept_takeItem, kept_expirePeer, keptO_next]

/-! ### Model section `MeshCmd` -/

theorem kept_nodeSend (e : Nat) (c : Sub) : Kept s₀ (nodeSend e c s) := by
  grind [nodeSend, kept_replySt, kept_endDown, kept_addDown]

omit hk in
theorem actKept_cmdNodeSend (s₀ : State) : ActKept s₀ cmdNodeSend := fun _ hk _ _ => kept_nodeSend hk ..

theorem keptO_execNodeSend (c : Sub) : KeptO s₀ (execNodeSend c s) := by
  grind [execNodeSend, kept_runCmd, actKept_cmdNodeSend, keptO_next]

theorem kept_countFlood : Kept s₀ (countFlood s) := by grind [countFlood, kept_modMesh, kept_nextSeq]

theorem kept_floodSend (e : Nat) (c : Sub) : Kept s₀ (floodSend e c s) := by
  grind [floodSend, kept_countFlood, kept_groupFrame, kept_queueFlood, kept_replySt]

omit hk in
theorem actKept_cmdFloodSend (s₀ : State) : ActKept s₀ cmdFloodSend := fun _ hk _ _ => kept_floodSend hk ..

theorem keptO_execFloodSend (c : Sub) : KeptO s₀ (execFloodSend c s) := by
  grind [execFloodSend, kept_runCmd, actKept_cmdFloodSend, keptO_next]

omit hk in
theorem actKept_cmdNodeQuery (s₀ : State) : ActKept s₀ cmdNodeQuery := fun _ hk _ _ => kept_finish hk ..

theorem keptO_execNodeQuery (c : Sub) : KeptO s₀ (execNodeQuery c s) := by
  grind [execNodeQuery, kept_runCmd, actKept_cmdNodeQuery, keptO_next]

theorem kept_scheduleSet (e : Nat) (c : Sub) : Kept s₀ (scheduleSet e c s) := by
  grind [scheduleSet, kept_updateLapsed, kept_modNode, kept_done]

omit hk in
theorem actKept_cmdScheduleSet (s₀ : State) : ActKept s₀ cmdScheduleSet := fun _ hk _ _ => kept_scheduleSet hk ..

theorem keptO_execScheduleSet (c : Sub) : KeptO s₀ (execScheduleSet c s) := by
  grind [execScheduleSet, kept_runCmd, actKept_cmdScheduleSet, keptO_next]

/-! ### Model section `Tour` -/

theorem kept_modTour (f : Tour → Tour) : Kept s₀ (modTour f s) := by grind [modTour, kept_modUpd]

theorem kept_tourStart (e : Nat) (c : Sub) : Kept s₀ (tourStart e c s) := by
  grind [tourStart, kept_replySt, kept_modUpd]

theorem kept_markTour : Kept s₀ (markTour s) := by grind [markTour, kept_foldl, kept_modNode, kept_modTour]

omit hk in
theorem actKept_cmdTourStart (s₀ : State) : ActKept s₀ cmdTourStart := fun _ hk _ _ => kept_tourStart hk ..

theorem keptO_execTourStart (c : Sub) : KeptO s₀ (execTourStart c s) := by
  grind [execTourStart, kept_runCmd, actKept_cmdTourStart, keptO_next]

theorem kept_takeTour : Kept s₀ (takeTour s) := by grind [takeTour, kept_modTour]

theorem kept_endTour (reason status : Nat) (result : List Byte) : Kept s₀ (endTour reason status result s) := by
  grind [endTour, kept_emit, kept_finish, kept_modTour]

theorem kept_takeBlock (b : Nat) (ok : Bool) (bytes : List Byte) : Kept s₀ (takeBlock b ok bytes s) := by
  grind [takeBlock, kept_endTour, kept_modTour]

theorem keptO_execTourBlock (block : Nat) (ok : Bool) (bytes : List Byte) :
    KeptO s₀ (execTourBlock block ok bytes s) := by
  grind [execTourBlock, kept_takeItem, kept_takeBlock, keptO_next]

theorem kept_sendTourIn (j : Nat) : Kept s₀ (sendTourIn j s) := by
  unfold sendTourIn
  split
  · exact hk
  refine kept_ite hk ?_
  split
  · exact hk
  extract_lets x
  split
  · exact hk
  · exact kept_ite hk (kept_sendReq (kept_modUpd (kept_countFlood (kept_groupFrame hk ..)) _) ..)

theorem kept_takeReport (x : TourRep) : Kept s₀ (takeReport x s) := by grind [takeReport, kept_modTour]

theorem keptO_execTourReport (x : TourRep) : KeptO s₀ (execTourReport x s) := by
  grind [execTourReport, kept_takeItem, kept_takeReport, keptO_next]

theorem kept_tourRound : Kept s₀ (tourRound s) := by
  grind [tourRound, kept_foldl, kept_modNode, kept_emit, kept_endTour, kept_modTour]

/-! ### Model section `Spot` -/

theorem kept_spotSummary (p : Nat) (bins : List Int) (later : List (List Int)) (windows : List Nat) (valid : Nat) (it
    : Item) :
    Kept s₀ (spotSummary p bins later windows valid it s) := by
  grind [spotSummary, kept_modPort, kept_modProc]

theorem keptO_execSpotlightSummary (p : Fin 4) (bins : List Int) (later : List (List Int)) (windows : List Nat) (valid
    : Nat) :
    KeptO s₀ (execSpotlightSummary p bins later windows valid s) := by
  grind [execSpotlightSummary, kept_spotSummary, kept_spotRoll, kept_atTime, keptO_next]

/-! ### Model section `TxCmd` -/

omit hk in
theorem actKept_cmdRawTx (s₀ : State) : ActKept s₀ cmdRawTx := fun _ hk _ _ => kept_sendReq hk ..

theorem keptO_execRawTx (c : Sub) : KeptO s₀ (execRawTx c s) := by
  grind [execRawTx, kept_runCmd, actKept_cmdRawTx, keptO_next]

omit hk in
theorem actKept_cmdOvertureSend (s₀ : State) : ActKept s₀ cmdOvertureSend := fun _ hk _ _ => kept_sendReq hk ..

theorem keptO_execOvertureSend (c : Sub) : KeptO s₀ (execOvertureSend c s) := by
  grind [execOvertureSend, kept_runCmd, actKept_cmdOvertureSend, keptO_next]

theorem kept_downSent (e i id : Nat) (fall : Nat) (x : TxEnd) : Kept s₀ (downSent e i id fall x s) := by
  grind [downSent, kept_modNode, kept_onDown]

theorem kept_useEnded (u : UseEnt) (x : TxEnd) : Kept s₀ (useEnded u x s) := by
  grind [useEnded, kept_finish, kept_downSent, kept_floodSent, kept_modNode]

theorem kept_lateTime (u : UseEnt) (x : TxEnd) : Kept s₀ (lateTime u x s) := by grind [lateTime, kept_modNode]

theorem kept_txEnded (x : TxEnd) : Kept s₀ (txEnded x s) := by
  grind [txEnded, kept_lateTime, kept_useEnded, kept_modMesh]

theorem keptO_execTransmitEndEntry (x : TxEnd) : KeptO s₀ (execTransmitEndEntry x s) := by
  grind [execTransmitEndEntry, kept_takeItem, kept_txEnded, kept_ledgerCorrect, keptO_next]

theorem kept_captureWrite (c : Sub) (off : Nat) (l : List Byte) : Kept s₀ (captureWrite c off l s) := by
  grind [captureWrite, kept_hostWrite, kept_countReg]

theorem kept_captureCue : Kept s₀ (captureCue s) := by grind [captureCue, kept_modHif]

theorem kept_captureFails (c : Sub) : Kept s₀ (captureFails c s) := by grind [captureFails, kept_refuse, kept_modHif]

theorem kept_captureStep (x : Capture) : Kept s₀ (captureStep x s) := by
  grind [captureStep, kept_captureWrite, kept_finish, kept_modHif]

theorem kept_captureTick : Kept s₀ (captureTick s) := by
  grind [captureTick, kept_captureFails, kept_captureWrite, kept_captureStep]

theorem kept_captureAct (e : Nat) (c : Sub) : Kept s₀ (captureAct e c s) := by
  unfold captureAct
  extract_lets due x s1
  have h1 : Kept s₀ s1 := kept_captureCue (kept_modHif hk fun _ => rfl)
  clear_value s1
  exact kept_ite (kept_captureTick h1) h1

omit hk in
theorem actKept_cmdCapture (s₀ : State) : ActKept s₀ cmdCapture := fun _ hk e c => kept_captureAct hk e c

theorem keptO_execCaptureSpectrum (c : Sub) : KeptO s₀ (execCaptureSpectrum c s) := by
  grind [execCaptureSpectrum, kept_runCmd, actKept_cmdCapture, keptO_next]

end

end Sys2Proof.Machine
end

section
/-! SUPPORT. What no function of the model breaks (`Kept`): the phases of a cue and the demodulators. -/

namespace Sys2Proof.Machine

section
variable {s₀ s : State} (hk : Kept s₀ s)
include hk

/-! ### Model section `Work` -/

omit hk in
/-- Every row of a host command keeps what every step keeps. -/
theorem actKept_rowSpec (s₀ : State) {i : Instr} {k : CmdSpec} {c : Sub} (h : rowSpec i = some (k, c)) :
    ActKept s₀ k := by
  unfold rowSpec at h
  split at h <;> cases h
  · exact actKept_cmdReserved s₀ _
  · exact actKept_cmdNop s₀
  · exact actKept_cmdConfigApply s₀
  · exact actKept_cmdConfigRead s₀
  · exact actKept_cmdNodeSend s₀
  · exact actKept_cmdFloodSend s₀
  · exact actKept_cmdRawTx s₀
  · exact actKept_cmdOvertureSend s₀
  · exact actKept_cmdRxPost s₀
  · exact actKept_cmdNodeAdmit s₀
  · exact actKept_cmdNodeEvict s₀
  · exact actKept_cmdNodeQuery s₀
  · exact actKept_cmdTableRead s₀
  · exact actKept_cmdTableWrite s₀
  · exact actKept_cmdTableUnlock s₀
  · exact actKept_cmdScheduleSet s₀
  · exact actKept_cmdTimeSet s₀
  · exact actKept_cmdPulseProgram s₀
  · exact actKept_cmdCapture s₀
  · exact actKept_cmdImageStage s₀
  · exact actKept_cmdImageVerify s₀ _
  · exact actKept_cmdImageActivate s₀
  · exact actKept_cmdImageConfirm s₀
  · exact actKept_cmdTourStart s₀
  · exact actKept_cmdRoleRequest s₀
  · exact actKept_cmdCallboardRead s₀
  · exact actKept_cmdSelftest s₀ _
  · exact actKept_cmdKeyInstall s₀

theorem kept_runHeldItem (e op : Nat) (c : Sub) : Kept s₀ (runHeldItem e op c s) := by
  unfold runHeldItem
  split
  next k x h => exact kept_takeItem hk _ _ _ _ fun _ hu => kept_runHeld hu k (actKept_rowSpec s₀ h) c
  · exact hk

theorem kept_ran {o : Host.Outcome State Fault Refusal} (ho : KeptO s₀ o) : Kept s₀ (ran o s) := by
  unfold ran
  split
  · exact ho _ rfl
  · exact hk

theorem kept_atCue (c : CueNo) (f : State → State) (hf : ∀ u, Kept s₀ u → Kept s₀ (f u)) : Kept s₀ (atCue c f s) := by
  grind [atCue, kept_modProc]

theorem kept_scenePart (e : Nat) : Kept s₀ (scenePart e s) := by grind [scenePart, kept_tourRound, kept_followTb1]

theorem kept_sendSlot (j : Nat) : Kept s₀ (sendSlot j s) := by grind [sendSlot, kept_sendFloodIn, kept_sendTourIn]

theorem kept_itemRow (e : Nat) (c : CueNo) (i : Instr) : Kept s₀ (itemRow e c i s) := by
  unfold itemRow
  split
  · exact kept_takeItem hk _ _ _ _ fun _ hu => kept_atCue hu _ _ fun _ hv => kept_scenePart hv _
  · exact kept_ran hk (keptO_execUpdateEnd hk _)
  · exact kept_ran hk (keptO_execTourBlock hk _ _ _)
  · exact kept_ran hk (keptO_execPinCapture hk _)
  · exact kept_ran hk (keptO_execTransmitEndEntry hk _)
  · exact kept_ran hk (keptO_execWindowOutcome hk _)
  · exact kept_ran hk (keptO_execAuditionRequest hk _)
  · exact kept_ran hk (keptO_execJoinRequest hk _)
  · exact kept_ran hk (keptO_execLostRequest hk _)
  · exact kept_ran hk (keptO_execData hk _)
  · exact kept_ran hk (keptO_execReply hk _)
  · exact kept_ran hk (keptO_execControl hk _)
  · exact kept_ran hk (keptO_execFloodFrame hk _)
  · exact kept_ran hk (keptO_execBeacon hk _)
  · exact kept_takeEth hk ..
  · exact kept_ran hk (keptO_execJoinHandoff hk _)
  · exact kept_ran hk (keptO_execJoinResult hk _)
  · exact kept_ran hk (keptO_execForwardedPacket hk _)
  · exact kept_ran hk (keptO_execFloodResend hk _)
  · exact kept_ran hk (keptO_execMapAllocation hk _ _)
  · exact kept_ran hk (keptO_execTourReport hk _)
  · exact kept_ran hk (keptO_execSupervisionTimeout hk _)
  · exact kept_ran hk (keptO_execJoinTimeout hk _)
  · exact kept_ran hk (keptO_execDormantLimit hk _)
  · exact kept_ran hk (keptO_execOvertureRetry hk _)
  · exact kept_ran hk (keptO_execPeerBeaconMiss hk _)
  · exact kept_ran hk (keptO_execPeerSupervisionExpiry hk _)
  · exact kept_ran hk (keptO_execHoldExpiry hk _ _)
  · exact kept_ran hk (keptO_execLeaveHoldExpiry hk _)
  · exact kept_ran hk (keptO_execAnnounceReceiptTimeout hk)
  · exact kept_ran hk (keptO_execSyncTimeout hk)
  · exact kept_ran hk (keptO_execSyncPairDiscard hk)
  · exact kept_ran hk (keptO_execHoldoverLimit hk)
  · exact kept_ran hk (keptO_execModuleEvent hk _)
  · split
    next h => exact kept_runCmd hk _ (actKept_rowSpec s₀ h) ..
    next h => exact kept_takeItem hk _ _ _ _ fun _ hu => kept_ptpTake hu _ _ fun _ hv => kept_ptpKind hv h
    · exact hk

theorem kept_runItem (e : Nat) (c : CueNo) (it : Item) : Kept s₀ (runItem e c it s) := by
  unfold runItem
  extract_lets u
  have h1 : Kept s₀ u := kept_modProc hk _
  clear_value u
  cases it with
  | row i => exact kept_itemRow h1 ..
  | held op x => exact kept_runHeldItem h1 ..
  | beacon j => exact kept_takeItem h1 _ _ _ _ fun _ hu => kept_atCue hu _ _ fun _ hv => kept_buildBeacon hv _
  | floodSlot j => exact kept_takeItem h1 _ _ _ _ fun _ hu => kept_atCue hu _ _ fun _ hv => kept_sendSlot hv _
  | window i => exact kept_takeItem h1 _ _ _ _ fun _ hu => kept_atCue hu _ _ fun _ hv => kept_planWindows hv ..
  | supervise i => exact kept_takeItem h1 _ _ _ _ fun _ hu => kept_superviseNode hu _
  | ptpRequest => exact kept_takeItem h1 _ _ _ _ fun _ hu => kept_ptpRequest hu
  | ecdh j => exact kept_takeItem h1 _ _ _ _ fun _ hu => kept_boxKeys hu _
  | ticket i r => exact kept_takeItem h1 _ _ _ _ fun _ hu => kept_boxTicket hu ..
  | ticketed i r t => exact kept_takeItem h1 _ _ _ _ fun _ hu => kept_joinDone hu ..
  | message m => exact h1

theorem kept_runAll (e : Nat) (c : CueNo) (l : List Item) : Kept s₀ (runAll e c l s) := by
  grind [runAll, kept_foldl, kept_runItem]

theorem kept_planCue (olds : List (CueNo × Item)) (c : CueNo) : Kept s₀ (planCue olds c s) := by
  grind [planCue, kept_foldl, kept_runAll, kept_modProc, kept_takeItem, kept_atCue, kept_planWindows]

theorem kept_sceneWork : Kept s₀ (sceneWork s) := by
  unfold sceneWork
  extract_lets c s1 s2 s3
  have h1 : Kept s₀ s1 := kept_modMesh (kept_modProc hk _) _
  clear_value s1
  have h2 : Kept s₀ s2 := kept_modPwr (kept_ageFreed h1) _
  clear_value s2
  have h3 : Kept s₀ s3 := kept_ite (kept_takeItem h2 _ _ _ _ fun _ hu => kept_scenePart hu _) h2
  exact kept_ite hk (kept_ite (kept_takeItem h3 _ _ _ _ fun _ hu => kept_scenePart hu _) h3)

theorem keptO_execSceneBoundary : KeptO s₀ (execSceneBoundary s) := by
  grind [execSceneBoundary, kept_sceneWork, keptO_next]

theorem kept_takeHeld (due : CueNo → Bool) : Kept s₀ (takeHeld due s) := by
  grind [takeHeld, kept_foldl, kept_runHeldItem, kept_modProc]

theorem keptO_execHeldCommandDue : KeptO s₀ (execHeldCommandDue s) := by
  grind [execHeldCommandDue, kept_takeHeld, keptO_next]

theorem kept_timerWork (olds : List (CueNo × Item)) : Kept s₀ (timerWork olds s) := by
  unfold timerWork
  extract_lets c run s1 s2
  have hr (l : State → List Item) {u : State} (hu : Kept s₀ u) : Kept s₀ (run l u) := kept_runAll hu ..
  clear_value run
  exact kept_takeSwitches (kept_takeTour (kept_captureTick (hr _ (hr _ (kept_sceneWork (hr _ (hr _ (hr _ hk))))))))

theorem kept_scheduled (olds : List (CueNo × Item)) (c : CueNo) : Kept s₀ (scheduled olds c s) := by
  grind [scheduled, kept_planCue, kept_timerWork, kept_atCue, kept_sceneWork, kept_takeHeld]

theorem kept_shedItem (e : Nat) (it : Item) : Kept s₀ (shedItem e s it) := by
  grind [shedItem, kept_refuse, kept_dropWin]

theorem kept_shedEngine (e : Nat) : Kept s₀ (shedEngine s e) := by
  grind [shedEngine, kept_foldl, kept_setReg, kept_modEng, kept_countReg, kept_shedItem, kept_emit]

theorem kept_clearDeferred : Kept s₀ (clearDeferred s) := kept_of_same hk rfl rfl rfl

theorem kept_workList : Kept s₀ (workList s) := by
  grind [workList, kept_foldl, kept_scheduled, kept_clearDeferred, kept_runItem]

theorem kept_work (ops : List BankOp) : Kept s₀ (work ops s) := by
  grind [work, kept_foldl, kept_workList, kept_bankOps, kept_shedEngine, kept_judgeWins]

theorem keptO_execWorkPhase (ops : List BankOp) : KeptO s₀ (execWorkPhase ops s) := by
  grind [execWorkPhase, kept_noteWrites, kept_work, kept_modProc, keptO_next]

theorem kept_showUsed : Kept s₀ (showUsed s) := by grind [showUsed, kept_foldl, kept_setReg]

theorem keptO_execPublishPhase : KeptO s₀ (execPublishPhase s) := by
  grind [execPublishPhase, kept_showUsed, kept_compareDigests, kept_publish, kept_modProc, keptO_next]

theorem kept_housekeeping (ops : List BankOp) : Kept s₀ (housekeeping ops s) := by
  have h1 := kept_scrubRead (kept_bankOps (kept_sweepBanks (kept_marchTests (kept_migrateRead hk))) ops)
  have h2 := kept_hkMaps (kept_hkLpm (kept_hkAddr (kept_hkLearn (kept_markTour (kept_hkContexts h1)))))
  exact kept_hkLocks (kept_journalCopy (kept_writeItems (kept_updateTags h2)))

theorem kept_endCue : Kept s₀ (endCue s) := by
  unfold endCue
  extract_lets counts
  exact kept_beginNext (kept_enterRetention (kept_modPwr (kept_modProc (kept_modPair hk _) _) _))

theorem kept_closeCue (u : State) : Kept s₀ (closeCue u s) :=
  kept_noteWrites (kept_endCue (kept_endStream (kept_noteWrites hk u))) _

theorem keptO_execHousekeepingPhase (ops : List BankOp) : KeptO s₀ (execHousekeepingPhase ops s) := by
  grind [execHousekeepingPhase, kept_closeCue, kept_housekeeping, kept_modProc, keptO_next]

/-! ### Model section `CueOps` -/

theorem kept_countCue : Kept s₀ (countCue s) := by
  unfold countCue
  extract_lets start s1
  have h1 : Kept s₀ s1 := kept_atTime hk _
  clear_value s1
  exact kept_of_same h1 rfl rfl rfl

theorem kept_lagCheck (old : Nat) : Kept s₀ (lagCheck old s) := by
  grind [lagCheck, kept_foldl, kept_emitLocal, kept_modEng, kept_testOutcome, kept_restartNow]

theorem kept_intake (latch : State → State) (hl : ∀ u, Kept s₀ u → Kept s₀ (latch u)) : Kept s₀ (intake latch s) :=
  kept_noteWrites (kept_lagCheck (kept_beginNext (hl s hk)) _) s

theorem kept_tailOn (n : Nat) : Kept s₀ (tailOn n s) := by grind [tailOn, kept_setReg]

theorem kept_replayCue (b : List Byte) (snap : Option PairState) : Kept s₀ (replayCue b snap s) := by
  unfold replayCue
  extract_lets n
  split
  · split
    · exact kept_applyPair (kept_tailOn hk _) ..
    · exact kept_tailOn hk _
  · exact kept_ite (kept_intake (kept_tailOn hk _) _ fun _ hu => kept_latchRead hu ..) hk

theorem kept_replayPair : Kept s₀ (replayPair s) := by
  grind [replayPair, kept_intake, kept_latchRead, kept_modPair, kept_goStale]

theorem kept_liveCue : Kept s₀ (liveCue s) := by grind [liveCue, kept_intake, kept_latchLive]

theorem kept_processCue (i : CueIn) : Kept s₀ (processCue i s) := by
  grind [processCue, kept_decideDirector, kept_replayCue, kept_replayPair, kept_liveCue, kept_modPwr]

theorem kept_endShadow (g : Stamp) (c : Chain) : Kept s₀ (endShadow g s c) := by
  grind [endShadow, kept_foldl, kept_modTx, kept_decideNots]

theorem kept_goLive : Kept s₀ (goLive s) := by grind [goLive, kept_foldl, kept_modPair, kept_endShadow]

theorem kept_resumeEngines : Kept s₀ (resumeEngines s) := kept_of_same hk rfl rfl rfl

theorem kept_beat : Kept s₀ (beat s) := by grind [beat, kept_modPair]

theorem kept_countWatchdogs : Kept s₀ (countWatchdogs s) := by grind [countWatchdogs, kept_modPwr]

theorem kept_hardwareCue (i : CueIn) : Kept s₀ (hardwareCue i s) := by
  have h0 := kept_spotCue (kept_shadowTakes (kept_gainDecisions hk i.meas))
  have h1 := kept_bankSwap (kept_pinsCue (kept_captureCue h0))
  exact kept_countWatchdogs (kept_streamPair (kept_sendTime (kept_beat (kept_suspend (kept_takeMode h1)))))

theorem kept_poweredCue (i : CueIn) : Kept s₀ (poweredCue i s) := by
  grind [poweredCue, kept_goLive, kept_modProc, kept_countCue, kept_restartNow, kept_processCue, kept_resumeEngines,
    kept_readTemps, kept_hardwareCue]

theorem kept_cue (i : CueIn) : Kept s₀ (cue i s) := by
  grind [cue, kept_countCue, kept_readTemps, kept_spotCue, kept_modProc, kept_poweredCue]

theorem keptO_execCue (i : CueIn) : KeptO s₀ (execCue i s) := by grind [execCue, kept_cue, keptO_next]

theorem keptO_execFirstLiveCue (i : CueIn) : KeptO s₀ (execFirstLiveCue i s) := by
  grind [execFirstLiveCue, kept_cue, keptO_next]

theorem kept_nextEpochs : Kept s₀ (nextEpochs s) := by grind [nextEpochs, kept_foldl, kept_modCq]

theorem kept_operate : Kept s₀ (operate s) := by
  grind [operate, kept_foldl, kept_cutChain, kept_modTx, kept_silencePort, kept_calibrate]

theorem kept_zeroProcessing : Kept s₀ (zeroProcessing s) := kept_of_same hk rfl rfl rfl

theorem kept_zeroShed : Kept s₀ (zeroShed s) := by grind [zeroShed, kept_foldl, kept_setReg]

theorem kept_directorDown : Kept s₀ (directorDown s) := by
  unfold directorDown
  split
  · refine kept_linkDown (kept_linkDown ?_ _) _
    exact kept_of_same hk rfl rfl rfl
  · exact hk

theorem kept_openSession (v : BitVec 64) : Kept s₀ (openSession v s) := by grind [openSession, kept_newSession]

theorem kept_startMode : Kept s₀ (startMode s) := by grind [startMode, kept_modeRecord, kept_modPwr]

theorem kept_startRecord : Kept s₀ (startRecord s) := by grind [startRecord, kept_emitLocal]

theorem kept_firstRecord (b : List Byte) (snap : Option PairState) : Kept s₀ (firstRecord b snap s) :=
  kept_ite (kept_replayCue hk ..) (kept_ite (kept_intake hk _ fun _ hu => kept_latchLive hu) hk)

theorem kept_startProcessing (x : StartIn) : Kept s₀ (startProcessing x s) := by
  have h1 := kept_startMode (kept_nextEpochs (kept_zeroShed (kept_zeroProcessing (kept_zeroWords hk))))
  unfold startProcessing
  extract_lets member s1 s2
  have h2 : Kept s₀ s2 := kept_ite (kept_modPair h1 _) h1
  clear_value s2
  have h3 := kept_startRecord (kept_directorDown (kept_operate (kept_takeSettings h2)))
  exact kept_firstRecord (kept_openSession h3 _) ..

theorem keptO_execProcessingStart (x : StartIn) : KeptO s₀ (execProcessingStart x s) := by
  grind [execProcessingStart, kept_startProcessing, keptO_next]

theorem kept_serveAside (op : Nat) (c : Sub) : Kept s₀ (serveAside op c s) := by
  unfold serveAside
  refine kept_ite (kept_replySt hk ..) ?_
  split
  next k x h => exact kept_handle hk k (actKept_rowSpec s₀ h) ..
  · exact hk

theorem kept_countFetched (n : Nat) : Kept s₀ (countFetched n s) := by grind [countFetched, kept_modHif]

theorem kept_latchEntry (q : Nat) (body : List Byte) : Kept s₀ (latchEntry q body s) := by
  grind [latchEntry, kept_input, kept_countFetched]

theorem kept_noteCollision : Kept s₀ (noteCollision s) := by grind [noteCollision, kept_emitLocal, kept_countReg]

theorem kept_endFetch (q op : Nat) (full : List Byte) : Kept s₀ (endFetch q op full s) := by
  grind [endFetch, kept_modSq, kept_modHif, kept_serveAside, kept_latchEntry]

theorem kept_fetchEnds (q : Nat) (r : FetchResult) (entry data : List Byte) :
    Kept s₀ (fetchEnds q r entry data s) := by
  unfold fetchEnds
  extract_lets failed s1 body
  have h1 : Kept s₀ s1 := kept_ite (kept_noteCollision hk) hk
  clear_value s1
  refine kept_ite (kept_latchEntry h1 ..) (kept_ite hk ?_)
  split
  · exact kept_modSq (kept_ringError (kept_dropFlight hk _) ..) ..
  · refine kept_ite (kept_endFetch h1 ..) ?_
    split
    · exact hk
    · exact kept_endFetch h1 ..

theorem keptO_execFetchComplete (q : Nat) (r : FetchResult) (entry : List Byte) (data : List Byte) :
    KeptO s₀ (execFetchComplete q r entry data s) := by
  grind [execFetchComplete, kept_fetchEnds, keptO_next, keptO_fault]

/-! ### Model section `Demod` -/

theorem kept_detect (n d : Nat) (i : DetIn) (t : Stamp) : Kept s₀ (detect n d i t s) := by grind [detect, kept_modDet]

theorem kept_watchFinds (n d : Nat) (i : DetIn) (t : Stamp) : Kept s₀ (watchFinds n d i t s) := by
  grind [watchFinds, kept_modDet]

theorem kept_afterReception (n d : Nat) (keep : Bool) (t : Stamp) : Kept s₀ (afterReception n d keep t s) := by
  grind [afterReception, kept_modDet]

theorem kept_detectTimeout (n d : Nat) (t : Stamp) : Kept s₀ (detectTimeout n d t s) := by
  grind [detectTimeout, kept_settleWindow, kept_modDet, kept_falseDet]

theorem kept_syncAt (n d : Nat) (i : SyncIn) (landing : Bool) (t : Stamp) : Kept s₀ (syncAt n d i landing t s) := by
  grind [syncAt, kept_modDet]

theorem kept_commitEntry (n d outcome status : Nat) (offset : Int) (psdu : List Byte) (t : Stamp) :
    Kept s₀ (commitEntry n d outcome status offset psdu t s) := by
  grind [commitEntry, kept_rxInput, kept_afterReception, kept_scheduled, kept_endWindow]

theorem kept_headerFails (n d : Nat) (t : Stamp) : Kept s₀ (headerFails n d t s) := by
  grind [headerFails, kept_settleWindow, kept_afterReception, kept_falseDet]

theorem kept_headerCheck (n d : Nat) (i : HeaderIn) (t : Stamp) : Kept s₀ (headerCheck n d i t s) := by
  grind [headerCheck, kept_headerFails, kept_commitEntry, kept_modDet, kept_falseDet]

theorem kept_displace (n d : Nat) (t : Stamp) : Kept s₀ (displace n d t s) := by
  grind [displace, kept_rxInput, kept_falseDet, kept_demCount, kept_modDet]

theorem kept_commitReception (n d : Nat) (i : CommitIn) (t : Stamp) : Kept s₀ (commitReception n d i t s) := by
  grind [commitReception, kept_commitEntry]

theorem keptO_execDetection (n : Fin 96) (d : Fin 6) (i : DetIn) (t : Stamp) :
    KeptO s₀ (execDetection n d i t s) := by
  grind [execDetection, kept_detect, kept_atTime, keptO_next]

theorem keptO_execWatchCandidate (n : Fin 96) (d : Fin 6) (w : WatchIn) : KeptO s₀ (execWatchCandidate n d w s) := by
  grind [execWatchCandidate, kept_watchFinds, kept_atTime, keptO_next]

theorem keptO_execDetectTimeout (n : Fin 96) (d : Fin 6) (t : Stamp) : KeptO s₀ (execDetectTimeout n d t s) := by
  grind [execDetectTimeout, kept_detectTimeout, kept_atTime, keptO_next]

theorem keptO_execSyncFieldMatched (n : Fin 96) (d : Fin 6) (i : SyncIn) (stepLanding : Bool) (t : Stamp) :
    KeptO s₀ (execSyncFieldMatched n d i stepLanding t s) := by
  grind [execSyncFieldMatched, kept_syncAt, kept_atTime, keptO_next]

theorem keptO_execHeaderCheck (n : Fin 96) (d : Fin 6) (i : HeaderIn) (t : Stamp) :
    KeptO s₀ (execHeaderCheck n d i t s) := by
  grind [execHeaderCheck, kept_headerCheck, kept_atTime, keptO_next]

theorem keptO_execDisplacement (n : Fin 96) (d : Fin 6) (t : Stamp) : KeptO s₀ (execDisplacement n d t s) := by
  grind [execDisplacement, kept_displace, kept_atTime, keptO_next]

theorem keptO_execReceptionCommit (n : Fin 96) (d : Fin 6) (i : CommitIn) (t : Stamp) :
    KeptO s₀ (execReceptionCommit n d i t s) := by
  grind [execReceptionCommit, kept_commitReception, kept_atTime, keptO_next]

end

end Sys2Proof.Machine
end

section
/-! SUPPORT. What no function of the model breaks (`Kept`): registers, the stage door and every instruction. -/

namespace Sys2Proof.Machine

section
variable {s₀ s : State} (hk : Kept s₀ s)
include hk

/-! ### Model section `Flags` -/

theorem kept_readEffect (p : Path) (o : Nat) : Kept s₀ (readEffect p o s) := by
  grind [readEffect, kept_modTime, kept_modPair]

/-! ### Model section `RegOps` -/

theorem kept_refusedRecord (p : Path) (o : Nat) (v mask : Word32) : Kept s₀ (refusedRecord p o v mask s) := by
  grind [refusedRecord, kept_emitLocal]

theorem kept_takeSnapshot : Kept s₀ (takeSnapshot s) := by grind [takeSnapshot, kept_foldl, kept_emitWords]

theorem kept_triggerSnapshot (busy : Bool) : Kept s₀ (triggerSnapshot busy s) := by
  grind [triggerSnapshot, kept_modBoard, kept_takeSnapshot]

theorem kept_waitingSnapshot : Kept s₀ (waitingSnapshot s) := by
  grind [waitingSnapshot, kept_takeSnapshot, kept_modBoard]

theorem kept_modeWrite (p : Path) (o taken : Nat) (v : Word32) : Kept s₀ (modeWrite p o taken v s) := by
  grind [modeWrite, kept_emitLocal]

theorem kept_actSysCtl (v : Word32) : Kept s₀ (actSysCtl v s) := by
  grind [actSysCtl, kept_restartNext, kept_bootRestart, kept_systemReset]

theorem kept_actPwrMode (v : Word32) : Kept s₀ (actPwrMode v s) := by
  grind [actPwrMode, kept_askFull, kept_askQuiet, kept_askRetention]

theorem kept_actEthCfg (eth1 : Bool) (old : Word32) : Kept s₀ (actEthCfg eth1 old s) := by
  grind [actEthCfg, kept_linkCut]

theorem kept_actPort (p : Nat) (old v : Word32) : Kept s₀ (actPort p old v s) := by
  grind [actPort, kept_foldl, kept_enablePort, kept_disablePort, kept_judgeBand, kept_forcePort]

theorem kept_actLine (n : Nat) (v : Word32) : Kept s₀ (actLine n v s) := by grind [actLine, kept_modLine]

theorem kept_actChain (c : Chain) (old v : Word32) : Kept s₀ (actChain c old v s) := by
  grind [actChain, kept_enableChain, kept_disableChain, kept_modTx]

theorem kept_actRing (k : RingKind) (q : Nat) (old v : Word32) : Kept s₀ (actRing k q old v s) := by
  grind [actRing, kept_enableRing, kept_disableRing]

theorem kept_actNotice (q : Nat) (v : Word32) : Kept s₀ (actNotice q v s) := by
  grind [actNotice, kept_ackNotices, kept_askFlush]

theorem kept_openChallenge : Kept s₀ (openChallenge s).2 := by grind [openChallenge, kept_fresh]

theorem kept_actDebug (v : Word32) : Kept s₀ (actDebug v s) := by
  grind [actDebug, kept_modSec, kept_openChallenge, kept_newChallenge, kept_tryUnlock]

theorem kept_actBox (o : Nat) (v : Word32) : Kept s₀ (actBox o v s) := by
  grind [actBox, kept_modSec, kept_programRoot, kept_actDebug]

theorem kept_actHif (o : Nat) (old v : Word32) : Kept s₀ (actHif o old v s) := by
  grind [actHif, kept_actRing, kept_actNotice, kept_maskVector]

theorem kept_writeAct (p : Path) (o : Nat) (old v : Word32) : Kept s₀ (writeAct p o old v s) := by
  unfold writeAct
  refine kept_ite (kept_actSysCtl hk _) (kept_ite (kept_ite (kept_kickHost hk) hk) (kept_ite (kept_actPwrMode hk _) ?_))
  refine kept_ite (kept_actEthCfg hk ..) (kept_ite (kept_actEthCfg hk ..) ?_)
  refine kept_ite (kept_modeWrite hk ..) (kept_ite (kept_modeWrite hk ..) ?_)
  refine kept_ite (kept_actPort hk ..) (kept_ite (kept_actLine hk ..) ?_)
  refine kept_ite (kept_actChain hk ..) (kept_ite (kept_actChain hk ..) ?_)
  exact kept_ite (kept_actBox hk ..) (kept_ite (kept_actHif hk ..) (kept_ite (kept_ite (kept_takeSnapshot hk) hk) hk))

theorem kept_writeReg (p : Path) (o : Nat) (v : Word32) : Kept s₀ (writeReg p o v s) := by
  grind [writeReg, kept_spotRoll, kept_writeAct, kept_refusedRecord, kept_setReg]

theorem kept_hostWriteReg (o : Nat) (v : Word32) : Kept s₀ (hostWriteReg o v s) := by
  grind [hostWriteReg, kept_setRBit, kept_writeReg]

theorem kept_doorWriteReg (o : Nat) (v : Word32) : Kept s₀ (doorWriteReg o v s) := by
  grind [doorWriteReg, kept_modHif, kept_setRBit, kept_writeReg]

theorem kept_pathWrite (p : Path) (o : Nat) (v : Word32) : Kept s₀ (pathWrite p o v s) := by
  cases p with
  | pcie => exact kept_hostWriteReg hk ..
  | door => exact kept_ite (kept_doorWriteReg hk ..) hk

theorem keptO_execRegisterWrite (off : Nat) (v : Word32) : KeptO s₀ (execRegisterWrite off v s) := by
  grind [execRegisterWrite, kept_hostWriteReg, keptO_next]

theorem keptO_execTb0LoRead (path : Path) : KeptO s₀ (execTb0LoRead path s) := by
  grind [execTb0LoRead, kept_readEffect, keptO_next]

theorem keptO_execUndOffsetLoRead (path : Path) : KeptO s₀ (execUndOffsetLoRead path s) := by
  grind [execUndOffsetLoRead, kept_readEffect, keptO_next]

theorem keptO_execCueBookCtlModeWrite (path : Path) (v : Word32) : KeptO s₀ (execCueBookCtlModeWrite path v s) := by
  grind [execCueBookCtlModeWrite, kept_pathWrite, keptO_next]

theorem keptO_execUndCtlModeWrite (path : Path) (v : Word32) : KeptO s₀ (execUndCtlModeWrite path v s) := by
  grind [execUndCtlModeWrite, kept_pathWrite, keptO_next]

theorem keptO_execCueBufPointerWrite (tail : Bool) (v : Word32) : KeptO s₀ (execCueBufPointerWrite tail v s) := by
  grind [execCueBufPointerWrite, kept_hostWriteReg, keptO_next]

theorem keptO_execSnapshotTrigger (busy : Bool) : KeptO s₀ (execSnapshotTrigger busy s) := by
  grind [execSnapshotTrigger, kept_triggerSnapshot, keptO_next]

theorem keptO_execQueuedSnapshot : KeptO s₀ (execQueuedSnapshot s) := by
  grind [execQueuedSnapshot, kept_waitingSnapshot, keptO_next]

theorem keptO_execEthLinkReconfigure (eth1 : Bool) (v : Word32) : KeptO s₀ (execEthLinkReconfigure eth1 v s) := by
  grind [execEthLinkReconfigure, kept_hostWriteReg, keptO_next]

/-! ### Model section `StageDoor` -/

theorem kept_doorServe (f : State → State) (hf : ∀ u, Kept s₀ u → Kept s₀ (f u)) : Kept s₀ (doorServe f s) := by
  grind [doorServe, kept_modHif]

theorem kept_answer (l : List Byte) : Kept s₀ (answer l s) := by grind [answer, kept_modHif]

theorem kept_doorCrcErr : Kept s₀ (doorCrcErr s) := by grind [doorCrcErr, kept_modHif]

theorem kept_doorDenied : Kept s₀ (doorDenied s) := by grind [doorDenied, kept_modHif]

theorem kept_doorIdent : Kept s₀ (doorIdent s) := by grind [doorIdent, kept_answer]

theorem kept_doorReadStatus : Kept s₀ (doorReadStatus s) := by grind [doorReadStatus, kept_modHif, kept_answer]

omit hk in
theorem kept_doorReadWord {s₀ : State} {a : State × List Byte} (hk : Kept s₀ a.1) (o : Nat) :
    Kept s₀ (doorReadWord a o).1 := by
  unfold doorReadWord
  split
  · exact kept_setRBit hk ..
  · exact kept_readEffect hk ..

theorem kept_doorRead (b : List Byte) (words : Nat) : Kept s₀ (doorRead b words s) := by
  have h1 (l : List Nat) (a : State × List Byte) (ha : Kept s₀ a.1) : Kept s₀ (l.foldl doorReadWord a).1 := by
    induction l generalizing a with
    | nil => exact ha
    | cons o l ih => exact ih _ (kept_doorReadWord ha o)
  unfold doorRead
  extract_lets o x
  exact kept_ite hk (kept_answer (h1 _ _ hk) _)

theorem kept_doorWrite (b : List Byte) : Kept s₀ (doorWrite b s) := by
  grind [doorWrite, kept_foldl, kept_doorCrcErr, kept_doorWriteReg]

theorem kept_doorLoad (b : List Byte) : Kept s₀ (doorLoad b s) := by
  grind [doorLoad, kept_foldl, kept_doorDenied, kept_doorCrcErr, kept_modHif]

theorem kept_windowBoot (x : ImageIn) : Kept s₀ (windowBoot x s) := by grind [windowBoot, kept_secureBoot]

theorem kept_doorBoot (b : List Byte) (x : ImageIn) : Kept s₀ (doorBoot b x s) := by
  grind [doorBoot, kept_doorDenied, kept_doorCrcErr, kept_windowBoot, kept_modPwr, kept_modHif]

theorem keptO_execIdent : KeptO s₀ (execIdent s) := by grind [execIdent, kept_doorServe, kept_doorIdent, keptO_next]

theorem keptO_execStatus : KeptO s₀ (execStatus s) := by
  grind [execStatus, kept_doorServe, kept_doorReadStatus, keptO_next]

theorem keptO_execRead (bytes : List Byte) (words : Nat) : KeptO s₀ (execRead bytes words s) := by
  grind [execRead, kept_doorServe, kept_doorRead, keptO_next]

theorem keptO_execWrite (bytes : List Byte) : KeptO s₀ (execWrite bytes s) := by
  grind [execWrite, kept_doorServe, kept_doorWrite, keptO_next]

theorem keptO_execLoad (bytes : List Byte) : KeptO s₀ (execLoad bytes s) := by
  grind [execLoad, kept_doorServe, kept_doorLoad, keptO_next]

theorem keptO_execBoot (bytes : List Byte) (image : ImageIn) : KeptO s₀ (execBoot bytes image s) := by
  grind [execBoot, kept_doorServe, kept_doorBoot, keptO_next]

theorem keptO_execBadCmd (byte : Byte) : KeptO s₀ (execBadCmd byte s) := by
  grind [execBadCmd, kept_doorServe, kept_modHif, keptO_next]

/-! ### Model section `Dispatch` -/

/-- Every instruction keeps what every step keeps. -/
theorem keptO_exec (i : Instr) : KeptO s₀ (exec i s) := by
  cases i with
  | cue x => exact keptO_execCue hk x
  | sceneBoundary => exact keptO_execSceneBoundary hk
  | workPhase ops => exact keptO_execWorkPhase hk ops
  | heldCommandDue => exact keptO_execHeldCommandDue hk
  | publishPhase => exact keptO_execPublishPhase hk
  | housekeepingPhase ops => exact keptO_execHousekeepingPhase hk ops
  | nop c => exact keptO_execNop hk c
  | reservedOpcode op c => exact keptO_execReservedOpcode hk op c
  | configApply c => exact keptO_execConfigApply hk c
  | configRead c => exact keptO_execConfigRead hk c
  | nodeSend c => exact keptO_execNodeSend hk c
  | floodSend c => exact keptO_execFloodSend hk c
  | rawTx c => exact keptO_execRawTx hk c
  | overtureSend c => exact keptO_execOvertureSend hk c
  | rxPost c => exact keptO_execRxPost hk c
  | nodeAdmit c => exact keptO_execNodeAdmit hk c
  | nodeEvict c => exact keptO_execNodeEvict hk c
  | nodeQuery c => exact keptO_execNodeQuery hk c
  | tableRead c => exact keptO_execTableRead hk c
  | tableWrite c => exact keptO_execTableWrite hk c
  | tableUnlock c => exact keptO_execTableUnlock hk c
  | scheduleSet c => exact keptO_execScheduleSet hk c
  | timeSet c => exact keptO_execTimeSet hk c
  | pulseProgram c => exact keptO_execPulseProgram hk c
  | captureSpectrum c => exact keptO_execCaptureSpectrum hk c
  | imageStage c => exact keptO_execImageStage hk c
  | imageVerify c b => exact keptO_execImageVerify hk c b
  | imageActivate c => exact keptO_execImageActivate hk c
  | imageConfirm c => exact keptO_execImageConfirm hk c
  | tourStart c => exact keptO_execTourStart hk c
  | roleRequest c => exact keptO_execRoleRequest hk c
  | callboardRead c => exact keptO_execCallboardRead hk c
  | selftestRun c fails => exact keptO_execSelftestRun hk c fails
  | keyInstall c => exact keptO_execKeyInstall hk c
  | updateEnd u => exact keptO_execUpdateEnd hk u
  | flashOperationEnd u => exact keptO_execFlashOperationEnd hk u
  | stepSwitch => exact keptO_execStepSwitch hk
  | tourBlock block ok bytes => exact keptO_execTourBlock hk block ok bytes
  | submissionFetch q => exact keptO_execSubmissionFetch hk q
  | fetchComplete q r entry data => exact keptO_execFetchComplete hk q r entry data
  | submissionDoorbell q v => exact keptO_execSubmissionDoorbell hk q v
  | completionDoorbell c v => exact keptO_execCompletionDoorbell hk c v
  | eventDoorbell v => exact keptO_execEventDoorbell hk v
  | vectorHoldExpiry e => exact keptO_execVectorHoldExpiry hk e
  | msixUnmask v => exact keptO_execMsixUnmask hk v
  | endpointReset => exact keptO_execEndpointReset hk
  | barAccessError write => exact keptO_execBarAccessError hk write
  | bar4Write off v => exact keptO_execBar4Write hk off v
  | registerWrite off v => exact keptO_execRegisterWrite hk off v
  | tb0LoRead path => exact keptO_execTb0LoRead hk path
  | undOffsetLoRead path => exact keptO_execUndOffsetLoRead hk path
  | cueBookCtlModeWrite path v => exact keptO_execCueBookCtlModeWrite hk path v
  | undCtlModeWrite path v => exact keptO_execUndCtlModeWrite hk path v
  | cueBufPointerWrite tail v => exact keptO_execCueBufPointerWrite hk tail v
  | portEnable p => exact keptO_execPortEnable hk p
  | portDisable p => exact keptO_execPortDisable hk p
  | portForce p => exact keptO_execPortForce hk p
  | lineCommit n => exact keptO_execLineCommit hk n
  | lineForce n => exact keptO_execLineForce hk n
  | chainEnable c => exact keptO_execChainEnable hk c
  | chainDisable c t => exact keptO_execChainDisable hk c t
  | recal c => exact keptO_execRecal hk c
  | ringEnable k q => exact keptO_execRingEnable hk k q
  | ringDisable k q => exact keptO_execRingDisable hk k q
  | noticeAcknowledge q high low => exact keptO_execNoticeAcknowledge hk q high low
  | queueFlush q => exact keptO_execQueueFlush hk q
  | flushEffect q => exact keptO_execFlushEffect hk q
  | producerResume q => exact keptO_execProducerResume hk q
  | queuePointerMismatch q => exact keptO_execQueuePointerMismatch hk q
  | queueTestEnd q pass => exact keptO_execQueueTestEnd hk q pass
  | rootProgram => exact keptO_execRootProgram hk
  | rootFusingComplete => exact keptO_execRootFusingComplete hk
  | newChal draw => exact keptO_execNewChal hk draw
  | unlock => exact keptO_execUnlock hk
  | snapshotTrigger busy => exact keptO_execSnapshotTrigger hk busy
  | queuedSnapshot => exact keptO_execQueuedSnapshot hk
  | restart => exact keptO_execRestart hk
  | reboot => exact keptO_execReboot hk
  | systemReset => exact keptO_execSystemReset hk
  | kick => exact keptO_execKick hk
  | reqFull => exact keptO_execReqFull hk
  | reqQuiet => exact keptO_execReqQuiet hk
  | reqRetention => exact keptO_execReqRetention hk
  | ethLinkReconfigure eth1 v => exact keptO_execEthLinkReconfigure hk eth1 v
  | ident => exact keptO_execIdent hk
  | status => exact keptO_execStatus hk
  | read bytes words => exact keptO_execRead hk bytes words
  | write bytes => exact keptO_execWrite hk bytes
  | load bytes => exact keptO_execLoad hk bytes
  | boot bytes image => exact keptO_execBoot hk bytes image
  | badCmd byte => exact keptO_execBadCmd hk byte
  | sampleBlockCrcFail b => exact keptO_execSampleBlockCrcFail hk b
  | laneError down lane => exact keptO_execLaneError hk down lane
  | lanePatternTestEnd down lane pass => exact keptO_execLanePatternTestEnd hk down lane pass
  | overloadStep p clips t => exact keptO_execOverloadStep hk p clips t
  | blankBegin c t => exact keptO_execBlankBegin hk c t
  | blankEnd c t => exact keptO_execBlankEnd hk c t
  | lineRetune n t => exact keptO_execLineRetune hk n t
  | windowEnd n t => exact keptO_execWindowEnd hk n t
  | spotlightSummary p bins later windows valid => exact keptO_execSpotlightSummary hk p bins later windows valid
  | detection n d x t => exact keptO_execDetection hk n d x t
  | watchCandidate n d w => exact keptO_execWatchCandidate hk n d w
  | detectTimeout n d t => exact keptO_execDetectTimeout hk n d t
  | syncFieldMatched n d x stepLanding t => exact keptO_execSyncFieldMatched hk n d x stepLanding t
  | headerCheck n d x t => exact keptO_execHeaderCheck hk n d x t
  | displacement n d t => exact keptO_execDisplacement hk n d t
  | receptionCommit n d x t => exact keptO_execReceptionCommit hk n d x t
  | retune c t => exact keptO_execRetune hk c t
  | lockDeclared c t => exact keptO_execLockDeclared hk c t
  | paenRise c t => exact keptO_execPaenRise hk c t
  | coexReqRise c t => exact keptO_execCoexReqRise hk c t
  | launch c grants inhibit t => exact keptO_execLaunch hk c grants inhibit t
  | launchDeadline c grants inhibit t => exact keptO_execLaunchDeadline hk c grants inhibit t
  | risingRampComplete c t => exact keptO_execRisingRampComplete hk c t
  | lastModulatedSample c t => exact keptO_execLastModulatedSample hk c t
  | transmitEnd c measured t => exact keptO_execTransmitEnd hk c measured t
  | lockLost c t => exact keptO_execLockLost hk c t
  | recalibrationEnd c pass t => exact keptO_execRecalibrationEnd hk c pass t
  | preempted c grants t => exact keptO_execPreempted hk c grants t
  | inhibited t => exact keptO_execInhibited hk t
  | tcapEdge pin rising pins widthNs t => exact keptO_execTcapEdge hk pin rising pins widthNs t
  | pinCapture x => exact keptO_execPinCapture hk x
  | pulseFire pin t => exact keptO_execPulseFire hk pin t
  | pulseEnd pin t => exact keptO_execPulseEnd hk pin t
  | transmitEndEntry x => exact keptO_execTransmitEndEntry hk x
  | windowOutcome rx => exact keptO_execWindowOutcome hk rx
  | auditionRequest rx => exact keptO_execAuditionRequest hk rx
  | joinRequest rx => exact keptO_execJoinRequest hk rx
  | lostRequest rx => exact keptO_execLostRequest hk rx
  | data rx => exact keptO_execData hk rx
  | reply rx => exact keptO_execReply hk rx
  | control rx => exact keptO_execControl hk rx
  | floodFrame rx => exact keptO_execFloodFrame hk rx
  | beacon rx => exact keptO_execBeacon hk rx
  | eth0Frame stamp bytes => exact keptO_execEth0Frame hk stamp bytes
  | joinHandoff j => exact keptO_execJoinHandoff hk j
  | joinResult j => exact keptO_execJoinResult hk j
  | forwardedPacket x => exact keptO_execForwardedPacket hk x
  | floodResend x => exact keptO_execFloodResend hk x
  | mapAllocation node codes => exact keptO_execMapAllocation hk node codes
  | tourReport x => exact keptO_execTourReport hk x
  | supervisionTimeout node => exact keptO_execSupervisionTimeout hk node
  | joinTimeout node => exact keptO_execJoinTimeout hk node
  | dormantLimit node => exact keptO_execDormantLimit hk node
  | overtureRetry node => exact keptO_execOvertureRetry hk node
  | peerBeaconMiss x => exact keptO_execPeerBeaconMiss hk x
  | peerSupervisionExpiry x => exact keptO_execPeerSupervisionExpiry hk x
  | holdExpiry node id => exact keptO_execHoldExpiry hk node id
  | leaveHoldExpiry node => exact keptO_execLeaveHoldExpiry hk node
  | lockExpiry => exact keptO_execLockExpiry hk
  | sync m => exact keptO_execSync hk m
  | followUp m => exact keptO_execFollowUp hk m
  | delayResp m => exact keptO_execDelayResp hk m
  | pdelayReq m => exact keptO_execPdelayReq hk m
  | pdelayResp m => exact keptO_execPdelayResp hk m
  | pdelayRespFollowUp m => exact keptO_execPdelayRespFollowUp hk m
  | announce m => exact keptO_execAnnounce hk m
  | announceReceiptTimeout => exact keptO_execAnnounceReceiptTimeout hk
  | syncTimeout => exact keptO_execSyncTimeout hk
  | syncPairDiscard => exact keptO_execSyncPairDiscard hk
  | holdoverLimit => exact keptO_execHoldoverLimit hk
  | hello h => exact keptO_execHello hk h
  | helloDue => exact keptO_execHelloDue hk
  | record h cue segment segments bytes => exact keptO_execRecord hk h cue segment segments bytes
  | ack h cue => exact keptO_execAck hk h cue
  | nak h cue segment => exact keptO_execNak hk h cue segment
  | digest h d => exact keptO_execDigest hk h d
  | time h t1 t2 t3 t4 => exact keptO_execTime hk h t1 t2 t3 t4
  | resync h => exact keptO_execResync hk h
  | sweep h region offset words last cue => exact keptO_execSweep hk h region offset words last cue
  | forward h words => exact keptO_execForward hk h words
  | stateAuditEnd pass => exact keptO_execStateAuditEnd hk pass
  | releaseDeadline => exact keptO_execReleaseDeadline hk
  | pairLinkLost => exact keptO_execPairLinkLost hk
  | promote levelRise tick => exact keptO_execPromote hk levelRise tick
  | firstLiveCue x => exact keptO_execFirstLiveCue hk x
  | demote t => exact keptO_execDemote hk t
  | leadInTick widthNs => exact keptO_execLeadInTick hk widthNs
  | directorLost => exact keptO_execDirectorLost hk
  | heartbeat unitB widthNs view t => exact keptO_execHeartbeat hk unitB widthNs view t
  | directorHoldExpiry => exact keptO_execDirectorHoldExpiry hk
  | reliefLapse => exact keptO_execReliefLapse hk
  | rehearsal => exact keptO_execRehearsal hk
  | engineException e => exact keptO_execEngineException hk e
  | coreTestEnd e pass checks => exact keptO_execCoreTestEnd hk e pass checks
  | trngHealthFail test => exact keptO_execTrngHealthFail hk test
  | trngRestartEnd pass => exact keptO_execTrngRestartEnd hk pass
  | journalEraseEnd => exact keptO_execJournalEraseEnd hk
  | journalScanComplete t => exact keptO_execJournalScanComplete hk t
  | moduleReadEnd a bytes => exact keptO_execModuleReadEnd hk a bytes
  | moduleEvent x => exact keptO_execModuleEvent hk x
  | vkeepGood => exact keptO_execVkeepGood hk
  | vkeepLost => exact keptO_execVkeepLost hk
  | vinGood tPit tStage => exact keptO_execVinGood hk tPit tStage
  | vinLost => exact keptO_execVinLost hk
  | railFault rail => exact keptO_execRailFault hk rail
  | vioFault bankB => exact keptO_execVioFault hk bankB
  | rstN => exact keptO_execRstN hk
  | trstN => exact keptO_execTrstN hk
  | clockLost domain t => exact keptO_execClockLost hk domain t
  | clockRecovered t => exact keptO_execClockRecovered hk t
  | romStart v => exact keptO_execRomStart hk v
  | bootDone hashesOk t => exact keptO_execBootDone hk hashesOk t
  | bootWatchdog => exact keptO_execBootWatchdog hk
  | keepWatchdog => exact keptO_execKeepWatchdog hk
  | hostWatchdog => exact keptO_execHostWatchdog hk
  | processingStart x => exact keptO_execProcessingStart hk x
  | processingRestart trigger => exact keptO_execProcessingRestart hk trigger
  | retentionWake t => exact keptO_execRetentionWake hk t
  | windowStart n t => exact keptO_execWindowStart hk n t
  | paenFall c t => exact keptO_execPaenFall hk c t
  | tb2Wrap => exact keptO_execTb2Wrap hk
  | mainStartOnCooling tPit tStage => exact keptO_execMainStartOnCooling hk tPit tStage
  | ethLinkUp eth1 speed session => exact keptO_execEthLinkUp hk eth1 speed session
  | ethLinkDown eth1 => exact keptO_execEthLinkDown hk eth1

end

/-- Settles O3: every instruction keeps what `Kept` names, seen from the state that holds the rest of the queue. -/
theorem stepKeeps : Obligations.StepKeeps := by
  unfold Obligations.StepKeeps
  intro s t h
  unfold step at h
  split at h
  next hp =>
    obtain rfl : s = t := Host.Outcome.next.inj h
    exact ⟨by rw [hp, List.tail_nil], fusesGrow_refl _, id⟩
  next c rest hp =>
    obtain ⟨hq, hf, hm⟩ := keptO_exec (kept_refl { s with pending := rest }) c t h
    exact ⟨by rw [hq, hp, List.tail_cons], hf, hm⟩

end Sys2Proof.Machine
end
